-- ==== Sys2Proof/Word.lean ====
section
/-! DEFINITION. The byte and the register word of the TBC-9140 (R11, R14), and the unit in which the model counts time. -/

namespace Sys2Proof

/-- A byte of a structure in memory or on a bus (R11). -/
abbrev Byte := BitVec 8

/-- A register (R14). -/
abbrev Word := BitVec 32

/-- The model counts time in 1/64 ns, the unit of PXS_PERIOD. One timebase cycle of 1.25 ns is 80 units. -/
def tuPerNs : Nat := 64

/-- Time units in one cycle of the 800 MHz timebase (R26). -/
def tuPerCycle : Nat := 80

/-- Time units in one microsecond. -/
def tuPerUs : Nat := 64000

/-- Time units in one millisecond. -/
def tuPerMs : Nat := 64000000

end Sys2Proof
end

