-- ==== Sys2Proof/Types.lean ====
section
/-! DEFINITION. The kinds of operand that the commands carry: sides, stations, masters, and what arrives from outside the device. -/

namespace Sys2Proof

/-- The two Quarters (R20). -/
inductive Side where
  | north
  | south
  deriving DecidableEq, Repr

/-- The Quarter opposite to a given one. -/
def Side.other : Side → Side
  | .north => .south
  | .south => .north

/-- 0 for North and 1 for South, as QTR_ROLE.SELF and the journal code it. -/
def Side.code : Side → Nat
  | .north => 0
  | .south => 1

/-- An imaging station, 0 to 7. -/
abbrev Station := Fin 8

/-- A copy of the configuration image (R71). -/
inductive Copy where
  | a
  | b
  deriving DecidableEq, Repr

/-- 0 for copy A and 1 for copy B, as CFG_STATUS.BOOT_COPY codes it. -/
def Copy.code : Copy → Nat
  | .a => 0
  | .b => 1

/-- Who makes an access: the host through BAR0, one of the shared-core masters of R47, or a Quarter's own master. -/
inductive Master where
  | host
  | loader
  | sharedDma
  | quarter (q : Side)
  deriving DecidableEq, Repr

/-- A DMA engine (Alley): the shared one or a Quarter's (R158). -/
inductive Engine where
  | shared
  | quarter (q : Side)
  deriving DecidableEq, Repr

/-- Where a dual-rail code violation is detected (R25), with the parts of a Quarter that make it hard (R361 check 0), and
the state of a compressor or an inspection compressor (R228). -/
inductive FabricPlace where
  | outputPath (q : Side)
  | quarterOther (q : Side)
  | sharedCore
  | compressor (c : Fin 4)
  | inspection (i : Fin 2)
  deriving DecidableEq, Repr

/-- The host read that ended with an error (R144, R228, R631). -/
inductive HostReader where
  | page (ix : Fin 2)
  | inspection
  | update
  | job
  | channel (e : Engine) (c : Fin 16)
  deriving DecidableEq, Repr

/-- The reader of a page-store block (R177, R178). -/
inductive StoreReader where
  | realTime (q : Side) (s : Station) (sub : Fin 8)
  | scrub
  | channel (e : Engine) (c : Fin 16)
  | system
  deriving DecidableEq, Repr

/-- The kinds of PCIe reset (R60, R124). -/
inductive PcieResetKind where
  | perst
  | hot
  | functionLevel
  deriving DecidableEq, Repr

/-- What the host has written into the endpoint's configuration registers (R124, R127, R157): Enable Relaxed Ordering of Device
Control, the maximum payload and read-request sizes in bytes, the enable and the function mask of MSI-X, the ASPM L1 enable, and the
address of BAR0. The defaults are those of the standard that R124 names. -/
structure PcieCfg where
  relaxed : Bool := true
  payload : Nat := 128
  readReq : Nat := 512
  msixOn : Bool := false
  msixMask : Bool := false
  aspmL1 : Bool := false
  bar0 : Nat := 0
  deriving DecidableEq, Repr

/-- One slot read from a job ring, with what the device then reads for it: the descriptor's bytes, and for a page the
entries of its band table (R137, R138). A flag is false where that read ended with an error (R144). -/
structure FetchedSlot where
  desc : List Byte
  descOk : Bool
  table : List (List Byte)
  tableOk : Bool
  deriving DecidableEq, Repr

/-- What an identity memory answers (R580): its identity block and its two counter slots. -/
structure UnitAnswer where
  block : List Byte
  slotA : List Byte
  slotB : List Byte
  deriving DecidableEq, Repr

/-- A block whose wind-down completes (R50, R51). -/
inductive BlockId where
  | ring (r : Fin 3)
  | channel (e : Engine) (c : Fin 16)
  | arcade
  | synth (q : Side) (s : Station)
  | beam (q : Side) (s : Station)
  | port (q : Side) (s : Station)
  | inspection (q : Side)
  | timeline (q : Side)
  | supervisor (q : Side)
  | regulator (q : Side)
  | slot (q : Side) (n : Fin 512)
  | commutation (q : Side)
  | polygon (q : Side) (p : Fin 8)
  | pmsm (q : Side) (d : Fin 4)
  | axes (q : Side)
  | axis (q : Side) (a : Fin 32)
  | consumables
  deriving DecidableEq, Repr

/-- What the device learns of a line that starts: the decode time each substream's unit took for the band just ended in 1/64 ns, the time its
real-time port took (R55), and the time of the station's next facet target where the motion to come makes one near (R289, R409). -/
structure LineInfo where
  unitTimes : List Nat
  portTime : Nat := 0
  target : Option Nat := none
  deriving DecidableEq, Repr

/-- An inspection line as it arrives (R354); `good` is false where its CRC fails or it is incomplete (R356), `full` tells that its
compressor's line buffer is full and `noBlock` that the staging area has no free block (R252); `payload` is what it carries after its
header. -/
structure InspectionLine where
  good : Bool
  full : Bool
  noBlock : Bool
  first : Bool
  last : Bool
  lineNo : Nat
  lineBytes : Nat
  payload : List Byte := []
  deriving DecidableEq, Repr

/-- What a PWM period boundary brings of one polygon or PMSM controller: the magnitude of the observer's current error in mA
(R466), the observer's speed in rpm × 2^12, whether it reports reverse rotation for one electrical cycle, the on-times asked of
U, V and W in 312.5 ps steps (R465), and the measured d and q currents in mA. -/
structure MotorSample where
  iErr : Nat
  speed : Int
  reverse : Bool
  onU : Nat
  onV : Nat
  onW : Nat
  id : Int
  iq : Int
  deriving DecidableEq, Repr

/-- How a DMA run ends at its source or destination, beside the checks the device makes itself (ALYS_STATUS.ERR): an uncorrectable error
comes at an offset of the run. -/
inductive RunFault where
  | none
  | ecc (off : Nat)
  | host
  | gated
  deriving DecidableEq, Repr

/-- A band whose last write has been read back (R162): the page in ingest, its station and band, and the bytes of its substreams as the
device read them from host memory (R139). -/
structure BandStored where
  page : Fin 2
  station : Station
  band : Nat
  subs : List (List Byte)
  deriving DecidableEq, Repr

/-- What a compressor finds in its input (RFC 1951): a literal byte, or a repetition of `len` bytes from `dist` back. -/
inductive Tok where
  | lit (b : Byte)
  | ref (len dist : Nat)
  deriving DecidableEq, Repr

/-- What the spec leaves to the compressor of one block (R211, R212): the literals and matches that it found, and the code-length header
of a dynamic block. -/
structure BlockChoice where
  header : List Bool
  toks : List Tok
  deriving DecidableEq, Repr

/-- What the spec leaves to the compressor of a job: the input positions at which its FLUSH commands were accepted (R239), and its blocks
in order. -/
structure Encoding where
  flushAt : List Nat
  blocks : List BlockChoice
  deriving DecidableEq, Repr

/-- Why the clocks of a synthesizer coast (R282). -/
inductive CoastCause where
  | missingReference
  | phaseError
  deriving DecidableEq, Repr

/-- What the Timeline watchdog found stalled (R411). -/
inductive StallKind where
  | cursor
  | pitch
  deriving DecidableEq, Repr

/-- The clocked domains with operating points (R532). -/
inductive OpDomain where
  | pixel (q : Side)
  | pcie
  deriving DecidableEq, Repr

/-- How a training attempt at one rate ended: the channels that failed each of its phases, in the order of R167: command bus training, WCK2CK
leveling, read gate and read DQ training, write training. -/
structure TrainingAttempt where
  cbt : BitVec 4 := 0
  wck : BitVec 4 := 0
  read : BitVec 4 := 0
  write : BitVec 4 := 0
  deriving DecidableEq, Repr

/-- The channels that failed an attempt: those of the first phase that any channel failed (R165, R167). -/
def TrainingAttempt.failed (a : TrainingAttempt) : Nat :=
  if a.cbt ≠ 0 then a.cbt.toNat else if a.wck ≠ 0 then a.wck.toNat else if a.read ≠ 0 then a.read.toNat else a.write.toNat

/-- Whether an attempt came as far as its write training, which writes the training rows (R167). -/
def TrainingAttempt.wrote (a : TrainingAttempt) : Bool := a.cbt == 0 && a.wck == 0 && a.read == 0

/-- What is wrong with a 64 B block as it is read (R175): the symbols in error, 0 to 35, or a read from the wrong row, bank or column. -/
inductive BlockError where
  | symbols (l : List (Fin 36))
  | wrongPlace
  deriving DecidableEq, Repr

end Sys2Proof
end

