-- ==== Sys2Proof/Syntax.lean ====
section
/-! DEFINITION. The commands of the TBC-9140: one constructor per row of spec/opcode_table.json, in the table's order. Each
carries the time `t` at which it happens (1/64 ns) and the operands its rule needs from outside. -/

namespace Sys2Proof

/-- A command or event that the device meets; every row of the opcode table is one constructor. -/
inductive Instr where
  -- supply, buttons and resets (R4, R550 to R561)
  | vinRise (t : Nat)
  | vinFail (t : Nat)
  | vinCollapse (t : Nat)
  | powerDownComplete (t : Nat)
  | pbtnPress (t : Nat)
  | pbtnHold8s (t : Nat)
  | mrstLow (t : Nat)
  | mrstRelease (t : Nat)
  -- boot steps (R61)
  | intRailsInRegulation (t : Nat) (dieTemp : Int)
  | intRailFail (t : Nat)
  | fusesRead (t : Nat) (ok : Bool)
  | imageCheckAndApply (t : Nat) (reread : Option Nat) (units : List (Option UnitAnswer)) (challenge : List Byte)
  | memorySelfTest (t : Nat) (plazaOk northOk southOk : Bool)
  | railSequenceComplete (t : Nat)
  | pageStoreTrained (t : Nat) (attempts : List TrainingAttempt) (gib ranks : List Nat) (ecc : List Nat)
  | bootComplete (t : Nat)
  -- host commands of R4
  | hostStart (t : Nat)
  | hostHold (t : Nat)
  | hostStop (t : Nat)
  | park (t : Nat)
  | parkRetain (t : Nat)
  -- register accesses
  | narrowWrite (t : Nat) (m : Master) (addr len : Nat)
  | lowWordRead (t : Nat) (m : Master) (addr len : Nat)
  | registerWrite (t : Nat) (m : Master) (addr : Nat) (value : Word)
  | quarterViewHostWrite (t : Nat) (addr : Nat) (value : Word)
  | crossWrite (t : Nat) (q : Side) (addr : Nat) (value : Word)
  | quarterBaseSharedAccess (t : Nat) (m : Master) (addr : Nat) (write : Bool)
  | decodeMiss (t : Nat) (m : Master) (addr : Nat) (write : Bool)
  | deviceOnlyAccess (t : Nat) (m : Master) (addr : Nat) (write : Bool)
  | fabricCodeViolation (t : Nat) (place : FabricPlace)
  | sramEccError (t : Nat) (addr : Nat) (double : Bool)
  -- pace, domains, wind-down
  | paceChangeRequest (t : Nat)
  | paceChangeDone (t : Nat)
  | windDownComplete (t : Nat) (b : BlockId)
  | domainPowerDown (t : Nat) (d : Fin 14)
  | domainDmaAbort (t : Nat) (d : Fin 14)
  | domainPowerUp (t : Nat) (d : Fin 14)
  | d5IdleTimeout (t : Nat)
  -- image update
  | erase (t : Nat) (c : Copy)
  | program (t : Nat) (c : Copy) (data : List Byte)
  | verify (t : Nat) (c : Copy) (data : List Byte)
  | validate (t : Nat) (c : Copy)
  | updateAbort (t : Nat)
  | updateComplete (t : Nat) (flashOk : Bool)
  | updateDeferResume (t : Nat)
  -- delivery
  | stackerDetect (t : Nat) (gpio : Fin 64)
  | commitClear (t : Nat) (key : BitVec 16)
  | tollgateCheck (t : Nat)
  -- host rings
  | jobDoorbell (t : Nat) (r : Fin 3) (v : Word)
  | eventDoorbell (t : Nat) (v : Word)
  | ringEnable (t : Nat) (r : Fin 3) (cfg : Word)
  | ringDisable (t : Nat) (r : Fin 3) (cfg : Word)
  | eventRingEnable (t : Nat) (cfg : Word)
  | descriptorFetch (t : Nat) (r : Fin 3) (slots : List FetchedSlot)
  | ingestResume (t : Nat)
  | hostReadError (t : Nat) (r : HostReader)
  | retry (t : Nat) (r : Fin 3)
  | skip (t : Nat) (r : Fin 3)
  | pcieReset (t : Nat) (kind : PcieResetKind) (unsent : Nat)
  | linkDown (t : Nat) (unsent : Nat)
  | backlogDrain (t : Nat)
  | interruptModerationTimeout (t : Nat) (vector : Fin 64)
  | aspmL1Entry (t : Nat)
  | dmaChannelEnable (t : Nat) (e : Engine) (c : Fin 16) (ctrl : Word)
  | dmaChannelDisable (t : Nat) (e : Engine) (c : Fin 16)
  | dmaRunStart (t : Nat) (e : Engine) (c : Fin 16) (ready : BitVec 16) (level : Nat) (mark : Bool) (data : List Byte) (fault : RunFault)
  | dmaReadbackDone (t : Nat) (e : Engine) (c : Fin 16) (band : Option BandStored)
  -- page store
  | driftTrackTick (t : Nat) (ch : Fin 4) (drift : Int) (mr4 : BitVec 5)
  | psEccUe (t addr : Nat) (e : BlockError) (r : StoreReader)
  | psEccCe (t addr : Nat) (e : BlockError)
  | patrolScrub (t : Nat)
  | refreshDue (t : Nat) (bank : Fin 256) (granted : Nat)
  | activate (t addr : Nat)
  | rhTableClear (t : Nat) (bank : Fin 256)
  | actIntervalStart (t : Nat) (bank : Fin 256)
  | srEnter (t : Nat)
  | srExit (t : Nat)
  | srIdleTimeout (t : Nat)
  | srEntryComplete (t : Nat)
  | srExitComplete (t : Nat)
  -- codec
  | streamCheckDone (t : Nat) (page : Fin 2) (s : Station) (band : Nat) (sub : Fin 8) (bytes : List Byte)
  | chainCompressStart (t : Nat) (c : Fin 4)
  | chainCompressDone (t : Nat) (c : Fin 4) (bands : List (List (List BlockChoice))) (times : List Nat)
  | jobEnqueue (t : Nat) (word7 : Word)
  | jobStart (t : Nat) (input : List Byte)
  | jobDone (t : Nat) (enc : Encoding) (srcOk dstOk : Bool)
  | flush (t : Nat)
  | abort (t : Nat)
  | abortAll (t : Nat)
  | arcadeDisable (t : Nat) (ctrl : Word)
  | decodeStreamError (t : Nat) (q : Side) (s : Station) (sub : Fin 8)
  | inspectionLine (t : Nat) (q : Side) (line : InspectionLine)
  | inspectImageDone (t : Nat) (choices : List (List BlockChoice)) (times : List Nat)
  | inspAlignLoss (t : Nat) (q : Side)
  -- beam detect and pixel clocks
  | beamDetectEdge (t : Nat) (q : Side) (s : Station) (line : LineInfo)
  | acquireTimeout (t : Nat) (q : Side) (s : Station)
  | freqComplete (t : Nat) (q : Side) (s : Station)
  | windowClose (t : Nat) (q : Side) (s : Station) (line : LineInfo)
  | synthEnable (t : Nat) (q : Side) (s : Station)
  | synthDisable (t : Nat) (q : Side) (s : Station)
  | indexEdge (t : Nat) (gpio : Fin 64)
  | linePhaseWord (t : Nat) (s : Station) (stamp : Nat) (line : LineInfo)
  | linePhaseTimeout (t : Nat) (s : Station) (line : LineInfo)
  | refPllEnable (t : Nat) (q : Side) (mv50 mv300 : Nat)
  | lockPinSample (t : Nat) (q : Side) (mv : Nat)
  | refLockTimeout (t : Nat) (q : Side)
  | coastEntry (t : Nat) (q : Side) (s : Station) (cause : CoastCause)
  | coastTimeout (t : Nat) (q : Side) (s : Station)
  | relock (t : Nat) (q : Side) (s : Station) (delta : Int)
  -- beam output
  | emitterMeasure (t : Nat) (s : Station)
  | spareMapWrite (t : Nat) (s : Station) (m : Fin 2) (value : Word)
  | stationDisable (t : Nat) (q : Side) (s : Station)
  | stationEnable (t : Nat) (q : Side) (s : Station)
  | headTempTimeout (t : Nat) (s : Station)
  | stationSafeExit (t : Nat) (s : Station)
  -- Enwell ports
  | segmentSendWindow (t : Nat) (q : Side) (s : Station) (chunk : Nat) (written : List Nat)
  | segmentDeadline (t : Nat) (q : Side) (s : Station) (chunk : Nat) (written : List Nat)
  | telemetryFrame (t : Nat) (q : Side) (s : Station) (frame : List Byte)
  | telemetryTimeout (t : Nat) (q : Side) (s : Station)
  | tlmSyncLoss (t : Nat) (q : Side) (s : Station)
  | loopTick (t : Nat) (q : Side) (s : Station)
  | portEnable (t : Nat) (q : Side) (s : Station)
  | portDisable (t : Nat) (q : Side) (s : Station)
  | retrain (t : Nat) (q : Side) (s : Station)
  | bringupTimeout (t : Nat) (q : Side) (s : Station)
  | bringupRetry (t : Nat) (q : Side) (s : Station)
  -- Quarters and failover
  | mirrorFrame (t : Nat) (good : Bool)
  | mirrorTimeout (t : Nat)
  | stationCatchUp (t : Nat) (s : Station)
  | overlapEnd (t : Nat)
  | overlapBound (t : Nat)
  | selfTestDone (t : Nat) (q : Side) (failStep : Nat)
  | retestTimer (t : Nat) (q : Side)
  | retest (t : Nat) (q : Side)
  | returnCaughtUp (t : Nat) (q : Side)
  | handoverTimer (t : Nat)
  -- Timeline
  | pitchStart (t : Nat)
  | tmlEnd (t : Nat) (i : Fin 16)
  | tmlRelease (t : Nat) (i : Fin 16)
  | tmlGap (t : Nat) (i : Fin 16)
  | tmlGate (t : Nat) (i : Fin 16)
  | tmlAcceptOpen (t : Nat) (i : Fin 16)
  | tmlAcceptClose (t : Nat) (i : Fin 16)
  | tmlInspectOpen (t : Nat) (i : Fin 16)
  | tmlInspectClose (t : Nat) (i : Fin 16)
  | tmlCommit (t : Nat) (i : Fin 16)
  | tmlWasteMark (t : Nat) (i : Fin 16)
  | tmlGpio (t : Nat) (i : Fin 16)
  | tmlPulse (t : Nat) (i : Fin 16)
  | pulseEnd (t : Nat) (gpio : Fin 64)
  | tmlSetpoint (t : Nat) (i : Fin 16)
  | tmlAxisMove (t : Nat) (i : Fin 16)
  | clearout (t : Nat)
  | ackCleared (t : Nat)
  | timelineWatchdog (t : Nat) (q : Side) (kind : StallKind)
  | timelineDisable (t : Nat) (q : Side)
  -- Supervisor
  | supervisorSweep (t : Nat) (q : Side) (took : Nat) (gpio : BitVec 64)
  | supervisorDisable (t : Nat) (q : Side)
  -- Regulator
  | regulatorTick (t : Nat) (q : Side) (codes : List Nat) (ssi vin : Nat)
  | modeWrite (t : Nat) (q : Side) (n : Fin 512) (value : Word)
  | coefficientWrite (t : Nat) (q : Side) (n : Fin 512) (p : Fin 6) (which : Fin 4) (value : Word)
  | setpointWrite (t : Nat) (q : Side) (n : Fin 512) (value : Word)
  | resume (t : Nat) (q : Side) (n : Fin 512)
  | fallback (t : Nat) (q : Side) (n : Fin 512)
  | slotDisable (t : Nat) (q : Side) (n : Fin 512)
  -- commutation
  | pwmPeriodBoundary (t : Nat) (q : Side) (g : Fin 4) (samples : List MotorSample)
  | pwmDisable (t : Nat) (q : Side) (ch : Fin 128)
  | polyEnable (t : Nat) (q : Side) (p : Fin 8)
  | polyDisable (t : Nat) (q : Side) (p : Fin 8)
  | phaseComparatorEdge (t : Nat) (q : Side) (p : Fin 8) (phase : Fin 3)
  | senseTimeout (t : Nat) (q : Side) (p : Fin 8)
  | standstill (t : Nat) (q : Side) (p : Fin 8)
  | brakeTimeout (t : Nat) (q : Side) (p : Fin 8)
  | alignTimeout (t : Nat) (q : Side) (p : Fin 8)
  | handoffTimeout (t : Nat) (q : Side) (p : Fin 8)
  | startRetry (t : Nat) (q : Side) (p : Fin 8)
  | resyncReleaseEnd (t : Nat) (q : Side) (p : Fin 8)
  | resyncTimeout (t : Nat) (q : Side) (p : Fin 8)
  | pmsmEnable (t : Nat) (q : Side) (d : Fin 4)
  | pmsmDisable (t : Nat) (q : Side) (d : Fin 4)
  | encoderIndex (t : Nat) (q : Side) (e : Fin 8)
  | dcbusSample (t : Nat) (b : Fin 2) (dv : Nat)
  | dcbusAverage (t : Nat) (b : Fin 2) (dv : Nat)
  | dcbusHardLimit (t : Nat) (b : Fin 2)
  | busHardRecovery (t : Nat) (b : Fin 2)
  | clearChop (t : Nat)
  -- axes and drive bus
  | encoderEdge (t : Nat) (q : Side) (e : Fin 8) (a b : Bool)
  | axisTargetWrite (t : Nat) (q : Side) (a : Fin 32) (value : Word)
  | axisControlWrite (t : Nat) (q : Side) (a : Fin 32) (value : Word)
  | home (t : Nat) (q : Side) (a : Fin 32)
  | stop (t : Nat) (q : Side) (a : Fin 32)
  | clearFault (t : Nat) (q : Side) (a : Fin 32)
  | homeSettleTimeout (t : Nat) (q : Side) (a : Fin 32)
  | driveFrameSlot (t : Nat) (q : Side)
  | driveFrameReturn (t : Nat) (q : Side) (c : Fin 4) (body : List Byte)
  | limitSwitchSample (t : Nat) (q : Side) (a : Fin 32) (positive level : Bool)
  | driveBusEnable (t : Nat) (q : Side)
  | driveBusDisable (t : Nat) (q : Side)
  | chainBringupTimeout (t : Nat) (q : Side) (c : Fin 4)
  | chainBringupRetry (t : Nat) (q : Side) (c : Fin 4)
  -- clocks
  | clockMonitorWindow (t : Nat) (k : Fin 9) (edges : Nat) (d0Deviates : Bool)
  | refclkMissingEdge (t : Nat)
  | ioscReady (t : Nat)
  | ioscRestart (t : Nat)
  | classAWaitEnd (t : Nat)
  | clockReturn (t : Nat) (n : Fin 6)
  | muxSelect (t : Nat) (n : Fin 6) (value : Word)
  | muxSwitchDone (t : Nat) (n : Fin 6)
  | muxStallTimeout (t : Nat) (n : Fin 6)
  | muxForce (t : Nat) (n : Fin 6) (value : Word)
  | gateClose (t : Nat) (g : Fin 6)
  | gateCloseTimeout (t : Nat) (g : Fin 6)
  | opPointChange (t : Nat) (d : OpDomain) (high : Bool)
  | voltageStepDone (t : Nat) (took : Nat)
  -- external rails
  | railDelayExpiry (t : Nat)
  | railGood (t : Nat) (r : Fin 24)
  | railPgTimeout (t : Nat)
  | railDrop (t : Nat) (r : Fin 24)
  | railOff (t : Nat) (r : Fin 24)
  | railOffTimeout (t : Nat)
  | marginRequest (t : Nat) (value : Word) (nack : Bool)
  | pmbusStatusPoll (t : Nat) (r : Fin 24) (status : BitVec 16) (nack : Bool)
  -- thermal
  | sensorSample (t : Nat) (k : Fin 40) (reading : Int) (valid : Bool)
  | riseEvaluation (t : Nat)
  | graceEnd (t : Nat)
  | enforcementStop (t : Nat)
  | stoppedClear (t : Nat)
  | thermTrip (t : Nat)
  -- consumables
  | unitPoll (t : Nat) (units : List (Option UnitAnswer)) (challenge : List Byte)
  | authResponseRead (t : Nat) (s : Station) (response : List Byte)
  | writebackResume (t : Nat)
  -- ledger and Kerb
  | ledgerClearAll (t : Nat) (key : BitVec 16)
  | nmiFlagClear (t : Nat) (mask : Word)
  | interlockOpen (t : Nat) (pin : Fin 3)
  | interlockRelease (t : Nat) (pin : Fin 3)
  | estop (t : Nat)
  | krbClear (t : Nat) (key : BitVec 16)
  -- rows the table lists last
  | pcieLinkUp (t : Nat) (rate width : Nat) (cfg : PcieCfg)
  | telemetryBlockLock (t : Nat) (q : Side) (s : Station)
  | inspectionPortAligned (t : Nat) (q : Side)
  | fullyOffTimeElapsed (t : Nat) (vinValid : Bool)
  | d0PowerOnResetReleased (t : Nat)
  deriving DecidableEq, Repr

end Sys2Proof
end

