-- ==== Sys2Proof/Decode.lean ====
section
/-! DEFINITION. Commands that a word spells. The opcode table of this block gives none of its rows any bits: its commands are
register accesses, pins, timers and events, and no word stands for one. -/

namespace Sys2Proof

/-- The command that a word spells by the bits of the opcode table: none. -/
def decodeTableWord (_nbits _w : Nat) : Option Instr := none

end Sys2Proof
end

