-- ==== Sys2Proof/Config.lean ====
section
/-! DEFINITION. What the spec leaves open and the model leaves free: opaque constants with no body, so that nothing can be proved
of the values they stand for. Each names the rule that leaves it open; the assumption log lists them. -/

namespace Sys2Proof.Config

/-- Leandene's assigned Vendor ID (R125): the spec gives no number. -/
opaque vendorId : BitVec 16

/-- The 8-bit CRC of a slot of the retention commit register (R98): the spec gives no polynomial. The arguments are WSN and toggle. -/
opaque commitCrc : Nat → Bool → BitVec 8

/-- The four check symbols of a 64 B block of the page store (R175): the spec gives the code and not its polynomial. The arguments are the
physical offset and the data. -/
opaque checkSymbols : Nat → List Byte → BitVec 64

/-- Whether an error in four or more symbols of a 64 B block goes undetected (R175). The arguments are the physical offset and the symbols in
error. -/
opaque eccMissed : Nat → List Nat → Bool

/-- The certified time in 1/64 ns of a Roundabout real-time port for a number of bytes at a pace level (R55): R29 certifies the Boulevard in
total only. -/
opaque portTime : Nat → Nat → Nat

/-- The IDLE blocks that an Enwell port sends before it next sends something else (R327, R328): the model leaves out the blocks between packets.
The arguments are the port and how often it has sent. -/
opaque idleBlocks : Nat → Nat → Nat

/-- The state of a lane's scrambler (R327) after those IDLE blocks. The arguments are the port, how often it has sent, and the lane. -/
opaque laneState : Nat → Nat → Nat → BitVec 58

/-- The TAG of a control message (R336): the spec gives no rule for it. The arguments are the port and how often it has sent. -/
opaque messageTag : Nat → Nat → BitVec 32

/-- The phase of an MDLL's output against the time grid in 1/64 of its period (R264): it depends only on PREF, f_in and MULT. The arguments are
f_in in MHz and MULT. -/
opaque mdllPhase : Nat → Nat → Nat

/-- The word that a dropped fault-journal entry leaves in its slot at an offset (R598): the spec says only that the slot's CRC is
wrong. -/
opaque droppedJournalByte : Nat → Nat → Byte

/-- What a byte of a region holds after its writing was given up (R243, R252): the spec calls the contents undefined. The arguments are
the model's count of such regions and the address. -/
opaque freeByte : Nat → Nat → Byte

/-- CODE of the ROLE_CHANGE event of a double failure (R388): R153 codes only a new Active Quarter, and there is none. -/
opaque doubleRoleCode : BitVec 32

/-- The delay of a Regulator slot's last sample (R438): the spec bounds the time that the evaluation takes and gives no number. The
arguments are the Quarter and slot, and the base tick. -/
opaque loopDelay : Nat → Nat → BitVec 16

/-- The time from a base tick's start to its last output in 0.01 µs (REG_STATUS.TICK_MAX), open as in R438. -/
opaque tickTime : Nat → Nat → BitVec 16

/-- The commanded acceleration of PMSM drive n in Regulator tick t of a Quarter, k > 0 base periods ahead: it follows from setpoints that are
not written yet (R433, R470; log 82). -/
opaque accelAhead : Nat → Nat → Nat → Nat → BitVec 32

/-- For how many timebase cycles the pitch source has no edge when it stands still (R409 gives no bound; log 122). -/
opaque standstill : Nat

/-- STATION × 65536 + BAND of a BANDWIDTH rejection whose worst window no band of the rejected page overlaps (R118): the spec names only a
band that overlaps it. The argument is the WSN. -/
opaque rejectBand : Nat → BitVec 19

end Sys2Proof.Config
end

