-- ==== Sys2Proof/Machine/Bytes.lean ====
section
/-! DEFINITION. Bytes, byte order (R11), bit fields and the CRC-32C that the spec's structures carry. -/

namespace Sys2Proof.Machine

/-- The `n` low bytes of a number, lowest first (R11). -/
def leBytes : Nat → Nat → List Byte
  | 0, _ => []
  | n + 1, v => BitVec.ofNat 8 v :: leBytes n (v / 256)

/-- The number that bytes spell, lowest first (R11). -/
def leNat : List Byte → Nat
  | [] => 0
  | b :: r => b.toNat + 256 * leNat r

/-- The `n` bytes at an offset of a structure, as a number; bytes beyond its end count 0. -/
def bytesAt (l : List Byte) (off n : Nat) : Nat := leNat ((l.drop off).take n)

/-- Bit `i` of a number. -/
def natBit (v i : Nat) : Bool := v / 2 ^ i % 2 == 1

/-- Bits `lo` to `hi` of a number. -/
def natBits (v hi lo : Nat) : Nat := v / 2 ^ lo % 2 ^ (hi + 1 - lo)

/-- 1 or 0. -/
def b01 (b : Bool) : Nat := if b then 1 else 0

/-- The number of bits set below bit `n`. -/
def popCount : Nat → Nat → Nat
  | 0, _ => 0
  | n + 1, v => b01 (natBit v n) + popCount n v

/-- A number read as two's complement of `w` bits. -/
def toSigned (w v : Nat) : Int := if v % 2 ^ w < 2 ^ (w - 1) then ((v % 2 ^ w : Nat) : Int) else ((v % 2 ^ w : Nat) : Int) - (2 ^ w : Nat)

/-- An integer as the `w`-bit two's-complement number. -/
def ofSigned (w : Nat) (v : Int) : Nat := (v % ((2 ^ w : Nat) : Int)).toNat

/-- One bit of the reflected CRC-32C. -/
def crcStep (c : BitVec 32) : BitVec 32 := if c.getLsbD 0 then (c >>> 1) ^^^ 0x82F63B78 else c >>> 1

/-- One byte of the CRC-32C. -/
def crcByte (c : BitVec 32) (b : Byte) : BitVec 32 :=
  crcStep (crcStep (crcStep (crcStep (crcStep (crcStep (crcStep (crcStep (c ^^^ b.zeroExtend 32))))))))

/-- The CRC-32C of bytes, with the standard's initial value and final inversion. -/
def crc32c (l : List Byte) : BitVec 32 := ~~~ (l.foldl crcByte 0xFFFFFFFF)

/-- A structure closed by the CRC-32C over the bytes before it. -/
def withCrc (l : List Byte) : List Byte := l ++ leBytes 4 (crc32c l).toNat

/-- Whether the four bytes at `off` are the CRC-32C of the bytes before them. -/
def crcGood (l : List Byte) (off : Nat) : Bool := decide (bytesAt l off 4 = (crc32c (l.take off)).toNat)

/-- The bits of bytes. -/
def bitsOf (l : List Byte) : List Bool := l.flatMap (fun b => (List.range 8).map (fun i => b.getLsbD i))

/-- The number that bits spell, the first least significant. -/
def bitsNat : List Bool → Nat
  | [] => 0
  | x :: r => b01 x + 2 * bitsNat r

end Sys2Proof.Machine
end

