-- ==== Sys2Proof/Machine/RegTable.lean ====
section
/-! DEFINITION. The register map (R42, R44): the address of every register the spec defines, its fields, and one table of what
writes may change and what reset leaves. A name is the spec's; a field's name is its register's followed by its own. -/

namespace Sys2Proof

/-- The base address of a Quarter's blocks as every master but itself sees them (R42). -/
def Side.base : Side → Nat
  | .north => 0x01000000
  | .south => 0x02000000

end Sys2Proof

namespace Sys2Proof.Machine

/-- A field of a register: its highest and lowest bit. -/
structure Fld where
  hi : Nat
  lo : Nat
  deriving DecidableEq, Repr

/-- A row of the register map. `off` counts from the Quarter's base, or from 0 for a shared block; `dims` are the strides and
counts of its instances. `rw`, `rwl` and `w1c` are the bits of those kinds (R14, R82); every other bit is read only. -/
structure RegRow where
  off : Nat
  dims : List (Nat × Nat)
  rw : Word
  rwl : Word
  w1c : Word
  reset : Word
  deriving DecidableEq, Repr


/-! Registers CFG_*. -/

def CFG_STATUS : Nat := 0x10010000
def CFG_STATUS_REQUIRE_SIGNED : Fld := ⟨24, 24⟩
def CFG_STATUS_RESULT_B : Fld := ⟨23, 20⟩
def CFG_STATUS_RESULT_A : Fld := ⟨19, 16⟩
def CFG_STATUS_START_KIND : Fld := ⟨13, 12⟩
def CFG_STATUS_SIGNED : Fld := ⟨11, 11⟩
def CFG_STATUS_LOCKED : Fld := ⟨10, 10⟩
def CFG_STATUS_BOOT_COPY : Fld := ⟨9, 8⟩
def CFG_STATUS_FAILED_STEP : Fld := ⟨7, 4⟩
def CFG_STATUS_STEP : Fld := ⟨3, 0⟩
def CFG_FLASH_INFO : Nat := 0x10010004
def CFG_FLASH_INFO_ADDR4 : Fld := ⟨18, 18⟩
def CFG_FLASH_INFO_MODE : Fld := ⟨17, 16⟩
def CFG_FLASH_INFO_ERASE_LOG2 : Fld := ⟨15, 8⟩
def CFG_FLASH_INFO_DENSITY_LOG2 : Fld := ⟨7, 0⟩
def CFG_GENERATION : Nat := 0x10010008
def CFG_FAIL_INFO : Nat := 0x1001000c
def CFG_FAIL_INFO_COPY : Fld := ⟨28, 28⟩
def CFG_FAIL_INFO_REASON : Fld := ⟨27, 24⟩
def CFG_FAIL_INFO_RECORD : Fld := ⟨23, 0⟩
def CFG_BOOT_TIME : Nat := 0x10010010
def CFG_DIGEST_N : Nat := 0x10010014
def CFG_DIGEST_S : Nat := 0x10010018
def CFG_UPD_SRC_LO : Nat := 0x10010020
def CFG_UPD_SRC_HI : Nat := 0x10010024
def CFG_UPD_OFFSET : Nat := 0x10010028
def CFG_UPD_LEN : Nat := 0x1001002c
def CFG_UPD_CMD : Nat := 0x10010030
def CFG_UPD_CMD_COPY : Fld := ⟨4, 4⟩
def CFG_UPD_CMD_OP : Fld := ⟨3, 0⟩
def CFG_UPD_STATUS : Nat := 0x10010034
def CFG_UPD_STATUS_RESULT : Fld := ⟨11, 8⟩
def CFG_UPD_STATUS_ERR : Fld := ⟨7, 4⟩
def CFG_UPD_STATUS_STATE : Fld := ⟨1, 0⟩

/-! Registers PGS_*. -/

def PGS_LAST_DLV_LO : Nat := 0x10060800
def PGS_LAST_DLV_HI : Nat := 0x10060804
def PGS_HORIZON_LO : Nat := 0x10060808
def PGS_HORIZON_HI : Nat := 0x1006080c
def PGS_REPRINT_LO : Nat := 0x10060810
def PGS_REPRINT_HI : Nat := 0x10060814
def PGS_DLV_STATUS : Nat := 0x10060818
def PGS_DLV_STATUS_STRANDED : Fld := ⟨31, 24⟩
def PGS_DLV_STATUS_IN_FLIGHT : Fld := ⟨23, 16⟩
def PGS_DLV_STATUS_WEB : Fld := ⟨4, 4⟩
def PGS_DLV_STATUS_REJECT_GATE : Fld := ⟨3, 3⟩
def PGS_DLV_STATUS_PURGE : Fld := ⟨2, 2⟩
def PGS_DLV_STATUS_RECOVERED : Fld := ⟨1, 1⟩
def PGS_DLV_STATUS_RETENTION_LOST : Fld := ⟨0, 0⟩
def PGS_COMMIT_CLR : Nat := 0x1006081c
def PGS_COMMIT_CLR_KEY : Fld := ⟨15, 0⟩
def PGS_TG_CTRL : Nat := 0x10060900
def PGS_TG_CTRL_ALLOW_INGEST : Fld := ⟨31, 16⟩
def PGS_TG_CTRL_ALLOW_INSP : Fld := ⟨15, 4⟩
def PGS_TG_CTRL_MAX_PACE : Fld := ⟨1, 0⟩
def PGS_TG_USABLE : Nat := 0x10060904
def PGS_TG_USABLE_U : Fld := ⟨15, 0⟩
def PGS_TG_REJ0 : Nat := 0x10060908
def PGS_TG_REJ1 : Nat := 0x1006090c
def PGS_TG_REJ1_REQ_SPEED : Fld := ⟨31, 22⟩
def PGS_TG_REJ1_REQ_PACE : Fld := ⟨21, 18⟩
def PGS_TG_REJ1_STATION : Fld := ⟨17, 15⟩
def PGS_TG_REJ1_KIND : Fld := ⟨2, 0⟩
def PGS_TG_REJ2 : Nat := 0x10060910
def PGS_TG_REJ2_LOAD : Fld := ⟨31, 16⟩
def PGS_TG_REJ2_BAND : Fld := ⟨15, 0⟩

/-! Registers HIF_*. -/

def HIF_LINK : Nat := 0x10070000
def HIF_LINK_SLOW : Fld := ⟨8, 8⟩
def HIF_LINK_WIDTH : Fld := ⟨7, 4⟩
def HIF_LINK_RATE : Fld := ⟨3, 0⟩
def HIF_RING_BASE_LO (i : Nat) : Nat := 0x10070100 + 0x40 * i
def HIF_RING_BASE_HI (i : Nat) : Nat := 0x10070104 + 0x40 * i
def HIF_RING_CFG (i : Nat) : Nat := 0x10070108 + 0x40 * i
def HIF_RING_CFG_ENABLE : Fld := ⟨31, 31⟩
def HIF_RING_CFG_BUSY : Fld := ⟨30, 30⟩
def HIF_RING_CFG_RO_READ : Fld := ⟨10, 10⟩
def HIF_RING_CFG_NS : Fld := ⟨9, 9⟩
def HIF_RING_CFG_LOG2_SIZE : Fld := ⟨4, 0⟩
def HIF_RING_PROD (i : Nat) : Nat := 0x1007010c + 0x40 * i
def HIF_RING_CONS (i : Nat) : Nat := 0x10070110 + 0x40 * i
def HIF_RING_WB_LO (i : Nat) : Nat := 0x10070114 + 0x40 * i
def HIF_RING_WB_HI (i : Nat) : Nat := 0x10070118 + 0x40 * i
def HIF_RING_STATUS (i : Nat) : Nat := 0x1007011c + 0x40 * i
def HIF_RING_STATUS_HALT_CAUSE : Fld := ⟨7, 4⟩
def HIF_RING_STATUS_HALTED : Fld := ⟨0, 0⟩
def HIF_RING_CMD (i : Nat) : Nat := 0x10070120 + 0x40 * i
def HIF_RING_CMD_OP : Fld := ⟨1, 0⟩
def HIF_RING0_WSN_LO : Nat := 0x10070124
def HIF_RING0_WSN_HI : Nat := 0x10070128
def HIF_EVT_BASE_LO : Nat := 0x10070200
def HIF_EVT_BASE_HI : Nat := 0x10070204
def HIF_EVT_CFG : Nat := 0x10070208
def HIF_EVT_CFG_ENABLE : Fld := ⟨31, 31⟩
def HIF_EVT_CFG_LOG2_SIZE : Fld := ⟨4, 0⟩
def HIF_EVT_PROD : Nat := 0x1007020c
def HIF_EVT_CONS : Nat := 0x10070210
def HIF_EVT_LOST : Nat := 0x10070214
def HIF_EVT_MOD : Nat := 0x10070218
def HIF_EVT_MOD_TIME : Fld := ⟨31, 16⟩
def HIF_EVT_MOD_COUNT : Fld := ⟨7, 0⟩
def HIF_EVT_VEC (i : Nat) : Nat := 0x10070220 + 0x4 * i
def HIF_EVT_VEC_VEC3 : Fld := ⟨29, 24⟩
def HIF_EVT_VEC_VEC2 : Fld := ⟨21, 16⟩
def HIF_EVT_VEC_VEC1 : Fld := ⟨13, 8⟩
def HIF_EVT_VEC_VEC0 : Fld := ⟨5, 0⟩
def HIF_PARAM_ADDR (i : Nat) : Nat := 0x10071000 + 0x10 * i
def HIF_PARAM_FIELD (i : Nat) : Nat := 0x10071004 + 0x10 * i
def HIF_PARAM_FIELD_SIGNED : Fld := ⟨15, 15⟩
def HIF_PARAM_FIELD_WIDTH_M1 : Fld := ⟨12, 8⟩
def HIF_PARAM_FIELD_LSB : Fld := ⟨4, 0⟩
def HIF_PARAM_MIN (i : Nat) : Nat := 0x10071008 + 0x10 * i
def HIF_PARAM_MAX (i : Nat) : Nat := 0x1007100c + 0x10 * i

/-! Registers ALYS_*. -/

def ALYS_SRC_LO (i : Nat) : Nat := 0x100b0000 + 0x40 * i

/-! Registers ALYQ_*. -/

def ALYQ_SRC_LO (q : Side) (i : Nat) : Nat := q.base + 0xf0000 + 0x40 * i

/-! Registers ALYS_*. -/

def ALYS_SRC_HI (i : Nat) : Nat := 0x100b0004 + 0x40 * i

/-! Registers ALYQ_*. -/

def ALYQ_SRC_HI (q : Side) (i : Nat) : Nat := q.base + 0xf0004 + 0x40 * i

/-! Registers ALYS_*. -/

def ALYS_DST_LO (i : Nat) : Nat := 0x100b0008 + 0x40 * i

/-! Registers ALYQ_*. -/

def ALYQ_DST_LO (q : Side) (i : Nat) : Nat := q.base + 0xf0008 + 0x40 * i

/-! Registers ALYS_*. -/

def ALYS_DST_HI (i : Nat) : Nat := 0x100b000c + 0x40 * i

/-! Registers ALYQ_*. -/

def ALYQ_DST_HI (q : Side) (i : Nat) : Nat := q.base + 0xf000c + 0x40 * i

/-! Registers ALYS_*. -/

def ALYS_COUNT (i : Nat) : Nat := 0x100b0010 + 0x40 * i

/-! Registers ALYQ_*. -/

def ALYQ_COUNT (q : Side) (i : Nat) : Nat := q.base + 0xf0010 + 0x40 * i

/-! Registers ALYS_*. -/

def ALYS_CTRL (i : Nat) : Nat := 0x100b0014 + 0x40 * i
def ALYS_CTRL_ENABLE : Fld := ⟨31, 31⟩
def ALYS_CTRL_BUSY : Fld := ⟨30, 30⟩
def ALYS_CTRL_PACE_SIDE : Fld := ⟨11, 11⟩
def ALYS_CTRL_PACE_MODE : Fld := ⟨10, 9⟩
def ALYS_CTRL_DST_W : Fld := ⟨6, 4⟩
def ALYS_CTRL_SRC_W : Fld := ⟨2, 0⟩

/-! Registers ALYQ_*. -/

def ALYQ_CTRL (q : Side) (i : Nat) : Nat := q.base + 0xf0014 + 0x40 * i
def ALYQ_CTRL_ENABLE : Fld := ⟨31, 31⟩
def ALYQ_CTRL_BUSY : Fld := ⟨30, 30⟩
def ALYQ_CTRL_PACE_SIDE : Fld := ⟨11, 11⟩
def ALYQ_CTRL_PACE_MODE : Fld := ⟨10, 9⟩
def ALYQ_CTRL_DST_W : Fld := ⟨6, 4⟩
def ALYQ_CTRL_SRC_W : Fld := ⟨2, 0⟩

/-! Registers ALYS_*. -/

def ALYS_PACE (i : Nat) : Nat := 0x100b0018 + 0x40 * i
def ALYS_PACE_PACE_HI : Fld := ⟨31, 16⟩
def ALYS_PACE_PACE_LO : Fld := ⟨15, 0⟩

/-! Registers ALYQ_*. -/

def ALYQ_PACE (q : Side) (i : Nat) : Nat := q.base + 0xf0018 + 0x40 * i
def ALYQ_PACE_PACE_HI : Fld := ⟨31, 16⟩
def ALYQ_PACE_PACE_LO : Fld := ⟨15, 0⟩

/-! Registers ALYS_*. -/

def ALYS_STATUS (i : Nat) : Nat := 0x100b001c + 0x40 * i
def ALYS_STATUS_DONE : Fld := ⟨8, 8⟩
def ALYS_STATUS_ERR : Fld := ⟨3, 0⟩

/-! Registers ALYQ_*. -/

def ALYQ_STATUS (q : Side) (i : Nat) : Nat := q.base + 0xf001c + 0x40 * i
def ALYQ_STATUS_DONE : Fld := ⟨8, 8⟩
def ALYQ_STATUS_ERR : Fld := ⟨3, 0⟩

/-! Registers RDB_*. -/

def RDB_CFG : Nat := 0x10050000
def RDB_CFG_RATE : Fld := ⟨9, 8⟩
def RDB_CFG_FALLBACK_EN : Fld := ⟨0, 0⟩
def RDB_STATUS : Nat := 0x10050004
def RDB_STATUS_CH_FAIL : Fld := ⟨31, 28⟩
def RDB_STATUS_CH_FAIL_FIRST : Fld := ⟨27, 24⟩
def RDB_STATUS_CAP_GIB : Fld := ⟨23, 16⟩
def RDB_STATUS_RANKS2 : Fld := ⟨15, 15⟩
def RDB_STATUS_RATE_ACT : Fld := ⟨11, 10⟩
def RDB_STATUS_FALLBACK : Fld := ⟨9, 9⟩
def RDB_STATUS_GEOMETRY_ERR : Fld := ⟨8, 8⟩
def RDB_STATUS_SR_REFUSED : Fld := ⟨2, 2⟩
def RDB_STATUS_SR : Fld := ⟨1, 1⟩
def RDB_STATUS_TRAINED : Fld := ⟨0, 0⟩
def RDB_SR_CTRL : Nat := 0x10050008
def RDB_SR_CTRL_IDLE_MS : Fld := ⟨31, 16⟩
def RDB_SR_CTRL_OP : Fld := ⟨1, 0⟩
def RDB_RH_CFG : Nat := 0x1005000c
def RDB_RH_CFG_THRESHOLD : Fld := ⟨12, 0⟩
def RDB_ECC_CE : Nat := 0x10050010
def RDB_ECC_UE : Nat := 0x10050014
def RDB_ECC_UE_COUNT : Fld := ⟨15, 0⟩
def RDB_ECC_ADDR_LO : Nat := 0x10050018
def RDB_ECC_ADDR_HI : Nat := 0x1005001c
def RDB_PANIC : Nat := 0x10050020
def RDB_PANIC_PANIC2 : Fld := ⟨31, 16⟩
def RDB_PANIC_PANIC1 : Fld := ⟨15, 0⟩
def RDB_PANIC_CNT : Nat := 0x10050024
def RDB_PANIC_CNT_PANIC2_CNT : Fld := ⟨31, 16⟩
def RDB_PANIC_CNT_PANIC1_CNT : Fld := ⟨15, 0⟩
def RDB_RH_CNT : Nat := 0x10050028
def RDB_ACT_DEFER : Nat := 0x1005002c
def RDB_MR4 : Nat := 0x10050030
def RDB_MR4_RATE3 : Fld := ⟨28, 24⟩
def RDB_MR4_RATE2 : Fld := ⟨20, 16⟩
def RDB_MR4_RATE1 : Fld := ⟨12, 8⟩
def RDB_MR4_RATE0 : Fld := ⟨4, 0⟩

/-! Registers PGS_*. -/

def PGS_ALLOC_CFG : Nat := 0x10060000
def PGS_ALLOC_CFG_GEN_BLOCKS : Fld := ⟨31, 16⟩
def PGS_ALLOC_CFG_INSP_BLOCKS : Fld := ⟨15, 0⟩
def PGS_ALLOC_BLOCKS : Nat := 0x10060004
def PGS_ALLOC_BLOCKS_PAGE_BLOCKS : Fld := ⟨31, 16⟩
def PGS_ALLOC_BLOCKS_FREE : Fld := ⟨15, 0⟩
def PGS_ALLOC_PAGES : Nat := 0x10060008
def PGS_ALLOC_PAGES_HELD : Fld := ⟨28, 16⟩
def PGS_ALLOC_PAGES_WAIT : Fld := ⟨0, 0⟩
def PGS_RECOVERY : Nat := 0x1006000c
def PGS_RECOVERY_FAILED : Fld := ⟨31, 16⟩
def PGS_RECOVERY_RECOVERED : Fld := ⟨12, 0⟩

/-! Registers ARC_*. -/

def ARC_CTRL : Nat := 0x10040000
def ARC_CTRL_ENABLE : Fld := ⟨31, 31⟩
def ARC_CTRL_BUSY : Fld := ⟨30, 30⟩
def ARC_CTRL_INSP_EN : Fld := ⟨9, 8⟩
def ARC_CTRL_CMP_EN : Fld := ⟨3, 0⟩
def ARC_CMP_CFG : Nat := 0x10040004
def ARC_CMP_CFG_TABLE_ID : Fld := ⟨31, 28⟩
def ARC_CMP_CFG_TABLES : Fld := ⟨25, 24⟩
def ARC_CMP_CFG_RAWPASS_EN : Fld := ⟨23, 23⟩
def ARC_CMP_CFG_LAZY : Fld := ⟨16, 16⟩
def ARC_CMP_CFG_NICE_LEN : Fld := ⟨15, 8⟩
def ARC_CMP_CFG_CHAIN_DEPTH : Fld := ⟨5, 0⟩
def ARC_INSP_CFG : Nat := 0x10040008
def ARC_INSP_CFG_TABLE_ID : Fld := ⟨31, 28⟩
def ARC_INSP_CFG_TABLES : Fld := ⟨25, 24⟩
def ARC_INSP_CFG_GROUP_LINES : Fld := ⟨23, 16⟩
def ARC_INSP_CFG_CHAIN_DEPTH : Fld := ⟨5, 0⟩
def ARC_STATUS : Nat := 0x1004000c
def ARC_STATUS_CHK_BUSY : Fld := ⟨31, 24⟩
def ARC_STATUS_INSP_BUSY : Fld := ⟨17, 16⟩
def ARC_STATUS_GEN_JOB : Fld := ⟨11, 8⟩
def ARC_STATUS_CMP_BUSY : Fld := ⟨3, 0⟩
def ARC_ERR : Nat := 0x10040010
def ARC_ERR_SUBSTREAM : Fld := ⟨29, 27⟩
def ARC_ERR_STATION : Fld := ⟨26, 24⟩
def ARC_ERR_BAND : Fld := ⟨23, 8⟩
def ARC_ERR_UNIT : Fld := ⟨7, 4⟩
def ARC_ERR_CODE : Fld := ⟨3, 0⟩
def ARC_RAWPASS_CNT : Nat := 0x10040014
def ARC_INSP_CNT : Nat := 0x10040018
def ARC_INSP_CNT_FAILED : Fld := ⟨31, 16⟩
def ARC_INSP_CNT_DONE : Fld := ⟨15, 0⟩
def ARC_INSP_DROP : Nat := 0x1004001c
def ARC_JOB_D (i : Nat) : Nat := 0x10040020 + 0x4 * i
def ARC_JOB_STATUS : Nat := 0x10040040
def ARC_JOB_STATUS_OVF : Fld := ⟨31, 31⟩
def ARC_JOB_STATUS_QUEUED : Fld := ⟨30, 28⟩
def ARC_JOB_STATUS_ERR : Fld := ⟨27, 24⟩
def ARC_JOB_STATUS_STATE : Fld := ⟨18, 16⟩
def ARC_JOB_STATUS_COMPLETED : Fld := ⟨15, 0⟩
def ARC_JOB_OUT_LEN : Nat := 0x10040044
def ARC_JOB_TAG : Nat := 0x10040048
def ARC_JOB_CMD : Nat := 0x1004004c
def ARC_JOB_CMD_OP : Fld := ⟨1, 0⟩

/-! Registers PXS_*. -/

def PXS_CTRL (q : Side) (i : Nat) : Nat := q.base + 0xc0000 + 0x100 * i
def PXS_CTRL_ENABLE : Fld := ⟨31, 31⟩
def PXS_CTRL_BUSY : Fld := ⟨30, 30⟩
def PXS_CTRL_PROFILE : Fld := ⟨19, 16⟩
def PXS_CTRL_RAMP_EN : Fld := ⟨15, 15⟩
def PXS_CTRL_TRIM_EN : Fld := ⟨14, 14⟩
def PXS_CTRL_IN_SEL : Fld := ⟨13, 12⟩
def PXS_PPF (q : Side) (i : Nat) : Nat := q.base + 0xc0004 + 0x100 * i
def PXS_START (q : Side) (i : Nat) : Nat := q.base + 0xc0008 + 0x100 * i
def PXS_START_DELAY : Fld := ⟨23, 0⟩
def PXS_BD_CFG (q : Side) (i : Nat) : Nat := q.base + 0xc000c + 0x100 * i
def PXS_BD_CFG_EDGE : Fld := ⟨16, 16⟩
def PXS_BD_CFG_FILT : Fld := ⟨15, 12⟩
def PXS_BD_CFG_WIN : Fld := ⟨9, 0⟩
def PXS_FACET_CFG (q : Side) (i : Nat) : Nat := q.base + 0xc0010 + 0x100 * i
def PXS_FACET_CFG_PHASE_TOL : Fld := ⟨31, 24⟩
def PXS_FACET_CFG_INDEX_EN : Fld := ⟨16, 16⟩
def PXS_FACET_CFG_INDEX_GPIO : Fld := ⟨13, 8⟩
def PXS_FACET_CFG_FACETS : Fld := ⟨4, 0⟩
def PXS_STATUS (q : Side) (i : Nat) : Nat := q.base + 0xc0014 + 0x100 * i
def PXS_STATUS_MISS : Fld := ⟨27, 24⟩
def PXS_STATUS_MULT : Fld := ⟨23, 16⟩
def PXS_STATUS_RANGE : Fld := ⟨15, 15⟩
def PXS_STATUS_CFG_ERR : Fld := ⟨14, 14⟩
def PXS_STATUS_ACQ_FAIL : Fld := ⟨13, 13⟩
def PXS_STATUS_PHASE_FAULT : Fld := ⟨12, 12⟩
def PXS_STATUS_FACET_ID : Fld := ⟨11, 8⟩
def PXS_STATUS_STATE : Fld := ⟨2, 0⟩
def PXS_PERIOD (q : Side) (i : Nat) : Nat := q.base + 0xc0018 + 0x100 * i
def PXS_OFFSET (q : Side) (i : Nat) : Nat := q.base + 0xc001c + 0x100 * i
def PXS_PHASE_ERR (q : Side) (i : Nat) : Nat := q.base + 0xc0020 + 0x100 * i
def PXS_PHASE_ERR_E : Fld := ⟨15, 0⟩
def PXS_SLEW (q : Side) (i : Nat) : Nat := q.base + 0xc0024 + 0x100 * i
def PXS_SLEW_MAX_ERR : Fld := ⟨23, 16⟩
def PXS_SLEW_RESIDUAL : Fld := ⟨7, 0⟩
def PXS_CNT0 (q : Side) (i : Nat) : Nat := q.base + 0xc0028 + 0x100 * i
def PXS_CNT0_PREDICTED : Fld := ⟨31, 16⟩
def PXS_CNT0_COAST : Fld := ⟨15, 0⟩
def PXS_CNT1 (q : Side) (i : Nat) : Nat := q.base + 0xc002c + 0x100 * i
def PXS_CNT1_SLEW : Fld := ⟨31, 16⟩
def PXS_CNT1_SLEW_DEFECT : Fld := ⟨15, 0⟩
def PXS_ALIGN (q : Side) (i : Nat) : Nat := q.base + 0xc0030 + 0x100 * i
def PXS_ALIGN_MISMATCH : Fld := ⟨31, 16⟩
def PXS_ALIGN_MAX_DIFF : Fld := ⟨7, 0⟩
def PXS_TRIM0 (q : Side) (i : Nat) : Nat := q.base + 0xc0040 + 0x100 * i
def PXS_TRIM0_TRIM3 : Fld := ⟨31, 24⟩
def PXS_TRIM0_TRIM2 : Fld := ⟨23, 16⟩
def PXS_TRIM0_TRIM1 : Fld := ⟨15, 8⟩
def PXS_TRIM0_TRIM0 : Fld := ⟨7, 0⟩
def PXS_TRIM1 (q : Side) (i : Nat) : Nat := q.base + 0xc0044 + 0x100 * i
def PXS_TRIM1_TRIM3 : Fld := ⟨31, 24⟩
def PXS_TRIM1_TRIM2 : Fld := ⟨23, 16⟩
def PXS_TRIM1_TRIM1 : Fld := ⟨15, 8⟩
def PXS_TRIM1_TRIM0 : Fld := ⟨7, 0⟩
def PXS_TRIM2 (q : Side) (i : Nat) : Nat := q.base + 0xc0048 + 0x100 * i
def PXS_TRIM2_TRIM3 : Fld := ⟨31, 24⟩
def PXS_TRIM2_TRIM2 : Fld := ⟨23, 16⟩
def PXS_TRIM2_TRIM1 : Fld := ⟨15, 8⟩
def PXS_TRIM2_TRIM0 : Fld := ⟨7, 0⟩
def PXS_TRIM3 (q : Side) (i : Nat) : Nat := q.base + 0xc004c + 0x100 * i
def PXS_TRIM3_TRIM3 : Fld := ⟨31, 24⟩
def PXS_TRIM3_TRIM2 : Fld := ⟨23, 16⟩
def PXS_TRIM3_TRIM1 : Fld := ⟨15, 8⟩
def PXS_TRIM3_TRIM0 : Fld := ⟨7, 0⟩
def PXS_REF_CFG (q : Side) : Nat := q.base + 0xc0800
def PXS_REF_CFG_HOLD_MS : Fld := ⟨31, 28⟩
def PXS_REF_CFG_V_LOSS : Fld := ⟨21, 12⟩
def PXS_REF_CFG_V_LOCK : Fld := ⟨9, 0⟩
def PXS_REF_STATUS (q : Side) : Nat := q.base + 0xc0804
def PXS_REF_STATUS_LOCKED : Fld := ⟨31, 31⟩
def PXS_REF_STATUS_FILTER_FAULT : Fld := ⟨30, 30⟩
def PXS_REF_STATUS_RIPPLE_MV : Fld := ⟨25, 16⟩
def PXS_REF_STATUS_LEVEL_MV : Fld := ⟨9, 0⟩

/-! Registers BMO_*. -/

def BMO_PASS (q : Side) : Nat := q.base + 0xd0800
def BMO_PASS_M : Fld := ⟨1, 0⟩
def BMO_CTRL (q : Side) (i : Nat) : Nat := q.base + 0xd0000 + 0x100 * i
def BMO_CTRL_ENABLE : Fld := ⟨31, 31⟩
def BMO_CTRL_BUSY : Fld := ⟨30, 30⟩
def BMO_CTRL_SAFE : Fld := ⟨29, 29⟩
def BMO_CTRL_LATE_DEFECT : Fld := ⟨3, 3⟩
def BMO_CTRL_HIDE_EN : Fld := ⟨2, 2⟩
def BMO_CTRL_PITCH : Fld := ⟨1, 0⟩
def BMO_DUTY (q : Side) (i : Nat) : Nat := q.base + 0xd0004 + 0x100 * i
def BMO_DUTY_HEAD_LIMIT : Fld := ⟨15, 8⟩
def BMO_DUTY_ELEM_LIMIT : Fld := ⟨7, 0⟩
def BMO_TEMP (q : Side) (i : Nat) : Nat := q.base + 0xd0008 + 0x100 * i
def BMO_TEMP_DERATE_K : Fld := ⟨31, 28⟩
def BMO_TEMP_HYST : Fld := ⟨27, 24⟩
def BMO_TEMP_LIMIT : Fld := ⟨23, 16⟩
def BMO_TEMP_WARN : Fld := ⟨15, 8⟩
def BMO_MEAS (q : Side) (i : Nat) : Nat := q.base + 0xd000c + 0x100 * i
def BMO_MEAS_I2 : Fld := ⟨31, 24⟩
def BMO_MEAS_I1 : Fld := ⟨23, 16⟩
def BMO_MEAS_MARG_PCT : Fld := ⟨15, 8⟩
def BMO_MEAS_DEAD_PCT : Fld := ⟨7, 0⟩
def BMO_MEAS_V (q : Side) (i : Nat) : Nat := q.base + 0xd0010 + 0x100 * i
def BMO_MEAS_V_V_OPEN : Fld := ⟨31, 16⟩
def BMO_MEAS_V_V_SHORT : Fld := ⟨15, 0⟩
def BMO_MASKSEL0 (q : Side) (i : Nat) : Nat := q.base + 0xd0014 + 0x100 * i
def BMO_MASKSEL1 (q : Side) (i : Nat) : Nat := q.base + 0xd0018 + 0x100 * i
def BMO_MASKSEL2 (q : Side) (i : Nat) : Nat := q.base + 0xd001c + 0x100 * i
def BMO_MASKSEL3 (q : Side) (i : Nat) : Nat := q.base + 0xd0020 + 0x100 * i
def BMO_HIDE (q : Side) (i : Nat) : Nat := q.base + 0xd0024 + 0x100 * i
def BMO_HIDE_DEAD_MASK0 : Fld := ⟨18, 16⟩
def BMO_HIDE_DEAD_MASK1 : Fld := ⟨22, 20⟩
def BMO_HIDE_DEAD_MASK2 : Fld := ⟨26, 24⟩
def BMO_HIDE_DEAD_MASK3 : Fld := ⟨30, 28⟩
def BMO_HIDE_HIDE_MASK0 : Fld := ⟨2, 0⟩
def BMO_HIDE_HIDE_MASK1 : Fld := ⟨6, 4⟩
def BMO_HIDE_HIDE_MASK2 : Fld := ⟨10, 8⟩
def BMO_HIDE_HIDE_MASK3 : Fld := ⟨14, 12⟩
def BMO_MAP0 (q : Side) (i : Nat) : Nat := q.base + 0xd0028 + 0x100 * i
def BMO_MAP1 (q : Side) (i : Nat) : Nat := q.base + 0xd002c + 0x100 * i
def BMO_MAP_PEND0 (q : Side) (i : Nat) : Nat := q.base + 0xd0030 + 0x100 * i
def BMO_MAP_PEND1 (q : Side) (i : Nat) : Nat := q.base + 0xd0034 + 0x100 * i
def BMO_STATUS (q : Side) (i : Nat) : Nat := q.base + 0xd0038 + 0x100 * i
def BMO_STATUS_MAP_ERR : Fld := ⟨31, 31⟩
def BMO_STATUS_CLASS_LOST : Fld := ⟨30, 30⟩
def BMO_STATUS_DEAD_UNMAPPED : Fld := ⟨29, 29⟩
def BMO_STATUS_TEMP_LIMIT : Fld := ⟨28, 28⟩
def BMO_STATUS_TEMP_WARN : Fld := ⟨27, 27⟩
def BMO_STATUS_DUTY_HEAD : Fld := ⟨26, 26⟩
def BMO_STATUS_DUTY_ELEM : Fld := ⟨25, 25⟩
def BMO_STATUS_LATE_LINE : Fld := ⟨24, 24⟩
def BMO_STATUS_CFG_ERR : Fld := ⟨23, 23⟩
def BMO_STATUS_HEAD_TEMP : Fld := ⟨15, 8⟩
def BMO_STATUS_MEAS_BUSY : Fld := ⟨7, 7⟩
def BMO_STATUS_CURSOR : Fld := ⟨6, 0⟩
def BMO_HEALTH0 (q : Side) (i : Nat) : Nat := q.base + 0xd003c + 0x100 * i
def BMO_HEALTH1 (q : Side) (i : Nat) : Nat := q.base + 0xd0040 + 0x100 * i
def BMO_HEALTH2 (q : Side) (i : Nat) : Nat := q.base + 0xd0044 + 0x100 * i
def BMO_HEALTH3 (q : Side) (i : Nat) : Nat := q.base + 0xd0048 + 0x100 * i
def BMO_HEALTH4 (q : Side) (i : Nat) : Nat := q.base + 0xd004c + 0x100 * i
def BMO_CNT0 (q : Side) (i : Nat) : Nat := q.base + 0xd0050 + 0x100 * i
def BMO_CNT0_LATE : Fld := ⟨31, 16⟩
def BMO_CNT0_CLIPPED : Fld := ⟨15, 0⟩
def BMO_KSCALE (q : Side) (i : Nat) : Nat := q.base + 0xd0054 + 0x100 * i
def BMO_KSCALE_K_T : Fld := ⟨20, 16⟩
def BMO_KSCALE_K_H : Fld := ⟨12, 8⟩
def BMO_KSCALE_K_E_MIN : Fld := ⟨4, 0⟩

/-! Registers ENW_*. -/

def ENW_CTRL (q : Side) (i : Nat) : Nat := q.base + 0xe0000 + 0x100 * i
def ENW_CTRL_ENABLE : Fld := ⟨31, 31⟩
def ENW_CTRL_BUSY : Fld := ⟨30, 30⟩
def ENW_CTRL_RETRAIN : Fld := ⟨0, 0⟩
def ENW_TX_CFG (q : Side) (i : Nat) : Nat := q.base + 0xe0004 + 0x100 * i
def ENW_TX_CFG_AHEAD : Fld := ⟨23, 16⟩
def ENW_TX_CFG_LEAD : Fld := ⟨7, 0⟩
def ENW_STATUS (q : Side) (i : Nat) : Nat := q.base + 0xe0008 + 0x100 * i
def ENW_STATUS_LANE_LOCK : Fld := ⟨31, 28⟩
def ENW_STATUS_TLM_LOCK : Fld := ⟨27, 27⟩
def ENW_STATUS_CFG_ERR : Fld := ⟨23, 23⟩
def ENW_STATUS_HOLE : Fld := ⟨22, 22⟩
def ENW_STATUS_LOOP_ERR : Fld := ⟨21, 21⟩
def ENW_STATUS_CLK_LOSS : Fld := ⟨20, 20⟩
def ENW_STATUS_MOD_PROTO : Fld := ⟨15, 8⟩
def ENW_STATUS_STATE : Fld := ⟨2, 0⟩
def ENW_MOD_BUF (q : Side) (i : Nat) : Nat := q.base + 0xe000c + 0x100 * i
def ENW_MOD_BUF_REQUIRED : Fld := ⟨31, 16⟩
def ENW_MOD_BUF_BUF : Fld := ⟨15, 0⟩
def ENW_LINE (q : Side) (i : Nat) : Nat := q.base + 0xe0010 + 0x100 * i
def ENW_CNT0 (q : Side) (i : Nat) : Nat := q.base + 0xe0014 + 0x100 * i
def ENW_CNT1 (q : Side) (i : Nat) : Nat := q.base + 0xe0018 + 0x100 * i
def ENW_CNT1_BLANK : Fld := ⟨31, 16⟩
def ENW_CNT1_ABORTS : Fld := ⟨15, 0⟩
def ENW_TLM_CNT0 (q : Side) (i : Nat) : Nat := q.base + 0xe001c + 0x100 * i
def ENW_TLM_CNT0_TLM_CRC : Fld := ⟨31, 16⟩
def ENW_TLM_CNT0_LOOP_MISMATCH : Fld := ⟨15, 0⟩
def ENW_TLM_CNT1 (q : Side) (i : Nat) : Nat := q.base + 0xe0020 + 0x100 * i
def ENW_TLM_CNT1_HOLES : Fld := ⟨31, 16⟩
def ENW_TLM_CNT1_CRC_ERR : Fld := ⟨15, 0⟩
def ENW_TLM_CNT2 (q : Side) (i : Nat) : Nat := q.base + 0xe0024 + 0x100 * i
def ENW_TLM_CNT2_DUP : Fld := ⟨31, 16⟩
def ENW_TLM_CNT2_STALE : Fld := ⟨15, 0⟩
def ENW_MOD_STATUS (q : Side) (i : Nat) : Nat := q.base + 0xe0028 + 0x100 * i
def ENW_MOD_STATUS_FAULT_CODE : Fld := ⟨31, 24⟩
def ENW_MOD_STATUS_STATUS : Fld := ⟨7, 0⟩
def ENW_INSP_CTRL (q : Side) : Nat := q.base + 0xe0800
def ENW_INSP_CTRL_ENABLE : Fld := ⟨31, 31⟩
def ENW_INSP_CTRL_BUSY : Fld := ⟨30, 30⟩
def ENW_INSP_STATUS (q : Side) : Nat := q.base + 0xe0804
def ENW_INSP_STATUS_LANE_LOCK : Fld := ⟨31, 30⟩
def ENW_INSP_STATUS_ALIGNED : Fld := ⟨29, 29⟩
def ENW_INSP_STATUS_ROUTED : Fld := ⟨28, 28⟩
def ENW_INSP_STATUS_IN_IMAGE : Fld := ⟨27, 27⟩
def ENW_INSP_STATUS_LINE_BYTES : Fld := ⟨17, 0⟩
def ENW_INSP_CNT0 (q : Side) : Nat := q.base + 0xe0808
def ENW_INSP_CNT0_CRC_ERR : Fld := ⟨31, 16⟩
def ENW_INSP_CNT0_GAP_LINES : Fld := ⟨15, 0⟩
def ENW_INSP_CNT1 (q : Side) : Nat := q.base + 0xe080c
def ENW_INSP_CNT1_OUTSIDE : Fld := ⟨31, 16⟩
def ENW_INSP_CNT1_ORDER : Fld := ⟨15, 0⟩

/-! Registers QTR_*. -/

def QTR_ROLE (q : Side) : Nat := q.base + 0x0
def QTR_ROLE_TOKEN : Fld := ⟨31, 31⟩
def QTR_ROLE_PREFERRED : Fld := ⟨30, 30⟩
def QTR_ROLE_IN_OVERLAP : Fld := ⟨29, 29⟩
def QTR_ROLE_CAUGHT_UP : Fld := ⟨28, 28⟩
def QTR_ROLE_OTHER_ROLE : Fld := ⟨10, 8⟩
def QTR_ROLE_SELF : Fld := ⟨3, 3⟩
def QTR_ROLE_ROLE : Fld := ⟨2, 0⟩
def QTR_CFG (q : Side) : Nat := q.base + 0x4
def QTR_CFG_HANDOVER_H : Fld := ⟨31, 22⟩
def QTR_CFG_TEST_RETRIES : Fld := ⟨19, 16⟩
def QTR_CFG_FLAP_LIMIT : Fld := ⟨15, 8⟩
def QTR_CFG_RETURN_EN : Fld := ⟨1, 1⟩
def QTR_CFG_PREFERRED_SOUTH : Fld := ⟨0, 0⟩
def QTR_WD (q : Side) : Nat := q.base + 0x8
def QTR_WD_TML_WD_US : Fld := ⟨15, 0⟩
def QTR_CHK (q : Side) (i : Nat) : Nat := q.base + 0x10 + 0x4 * i
def QTR_CHK_N : Fld := ⟨31, 24⟩
def QTR_CHK_WINDOW : Fld := ⟨23, 0⟩
def QTR_CHK_STATUS (q : Side) : Nat := q.base + 0x30
def QTR_CHK_STATUS_PENDING : Fld := ⟨23, 16⟩
def QTR_CHK_STATUS_LASTING : Fld := ⟨7, 0⟩
def QTR_LAST_YIELD (q : Side) : Nat := q.base + 0x34
def QTR_LAST_YIELD_DOUBLE : Fld := ⟨8, 8⟩
def QTR_LAST_YIELD_CLASS : Fld := ⟨4, 3⟩
def QTR_LAST_YIELD_CHECK : Fld := ⟨2, 0⟩
def QTR_YIELD_TIME_LO (q : Side) : Nat := q.base + 0x38
def QTR_YIELD_TIME_HI (q : Side) : Nat := q.base + 0x3c
def QTR_TAKEOVER (q : Side) : Nat := q.base + 0x40
def QTR_TAKEOVER_OVERLAP : Fld := ⟨31, 16⟩
def QTR_TAKEOVER_MIRROR_AGE : Fld := ⟨15, 8⟩
def QTR_TAKEOVER_KIND : Fld := ⟨1, 0⟩
def QTR_CATCHUP (q : Side) : Nat := q.base + 0x44
def QTR_CATCHUP_CATCHUP : Fld := ⟨31, 16⟩
def QTR_CATCHUP_CUT : Fld := ⟨7, 0⟩
def QTR_MIRROR (q : Side) : Nat := q.base + 0x48
def QTR_MIRROR_BAD : Fld := ⟨31, 16⟩
def QTR_MIRROR_AGE : Fld := ⟨15, 0⟩
def QTR_TEST (q : Side) : Nat := q.base + 0x4c
def QTR_TEST_RETRIES_LEFT : Fld := ⟨23, 16⟩
def QTR_TEST_FAIL_STEP : Fld := ⟨15, 8⟩
def QTR_TEST_PASSED : Fld := ⟨0, 0⟩
def QTR_CNT (q : Side) : Nat := q.base + 0x50
def QTR_CNT_SOFT : Fld := ⟨31, 24⟩
def QTR_CNT_HARD : Fld := ⟨23, 16⟩
def QTR_CNT_RETURNS : Fld := ⟨15, 8⟩
def QTR_CNT_HANDOVERS : Fld := ⟨7, 0⟩
def QTR_CMD (q : Side) : Nat := q.base + 0x54
def QTR_CMD_OP : Fld := ⟨1, 0⟩
def QTR_HANDOVER_AGE (q : Side) : Nat := q.base + 0x58
def QTR_HANDOVER_AGE_HOURS : Fld := ⟨15, 0⟩

/-! Registers TML_*. -/

def TML_CTRL (q : Side) : Nat := q.base + 0x10000
def TML_CTRL_ENABLE : Fld := ⟨31, 31⟩
def TML_CTRL_BUSY : Fld := ⟨30, 30⟩
def TML_CTRL_WEB : Fld := ⟨29, 29⟩
def TML_CTRL_REJECT_GATE : Fld := ⟨28, 28⟩
def TML_CTRL_PITCH_SRC : Fld := ⟨5, 0⟩
def TML_PITCH (q : Side) : Nat := q.base + 0x10004
def TML_GRID (q : Side) : Nat := q.base + 0x10008
def TML_CMD (q : Side) : Nat := q.base + 0x1000c
def TML_CMD_OP : Fld := ⟨1, 0⟩
def TML_OFFSET (q : Side) (i : Nat) : Nat := q.base + 0x10010 + 0x4 * i
def TML_STATUS (q : Side) : Nat := q.base + 0x10030
def TML_STATUS_INSTANCES : Fld := ⟨20, 16⟩
def TML_STATUS_CLEAROUT : Fld := ⟨2, 2⟩
def TML_STATUS_WD : Fld := ⟨1, 1⟩
def TML_STATUS_LATE : Fld := ⟨0, 0⟩
def TML_CNT (q : Side) : Nat := q.base + 0x10034
def TML_CNT_BLANK : Fld := ⟨31, 16⟩
def TML_CNT_LATE_ENTRIES : Fld := ⟨15, 0⟩
def TML_LOG (q : Side) : Nat := q.base + 0x10038
def TML_POS_LO (q : Side) : Nat := q.base + 0x10040
def TML_POS_HI (q : Side) : Nat := q.base + 0x10044

/-! Registers SUP_*. -/

def SUP_CTRL (q : Side) : Nat := q.base + 0x20000
def SUP_CTRL_ENABLE : Fld := ⟨31, 31⟩
def SUP_CTRL_BUSY : Fld := ⟨30, 30⟩
def SUP_STATUS (q : Side) : Nat := q.base + 0x20004
def SUP_STATUS_LAST_RULE : Fld := ⟨23, 16⟩
def SUP_STATUS_SWEEP_US_MAX : Fld := ⟨15, 0⟩
def SUP_FIRED (q : Side) (i : Nat) : Nat := q.base + 0x20010 + 0x4 * i
def SUP_TRUE (q : Side) (i : Nat) : Nat := q.base + 0x20030 + 0x4 * i
def SUP_CNT (q : Side) : Nat := q.base + 0x20050

/-! Registers REG_*. -/

def REG_CTRL (q : Side) : Nat := q.base + 0x40000
def REG_CTRL_ENABLE : Fld := ⟨31, 31⟩
def REG_CTRL_BUSY : Fld := ⟨30, 30⟩
def REG_BASE (q : Side) : Nat := q.base + 0x40004
def REG_BASE_BASE_CYC : Fld := ⟨15, 0⟩
def REG_STATUS (q : Side) : Nat := q.base + 0x40008
def REG_STATUS_TICK : Fld := ⟨23, 16⟩
def REG_STATUS_TICK_MAX : Fld := ⟨15, 0⟩
def REG_OS_CFG (q : Side) : Nat := q.base + 0x4000c
def REG_OS_CFG_OS_COUNT : Fld := ⟨31, 28⟩
def REG_OS_CFG_OPEN_CODE : Fld := ⟨23, 12⟩
def REG_OS_CFG_SHORT_CODE : Fld := ⟨11, 0⟩
def REG_FALLBACK (q : Side) (i : Nat) : Nat := q.base + 0x40010 + 0x4 * i
def REG_SLOT_CTRL (q : Side) (i : Nat) : Nat := q.base + 0x41000 + 0x40 * i
def REG_SLOT_CTRL_ENABLE : Fld := ⟨31, 31⟩
def REG_SLOT_CTRL_BUSY : Fld := ⟨30, 30⟩
def REG_SLOT_CTRL_MODE : Fld := ⟨29, 29⟩
def REG_SLOT_SP (q : Side) (i : Nat) : Nat := q.base + 0x41004 + 0x40 * i
def REG_SLOT_OUT (q : Side) (i : Nat) : Nat := q.base + 0x41008 + 0x40 * i
def REG_SLOT_FB (q : Side) (i : Nat) : Nat := q.base + 0x4100c + 0x40 * i
def REG_SLOT_STATUS (q : Side) (i : Nat) : Nat := q.base + 0x41010 + 0x40 * i
def REG_SLOT_STATUS_IN_FALLBACK : Fld := ⟨31, 31⟩
def REG_SLOT_STATUS_CAUSE : Fld := ⟨30, 28⟩
def REG_SLOT_STATUS_QUEUED : Fld := ⟨27, 24⟩
def REG_SLOT_STATUS_SLEWING : Fld := ⟨23, 23⟩
def REG_SLOT_STATUS_SAT : Fld := ⟨22, 22⟩
def REG_SLOT_STATUS_QUEUE_OVF : Fld := ⟨21, 21⟩
def REG_SLOT_STATUS_LAST_DELAY : Fld := ⟨15, 0⟩
def REG_SLOT_CMD (q : Side) (i : Nat) : Nat := q.base + 0x41014 + 0x40 * i
def REG_SLOT_CMD_OP : Fld := ⟨1, 0⟩
def REG_SLOT_INT (q : Side) (i : Nat) : Nat := q.base + 0x41018 + 0x40 * i
def REG_COEF_C0 (q : Side) (i j : Nat) : Nat := q.base + 0x50000 + 0x80 * i + 0x10 * j
def REG_COEF_C1 (q : Side) (i j : Nat) : Nat := q.base + 0x50004 + 0x80 * i + 0x10 * j
def REG_COEF_C2 (q : Side) (i j : Nat) : Nat := q.base + 0x50008 + 0x80 * i + 0x10 * j
def REG_COEF_SHIFT (q : Side) (i j : Nat) : Nat := q.base + 0x5000c + 0x80 * i + 0x10 * j
def REG_COEF_SHIFT_S2 : Fld := ⟨14, 10⟩
def REG_COEF_SHIFT_S1 : Fld := ⟨9, 5⟩
def REG_COEF_SHIFT_S0 : Fld := ⟨4, 0⟩

/-! Registers MOT_*. -/

def MOT_CTRL (q : Side) : Nat := q.base + 0x80000
def MOT_CTRL_ENABLE : Fld := ⟨31, 31⟩
def MOT_CTRL_BUSY : Fld := ⟨30, 30⟩
def MOT_PWM_PERIOD (q : Side) (i : Nat) : Nat := q.base + 0x80010 + 0x4 * i
def MOT_PWM_PERIOD_DEAD : Fld := ⟨31, 24⟩
def MOT_PWM_PERIOD_PERIOD : Fld := ⟨15, 0⟩
def MOT_PWM_IDLE (q : Side) (i : Nat) : Nat := q.base + 0x80020 + 0x4 * i
def MOT_BUS_THR (q : Side) (i : Nat) : Nat := q.base + 0x80030 + 0x8 * i
def MOT_BUS_THR_CHOP_ON : Fld := ⟨31, 16⟩
def MOT_BUS_THR_CHOP_OFF : Fld := ⟨15, 0⟩
def MOT_BUS_HARD (q : Side) (i : Nat) : Nat := q.base + 0x80034 + 0x8 * i
def MOT_BUS_HARD_HARD : Fld := ⟨15, 0⟩
def MOT_BUS_STATUS (q : Side) : Nat := q.base + 0x80040
def MOT_BUS_STATUS_CHOP_ON : Fld := ⟨5, 4⟩
def MOT_BUS_STATUS_HARD_TRIP : Fld := ⟨3, 2⟩
def MOT_BUS_STATUS_CHOP_FAULT : Fld := ⟨1, 0⟩
def MOT_BUS_V (q : Side) : Nat := q.base + 0x80044
def MOT_BUS_V_V1 : Fld := ⟨31, 16⟩
def MOT_BUS_V_V0 : Fld := ⟨15, 0⟩
def MOT_CMD (q : Side) : Nat := q.base + 0x80048
def MOT_CMD_OP : Fld := ⟨1, 0⟩
def MOT_POLY_CTRL (q : Side) (i : Nat) : Nat := q.base + 0x81000 + 0x40 * i
def MOT_POLY_CTRL_ENABLE : Fld := ⟨31, 31⟩
def MOT_POLY_CTRL_BUSY : Fld := ⟨30, 30⟩
def MOT_POLY_STATUS (q : Side) (i : Nat) : Nat := q.base + 0x81004 + 0x40 * i
def MOT_POLY_STATUS_CONF : Fld := ⟨31, 24⟩
def MOT_POLY_STATUS_ATTEMPTS : Fld := ⟨17, 16⟩
def MOT_POLY_STATUS_FAULT : Fld := ⟨11, 11⟩
def MOT_POLY_STATUS_RESYNC_FAIL : Fld := ⟨10, 10⟩
def MOT_POLY_STATUS_LOST : Fld := ⟨9, 9⟩
def MOT_POLY_STATUS_REVERSE_SEEN : Fld := ⟨8, 8⟩
def MOT_POLY_STATUS_STATE : Fld := ⟨2, 0⟩
def MOT_POLY_SPEED (q : Side) (i : Nat) : Nat := q.base + 0x81008 + 0x40 * i
def MOT_POLY_LIM (q : Side) (i : Nat) : Nat := q.base + 0x8100c + 0x40 * i
def MOT_POLY_LIM_CMD_SLEW : Fld := ⟨15, 0⟩
def MOT_POLY_CNT (q : Side) (i : Nat) : Nat := q.base + 0x81010 + 0x40 * i
def MOT_POLY_CNT_SHUNT_SKIP : Fld := ⟨31, 16⟩
def MOT_POLY_CNT_RESYNCS : Fld := ⟨15, 0⟩
def MOT_PMSM_CTRL (q : Side) (i : Nat) : Nat := q.base + 0x82000 + 0x40 * i
def MOT_PMSM_CTRL_ENABLE : Fld := ⟨31, 31⟩
def MOT_PMSM_CTRL_BUSY : Fld := ⟨30, 30⟩
def MOT_PMSM_STATUS (q : Side) (i : Nat) : Nat := q.base + 0x82004 + 0x40 * i
def MOT_PMSM_STATUS_ENC_FAULT : Fld := ⟨3, 3⟩
def MOT_PMSM_STATUS_INDEXED : Fld := ⟨2, 2⟩
def MOT_PMSM_STATUS_REGEN_ZERO : Fld := ⟨1, 1⟩
def MOT_PMSM_STATUS_RUNNING : Fld := ⟨0, 0⟩
def MOT_PMSM_IDQ (q : Side) (i : Nat) : Nat := q.base + 0x82008 + 0x40 * i
def MOT_PMSM_IDQ_IQ : Fld := ⟨31, 16⟩
def MOT_PMSM_IDQ_ID : Fld := ⟨15, 0⟩
def MOT_PMSM_CNT (q : Side) (i : Nat) : Nat := q.base + 0x8200c + 0x40 * i
def MOT_PMSM_CNT_SHUNT_SKIP : Fld := ⟨31, 16⟩
def MOT_PMSM_CNT_ENC_ERR : Fld := ⟨15, 0⟩

/-! Registers AXS_*. -/

def AXS_CTRL (q : Side) : Nat := q.base + 0xa0000
def AXS_CTRL_ENABLE : Fld := ⟨31, 31⟩
def AXS_CTRL_BUSY : Fld := ⟨30, 30⟩
def AXS_BUS_STATUS (q : Side) : Nat := q.base + 0xa0004
def AXS_BUS_STATUS_SEQ : Fld := ⟨31, 16⟩
def AXS_BUS_STATUS_STATE0 : Fld := ⟨1, 0⟩
def AXS_BUS_STATUS_STATE1 : Fld := ⟨3, 2⟩
def AXS_BUS_STATUS_STATE2 : Fld := ⟨5, 4⟩
def AXS_BUS_STATUS_STATE3 : Fld := ⟨7, 6⟩
def AXS_CHAIN_CFG (q : Side) (i : Nat) : Nat := q.base + 0xa0100 + 0x40 * i
def AXS_CHAIN_CFG_DRIVERS : Fld := ⟨3, 0⟩
def AXS_CHAIN_CNT (q : Side) (i : Nat) : Nat := q.base + 0xa0104 + 0x40 * i
def AXS_CHAIN_CNT_CMD_CRC : Fld := ⟨31, 16⟩
def AXS_CHAIN_CNT_MISSED : Fld := ⟨15, 0⟩
def AXS_ENC_CFG (q : Side) (i : Nat) : Nat := q.base + 0xa0400 + 0x20 * i
def AXS_ENC_CFG_DIR : Fld := ⟨16, 16⟩
def AXS_ENC_CFG_GLITCH : Fld := ⟨15, 8⟩
def AXS_ENC_CFG_HYST : Fld := ⟨7, 0⟩
def AXS_ENC_RAW (q : Side) (i : Nat) : Nat := q.base + 0xa0404 + 0x20 * i
def AXS_ENC_POS (q : Side) (i : Nat) : Nat := q.base + 0xa0408 + 0x20 * i
def AXS_ENC_ERR (q : Side) (i : Nat) : Nat := q.base + 0xa040c + 0x20 * i
def AXS_SSI_CFG (q : Side) : Nat := q.base + 0xa0520
def AXS_SSI_CFG_GRAY : Fld := ⟨16, 16⟩
def AXS_SSI_CFG_BITS : Fld := ⟨13, 8⟩
def AXS_SSI_CFG_CLK_DIV : Fld := ⟨7, 0⟩
def AXS_CFG (q : Side) (i : Nat) : Nat := q.base + 0xa1000 + 0x80 * i
def AXS_CFG_CHAIN : Fld := ⟨27, 26⟩
def AXS_CFG_SLOT : Fld := ⟨25, 23⟩
def AXS_CFG_DIR_INV : Fld := ⟨22, 22⟩
def AXS_CFG_LIMP_LVL : Fld := ⟨21, 21⟩
def AXS_CFG_LIMP_EN : Fld := ⟨20, 20⟩
def AXS_CFG_LIMN_LVL : Fld := ⟨19, 19⟩
def AXS_CFG_LIMN_EN : Fld := ⟨18, 18⟩
def AXS_CFG_LIM_POS : Fld := ⟨17, 12⟩
def AXS_CFG_LIM_NEG : Fld := ⟨5, 0⟩
def AXS_ACTL (q : Side) (i : Nat) : Nat := q.base + 0xa1004 + 0x80 * i
def AXS_ACTL_ENABLE : Fld := ⟨31, 31⟩
def AXS_ACTL_BUSY : Fld := ⟨30, 30⟩
def AXS_ACTL_PROFILE : Fld := ⟨5, 0⟩
def AXS_TARGET (q : Side) (i : Nat) : Nat := q.base + 0xa1008 + 0x80 * i
def AXS_POS (q : Side) (i : Nat) : Nat := q.base + 0xa100c + 0x80 * i
def AXS_VEL (q : Side) (i : Nat) : Nat := q.base + 0xa1010 + 0x80 * i
def AXS_STOP_DEC (q : Side) (i : Nat) : Nat := q.base + 0xa1014 + 0x80 * i
def AXS_STOP_JERK (q : Side) (i : Nat) : Nat := q.base + 0xa1018 + 0x80 * i
def AXS_SOFT_MIN (q : Side) (i : Nat) : Nat := q.base + 0xa101c + 0x80 * i
def AXS_SOFT_MAX (q : Side) (i : Nat) : Nat := q.base + 0xa1020 + 0x80 * i
def AXS_HOME_CFG (q : Side) (i : Nat) : Nat := q.base + 0xa1024 + 0x80 * i
def AXS_HOME_CFG_DIR : Fld := ⟨31, 31⟩
def AXS_HOME_CFG_PROFILE : Fld := ⟨29, 24⟩
def AXS_HOME_CFG_SETTLE_MS : Fld := ⟨23, 16⟩
def AXS_HOME_CFG_BACKOFF : Fld := ⟨15, 0⟩
def AXS_HOME_DIST (q : Side) (i : Nat) : Nat := q.base + 0xa1028 + 0x80 * i
def AXS_HOME_POS (q : Side) (i : Nat) : Nat := q.base + 0xa102c + 0x80 * i
def AXS_FE_CFG (q : Side) (i : Nat) : Nat := q.base + 0xa1030 + 0x80 * i
def AXS_FE_CFG_EN : Fld := ⟨31, 31⟩
def AXS_FE_CFG_SRC : Fld := ⟨27, 24⟩
def AXS_FE_CFG_SCALE : Fld := ⟨23, 0⟩
def AXS_STATUS (q : Side) (i : Nat) : Nat := q.base + 0xa1034 + 0x80 * i
def AXS_STATUS_HOMED : Fld := ⟨31, 31⟩
def AXS_STATUS_HOMING : Fld := ⟨30, 30⟩
def AXS_STATUS_FAULT : Fld := ⟨29, 29⟩
def AXS_STATUS_MOVING : Fld := ⟨28, 28⟩
def AXS_STATUS_STOPPING : Fld := ⟨27, 27⟩
def AXS_STATUS_LIMIT_DEFERRED : Fld := ⟨26, 26⟩
def AXS_STATUS_TARGET_ERR : Fld := ⟨25, 25⟩
def AXS_STATUS_LIMIT_HIT : Fld := ⟨24, 24⟩
def AXS_STATUS_CHATTER : Fld := ⟨23, 23⟩
def AXS_STATUS_STALL : Fld := ⟨22, 22⟩
def AXS_STATUS_HOME_FAULT : Fld := ⟨21, 21⟩
def AXS_STATUS_COMM : Fld := ⟨20, 20⟩
def AXS_STATUS_LIM_POS : Fld := ⟨19, 19⟩
def AXS_STATUS_LIM_NEG : Fld := ⟨18, 18⟩
def AXS_CMD (q : Side) (i : Nat) : Nat := q.base + 0xa1038 + 0x80 * i
def AXS_CMD_OP : Fld := ⟨1, 0⟩
def AXS_DRV_STATUS (q : Side) (i : Nat) : Nat := q.base + 0xa103c + 0x80 * i
def AXS_DRV_POS (q : Side) (i : Nat) : Nat := q.base + 0xa1040 + 0x80 * i

/-! Registers CLK_*. -/

def CLK_STATUS : Nat := 0x10020000
def CLK_STATUS_NMI : Fld := ⟨6, 6⟩
def CLK_STATUS_CLASS_A_WAIT : Fld := ⟨5, 5⟩
def CLK_STATUS_PIX_N_HIGH : Fld := ⟨4, 4⟩
def CLK_STATUS_PIX_S_HIGH : Fld := ⟨3, 3⟩
def CLK_STATUS_PCIE_HIGH : Fld := ⟨2, 2⟩
def CLK_STATUS_ARMED : Fld := ⟨1, 1⟩
def CLK_STATUS_IOSC_READY : Fld := ⟨0, 0⟩
def CLK_MON_CFG : Nat := 0x10020004
def CLK_MON_CFG_TOL : Fld := ⟨7, 0⟩
def CLK_FAIL : Nat := 0x10020008
def CLK_FAIL_FAIL : Fld := ⟨8, 0⟩
def CLK_MON_EN : Nat := 0x1002000c
def CLK_MON_EN_EN : Fld := ⟨8, 0⟩
def CLK_MUX (i : Nat) : Nat := 0x10020010 + 0x4 * i
def CLK_MUX_FORCE_ERR : Fld := ⟨6, 6⟩
def CLK_MUX_MUX_STALL : Fld := ⟨5, 5⟩
def CLK_MUX_ON_FALLBACK : Fld := ⟨4, 4⟩
def CLK_MUX_PENDING : Fld := ⟨3, 3⟩
def CLK_MUX_FORCE : Fld := ⟨2, 2⟩
def CLK_MUX_RETURN_EN : Fld := ⟨1, 1⟩
def CLK_MUX_SEL : Fld := ⟨0, 0⟩
def CLK_GATE : Nat := 0x10020030
def CLK_GATE_CLOSE : Fld := ⟨5, 2⟩
def CLK_GATE_STATUS : Nat := 0x10020034
def CLK_GATE_STATUS_FORCED : Fld := ⟨13, 10⟩
def CLK_GATE_STATUS_CLOSED : Fld := ⟨5, 2⟩
def CLK_SEQ : Nat := 0x10020038
def CLK_SEQ_STEP_US_MAX : Fld := ⟨31, 16⟩
def CLK_SEQ_QUEUED : Fld := ⟨1, 1⟩
def CLK_SEQ_BUSY : Fld := ⟨0, 0⟩
def CLK_FREQ (i : Nat) : Nat := 0x10020040 + 0x4 * i

/-! Registers PWR_*. -/

def PWR_STATUS : Nat := 0x10030000
def PWR_STATUS_SEQ_BUSY : Fld := ⟨31, 31⟩
def PWR_STATUS_SHUTDOWN : Fld := ⟨30, 30⟩
def PWR_STATUS_MARGIN_ACTIVE : Fld := ⟨29, 29⟩
def PWR_STATUS_PBTN_REQ : Fld := ⟨28, 28⟩
def PWR_STATUS_FAULT_CAUSE : Fld := ⟨23, 20⟩
def PWR_STATUS_FAULT_RAIL : Fld := ⟨12, 8⟩
def PWR_STATUS_SEQ_POS : Fld := ⟨4, 0⟩
def PWR_CFG : Nat := 0x10030004
def PWR_CFG_D5_IDLE_MS : Fld := ⟨15, 8⟩
def PWR_CFG_MRST_RETAIN : Fld := ⟨1, 1⟩
def PWR_CFG_PMB_400K : Fld := ⟨0, 0⟩
def PWR_CMD : Nat := 0x10030008
def PWR_CMD_OP : Fld := ⟨1, 0⟩
def PWR_DOM_STATUS : Nat := 0x1003000c
def PWR_DOM_STATUS_BUSY : Fld := ⟨29, 16⟩
def PWR_DOM_STATUS_ON : Fld := ⟨13, 0⟩
def PWR_DOM_ABORT : Nat := 0x10030010
def PWR_DOM_ABORT_COUNT : Fld := ⟨15, 0⟩
def PWR_RAIL_EN : Nat := 0x10030014
def PWR_RAIL_EN_EN : Fld := ⟨23, 0⟩
def PWR_RAIL_PG : Nat := 0x10030018
def PWR_RAIL_PG_PG : Fld := ⟨23, 0⟩
def PWR_RAIL_RETAIN : Nat := 0x1003001c
def PWR_RAIL_RETAIN_RETAIN : Fld := ⟨23, 0⟩
def PWR_PG_DROPS : Nat := 0x10030020
def PWR_PG_DROPS_DROPS : Fld := ⟨15, 0⟩
def PWR_MGN_CTRL : Nat := 0x10030024
def PWR_MGN_CTRL_MODE : Fld := ⟨31, 30⟩
def PWR_MGN_CTRL_RAIL : Fld := ⟨20, 16⟩
def PWR_MGN_CTRL_STEPS : Fld := ⟨7, 0⟩
def PWR_MGN_PMB : Nat := 0x10030028
def PWR_MGN_PMB_VALUE : Fld := ⟨15, 0⟩
def PWR_MGN_ACTIVE : Nat := 0x1003002c
def PWR_MGN_ACTIVE_REFUSED : Fld := ⟨31, 31⟩
def PWR_MGN_ACTIVE_PMB_NACK : Fld := ⟨30, 30⟩
def PWR_MGN_ACTIVE_ACTIVE : Fld := ⟨23, 0⟩
def PWR_PMB_STATUS : Nat := 0x10030030
def PWR_PMB_STATUS_RAIL : Fld := ⟨20, 16⟩
def PWR_PMB_STATUS_STATUS_WORD : Fld := ⟨15, 0⟩
def PWR_VIN : Nat := 0x10030034
def PWR_VIN_VIN_MIN : Fld := ⟨31, 16⟩
def PWR_VIN_VIN : Fld := ⟨15, 0⟩
def PWR_PACE : Nat := 0x10030038
def PWR_PACE_REQ : Fld := ⟨5, 4⟩
def PWR_PACE_CHANGING : Fld := ⟨3, 3⟩
def PWR_PACE_LEVEL : Fld := ⟨1, 0⟩

/-! Registers THM_*. -/

def THM_STATUS : Nat := 0x10080000
def THM_STATUS_F : Fld := ⟨23, 16⟩
def THM_STATUS_ENFORCING : Fld := ⟨15, 15⟩
def THM_STATUS_GRACE : Fld := ⟨14, 14⟩
def THM_STATUS_THROTTLE : Fld := ⟨13, 13⟩
def THM_STATUS_WARN : Fld := ⟨12, 12⟩
def THM_STATUS_WRITE_HOLD : Fld := ⟨11, 11⟩
def THM_STATUS_STOPPED : Fld := ⟨10, 10⟩
def THM_CFG : Nat := 0x10080004
def THM_CFG_GRACE_MS : Fld := ⟨31, 16⟩
def THM_CFG_PS_ENFORCE_PCT : Fld := ⟨15, 8⟩
def THM_SENSOR_FAIL_LO : Nat := 0x10080010
def THM_SENSOR_FAIL_HI : Nat := 0x10080014
def THM_SENSOR_FAIL_HI_FAIL : Fld := ⟨7, 0⟩
def THM_ENF_CNT : Nat := 0x10080018
def THM_ENF_CNT_STOPS : Fld := ⟨31, 16⟩
def THM_ENF_CNT_BLANKS : Fld := ⟨15, 0⟩
def THM_ZONE_STATUS (i : Nat) : Nat := 0x10080100 + 0x10 * i
def THM_ZONE_STATUS_TEMP : Fld := ⟨31, 16⟩
def THM_ZONE_STATUS_RATE : Fld := ⟨15, 8⟩
def THM_ZONE_STATUS_ALL_FAILED : Fld := ⟨4, 4⟩
def THM_ZONE_STATUS_RISE : Fld := ⟨3, 3⟩
def THM_ZONE_STATUS_LEVEL : Fld := ⟨2, 0⟩
def THM_ZONE_MAX (i : Nat) : Nat := 0x10080104 + 0x10 * i
def THM_ZONE_MAX_MAX : Fld := ⟨15, 0⟩
def THM_SENSOR_TEMP (i : Nat) : Nat := 0x10080400 + 0x4 * i
def THM_SENSOR_TEMP_TEMP : Fld := ⟨15, 0⟩

/-! Registers DEV_*. -/

def DEV_ID : Nat := 0x10000000
def DEV_ID_VENDOR : Fld := ⟨31, 16⟩
def DEV_ID_STEPPING : Fld := ⟨15, 8⟩
def DEV_PART : Nat := 0x10000004
def DEV_PART_DEVICE : Fld := ⟨15, 0⟩
def DEV_SERIAL (i : Nat) : Nat := 0x10000008 + 0x4 * i
def DEV_STATUS : Nat := 0x10000018
def DEV_STATUS_STATE : Fld := ⟨2, 0⟩
def DEV_KEYS : Nat := 0x1000001c
def DEV_KEYS_REQUIRE_SIGNED : Fld := ⟨4, 4⟩
def DEV_KEYS_PROGRAMMED : Fld := ⟨3, 0⟩

/-! Registers CNS_*. -/

def CNS_CTRL : Nat := 0x100a0000
def CNS_CTRL_ENABLE : Fld := ⟨31, 31⟩
def CNS_CTRL_BUSY : Fld := ⟨30, 30⟩
def CNS_CTRL_SPEED : Fld := ⟨1, 0⟩
def CNS_CFG : Nat := 0x100a0004
def CNS_CFG_WB_SHEETS : Fld := ⟨31, 16⟩
def CNS_CFG_AUTH_REQ : Fld := ⟨3, 3⟩
def CNS_CFG_AUTH_SLOT : Fld := ⟨1, 0⟩
def CNS_STATUS (i : Nat) : Nat := 0x100a0100 + 0x20 * i
def CNS_STATUS_WB_LOST : Fld := ⟨10, 10⟩
def CNS_STATUS_WB_DEFERRED : Fld := ⟨9, 9⟩
def CNS_STATUS_NO_COUNT : Fld := ⟨8, 8⟩
def CNS_STATUS_EOL : Fld := ⟨7, 7⟩
def CNS_STATUS_LIFE_WARN : Fld := ⟨6, 6⟩
def CNS_STATUS_AUTH_FAIL : Fld := ⟨5, 5⟩
def CNS_STATUS_KIND_ERR : Fld := ⟨4, 4⟩
def CNS_STATUS_BLOCK_ERR : Fld := ⟨3, 3⟩
def CNS_STATUS_NO_ANSWER : Fld := ⟨2, 2⟩
def CNS_STATUS_AUTH_OK : Fld := ⟨1, 1⟩
def CNS_STATUS_PRESENT : Fld := ⟨0, 0⟩
def CNS_UNIT_LO (i : Nat) : Nat := 0x100a0104 + 0x20 * i
def CNS_UNIT_HI (i : Nat) : Nat := 0x100a0108 + 0x20 * i
def CNS_BANDS_LO (i : Nat) : Nat := 0x100a010c + 0x20 * i
def CNS_BANDS_HI (i : Nat) : Nat := 0x100a0110 + 0x20 * i
def CNS_RATED (i : Nat) : Nat := 0x100a0114 + 0x20 * i

/-! Registers LDG_*. -/

def LDG_STICKY (i : Nat) : Nat := 0x10090000 + 0x4 * i
def LDG_NMI : Nat := 0x10090020
def LDG_NMI_ASSERTED : Fld := ⟨31, 31⟩
def LDG_NMI_THERM_TRIP : Fld := ⟨4, 4⟩
def LDG_NMI_LEDGER : Fld := ⟨3, 3⟩
def LDG_NMI_KERB : Fld := ⟨2, 2⟩
def LDG_NMI_IOSC : Fld := ⟨1, 1⟩
def LDG_NMI_CLOCK : Fld := ⟨0, 0⟩
def LDG_JNL_HEAD : Nat := 0x10090024
def LDG_CFG : Nat := 0x10090028
def LDG_CFG_KERB_NMI : Fld := ⟨0, 0⟩
def LDG_CLEAR : Nat := 0x1009002c
def LDG_CLEAR_KEY : Fld := ⟨15, 0⟩
def LDG_CNT (i : Nat) : Nat := 0x10090400 + 0x4 * i
def LDG_CNT_LASTING : Fld := ⟨31, 16⟩
def LDG_CNT_EVENTS : Fld := ⟨15, 0⟩

/-! Registers KRB_*. -/

def KRB_STATUS : Nat := 0x100d0000
def KRB_STATUS_SAFE : Fld := ⟨31, 31⟩
def KRB_STATUS_FORCING : Fld := ⟨30, 30⟩
def KRB_STATUS_CLEAR_REFUSED : Fld := ⟨29, 29⟩
def KRB_STATUS_LIVE : Fld := ⟨10, 0⟩
def KRB_CAUSE : Nat := 0x100d0004
def KRB_CAUSE_FIRST : Fld := ⟨31, 28⟩
def KRB_CAUSE_CAUSE : Fld := ⟨10, 0⟩
def KRB_CMD : Nat := 0x100d0008
def KRB_CMD_KEY : Fld := ⟨31, 16⟩
def KRB_CMD_OP : Fld := ⟨1, 0⟩
def KRB_GPIO_MASK_LO : Nat := 0x100d000c
def KRB_GPIO_MASK_HI : Nat := 0x100d0010
def KRB_GPIO_LEVEL_LO : Nat := 0x100d0014
def KRB_GPIO_LEVEL_HI : Nat := 0x100d0018
def KRB_ENABLES : Nat := 0x100d001c
def KRB_ENABLES_STATION_FORCED : Fld := ⟨23, 16⟩
def KRB_ENABLES_BUS_FORCED : Fld := ⟨13, 12⟩
def KRB_ENABLES_HTEN : Fld := ⟨9, 9⟩
def KRB_ENABLES_HVEN : Fld := ⟨8, 8⟩
def KRB_ENABLES_LEN : Fld := ⟨7, 0⟩
def KRB_TIME_LO : Nat := 0x100d0020
def KRB_TIME_HI : Nat := 0x100d0024

/-- Rows of CFG_*. -/
def regTableCfg : List RegRow := [
  ⟨0x10010000, [], 0x0, 0x0, 0x0, 0x300⟩,
  ⟨0x10010004, [], 0x0, 0x0, 0x0, 0x0⟩,
  ⟨0x10010008, [], 0x0, 0x0, 0x0, 0x0⟩,
  ⟨0x1001000c, [], 0x0, 0x0, 0x0, 0x0⟩,
  ⟨0x10010010, [], 0x0, 0x0, 0x0, 0x0⟩,
  ⟨0x10010014, [], 0x0, 0x0, 0x0, 0x0⟩,
  ⟨0x10010018, [], 0x0, 0x0, 0x0, 0x0⟩,
  ⟨0x10010020, [], 0xffffffff, 0x0, 0x0, 0x0⟩,
  ⟨0x10010024, [], 0xffffffff, 0x0, 0x0, 0x0⟩,
  ⟨0x10010028, [], 0xffffffff, 0x0, 0x0, 0x0⟩,
  ⟨0x1001002c, [], 0xffffffff, 0x0, 0x0, 0x0⟩,
  ⟨0x10010030, [], 0x0, 0x0, 0x0, 0x0⟩,
  ⟨0x10010034, [], 0x0, 0x0, 0x0, 0x0⟩]

/-- Rows of PGS_*. -/
def regTablePgs : List RegRow := [
  ⟨0x10060800, [], 0x0, 0x0, 0x0, 0x0⟩,
  ⟨0x10060804, [], 0x0, 0x0, 0x0, 0x0⟩,
  ⟨0x10060808, [], 0x0, 0x0, 0x0, 0x0⟩,
  ⟨0x1006080c, [], 0x0, 0x0, 0x0, 0x0⟩,
  ⟨0x10060810, [], 0x0, 0x0, 0x0, 0x0⟩,
  ⟨0x10060814, [], 0x0, 0x0, 0x0, 0x0⟩,
  ⟨0x10060818, [], 0x0, 0x0, 0x0, 0x0⟩,
  ⟨0x1006081c, [], 0x0, 0x0, 0x0, 0x0⟩,
  ⟨0x10060900, [], 0x0, 0xfffffff3, 0x0, 0xc80282⟩,
  ⟨0x10060904, [], 0x0, 0x0, 0x0, 0x0⟩,
  ⟨0x10060908, [], 0x0, 0x0, 0x0, 0x0⟩,
  ⟨0x1006090c, [], 0x0, 0x0, 0x0, 0x0⟩,
  ⟨0x10060910, [], 0x0, 0x0, 0x0, 0x0⟩,
  ⟨0x10060000, [], 0x0, 0xffffffff, 0x0, 0x40⟩,
  ⟨0x10060004, [], 0x0, 0x0, 0x0, 0x0⟩,
  ⟨0x10060008, [], 0x0, 0x0, 0x0, 0x0⟩,
  ⟨0x1006000c, [], 0x0, 0x0, 0x0, 0x0⟩]

/-- Rows of HIF_*. -/
def regTableHif : List RegRow := [
  ⟨0x10070000, [], 0x0, 0x0, 0x0, 0x0⟩,
  ⟨0x10070100, [(0x40, 3)], 0xffffffff, 0x0, 0x0, 0x0⟩,
  ⟨0x10070104, [(0x40, 3)], 0xffffffff, 0x0, 0x0, 0x0⟩,
  ⟨0x10070108, [(0x40, 3)], 0x8000061f, 0x0, 0x0, 0x4⟩,
  ⟨0x1007010c, [(0x40, 3)], 0x0, 0x0, 0x0, 0x0⟩,
  ⟨0x10070110, [(0x40, 3)], 0x0, 0x0, 0x0, 0x0⟩,
  ⟨0x10070114, [(0x40, 3)], 0xffffffff, 0x0, 0x0, 0x0⟩,
  ⟨0x10070118, [(0x40, 3)], 0xffffffff, 0x0, 0x0, 0x0⟩,
  ⟨0x1007011c, [(0x40, 3)], 0x0, 0x0, 0x0, 0x0⟩,
  ⟨0x10070120, [(0x40, 3)], 0x0, 0x0, 0x0, 0x0⟩,
  ⟨0x10070124, [], 0x0, 0x0, 0x0, 0x0⟩,
  ⟨0x10070128, [], 0x0, 0x0, 0x0, 0x0⟩,
  ⟨0x10070200, [], 0xffffffff, 0x0, 0x0, 0x0⟩,
  ⟨0x10070204, [], 0xffffffff, 0x0, 0x0, 0x0⟩,
  ⟨0x10070208, [], 0x8000001f, 0x0, 0x0, 0x4⟩,
  ⟨0x1007020c, [], 0x0, 0x0, 0x0, 0x0⟩,
  ⟨0x10070210, [], 0x0, 0x0, 0x0, 0x0⟩,
  ⟨0x10070214, [], 0x0, 0x0, 0x0, 0x0⟩,
  ⟨0x10070218, [], 0xffff00ff, 0x0, 0x0, 0x1⟩,
  ⟨0x10070220, [(0x4, 4)], 0x3f3f3f3f, 0x0, 0x0, 0x0⟩,
  ⟨0x10071000, [(0x10, 256)], 0x0, 0xffffffff, 0x0, 0x0⟩,
  ⟨0x10071004, [(0x10, 256)], 0x0, 0x9f1f, 0x0, 0x1f00⟩,
  ⟨0x10071008, [(0x10, 256)], 0x0, 0xffffffff, 0x0, 0x0⟩,
  ⟨0x1007100c, [(0x10, 256)], 0x0, 0xffffffff, 0x0, 0x0⟩]

/-- Rows of ALYS_*. -/
def regTableAlys : List RegRow := [
  ⟨0x100b0000, [(0x40, 16)], 0xffffffff, 0x0, 0x0, 0x0⟩,
  ⟨0x100b0004, [(0x40, 16)], 0xffffffff, 0x0, 0x0, 0x0⟩,
  ⟨0x100b0008, [(0x40, 16)], 0xffffffff, 0x0, 0x0, 0x0⟩,
  ⟨0x100b000c, [(0x40, 16)], 0xffffffff, 0x0, 0x0, 0x0⟩,
  ⟨0x100b0010, [(0x40, 16)], 0xffffffff, 0x0, 0x0, 0x0⟩,
  ⟨0x100b0014, [(0x40, 16)], 0x80000e77, 0x0, 0x0, 0x0⟩,
  ⟨0x100b0018, [(0x40, 16)], 0xffffffff, 0x0, 0x0, 0x0⟩,
  ⟨0x100b001c, [(0x40, 16)], 0x0, 0x0, 0x100, 0x0⟩]

/-- Rows of ALYQ_*. -/
def regTableAlyqQ : List RegRow := [
  ⟨0xf0000, [(0x40, 16)], 0xffffffff, 0x0, 0x0, 0x0⟩,
  ⟨0xf0004, [(0x40, 16)], 0xffffffff, 0x0, 0x0, 0x0⟩,
  ⟨0xf0008, [(0x40, 16)], 0xffffffff, 0x0, 0x0, 0x0⟩,
  ⟨0xf000c, [(0x40, 16)], 0xffffffff, 0x0, 0x0, 0x0⟩,
  ⟨0xf0010, [(0x40, 16)], 0xffffffff, 0x0, 0x0, 0x0⟩,
  ⟨0xf0014, [(0x40, 16)], 0x80000e77, 0x0, 0x0, 0x0⟩,
  ⟨0xf0018, [(0x40, 16)], 0xffffffff, 0x0, 0x0, 0x0⟩,
  ⟨0xf001c, [(0x40, 16)], 0x0, 0x0, 0x100, 0x0⟩]

/-- Rows of RDB_*. -/
def regTableRdb : List RegRow := [
  ⟨0x10050000, [], 0x0, 0x301, 0x0, 0x1⟩,
  ⟨0x10050004, [], 0x0, 0x0, 0x4, 0x0⟩,
  ⟨0x10050008, [], 0xffff0000, 0x0, 0x0, 0x0⟩,
  ⟨0x1005000c, [], 0x0, 0x1fff, 0x0, 0x800⟩,
  ⟨0x10050010, [], 0x0, 0x0, 0x0, 0x0⟩,
  ⟨0x10050014, [], 0x0, 0x0, 0x0, 0x0⟩,
  ⟨0x10050018, [], 0x0, 0x0, 0x0, 0x0⟩,
  ⟨0x1005001c, [], 0x0, 0x0, 0x0, 0x0⟩,
  ⟨0x10050020, [], 0x0, 0x0, 0x0, 0x0⟩,
  ⟨0x10050024, [], 0x0, 0x0, 0x0, 0x0⟩,
  ⟨0x10050028, [], 0x0, 0x0, 0x0, 0x0⟩,
  ⟨0x1005002c, [], 0x0, 0x0, 0x0, 0x0⟩,
  ⟨0x10050030, [], 0x0, 0x0, 0x0, 0x0⟩]

/-- Rows of ARC_*. -/
def regTableArc : List RegRow := [
  ⟨0x10040000, [], 0x8000030f, 0x0, 0x0, 0x0⟩,
  ⟨0x10040004, [], 0x0, 0xf381ff3f, 0x0, 0x1818008⟩,
  ⟨0x10040008, [], 0x0, 0xf3ff003f, 0x0, 0x1400008⟩,
  ⟨0x1004000c, [], 0x0, 0x0, 0x0, 0x0⟩,
  ⟨0x10040010, [], 0x0, 0x0, 0x0, 0x0⟩,
  ⟨0x10040014, [], 0x0, 0x0, 0x0, 0x0⟩,
  ⟨0x10040018, [], 0x0, 0x0, 0x0, 0x0⟩,
  ⟨0x1004001c, [], 0x0, 0x0, 0x0, 0x0⟩,
  ⟨0x10040020, [(0x4, 8)], 0x0, 0x0, 0x0, 0x0⟩,
  ⟨0x10040040, [], 0x0, 0x0, 0x80000000, 0x0⟩,
  ⟨0x10040044, [], 0x0, 0x0, 0x0, 0x0⟩,
  ⟨0x10040048, [], 0x0, 0x0, 0x0, 0x0⟩,
  ⟨0x1004004c, [], 0x0, 0x0, 0x0, 0x0⟩]

/-- Rows of PXS_*. -/
def regTablePxs : List RegRow := [
  ⟨0xc0000, [(0x100, 8)], 0x80000000, 0xff000, 0x0, 0x0⟩,
  ⟨0xc0004, [(0x100, 8)], 0x0, 0xffffffff, 0x0, 0x0⟩,
  ⟨0xc0008, [(0x100, 8)], 0x0, 0xffffff, 0x0, 0x0⟩,
  ⟨0xc000c, [(0x100, 8)], 0x0, 0x1f3ff, 0x0, 0x4010⟩,
  ⟨0xc0010, [(0x100, 8)], 0x0, 0xff013f1f, 0x0, 0x40000008⟩,
  ⟨0xc0014, [(0x100, 8)], 0x0, 0x0, 0xf000, 0x0⟩,
  ⟨0xc0018, [(0x100, 8)], 0x0, 0x0, 0x0, 0x0⟩,
  ⟨0xc001c, [(0x100, 8)], 0x0, 0x0, 0x0, 0x0⟩,
  ⟨0xc0020, [(0x100, 8)], 0x0, 0x0, 0x0, 0x0⟩,
  ⟨0xc0024, [(0x100, 8)], 0x0, 0x0, 0x0, 0x0⟩,
  ⟨0xc0028, [(0x100, 8)], 0x0, 0x0, 0x0, 0x0⟩,
  ⟨0xc002c, [(0x100, 8)], 0x0, 0x0, 0x0, 0x0⟩,
  ⟨0xc0030, [(0x100, 8)], 0x0, 0x0, 0x0, 0x0⟩,
  ⟨0xc0040, [(0x100, 8)], 0x0, 0xffffffff, 0x0, 0x0⟩,
  ⟨0xc0044, [(0x100, 8)], 0x0, 0xffffffff, 0x0, 0x0⟩,
  ⟨0xc0048, [(0x100, 8)], 0x0, 0xffffffff, 0x0, 0x0⟩,
  ⟨0xc004c, [(0x100, 8)], 0x0, 0xffffffff, 0x0, 0x0⟩,
  ⟨0xc0800, [], 0x0, 0xf03ff3ff, 0x0, 0x2015e078⟩,
  ⟨0xc0804, [], 0x0, 0x0, 0x0, 0x0⟩]

/-- Rows of BMO_*. -/
def regTableBmo : List RegRow := [
  ⟨0xd0800, [], 0x0, 0x3, 0x0, 0x0⟩,
  ⟨0xd0000, [(0x100, 8)], 0x80000000, 0xf, 0x0, 0x8⟩,
  ⟨0xd0004, [(0x100, 8)], 0x0, 0xffff, 0x0, 0x3c50⟩,
  ⟨0xd0008, [(0x100, 8)], 0x0, 0xffffff00, 0x0, 0xc3554600⟩,
  ⟨0xd000c, [(0x100, 8)], 0x0, 0xffffffff, 0x0, 0x78280f28⟩,
  ⟨0xd0010, [(0x100, 8)], 0x0, 0xffffffff, 0x0, 0xbb80320⟩,
  ⟨0xd0014, [(0x100, 8)], 0x0, 0x77777777, 0x0, 0x0⟩,
  ⟨0xd0018, [(0x100, 8)], 0x0, 0x77777777, 0x0, 0x0⟩,
  ⟨0xd001c, [(0x100, 8)], 0x0, 0x77777777, 0x0, 0x0⟩,
  ⟨0xd0020, [(0x100, 8)], 0x0, 0x77777777, 0x0, 0x0⟩,
  ⟨0xd0024, [(0x100, 8)], 0x0, 0x77777777, 0x0, 0x0⟩,
  ⟨0xd0028, [(0x100, 8)], 0xbfbfbfbf, 0x0, 0x0, 0x0⟩,
  ⟨0xd002c, [(0x100, 8)], 0xbfbfbfbf, 0x0, 0x0, 0x0⟩,
  ⟨0xd0030, [(0x100, 8)], 0x0, 0x0, 0x0, 0x0⟩,
  ⟨0xd0034, [(0x100, 8)], 0x0, 0x0, 0x0, 0x0⟩,
  ⟨0xd0038, [(0x100, 8)], 0x0, 0x0, 0x87800000, 0x0⟩,
  ⟨0xd003c, [(0x100, 8)], 0x0, 0x0, 0x0, 0xffffffff⟩,
  ⟨0xd0040, [(0x100, 8)], 0x0, 0x0, 0x0, 0xffffffff⟩,
  ⟨0xd0044, [(0x100, 8)], 0x0, 0x0, 0x0, 0xffffffff⟩,
  ⟨0xd0048, [(0x100, 8)], 0x0, 0x0, 0x0, 0xffffffff⟩,
  ⟨0xd004c, [(0x100, 8)], 0x0, 0x0, 0x0, 0xffff⟩,
  ⟨0xd0050, [(0x100, 8)], 0x0, 0x0, 0x0, 0x0⟩,
  ⟨0xd0054, [(0x100, 8)], 0x0, 0x0, 0x0, 0x101010⟩]

/-- Rows of ENW_*. -/
def regTableEnw : List RegRow := [
  ⟨0xe0000, [(0x100, 8)], 0x80000000, 0x0, 0x0, 0x0⟩,
  ⟨0xe0004, [(0x100, 8)], 0x0, 0xff00ff, 0x0, 0x280028⟩,
  ⟨0xe0008, [(0x100, 8)], 0x0, 0x0, 0xf00000, 0x0⟩,
  ⟨0xe000c, [(0x100, 8)], 0x0, 0x0, 0x0, 0x0⟩,
  ⟨0xe0010, [(0x100, 8)], 0x0, 0x0, 0x0, 0x0⟩,
  ⟨0xe0014, [(0x100, 8)], 0x0, 0x0, 0x0, 0x0⟩,
  ⟨0xe0018, [(0x100, 8)], 0x0, 0x0, 0x0, 0x0⟩,
  ⟨0xe001c, [(0x100, 8)], 0x0, 0x0, 0x0, 0x0⟩,
  ⟨0xe0020, [(0x100, 8)], 0x0, 0x0, 0x0, 0x0⟩,
  ⟨0xe0024, [(0x100, 8)], 0x0, 0x0, 0x0, 0x0⟩,
  ⟨0xe0028, [(0x100, 8)], 0x0, 0x0, 0x0, 0x0⟩,
  ⟨0xe0800, [], 0x80000000, 0x0, 0x0, 0x0⟩,
  ⟨0xe0804, [], 0x0, 0x0, 0x0, 0x0⟩,
  ⟨0xe0808, [], 0x0, 0x0, 0x0, 0x0⟩,
  ⟨0xe080c, [], 0x0, 0x0, 0x0, 0x0⟩]

/-- Rows of QTR_*. -/
def regTableQtr : List RegRow := [
  ⟨0x0, [], 0x0, 0x0, 0x0, 0x101⟩,
  ⟨0x4, [], 0x0, 0xffcfff03, 0x0, 0x2a030302⟩,
  ⟨0x8, [], 0x0, 0xffff, 0x0, 0x3e8⟩,
  ⟨0x10, [], 0, 0xffffffff, 0, 0x20003e8⟩,
  ⟨0x14, [], 0, 0xffffffff, 0, 0x10f4240⟩,
  ⟨0x18, [], 0, 0xffffffff, 0, 0x40007d0⟩,
  ⟨0x1c, [], 0, 0xffffffff, 0, 0x8002710⟩,
  ⟨0x20, [], 0, 0xffffffff, 0, 0x10f4240⟩,
  ⟨0x24, [], 0, 0xffffffff, 0, 0x10f4240⟩,
  ⟨0x28, [], 0, 0xffffffff, 0, 0x8000064⟩,
  ⟨0x2c, [], 0, 0xffffffff, 0, 0x3000064⟩,
  ⟨0x30, [], 0x0, 0x0, 0x0, 0x0⟩,
  ⟨0x34, [], 0x0, 0x0, 0x0, 0x0⟩,
  ⟨0x38, [], 0x0, 0x0, 0x0, 0x0⟩,
  ⟨0x3c, [], 0x0, 0x0, 0x0, 0x0⟩,
  ⟨0x40, [], 0x0, 0x0, 0x0, 0x0⟩,
  ⟨0x44, [], 0x0, 0x0, 0x0, 0x0⟩,
  ⟨0x48, [], 0x0, 0x0, 0x0, 0xffff⟩,
  ⟨0x4c, [], 0x0, 0x0, 0x0, 0x0⟩,
  ⟨0x50, [], 0x0, 0x0, 0x0, 0x0⟩,
  ⟨0x54, [], 0x0, 0x0, 0x0, 0x0⟩,
  ⟨0x58, [], 0x0, 0x0, 0x0, 0x0⟩]

/-- Rows of TML_*. -/
def regTableTml : List RegRow := [
  ⟨0x10000, [], 0x80000000, 0x3000003f, 0x0, 0x0⟩,
  ⟨0x10004, [], 0x0, 0xffffffff, 0x0, 0x0⟩,
  ⟨0x10008, [], 0x0, 0xffffffff, 0x0, 0x0⟩,
  ⟨0x1000c, [], 0x0, 0x0, 0x0, 0x0⟩,
  ⟨0x10010, [(0x4, 8)], 0x0, 0xffffffff, 0x0, 0x0⟩,
  ⟨0x10030, [], 0x0, 0x0, 0x3, 0x0⟩,
  ⟨0x10034, [], 0x0, 0x0, 0x0, 0x0⟩,
  ⟨0x10038, [], 0x0, 0x0, 0x0, 0x0⟩,
  ⟨0x10040, [], 0x0, 0x0, 0x0, 0x0⟩,
  ⟨0x10044, [], 0x0, 0x0, 0x0, 0x0⟩]

/-- Rows of SUP_*. -/
def regTableSup : List RegRow := [
  ⟨0x20000, [], 0x80000000, 0x0, 0x0, 0x0⟩,
  ⟨0x20004, [], 0x0, 0x0, 0x0, 0x0⟩,
  ⟨0x20010, [(0x4, 8)], 0x0, 0x0, 0xffffffff, 0x0⟩,
  ⟨0x20030, [(0x4, 8)], 0x0, 0x0, 0x0, 0x0⟩,
  ⟨0x20050, [], 0x0, 0x0, 0x0, 0x0⟩]

/-- Rows of REG_*. -/
def regTableReg : List RegRow := [
  ⟨0x40000, [], 0x80000000, 0x0, 0x0, 0x0⟩,
  ⟨0x40004, [], 0x0, 0xffff, 0x0, 0xfa0⟩,
  ⟨0x40008, [], 0x0, 0x0, 0x0, 0x0⟩,
  ⟨0x4000c, [], 0x0, 0xf0ffffff, 0x0, 0x40ffa005⟩,
  ⟨0x40010, [(0x4, 16)], 0x0, 0x0, 0x0, 0x0⟩,
  ⟨0x41000, [(0x40, 512)], 0xa0000000, 0x0, 0x0, 0x0⟩,
  ⟨0x41004, [(0x40, 512)], 0xffffffff, 0x0, 0x0, 0x0⟩,
  ⟨0x41008, [(0x40, 512)], 0x0, 0x0, 0x0, 0x0⟩,
  ⟨0x4100c, [(0x40, 512)], 0x0, 0x0, 0x0, 0x0⟩,
  ⟨0x41010, [(0x40, 512)], 0x0, 0x0, 0x600000, 0x0⟩,
  ⟨0x41014, [(0x40, 512)], 0x0, 0x0, 0x0, 0x0⟩,
  ⟨0x41018, [(0x40, 512)], 0x0, 0x0, 0x0, 0x0⟩,
  ⟨0x50000, [(0x80, 512), (0x10, 6)], 0xffffffff, 0x0, 0x0, 0x0⟩,
  ⟨0x50004, [(0x80, 512), (0x10, 6)], 0xffffffff, 0x0, 0x0, 0x0⟩,
  ⟨0x50008, [(0x80, 512), (0x10, 6)], 0xffffffff, 0x0, 0x0, 0x0⟩,
  ⟨0x5000c, [(0x80, 512), (0x10, 6)], 0x7fff, 0x0, 0x0, 0x0⟩]

/-- Rows of MOT_*. -/
def regTableMot : List RegRow := [
  ⟨0x80000, [], 0x80000000, 0x0, 0x0, 0x0⟩,
  ⟨0x80010, [(0x4, 4)], 0x0, 0xff00ffff, 0x0, 0x40004e20⟩,
  ⟨0x80020, [(0x4, 4)], 0x0, 0xffffffff, 0x0, 0x0⟩,
  ⟨0x80030, [(0x8, 2)], 0x0, 0xffffffff, 0x0, 0xffffffff⟩,
  ⟨0x80034, [(0x8, 2)], 0x0, 0xffff, 0x0, 0xffff⟩,
  ⟨0x80040, [], 0x0, 0x0, 0x0, 0x0⟩,
  ⟨0x80044, [], 0x0, 0x0, 0x0, 0x0⟩,
  ⟨0x80048, [], 0x0, 0x0, 0x0, 0x0⟩,
  ⟨0x81000, [(0x40, 8)], 0x80000000, 0x0, 0x0, 0x0⟩,
  ⟨0x81004, [(0x40, 8)], 0x0, 0x0, 0x700, 0x0⟩,
  ⟨0x81008, [(0x40, 8)], 0x0, 0x0, 0x0, 0x0⟩,
  ⟨0x8100c, [(0x40, 8)], 0x0, 0xffff, 0x0, 0x3e8⟩,
  ⟨0x81010, [(0x40, 8)], 0x0, 0x0, 0x0, 0x0⟩,
  ⟨0x82000, [(0x40, 4)], 0x80000000, 0x0, 0x0, 0x0⟩,
  ⟨0x82004, [(0x40, 4)], 0x0, 0x0, 0x0, 0x0⟩,
  ⟨0x82008, [(0x40, 4)], 0x0, 0x0, 0x0, 0x0⟩,
  ⟨0x8200c, [(0x40, 4)], 0x0, 0x0, 0x0, 0x0⟩]

/-- Rows of AXS_*. -/
def regTableAxs : List RegRow := [
  ⟨0xa0000, [], 0x80000000, 0x0, 0x0, 0x0⟩,
  ⟨0xa0004, [], 0x0, 0x0, 0x0, 0x0⟩,
  ⟨0xa0100, [(0x40, 4)], 0x0, 0xf, 0x0, 0x0⟩,
  ⟨0xa0104, [(0x40, 4)], 0x0, 0x0, 0x0, 0x0⟩,
  ⟨0xa0400, [(0x20, 9)], 0x0, 0x1ffff, 0x0, 0x2⟩,
  ⟨0xa0404, [(0x20, 9)], 0x0, 0x0, 0x0, 0x0⟩,
  ⟨0xa0408, [(0x20, 9)], 0x0, 0x0, 0x0, 0x0⟩,
  ⟨0xa040c, [(0x20, 9)], 0x0, 0x0, 0x0, 0x0⟩,
  ⟨0xa0520, [], 0x0, 0x13fff, 0x0, 0x1863⟩,
  ⟨0xa1000, [(0x80, 32)], 0x0, 0xffff03f, 0x0, 0x0⟩,
  ⟨0xa1004, [(0x80, 32)], 0x8000003f, 0x0, 0x0, 0x0⟩,
  ⟨0xa1008, [(0x80, 32)], 0xffffffff, 0x0, 0x0, 0x0⟩,
  ⟨0xa100c, [(0x80, 32)], 0x0, 0x0, 0x0, 0x0⟩,
  ⟨0xa1010, [(0x80, 32)], 0x0, 0x0, 0x0, 0x0⟩,
  ⟨0xa1014, [(0x80, 32)], 0x0, 0xffffffff, 0x0, 0x30d40⟩,
  ⟨0xa1018, [(0x80, 32)], 0x0, 0xffffffff, 0x0, 0x5f5e100⟩,
  ⟨0xa101c, [(0x80, 32)], 0x0, 0xffffffff, 0x0, 0x80000000⟩,
  ⟨0xa1020, [(0x80, 32)], 0x0, 0xffffffff, 0x0, 0x7fffffff⟩,
  ⟨0xa1024, [(0x80, 32)], 0x0, 0xbfffffff, 0x0, 0x140640⟩,
  ⟨0xa1028, [(0x80, 32)], 0x0, 0xffffffff, 0x0, 0x9c40⟩,
  ⟨0xa102c, [(0x80, 32)], 0x0, 0xffffffff, 0x0, 0x0⟩,
  ⟨0xa1030, [(0x80, 32)], 0x0, 0x8fffffff, 0x0, 0x10000⟩,
  ⟨0xa1034, [(0x80, 32)], 0x0, 0x0, 0x3700000, 0x0⟩,
  ⟨0xa1038, [(0x80, 32)], 0x0, 0x0, 0x0, 0x0⟩,
  ⟨0xa103c, [(0x80, 32)], 0x0, 0x0, 0x0, 0x0⟩,
  ⟨0xa1040, [(0x80, 32)], 0x0, 0x0, 0x0, 0x0⟩]

/-- Rows of CLK_*. -/
def regTableClk : List RegRow := [
  ⟨0x10020000, [], 0x0, 0x0, 0x40, 0x0⟩,
  ⟨0x10020004, [], 0x0, 0xff, 0x0, 0x1e⟩,
  ⟨0x10020008, [], 0x0, 0x0, 0x1ff, 0x0⟩,
  ⟨0x1002000c, [], 0x0, 0x1ff, 0x0, 0x1ff⟩,
  ⟨0x10020010, [(0x4, 6)], 0x1, 0x2, 0x60, 0x2⟩,
  ⟨0x10020030, [], 0x3c, 0x0, 0x0, 0x0⟩,
  ⟨0x10020034, [], 0x0, 0x0, 0x3c00, 0x0⟩,
  ⟨0x10020038, [], 0x0, 0x0, 0x0, 0x0⟩,
  ⟨0x10020040, [(0x4, 9)], 0x0, 0x0, 0x0, 0x0⟩]

/-- Rows of PWR_*. -/
def regTablePwr : List RegRow := [
  ⟨0x10030000, [], 0x0, 0x0, 0x10000000, 0x0⟩,
  ⟨0x10030004, [], 0x0, 0xff03, 0x0, 0xa00⟩,
  ⟨0x10030008, [], 0x0, 0x0, 0x0, 0x0⟩,
  ⟨0x1003000c, [], 0x0, 0x0, 0x0, 0x1⟩,
  ⟨0x10030010, [], 0x0, 0x0, 0x0, 0x0⟩,
  ⟨0x10030014, [], 0x0, 0x0, 0x0, 0x0⟩,
  ⟨0x10030018, [], 0x0, 0x0, 0x0, 0x0⟩,
  ⟨0x1003001c, [], 0x0, 0x0, 0x0, 0x0⟩,
  ⟨0x10030020, [], 0x0, 0x0, 0x0, 0x0⟩,
  ⟨0x10030024, [], 0xc01f00ff, 0x0, 0x0, 0x0⟩,
  ⟨0x10030028, [], 0xffff, 0x0, 0x0, 0x0⟩,
  ⟨0x1003002c, [], 0x0, 0x0, 0xc0000000, 0x0⟩,
  ⟨0x10030030, [], 0x0, 0x0, 0x0, 0x0⟩,
  ⟨0x10030034, [], 0x0, 0x0, 0x0, 0xffff0000⟩,
  ⟨0x10030038, [], 0x0, 0x0, 0x0, 0x11⟩]

/-- Rows of THM_*. -/
def regTableThm : List RegRow := [
  ⟨0x10080000, [], 0x0, 0x0, 0x400, 0x640000⟩,
  ⟨0x10080004, [], 0x0, 0xffffff00, 0x0, 0x7d03200⟩,
  ⟨0x10080010, [], 0x0, 0x0, 0x0, 0x0⟩,
  ⟨0x10080014, [], 0x0, 0x0, 0x0, 0x0⟩,
  ⟨0x10080018, [], 0x0, 0x0, 0x0, 0x0⟩,
  ⟨0x10080100, [(0x10, 17)], 0x0, 0x0, 0x0, 0x0⟩,
  ⟨0x10080104, [(0x10, 17)], 0x0, 0x0, 0x0, 0x8000⟩,
  ⟨0x10080400, [(0x4, 40)], 0x0, 0x0, 0x0, 0x0⟩]

/-- Rows of DEV_*. -/
def regTableDev : List RegRow := [
  ⟨0x10000000, [], 0x0, 0x0, 0x0, 0x0⟩,
  ⟨0x10000004, [], 0x0, 0x0, 0x0, 0x9140⟩,
  ⟨0x10000008, [(0x4, 4)], 0x0, 0x0, 0x0, 0x0⟩,
  ⟨0x10000018, [], 0x0, 0x0, 0x0, 0x2⟩,
  ⟨0x1000001c, [], 0x0, 0x0, 0x0, 0x0⟩]

/-- Rows of CNS_*. -/
def regTableCns : List RegRow := [
  ⟨0x100a0000, [], 0x80000000, 0x3, 0x0, 0x80000001⟩,
  ⟨0x100a0004, [], 0x0, 0xffff000b, 0x0, 0x1000009⟩,
  ⟨0x100a0100, [(0x20, 8)], 0x0, 0x0, 0x400, 0x0⟩,
  ⟨0x100a0104, [(0x20, 8)], 0x0, 0x0, 0x0, 0x0⟩,
  ⟨0x100a0108, [(0x20, 8)], 0x0, 0x0, 0x0, 0x0⟩,
  ⟨0x100a010c, [(0x20, 8)], 0x0, 0x0, 0x0, 0x0⟩,
  ⟨0x100a0110, [(0x20, 8)], 0x0, 0x0, 0x0, 0x0⟩,
  ⟨0x100a0114, [(0x20, 8)], 0x0, 0x0, 0x0, 0x0⟩]

/-- Rows of LDG_*. -/
def regTableLdg : List RegRow := [
  ⟨0x10090000, [(0x4, 8)], 0x0, 0x0, 0xffffffff, 0x0⟩,
  ⟨0x10090020, [], 0x0, 0x0, 0x1f, 0x0⟩,
  ⟨0x10090024, [], 0x0, 0x0, 0x0, 0xffffffff⟩,
  ⟨0x10090028, [], 0x0, 0x1, 0x0, 0x1⟩,
  ⟨0x1009002c, [], 0x0, 0x0, 0x0, 0x0⟩,
  ⟨0x10090400, [(0x4, 256)], 0x0, 0x0, 0x0, 0x0⟩]

/-- Rows of KRB_*. -/
def regTableKrb : List RegRow := [
  ⟨0x100d0000, [], 0x0, 0x0, 0x20000000, 0x0⟩,
  ⟨0x100d0004, [], 0x0, 0x0, 0x0, 0x0⟩,
  ⟨0x100d0008, [], 0x0, 0x0, 0x0, 0x0⟩,
  ⟨0x100d000c, [], 0x0, 0xffffffff, 0x0, 0x0⟩,
  ⟨0x100d0010, [], 0x0, 0xffffffff, 0x0, 0x0⟩,
  ⟨0x100d0014, [], 0x0, 0xffffffff, 0x0, 0x0⟩,
  ⟨0x100d0018, [], 0x0, 0xffffffff, 0x0, 0x0⟩,
  ⟨0x100d001c, [], 0x0, 0x0, 0x0, 0x0⟩,
  ⟨0x100d0020, [], 0x0, 0x0, 0x0, 0x0⟩,
  ⟨0x100d0024, [], 0x0, 0x0, 0x0, 0x0⟩]
/-- The rows of the shared block that holds address `a` (R44). -/
def sharedRows (a : Nat) : List RegRow :=
  match a / 0x10000 - 0x1000 with
  | 0x0 => regTableDev
  | 0x1 => regTableCfg
  | 0x2 => regTableClk
  | 0x3 => regTablePwr
  | 0x4 => regTableArc
  | 0x5 => regTableRdb
  | 0x6 => regTablePgs
  | 0x7 => regTableHif
  | 0x8 => regTableThm
  | 0x9 => regTableLdg
  | 0xA => regTableCns
  | 0xB => regTableAlys
  | 0xD => regTableKrb
  | _ => []

/-- The rows of the quarter block that holds offset `o` (R42). -/
def quarterRows (o : Nat) : List RegRow :=
  match o / 0x10000 with
  | 0x0 => regTableQtr
  | 0x1 => regTableTml
  | 0x2 => regTableSup
  | 0x4 => regTableReg
  | 0x5 => regTableReg
  | 0x8 => regTableMot
  | 0xA => regTableAxs
  | 0xC => regTablePxs
  | 0xD => regTableBmo
  | 0xE => regTableEnw
  | 0xF => regTableAlyqQ
  | _ => []

/-- Whether `r`, counted from a row's first register, is the start of one of its instances. -/
def dimsHit : List (Nat × Nat) → Nat → Bool
  | [], r => r == 0
  | (st, n) :: ds, r => decide (r / st < n) && dimsHit ds (r % st)

/-- Whether the row holds the register at offset `o`. -/
def RegRow.hit (r : RegRow) (o : Nat) : Bool := decide (r.off ≤ o) && dimsHit r.dims (o - r.off)

/-- The row of the register at address `a` of the 32-bit map, with the Quarters at their own bases (R42 to R44). -/
def regRow (a : Nat) : Option RegRow :=
  if 0x10000000 ≤ a ∧ a < 0x100E0000 then (sharedRows a).find? (·.hit a)
  else if 0x01000000 ≤ a ∧ a < 0x01100000 then (quarterRows (a - 0x01000000)).find? (·.hit (a - 0x01000000))
  else if 0x02000000 ≤ a ∧ a < 0x02100000 then (quarterRows (a - 0x02000000)).find? (·.hit (a - 0x02000000))
  else none

/-- What the register at `a` holds after reset; the strap QTR_ROLE.SELF is 1 in South only. -/
def resetWord (a : Nat) : Word :=
  match regRow a with
  | some r => if a = 0x02000000 then r.reset ||| 8 else r.reset
  | none => 0

/-- The field's value in a word. -/
def Fld.get (f : Fld) (w : Word) : Nat := w.toNat / 2 ^ f.lo % 2 ^ (f.hi + 1 - f.lo)

/-- The field's bits as a mask. -/
def Fld.mask (f : Fld) : Word := BitVec.ofNat 32 ((2 ^ (f.hi + 1 - f.lo) - 1) * 2 ^ f.lo)

/-- The word with the field set to `v` (its low bits) and every other bit kept. -/
def Fld.put (f : Fld) (w : Word) (v : Nat) : Word :=
  (w &&& ~~~ f.mask) ||| (BitVec.ofNat 32 (v % 2 ^ (f.hi + 1 - f.lo) * 2 ^ f.lo))

end Sys2Proof.Machine
end

