-- ==== Sys2Proof/Machine/Sparse.lean ====
section
/-! DEFINITION. Sparse data in one canonical form: keys strictly rising, and no entry equal to what its key reads as when it is
not listed. Registers, memory and tables are held this way, so equal contents are equal data. -/

namespace Sys2Proof.Machine

variable {α : Type}

/-- What a sparse list holds at a key: the listed value, or else the default of that key. -/
def sget (dflt : Nat → α) : List (Nat × α) → Nat → α
  | [], k => dflt k
  | (k', v) :: r, k => if k' = k then v else sget dflt r k

/-- Remove every entry of a key. -/
def sdel : List (Nat × α) → Nat → List (Nat × α)
  | [], _ => []
  | (k', v) :: r, k => if k' = k then sdel r k else (k', v) :: sdel r k

/-- Insert or replace the entry of a key, keeping the keys rising. -/
def sins : List (Nat × α) → Nat → α → List (Nat × α)
  | [], k, v => [(k, v)]
  | (k', v') :: r, k, v =>
    if k < k' then (k, v) :: (k', v') :: r
    else if k = k' then (k, v) :: r
    else (k', v') :: sins r k v

/-- Write a key: the entry is removed where the value is what the key reads as unlisted. -/
def sput [DecidableEq α] (dflt : Nat → α) (m : List (Nat × α)) (k : Nat) (v : α) : List (Nat × α) :=
  if v = dflt k then sdel m k else sins m k v

/-- Every key is above `lo`, keys rise strictly, and no value is its key's default. -/
def swfAbove [DecidableEq α] (dflt : Nat → α) : Nat → List (Nat × α) → Bool
  | _, [] => true
  | lo, (k, v) :: r => decide (lo ≤ k) && decide (v ≠ dflt k) && swfAbove dflt (k + 1) r

/-- The canonical form. -/
def swf [DecidableEq α] (dflt : Nat → α) (m : List (Nat × α)) : Bool := swfAbove dflt 0 m

end Sys2Proof.Machine
end

