-- ==== Sys2Proof/Machine/State.lean ====
section
/-! DEFINITION. The state of the TBC-9140 as plain data, its value right after reset, and the reasons a step can stop. -/

namespace Sys2Proof.Machine

/-- The device states of R3, in the order of DEV_STATUS.STATE. -/
inductive DevState where
  | off
  | parked
  | booting
  | held
  | ready
  | printing
  | draining
  | safe
  deriving DecidableEq, Repr

/-- The code of DEV_STATUS.STATE. -/
def DevState.code : DevState → Nat
  | .off => 0
  | .parked => 1
  | .booting => 2
  | .held => 3
  | .ready => 4
  | .printing => 5
  | .draining => 6
  | .safe => 7

/-- The roles of a Quarter (R8), in the order of QTR_ROLE.ROLE. -/
inductive Role where
  | active
  | standby
  | yielded
  | testing
  | returning
  deriving DecidableEq, Repr

/-- The code of QTR_ROLE.ROLE. -/
def Role.code : Role → Nat
  | .active => 0
  | .standby => 1
  | .yielded => 2
  | .testing => 3
  | .returning => 4

/-- How an access or a command is answered: R37, R39, R48, R49, R203, R531, R542 and the ERR_STATE refusals. -/
inductive Resp where
  | ok
  | errDecode
  | errXq
  | errEcc
  | errFabric
  | errDomainOff
  | errGated
  | errState
  deriving DecidableEq, Repr

/-- An entry of the host event ring or its backlog (R152), without PHASE, which the ring position gives. -/
structure Event where
  typ : Nat
  nmi : Bool
  seq : Nat
  code : Nat
  wsn : Nat
  data : Nat
  time : Nat
  deriving DecidableEq, Repr

/-- An entry of the fault journal (R597); `dropped` marks one whose write was lost (R598). -/
structure JournalEntry where
  bit : Nat
  origin : Nat
  kerb : Bool
  nmi : Bool
  yield : Bool
  no : Nat
  time : Nat
  detail : Nat
  detail2 : Nat
  count : Nat
  dropped : Bool
  deriving DecidableEq, Repr

/-- An entry of the sheet journal (R102). -/
structure SheetEntry where
  wsn : Nat
  no : Nat
  kind : Nat
  cause : Nat
  stations : Nat
  reprint : Bool
  duplex : Bool
  quarter : Nat
  time : Nat
  pageId : Nat
  deriving DecidableEq, Repr

/-- One slot of the retention commit register (R98) with its 8-bit CRC; `valid` says that the CRC is that of the slot. -/
structure CommitSlot where
  wsn : Nat := 0
  toggle : Bool := false
  crc : BitVec 8 := 0
  valid : Bool := false
  deriving DecidableEq, Repr

/-- A band of a page: where it belongs, how it is stored (R139, R182) and how far its ingest is. `checked` has a bit for each
substream that the stream checkers have passed; of a RAW band all eight are set once its payload has been read. `data` holds, by
substream, the bytes that have come from host memory or from a compressor and are not in the page store yet. -/
structure BandRec where
  station : Nat
  band : Nat
  format : Nat
  rawPass : Nat
  addr : Nat
  lens : List Nat
  crc : Nat
  stored : Bool := false
  checked : Nat := 0
  data : List (Nat × List Byte) := []
  deriving DecidableEq, Repr

/-- A page as its descriptor gives it (R137), with its bands. -/
structure PageSide where
  wsn : Nat
  crcEn : Bool
  lpi1200 : Bool
  duplex : Bool
  pace : Nat
  stations : Nat
  speed : Nat
  template : Nat
  dots : Nat
  bands : Nat
  recs : List BandRec
  deriving DecidableEq, Repr

/-- A page, or a duplex pair, in ingest or held (R91, R184). `chains` lists the blocks of the chain of each station 0 to 7, in chain order (R181).
`started` is set when a pitch takes it, `ue` when it was defective with cause 7 (R110). -/
structure Page where
  first : PageSide
  second : Option PageSide
  handle : Nat
  chains : List (List Nat)
  started : Bool := false
  reprint : Bool := false
  ue : Bool := false
  deriving DecidableEq, Repr

/-- A parameter descriptor bound to a page (R150): its WSN, its ring slot and its (slot, value) entries. -/
structure BoundParam where
  wsn : Nat
  slot : Nat
  entries : List (Nat × Nat)
  deriving DecidableEq, Repr

/-- An empty buffer for an inspection image (R151). -/
structure InspBuf where
  addr : Nat
  len : Nat
  tag : Nat
  deriving DecidableEq, Repr

/-- The attributes of a request on the link (R124, R136): Relaxed Ordering and No Snoop. -/
structure LinkAttr where
  relaxed : Bool := false
  noSnoop : Bool := false
  deriving DecidableEq, Repr

/-- A posted write of the device to host memory (R124, R631): its address, what stood there before it, and whether it is an event entry. -/
structure Posted where
  addr : Nat
  old : List Byte
  event : Bool
  deriving DecidableEq, Repr

/-- What the rings hold from enable to enable (R128): size, base and write-back address in force. -/
structure RingForce where
  base : Nat := 0
  log2 : Nat := 4
  wb : Nat := 0
  deriving DecidableEq, Repr

/-- A page-ring slot whose page has not ended (R143, R144): its page, the ring index of its slot, the slots it takes, whether its second
side is awaited, and the status it will end in once the page before it has ended. -/
structure IngestS where
  page : Page
  slot : Nat
  slots : Nat := 1
  awaits : Bool := false
  verdict : Option Nat := none
  deriving DecidableEq, Repr

/-- The host interface beside its registers: rings in force, the event backlog with its counts (R155), the pages in ingest (R143), the
highest WSN accepted since the enable or retired (R141) and the highest that SKIP has retired (R119), what a halt of the page ring leaves
for SKIP (R145), bound parameters, inspection buffers, and the interrupts sent and accumulated per MSI-X vector (R157). `pcie` is what the
host has configured (R124), `perstN` the level of PERST_N as last seen (R68), `posted` the newest posted writes of the device, newest first
(R631), `rdAttr` and `wrAttr` the attributes of its latest read and write of host memory (R124, R136). -/
structure HostIf where
  rings : List (Nat × RingForce) := []
  evtRing : RingForce := {}
  backlog : List Event := []
  seq : Nat := 0
  lost : Nat := 0
  ingest : List IngestS := []
  wsnFloor : Nat := 0
  retired : Nat := 0
  haltSlots : Nat := 1
  haltWsn : Nat := 0
  bound : List BoundParam := []
  bufs : List InspBuf := []
  unsignalled : List (Nat × Nat) := []
  sent : List (Nat × Nat) := []
  msix : List (Nat × Word) := []
  pba : List (Nat × Bool) := []
  linkUp : Bool := false
  l1 : Bool := false
  cfgRetry : Bool := true
  pcie : PcieCfg := {}
  perstN : Bool := true
  posted : List Posted := []
  rdAttr : LinkAttr := {}
  wrAttr : LinkAttr := {}
  deriving DecidableEq, Repr

/-- The ledger beside its registers (R594 to R597): the times of the latest events of each source, the journal (newest first) and
the number its next entry takes. -/
structure LedgerS where
  times : List (Nat × List Nat) := []
  journal : List JournalEntry := []
  nextNo : Nat := 0
  dropNext : Bool := false
  deriving DecidableEq, Repr

/-- The Kerb beside its registers: pins low now (bit 0 INTLK_OP_N, 1 INTLK_DR_N, 2 HESTOP_N), the triggers latched in Parked or
Booting (R600), what each owner requests of its enables (LEN bits 0 to 7, HVEN 8, HTEN 9), and when a trigger last fired (R608). -/
structure KerbS where
  pinsLow : Nat := 0
  latched : Nat := 0
  request : Nat := 0
  firedAt : Option Nat := none
  deriving DecidableEq, Repr

/-- Delivery (R89, R98, R101, R107): commit slots, HORIZON, the reprint cursor (0 none), the sheet journal (newest first), its next
number, the held pages in WSN order, the planned speed and resolution of the last accepted page (R117), and the sheets stranded. -/
structure DeliveryS where
  slot0 : CommitSlot := {}
  slot1 : CommitSlot := {}
  horizon : Nat := 0
  cursor : Nat := 0
  journal : List SheetEntry := []
  nextNo : Nat := 0
  pages : List Page := []
  lastPlan : Option (Nat × Bool) := none
  stranded : Nat := 0
  deriving DecidableEq, Repr

/-- A sheet instance of the Timeline (R397). `released` and `imaging` are station masks; `origin` is the pitch start position;
`fired` is the time its latest entry fired; `windowOpen` and `detected` belong to the acceptance window of R406. `side2` holds the
stations released for the second side. `late` says that the cursor entry's trigger had already been reached when it became the cursor. -/
structure Instance where
  wsn : Nat
  wsn2 : Nat
  template : Nat
  clearout : Bool := false
  origin : Int
  startAt : Nat
  cursor : Nat := 0
  fired : Nat := 0
  cause : Nat := 0
  divert : Bool := false
  reprint : Bool := false
  inFlight : Bool := false
  released : Nat := 0
  side2 : Nat := 0
  imaging : Nat := 0
  gateFired : Bool := false
  windowOpen : Bool := false
  detected : Bool := false
  inspect : Bool := false
  handle : Nat := 0
  stations : Nat := 0
  speed : Nat := 0
  lpi1200 : Bool := false
  late : Bool := false
  deriving DecidableEq, Repr

/-- A pulse of the Timeline in progress (R123, R401): the GPIO, the level it goes to at its end, the rank that drives it then (R398), and its end, in
counts of the pitch source or in cycles of the timebase. -/
structure Pulse where
  gpio : Nat
  level : Bool
  rank : Nat := 0
  byCounts : Bool := false
  due : Int := 0
  deriving DecidableEq, Repr

/-- Who drove an output last (R398, R422): in which cycle of the timebase, and with what rank. -/
structure Drive where
  tick : Nat := 0
  rank : Nat := 0
  deriving DecidableEq, Repr

/-- The facet grid of a station in one Quarter (R409): the position of its target 0, the newest target that has been reached, and its time. -/
structure FacetGrid where
  base : Int
  last : Nat
  time : Nat
  deriving DecidableEq, Repr

/-- The present motion of the pitch source as a Quarter sees it (R409): whether it runs forward, and the time of its latest edge. -/
structure Motion where
  forward : Bool := false
  time : Nat := 0
  deriving DecidableEq, Repr

/-- An entry of the action log (R410). -/
structure ActionEntry where
  wsn : Nat
  entry : Nat
  time : Nat
  deriving DecidableEq, Repr

/-- The Timeline (both Quarters run the same tables on the same inputs, R365, so its instances are held once): instances by
number, the position and time of the latest pitch start (or of the entry into Ready) and the length of the pitch that runs, GPIO
output levels, pulses in progress, the action log (newest first), the clear-out pitches left, who drove each output last (GPIO g, slot 64 + n,
axis 1024 + a), and by Quarter the motion of the pitch source and (Quarter × 8 + s) the facet grids. -/
structure TimelineS where
  insts : List (Nat × Option Instance) := []
  pitchAt : Int := 0
  pitchTime : Nat := 0
  pitchLen : Nat := 0
  gpioOut : List (Nat × Bool) := []
  gpioIn : Nat := 0
  pulses : List Pulse := []
  log : List ActionEntry := []
  clearoutLeft : Nat := 0
  driven : List (Nat × Drive) := []
  motion : List (Nat × Motion) := []
  grids : List (Nat × Option FacetGrid) := []
  deriving DecidableEq, Repr

/-- A Supervisor rule of one Quarter (R415, R417): the sweeps in a row that its condition has held and has failed, whether it has fired and
not re-armed, and the values of its inputs at the previous sweep. -/
structure RuleS where
  held : Nat := 0
  failed : Nat := 0
  spent : Bool := false
  lastA : Option Int := none
  lastB : Option Int := none
  deriving DecidableEq, Repr

/-- A Quarter beside its registers (R361 to R387): its role, the times of the latest events of its checks, its yields of the
last hour, whether it transmits and at which stations its line-strobe pins are driven (R274), a hard mark of check 0, the time of the newest good mirror frame, and its self-test. -/
structure QuarterS where
  role : Role := .standby
  transmits : Bool := false
  strobes : Nat := 0
  times : List (Nat × List Nat) := []
  hardFabric : Bool := false
  yields : List Nat := []
  mirrorAt : Option Nat := none
  stuck : Bool := false
  caughtUp : Bool := false
  deriving DecidableEq, Repr

/-- A token transfer in progress (R370 to R374): when, from whom, its kind (1 soft, 2 hard, 3 planned), the stations not yet caught up,
whether the old Quarter still transmits, and how many drive-bus frames it may still send (R375). -/
structure Transfer where
  at_ : Nat
  old : Side
  kind : Nat
  waiting : Nat
  overlap : Bool
  frames : Nat := 2
  deriving DecidableEq, Repr

/-- A planned transfer that waits for its gap (R386): to whom, and whether it is a handover of R387. -/
structure Planned where
  newQ : Side
  handover : Bool
  deriving DecidableEq, Repr

/-- The page store beside its registers: the self-refresh sequence (R202, R204), the record-slot
counts behind handles (R184), the activate tables and budgets (R197, R198), postponed refreshes, drift corrections in 1/1000 UI
(R168), the scrub position, a retraining that is due (R169), how many blocks the allocation
that waits needs (R189), how often the training rows were written (R180), and when the pacing of IW with GP, and of IS, lets the next access
go (R194). -/
structure StoreS where
  entering : Bool := false
  exitHeld : Bool := false
  exiting : Bool := false
  slotCount : List (Nat × Nat) := []
  rows : List (Nat × List (Nat × Nat)) := []
  acts : List (Nat × Nat) := []
  waiting : List (Nat × List Nat) := []
  postponed : List (Nat × Nat) := []
  drift : List (Nat × Int) := []
  hot : Nat := 0
  retrain : Bool := false
  scrub : Nat := 0
  short : Nat := 0
  trainings : Nat := 0
  ingestDue : Nat := 0
  stagingDue : Nat := 0
  deriving DecidableEq, Repr

/-- The configuration flash (R69 to R71): whether it answers, what its SFDP tables say (octal DTR, quad, density, erase unit), the level
of FLASH_RST_N, and its contents, erased bytes reading 0xFF. -/
structure Flash where
  present : Bool := true
  sfdp : Bool := true
  octal : Bool := true
  quad : Bool := true
  rstN : Bool := false
  densityLog2 : Nat := 26
  eraseLog2 : Nat := 16
  data : List (Nat × Byte) := []
  deriving DecidableEq, Repr

/-- The fuses (R577, R578): serial number, stepping code, four key slots and REQUIRE_SIGNED. -/
structure Fuses where
  serial : BitVec 128
  stepping : BitVec 8
  keys : List (List Byte)
  requireSigned : Bool
  deriving DecidableEq, Repr

/-- An update command held or in progress (R84, R87). -/
structure Update where
  op : Nat
  copy : Copy
  offset : Nat
  len : Nat
  data : List Byte
  deriving DecidableEq, Repr

/-- Start-up (R58 to R67): the reference of R61, the update command in progress, whether the internal rails failed, whether
D0 is out of its power-on reset, and whether the page store was retained; `qregs` lists the quarter offsets that the image has set, newest first (R383). -/
structure BootS where
  ref : Nat := 0
  update : Option Update := none
  intFail : Bool := false
  d0Ready : Bool := true
  retained : Bool := false
  qregs : List Nat := []
  deriving DecidableEq, Repr

/-- Clocks beside their registers: sources out of tolerance now, the sources behind the present Class A wait, the Quarters whose PWM
stages take the other timebase (R521), the selection each multiplexer passes now (bit set: IOSC), the operating-point sequence that
runs and the one that waits (R534), whether its frequency step was abandoned, whether a Class A failure holds its rail, the gates that were closed at the limit of R530 and have not
opened since, since when each source has been within tolerance again, and the domains whose rail is at the high voltage (pixel North, pixel South, PCIe as bits 0 to 2). -/
structure ClockS where
  failed : Nat := 0
  classA : Nat := 0
  tbOther : Nat := 0
  passing : Nat := 0
  seq : Option (OpDomain × Bool) := none
  queued : Option (OpDomain × Bool) := none
  abandoned : Bool := false
  held : Bool := false
  overrun : Nat := 0
  goodAt : List (Nat × Nat) := []
  volts : Nat := 0
  deriving DecidableEq, Repr

/-- Where the rail sequencer stands (R546, R547): waiting for the delay of an entry, for its rail to be good, for dropped rails to
fall (in order) before an entry is enabled again, or complete. -/
inductive SeqState where
  | idle
  | delay (i : Nat)
  | waitGood (i : Nat)
  | falling (rails : List Nat) (i : Nat)
  | done
  deriving DecidableEq, Repr

/-- Why a power-down sequence runs (R550, R560, R561, R66): what it ends in. -/
inductive DownKind where
  | vinFail
  | forced
  | park
  | bootFail
  deriving DecidableEq, Repr

/-- Power beside its registers: whether VIN is valid, the sequencer, the power-down in progress with the rails that still have to
fall (the first has its enable low), when the device was last fully off, whether a start needs a press (R560), a start that waits for the end of a shutdown (R562), MRST_N
held low, the times of each rail's drops, the signed injection steps of margined rails (R555), by rail the
OPERATION code written last on the PMBus and, by 2 × rail, VOUT_MARGIN_HIGH and one above it VOUT_MARGIN_LOW (R546, R556; 0 for none
written), of the pace-level step in progress
where it goes and since when (R35), and whether the internal rails are in regulation (R536). -/
structure PowerS where
  vinValid : Bool := true
  seq : SeqState := .idle
  down : Option DownKind := none
  falling : List Nat := []
  offAt : Nat := 0
  needPress : Bool := false
  startWaits : Bool := false
  mrstLow : Bool := false
  drops : List (Nat × List Nat) := []
  inj : List (Nat × Int) := []
  oper : List (Nat × Nat) := []
  vmargin : List (Nat × Nat) := []
  paceTo : Nat := 0
  paceAt : Nat := 0
  bucks : Bool := false
  deriving DecidableEq, Repr

/-- What is kept of a temperature sensor (R565, R566): its newest reading in 1/8 °C and when it came, whether it is broken, and since
when it has read validly again. -/
structure SensorS where
  seen : Bool := false
  val : Int := 0
  at_ : Nat := 0
  broken : Bool := false
  okSince : Option Nat := none
  deriving DecidableEq, Repr

/-- Thermal management beside its registers: the sensors, each zone's means of the last second (newest first, R570) with its
consecutive evaluations above and at or below RISE, the sum and the number of its readings since the last such evaluation, when the slow-down began (R572), the credit in hundredths, and the SPEED of the
last page taken. -/
structure ThermS where
  sensors : List (Nat × SensorS) := []
  hist : List (Nat × List Int) := []
  above : List (Nat × Nat) := []
  sums : List (Nat × (Int × Nat)) := []
  below : List (Nat × Nat) := []
  throttleAt : Nat := 0
  credit : Nat := 0
  lastSpeed : Nat := 0
  deriving DecidableEq, Repr

/-- A station's imaging unit as the device knows it (R580 to R590): the bytes of its identity block, the numbers of its counter slots
(none for one that is not valid), where and what it wrote last in the memory, the challenge sent and not yet answered, and sheets since the last
write-back. -/
structure UnitS where
  block : List Byte := []
  noA : Option Nat := none
  noB : Option Nat := none
  challenge : Option (List Byte) := none
  sheets : Nat := 0
  written : Option (Nat × List Byte) := none
  deriving DecidableEq, Repr

/-- The consumable interface beside its registers: the units, and the stations that take no further page (R589). -/
structure CnsS where
  units : List (Nat × UnitS) := []
  eolStop : Nat := 0
  deriving DecidableEq, Repr

/-- What a station prints: the instance, the band of the present line, how many bands there are, whether its first line has
started, whether it prints only the tail of the preceding page (R296), and the timebase cycle of its release (R422). -/
structure PrintS where
  inst : Nat
  band : Nat := 0
  total : Nat
  started : Bool := false
  tail : Bool := false
  tick : Nat := 0
  deriving DecidableEq, Repr

/-- A station's lines in one Quarter: the line number n of R308, the on-times of the latest ended lines per emitter in 1/64 ns (newest
first, an empty list for a line without pixels; R310), N1 and N10 of the sheet, and of the sheet the mask of each class (R299, R302) and the slots forced
to code 0 (R307). Of the line in progress: whether it carries image, the final codes of the 72 emitters (R333), the substreams that went BLANK with
the chunk from which they did (R322), f_nom in MHz × 2^20, COAST, PREDICTED, SLEW and DUTY as bits 3 to 0, the width, the resolution and the WSN, the
bytes that each decoder has written of its band (R230), and the next segment to send, by chunk and group (R334). Substreams dead for the
rest of the band (R233, and R177 in `ue`), and whether the line counts as late already. -/
structure LineS where
  n : Nat := 0
  on : List (List Nat) := []
  n1 : Nat := 0
  n10 : Nat := 0
  masks : List (Option Nat) := []
  forced : List Nat := []
  image : Bool := false
  codes : List (List Nat) := []
  cut : List (Nat × Nat) := []
  fnom : Nat := 0
  flags : Nat := 0
  dots : Nat := 0
  res1200 : Bool := false
  wsn : Nat := 0
  written : List Nat := []
  chunk : Nat := 0
  group : Nat := 0
  dead : Nat := 0
  ue : Nat := 0
  late : Bool := false
  blanked : Bool := false
  deriving DecidableEq, Repr

/-- The beam output beside its registers. By station × 128 + emitter: the baselines (R318), the last R_dyn, and the class that the
latest measurement gave (R317). `dead` lists the emitters whose class dead and `unmapped` work at present (R321). By station: what it
prints, the time of its last line, the measurement sent, the sweep of R318. By Quarter × 8 + station: its lines. `mapNext` holds spare
maps that wait for a page: WSN (0 the next sheet), 2 × station + m, value (R305). The masks say which stations are safe for their
head temperature, safe otherwise, and about to become safe when their line ends. -/
structure BeamS where
  base : List (Nat × Nat) := []
  rdyn : List (Nat × Nat) := []
  last : List (Nat × Nat) := []
  prints : List (Nat × Option PrintS) := []
  lines : List (Nat × LineS) := []
  lastLine : List (Nat × Nat) := []
  meas : List (Nat × Option Nat) := []
  mapNext : List (Nat × Nat × Word) := []
  headSafe : Nat := 0
  otherSafe : Nat := 0
  safePend : Nat := 0
  deriving DecidableEq, Repr

/-- A pixel synthesizer beside its registers (R256 to R288): the time of its last line start and whether an edge gave it, the last
edge and the newest intervals of ACQUIRE, an own timestamp that waits for the word of the Active Quarter, a
facet 0 that is due, lines in a row whose timestamps differed by more than a step, the resolution of its pages, and whether a relock
restarts FREQ. Of the line in progress: its predicted start (R256), the time of its column 0 (R268) and its width, the rotator's phase in 1/64
of a period at the line start, where its accumulator is 0 (R265), and the steps of the phase walk (R271). -/
structure SynthS where
  lastStart : Nat := 0
  lastQual : Bool := false
  edge : Option Nat := none
  ivals : List Nat := []
  own : Option Nat := none
  facet0 : Bool := false
  diffs : Nat := 0
  res1200 : Bool := false
  refreq : Bool := false
  pred : Nat := 0
  col0 : Nat := 0
  dots : Nat := 0
  phase : Nat := 0
  walk : List Int := []
  deriving DecidableEq, Repr

/-- A reference PLL's lock pin (R279, R280): the samples of the last 1 ms in mV, newest first, since when the level has been below V_LOCK, and
samples in a row above V_LOSS. -/
structure RefS where
  samples : List Nat := []
  since : Option Nat := none
  above : Nat := 0
  deriving DecidableEq, Repr

/-- A block on a lane (R327): the lane, the sync header, and the 64 scrambled bits, bit 0 sent first. -/
structure Coded where
  lane : Nat
  sync : BitVec 2
  bits : BitVec 64
  deriving DecidableEq, Repr

/-- An Enwell port beside its registers (R342 to R345): the last loop token and when it was sent, the time of the last good frame,
whether the module holds the code table, and a bring-up that waits for the station to stop imaging. Of the lanes (R327, R328): the
index of the next block of the stream, the blocks and packets sent, the state of each lane's scrambler, and the blocks that the port
sent last, in order. -/
structure PortS where
  token : Nat := 0
  tokenAt : Nat := 0
  goodAt : Nat := 0
  tableOk : Bool := false
  retrain : Bool := false
  next : Nat := 0
  sends : Nat := 0
  scr : List (BitVec 58) := [0, 0, 0, 0]
  wire : List Coded := []
  deriving DecidableEq, Repr

/-- A Regulator slot of one Quarter beside its registers (R433 to R448): the input and output of each primitive at the previous
sample, the coefficient writes that wait (primitive, which of C0 C1 C2 and the shifts, value), the mode in force, a re-entry due
under R440, the newest outputs and feedbacks of the freeze test, consecutive open and short conversions, how a disable winds down
(0 not, 1 holding one sample, 2 moving to IDLE), the setpoint at the present base tick and its change since the tick before (R470), a SAFE fallback
that entry into Safe put on it (R601), samples so far, and the integrator that the next mirror frame carries (R366, R450). -/
structure SlotS where
  prev : List (Int × Int) := []
  queue : List (Nat × Nat × Word) := []
  mode : Nat := 0
  again : Bool := false
  hist : List (Int × Int) := []
  opens : Nat := 0
  shorts : Nat := 0
  wind : Nat := 0
  lastSp : Int := 0
  accel : Int := 0
  safe : Bool := false
  runs : Nat := 0
  share : Option Int := none
  deriving DecidableEq, Repr

/-- The Regulator engines and the inputs they share: slots by Quarter × 512 + n, the base ticks so far by Quarter, the newest code of
each analog input, and the encoder positions at the previous tick with the velocities, by Quarter × 16 + encoder. -/
structure RegulatorS where
  slots : List (Nat × SlotS) := []
  ticks : List (Nat × Nat) := []
  adc : List (Nat × Nat) := []
  prevPos : List (Nat × Int) := []
  vel : List (Nat × Int) := []
  deriving DecidableEq, Repr

/-- A current loop (R464): the integrals of its d and q axes and its voltages, in mV × 2^16. -/
structure CurrentLoop where
  intD : Int := 0
  intQ : Int := 0
  outD : Int := 0
  outQ : Int := 0
  deriving DecidableEq, Repr

/-- A polygon controller beside its registers (R459 to R468): when its state was entered, the newest comparator crossings (time,
phase), the current reference in mA, where it started and whether it has met the command, periods in a row of low confidence, the
time of HANDOFF_RPM, when the resynchronisation began, its failed start attempts, whether it winds down, coasts to CATCH_RPM, waits
to retry or ends in FAULT, its drive command, and its current loop. -/
structure PolyS where
  since : Nat := 0
  cross : List (Nat × Nat) := []
  iRef : Int := 0
  iStart : Int := 0
  handedOver : Bool := true
  low : Nat := 0
  handoffAt : Option Nat := none
  resyncAt : Nat := 0
  winding : Bool := false
  coasting : Bool := false
  retrying : Bool := false
  failed : Bool := false
  fails : Nat := 0
  command : Int := 0
  loop : CurrentLoop := {}
  deriving DecidableEq, Repr

/-- A PMSM controller beside its registers (R469 to R471): the count at the index, the current reference in mA, the times of the
newest encoder faults, whether it winds down, its torque command, when it began to align, the count at which it was aligned, and its current loop. -/
structure PmsmS where
  indexAt : Int := 0
  iRef : Int := 0
  faults : List Nat := []
  winding : Bool := false
  command : Int := 0
  alignAt : Nat := 0
  alignedAt : Option Int := none
  loop : CurrentLoop := {}
  deriving DecidableEq, Repr

/-- A DC bus (R472 to R474): its last 20 µs average, rising averages in a row with the chopper on, the chopper's state throughout the
average in progress, and when the hard limit tripped. -/
structure BusS where
  avg : Nat := 0
  rises : Nat := 0
  onAll : Bool := false
  trippedAt : Nat := 0
  deriving DecidableEq, Repr

/-- Commutation and PWM outputs: polygon controllers by Quarter × 8 + p, PMSM controllers by Quarter × 4 + d, buses, and by Quarter ×
128 + channel the duty a slot asks for and the one latched for the present period (`none` the idle level); by Quarter × 16 + controller (8 + d for
a PMSM) the pulses of U, V and W as start and length in steps of 312.5 ps (`none` released). At the pins: by period group the Quarter that owns the
channels and the latest boundary, and by channel (U high, V high, W high for a bridge) the pulse of the present period (R375, R456). -/
structure MotorS where
  poly : List (Nat × PolyS) := []
  pmsm : List (Nat × PmsmS) := []
  bus : List (Nat × BusS) := []
  want : List (Nat × Option Int) := []
  duty : List (Nat × Option Int) := []
  bridge : List (Nat × Option (List (Nat × Nat))) := []
  owns : List (Nat × Side) := []
  edge : List (Nat × Nat) := []
  pins : List (Nat × Option (Nat × Nat)) := []
  deriving DecidableEq, Repr

/-- A quadrature encoder's inputs as they last were (R478). -/
structure EncS where
  a : Bool := false
  b : Bool := false
  deriving DecidableEq, Repr

/-- A limit switch (R494 to R496): its last sampled level, samples in a row at that level, and the times of its newest raw changes. -/
structure LimitS where
  level : Bool := false
  run : Nat := 0
  changes : List Nat := []
  deriving DecidableEq, Repr

/-- What moves (R487): position × 6T³, velocity × 2T² and acceleration × T, with T = 800 000 000 timebase ticks a second. -/
structure Kin where
  p : Int := 0
  v : Int := 0
  a : Int := 0
  deriving DecidableEq, Repr

/-- A trajectory (R487): the tick of its start, the state there, its segments with their ticks and jerk, and the ticks until it cruises. -/
structure Plan where
  start : Nat := 0
  kin : Kin := {}
  segs : List (Nat × Int) := []
  cruise : Nat := 0
  deriving DecidableEq, Repr

/-- An axis of one Quarter beside its registers (R483 to R500): whether the image binds it, its trajectory,
the step of a homing run (0 none, else 1 to 5 of R499), whether STALL_EN is set, consecutive stalls and missed frames, f and p at HOMED,
its switches, since when it has been at rest, the profile whose deceleration and jerk are in force, and a bridge that is to go off
at rest. -/
structure AxisS where
  bound : Bool := false
  plan : Plan := {}
  homing : Nat := 0
  stallEn : Bool := false
  stalls : Nat := 0
  misses : Nat := 0
  fHome : Int := 0
  pHome : Int := 0
  neg : LimitS := {}
  pos : LimitS := {}
  restAt : Nat := 0
  limits : Nat := 0
  clear : Bool := false
  deriving DecidableEq, Repr

/-- Axes by Quarter × 32 + a, encoder inputs by Quarter × 8 + e, and by Quarter × 4 + chain: consecutive good responses of bring-up per
slot and the frame sent last. -/
structure AxesS where
  axis : List (Nat × AxisS) := []
  enc : List (Nat × EncS) := []
  good : List (Nat × List Nat) := []
  frame : List (Nat × List Byte) := []
  deriving DecidableEq, Repr

/-- A DMA channel beside its registers (R51, R161, R163, R541): where the run in progress reads and writes, in the map of R44, whether its
COUNT has been checked since its start, and whether an enable waits for the end of its wind-down. -/
structure ChanS where
  run : Option (Nat × Nat) := none
  checked : Bool := false
  waits : Bool := false
  deriving DecidableEq, Repr

/-- A general job (R240). -/
structure Job where
  src : Nat
  dst : Nat
  srcLen : Nat
  dstLen : Nat
  kind : Nat
  format : Nat
  tableId : Nat
  container : Bool
  tables : Nat
  flush : Nat
  tag : Nat
  deriving DecidableEq, Repr

/-- The running general job: the compressor that runs it (4 and above a stream checker), the bytes read, and how many FLUSH commands it
has accepted (R239). -/
structure RunJob where
  job : Job
  unit : Nat
  input : List Byte
  flushes : Nat := 0
  deriving DecidableEq, Repr

/-- A station chain that a compressor works on (R224): the ring index of its page, its station, the blocks reserved, and whether it waits
for the space of its next band (R225). -/
structure ChainRun where
  slot : Nat
  station : Nat
  reserved : Nat
  waits : Bool := false
  deriving DecidableEq, Repr

/-- An inspection image (R250, R355): its buffer, the port its lines come from, the instance whose window it belongs to, its WSN and
start time, the bytes of a line, its lines so far, the number of the latest one, the lines of a group, whether its last line has
come, and the payloads of its lines, newest first. -/
structure InspImg where
  buf : InspBuf
  port : Side
  inst : Nat
  wsn : Nat
  start : Nat
  lineBytes : Nat
  lines : Nat := 1
  lineNo : Nat
  group : Nat
  ended : Bool := false
  data : List (List Byte) := []
  deriving DecidableEq, Repr

/-- The codec beside its registers: waiting and running general jobs, the chain of each compressor, the inspection images not yet
done (oldest first), whether the rest of an image is discarded, and the port in use (R357). -/
structure CodecS where
  jobs : List Job := []
  run : Option RunJob := none
  chains : List (Nat × Option ChainRun) := []
  imgs : List InspImg := []
  skip : Bool := false
  port : Side := .north
  deriving DecidableEq, Repr



/-- The device: everything but its fuses and the queue of commands. -/
structure Device where
  now : Nat := 0
  startAt : Nat := 0
  st : DevState := .booting
  regs : List (Nat × Word) := []
  mem : List (Nat × Byte) := []
  tables : List (Nat × List Byte) := []
  resp : Resp := .ok
  data : Word := 0
  rdata : List Byte := []
  hiLatch : List (Nat × Option Word) := []
  loHold : List (Nat × Option Word) := []
  token : Option Side := none
  north : QuarterS := {}
  south : QuarterS := {}
  transfer : Option Transfer := none
  planned : Option Planned := none
  tokenAt : Nat := 0
  host : HostIf := {}
  ledger : LedgerS := {}
  kerb : KerbS := {}
  dlv : DeliveryS := {}
  tml : TimelineS := {}
  sup : List (Nat × RuleS) := []
  ps : StoreS := {}
  flash : Flash := {}
  boot : BootS := {}
  clk : ClockS := {}
  pwr : PowerS := {}
  thm : ThermS := {}
  cns : CnsS := {}
  bmo : BeamS := {}
  synth : List (Nat × SynthS) := []
  ref : List (Nat × RefS) := []
  port : List (Nat × PortS) := []
  rgl : RegulatorS := {}
  mot : MotorS := {}
  axs : AxesS := {}
  params : List (Nat × Word) := []
  arc : CodecS := {}
  dma : List (Nat × ChanS) := []
  frees : Nat := 0
  sramCe : Nat := 0
  deriving DecidableEq, Repr

/-- The state of the machine: the device, its fuses, and the commands that wait, first in first out. -/
structure State where
  dev : Device
  fuses : Fuses
  pending : List Instr
  deriving DecidableEq, Repr

/-- No command stops the machine: a wrong access is answered with an error response, a refused command is ignored as its rule says.
There is no fault. -/
inductive Fault where
  deriving DecidableEq, Repr

/-- The reasons for which the model gives a command no meaning. -/
inductive Refusal where
  /-- Raised by an arm of `exec` whose command has no meaning yet; safe, since nothing is claimed of the machine after it. -/
  | notModelled (mnemonic : String)
  deriving DecidableEq, Repr

/-- The fuses of the modelled part: stepping B1 (R577); serial number and keys are blank. -/
def Fuses.reset : Fuses :=
  { serial := 0, stepping := 0x21, keys := List.replicate 4 (List.replicate 32 0), requireSigned := false }

/-- The device at the start of a cold start (R58): every register at its reset value, nothing in memory, Booting. -/
def Device.reset : Device := {}

/-- The machine right after reset: a cold start that has begun. No retained commit register is valid (R95), the sheet journal holds the
START entry of this start, its first (R102): kind 6 START, cause 0 a cold start, LAST_DELIVERED 0, and the state change from Off to
Booting waits for the event ring (R7, R153, R155). -/
def State.reset : State :=
  { dev :=
      { Device.reset with
        regs := [(PGS_DLV_STATUS, PGS_DLV_STATUS_RETENTION_LOST.put 0 1)]
        boot := { d0Ready := false }
        host := { backlog := [{ typ := 6, nmi := false, seq := 0, code := 2, wsn := 0, data := 0, time := 0 }], seq := 1 }
        dlv :=
          { journal :=
              [{ wsn := 0, no := 0, kind := 6, cause := 0, stations := 0, reprint := false, duplex := false, quarter := 0, time := 0,
                 pageId := 0 }]
            nextNo := 1 } }
    fuses := Fuses.reset
    pending := [] }

end Sys2Proof.Machine
end

