-- ==== Sys2Proof/Machine/Fields.lean ====
section
/-! DEFINITION. Replacing one part of the device: `withX` puts a value, `modX` changes what is there. Every change of the device beside
registers, memory and loaded tables goes through one of these. -/

namespace Sys2Proof.Machine

def Device.withSt (d : Device) (v : DevState) : Device := { d with st := v }
def Device.withRegs (d : Device) (v : List (Nat × Word)) : Device := { d with regs := v }
def Device.withHiLatch (d : Device) (v : List (Nat × Option Word)) : Device := { d with hiLatch := v }
def Device.withLoHold (d : Device) (v : List (Nat × Option Word)) : Device := { d with loHold := v }
def Device.withRdata (d : Device) (v : List Byte) : Device := { d with rdata := v }
def Device.withToken (d : Device) (v : Option Side) : Device := { d with token := v }
def Device.modNorth (d : Device) (f : QuarterS → QuarterS) : Device := { d with north := f d.north }
def Device.modSouth (d : Device) (f : QuarterS → QuarterS) : Device := { d with south := f d.south }
def Device.withTransfer (d : Device) (v : Option Transfer) : Device := { d with transfer := v }
def Device.withPlanned (d : Device) (v : Option Planned) : Device := { d with planned := v }
def Device.withTokenAt (d : Device) (v : Nat) : Device := { d with tokenAt := v }
def Device.modHost (d : Device) (f : HostIf → HostIf) : Device := { d with host := f d.host }
def Device.modLedger (d : Device) (f : LedgerS → LedgerS) : Device := { d with ledger := f d.ledger }
def Device.modKerb (d : Device) (f : KerbS → KerbS) : Device := { d with kerb := f d.kerb }
def Device.modDlv (d : Device) (f : DeliveryS → DeliveryS) : Device := { d with dlv := f d.dlv }
def Device.modTml (d : Device) (f : TimelineS → TimelineS) : Device := { d with tml := f d.tml }
def Device.withSup (d : Device) (v : List (Nat × RuleS)) : Device := { d with sup := v }
def Device.modPs (d : Device) (f : StoreS → StoreS) : Device := { d with ps := f d.ps }
def Device.modFlash (d : Device) (f : Flash → Flash) : Device := { d with flash := f d.flash }
def Device.modBoot (d : Device) (f : BootS → BootS) : Device := { d with boot := f d.boot }
def Device.modClk (d : Device) (f : ClockS → ClockS) : Device := { d with clk := f d.clk }
def Device.modPwr (d : Device) (f : PowerS → PowerS) : Device := { d with pwr := f d.pwr }
def Device.modThm (d : Device) (f : ThermS → ThermS) : Device := { d with thm := f d.thm }
def Device.modCns (d : Device) (f : CnsS → CnsS) : Device := { d with cns := f d.cns }
def Device.modBmo (d : Device) (f : BeamS → BeamS) : Device := { d with bmo := f d.bmo }
def Device.withSynth (d : Device) (v : List (Nat × SynthS)) : Device := { d with synth := v }
def Device.withRef (d : Device) (v : List (Nat × RefS)) : Device := { d with ref := v }
def Device.withPort (d : Device) (v : List (Nat × PortS)) : Device := { d with port := v }
def Device.modRgl (d : Device) (f : RegulatorS → RegulatorS) : Device := { d with rgl := f d.rgl }
def Device.modMot (d : Device) (f : MotorS → MotorS) : Device := { d with mot := f d.mot }
def Device.modAxs (d : Device) (f : AxesS → AxesS) : Device := { d with axs := f d.axs }
def Device.withParams (d : Device) (v : List (Nat × Word)) : Device := { d with params := v }
def Device.modArc (d : Device) (f : CodecS → CodecS) : Device := { d with arc := f d.arc }
def Device.withDma (d : Device) (v : List (Nat × ChanS)) : Device := { d with dma := v }
def Device.withFrees (d : Device) (v : Nat) : Device := { d with frees := v }
def Device.withSramCe (d : Device) (v : Nat) : Device := { d with sramCe := v }

end Sys2Proof.Machine
end

