-- ==== Sys2Proof/Machine/Ops.lean ====
section
/-! DEFINITION. The named operations over the state: time, registers and their fields, memory, loaded tables, and the answers of
accesses. -/

namespace Sys2Proof.Machine

/-- The outcome type of every meaning. -/
abbrev Result := Host.Outcome State Fault Refusal

/-- Time never runs backwards: a command's time stamp only advances the clock. -/
def Device.tick (d : Device) (t : Nat) : Device := { d with now := max d.now t }

/-- Run a change of the device at the command's time; the fuses and the queue stay (R578). -/
def State.run (s : State) (t : Nat) (f : Device → Device) : Result := .next { s with dev := f (s.dev.tick t) }

/-- As `State.run`, for a change that reads the fuses. -/
def State.runF (s : State) (t : Nat) (f : Fuses → Device → Device) : Result :=
  .next { s with dev := f s.fuses (s.dev.tick t) }

/-- Microseconds since the last start, as events and journals carry them. -/
def Device.usec (d : Device) : Nat := (d.now - d.startAt) / tuPerUs

/-- The register at an address. -/
def Device.reg (d : Device) (a : Nat) : Word := sget resetWord d.regs a

/-- Set the register at an address. -/
def Device.setReg (d : Device) (a : Nat) (v : Word) : Device := { d with regs := sput resetWord d.regs a v }

/-- Set the register at an address to a number. -/
def Device.setNat (d : Device) (a v : Nat) : Device := d.setReg a (BitVec.ofNat 32 v)

/-- A field of a register. -/
def Device.fld (d : Device) (a : Nat) (f : Fld) : Nat := f.get (d.reg a)

/-- Set a field of a register and keep its other bits. -/
def Device.setFld (d : Device) (a : Nat) (f : Fld) (v : Nat) : Device := d.setReg a (f.put (d.reg a) v)

/-- A one-bit field. -/
def Device.flag (d : Device) (a : Nat) (f : Fld) : Bool := d.fld a f == 1

/-- Set a one-bit field. -/
def Device.setFlag (d : Device) (a : Nat) (f : Fld) (b : Bool) : Device := d.setFld a f (b01 b)

/-- Add to a counting field, which saturates at its largest value. -/
def Device.addSat (d : Device) (a : Nat) (f : Fld) (n : Nat) : Device :=
  d.setFld a f (min (d.fld a f + n) (2 ^ (f.hi + 1 - f.lo) - 1))

/-- Count one in a saturating field. -/
def Device.count (d : Device) (a : Nat) (f : Fld) : Device := d.addSat a f 1

/-- The whole register as a field. -/
def wholeWord : Fld := ⟨31, 0⟩

/-- Raise a field to a value if it is lower: the largest seen. -/
def Device.maxFld (d : Device) (a : Nat) (f : Fld) (v : Nat) : Device := d.setFld a f (max (d.fld a f) v)

/-- The whole register as a number. -/
def Device.nat (d : Device) (a : Nat) : Nat := (d.reg a).toNat

/-- A 64-bit value in two consecutive registers (R16). -/
def Device.nat64 (d : Device) (lo : Nat) : Nat := d.nat lo + 2 ^ 32 * d.nat (lo + 4)

/-- Set a 64-bit value in two consecutive registers (R16). -/
def Device.setNat64 (d : Device) (lo v : Nat) : Device := (d.setNat lo v).setNat (lo + 4) (v / 2 ^ 32)

/-- A whole register read as signed. -/
def Device.int (d : Device) (a : Nat) : Int := (d.reg a).toInt

/-- What memory holds where nothing is listed: 0, a choice of the model. -/
def memDefault (_ : Nat) : Byte := 0

/-- The byte at an address of the DMA space (R45). -/
def Device.byte (d : Device) (a : Nat) : Byte := sget memDefault d.mem a

/-- Write a byte at an address of the DMA space. -/
def Device.setByte (d : Device) (a : Nat) (b : Byte) : Device := { d with mem := sput memDefault d.mem a b }

/-- Write bytes at rising addresses. -/
def Device.setBytes (d : Device) (a : Nat) : List Byte → Device
  | [] => d
  | b :: r => (d.setByte a b).setBytes (a + 1) r

/-- `n` bytes from an address. -/
def Device.bytes (d : Device) (a : Nat) : Nat → List Byte
  | 0 => []
  | n + 1 => d.byte a :: d.bytes (a + 1) n

/-- The contents of a region become undefined: every byte is a free value. `frees` numbers such regions. -/
def Device.scramble (d : Device) (a n : Nat) : Device :=
  { d.setBytes a ((List.range n).map (fun i => Config.freeByte d.frees (a + i))) with frees := d.frees + 1 }

/-- The address of a byte of host memory in the DMA space (R45). -/
def hostAddr (a : Nat) : Nat := 2 ^ 63 + a % 2 ^ 63

/-- The key of an entry of a loaded table: block code, instance and entry index (R75), or 0x40 and above for entries held per
Quarter and changed at run time. -/
def tableKey (code inst idx : Nat) : Nat := (code * 256 + inst) * 65536 + idx

/-- An entry of a loaded table; empty where the image loads none. -/
def Device.entry (d : Device) (code inst idx : Nat) : List Byte := sget (fun _ => []) d.tables (tableKey code inst idx)

/-- Load an entry of a table. -/
def Device.setEntry (d : Device) (code inst idx : Nat) (b : List Byte) : Device :=
  { d with tables := sput (fun _ => []) d.tables (tableKey code inst idx) b }

/-- Answer an access. -/
def Device.answer (d : Device) (r : Resp) (w : Word) : Device := { d with resp := r, data := w }

/-- Answer an access that returns no data. -/
def Device.reply (d : Device) (r : Resp) : Device := d.answer r 0

/-- What a Quarter holds beside its registers. -/
def Device.q (d : Device) : Side → QuarterS
  | .north => d.north
  | .south => d.south

/-- Replace what a Quarter holds. -/
def Device.setQ (d : Device) (q : Side) (v : QuarterS) : Device :=
  match q with
  | .north => { d with north := v }
  | .south => { d with south := v }

/-- The role of a Quarter. -/
def Device.role (d : Device) (q : Side) : Role := (d.q q).role

/-- The Quarter that owns the outputs; North where no Quarter holds the token. -/
def Device.owner (d : Device) : Side := d.token.getD .north

/-- Fold a change over a list of instances. -/
def Device.each {α : Type} (d : Device) (l : List α) (f : α → Device → Device) : Device := l.foldl (fun d x => f x d) d

/-- Both Quarters. -/
def bothSides : List Side := [.north, .south]

/-- The numbers below `n` whose bit is set in a mask. -/
def maskList (n m : Nat) : List Nat := (List.range n).filter (natBit m)

/-- Set or clear bit `i` of a number. -/
def setNatBit (m i : Nat) (b : Bool) : Nat := if b then m ||| 2 ^ i else (m ||| 2 ^ i) ^^^ 2 ^ i

/-- Whether the newest `n` of the listed times, newest first, lie within an interval of length `w` (R362). -/
def windowLasting (n w : Nat) (times : List Nat) : Bool :=
  match times, times[n - 1]? with
  | t :: _, some t0 => decide (t - t0 ≤ w)
  | _, _ => false

end Sys2Proof.Machine
end

