-- ==== Sys2Proof/Machine/Blocks.lean ====
section
/-! DEFINITION. The coding of the Enwell lanes (R327 to R331): 66-bit blocks, the scrambler, striping and packets; and a port's state. -/

namespace Sys2Proof.Machine

/-- The key of a station's block in a Quarter. -/
def pk (q : Side) (s : Nat) : Nat := 8 * q.code + s

/-- A port's state beside its registers. -/
def Device.portS (d : Device) (q : Side) (s : Nat) : PortS := sget (fun _ => {}) d.port (pk q s)

def Device.setPort (d : Device) (q : Side) (s : Nat) (v : PortS) : Device :=
  d.withPort (sput (fun _ => {}) d.port (pk q s) v)

/-- A station's lines in a Quarter. -/
def Device.lineS (d : Device) (q : Side) (s : Nat) : LineS := sget (fun _ => {}) d.bmo.lines (pk q s)

def Device.setLine (d : Device) (q : Side) (s : Nat) (v : LineS) : Device :=
  d.modBmo (fun v' => { v' with lines := sput (fun _ => {}) v'.lines (pk q s) v })

/-! The states of a port: ENW_STATUS.STATE. -/

def enOff : Nat := 0
def enTraining : Nat := 1
def enConfig : Nat := 2
def enUp : Nat := 3
def enFailed : Nat := 4
def enDown : Nat := 5

/-- The state of a port. -/
def Device.enState (d : Device) (q : Side) (s : Nat) : Nat := d.fld (ENW_STATUS q s) ENW_STATUS_STATE

def Device.setEn (d : Device) (q : Side) (s n : Nat) : Device := d.setFld (ENW_STATUS q s) ENW_STATUS_STATE n

/-- Whether a port serves a Quarter that transmits (R345, R347): it is enabled and in service. -/
def Device.portServes (d : Device) (q : Side) (s : Nat) : Bool :=
  (d.q q).transmits && d.flag (ENW_CTRL q s) ENW_CTRL_ENABLE && !d.flag (ENW_CTRL q s) ENW_CTRL_BUSY &&
    (d.enState q s == enUp || d.enState q s == enDown)

/-- A block before its coding: eight bytes of data, or a control block's type and its other seven bytes (R327). -/
structure Block where
  control : Bool
  bytes : List Byte
  deriving DecidableEq, Repr

/-- A control block; the bytes that R329 does not name are 0. -/
def ctlBlock (kind : Nat) (content : List Byte) : Block :=
  { control := true, bytes := ((BitVec.ofNat 8 kind :: content) ++ List.replicate 7 0).take 8 }

/-! The block types of R329. -/

def btIdle : Nat := 0xE1
def btAlign : Nat := 0xE2
def btStart : Nat := 0xE3
def btLoop : Nat := 0xE4
def btLine : Nat := 0xE5
def btAbort : Nat := 0xE6

/-- The ALIGN block of a lane. -/
def alignBlock (lane : Nat) : Block := ctlBlock btAlign [BitVec.ofNat 8 lane, 0x57, 0x45]

/-- One bit through the self-synchronous scrambler 1 + x^39 + x^58; bit 0 of its state is the bit sent last (R327). -/
def scrambleBit (st : BitVec 58) (x : Bool) : BitVec 58 × Bool :=
  let y := x ^^ st.getLsbD 38 ^^ st.getLsbD 57
  ((st <<< 1) ||| (if y then 1 else 0), y)

/-- Bits through the scrambler. -/
def scramble : BitVec 58 → List Bool → BitVec 58 × List Bool
  | st, [] => (st, [])
  | st, x :: l =>
    let (st, y) := scrambleBit st x
    let (st, r) := scramble st l
    (st, y :: r)

/-- One bit through a receiver's descrambler. -/
def descramble : BitVec 58 → List Bool → List Bool
  | _, [] => []
  | st, y :: l => (y ^^ st.getLsbD 38 ^^ st.getLsbD 57) :: descramble ((st <<< 1) ||| (if y then 1 else 0)) l

/-- A block goes out on a lane: its sync header in clear, its content scrambled by the lane's scrambler (R327). -/
def PortS.lay (v : PortS) (lane : Nat) (b : Block) : PortS :=
  let r := scramble (v.scr.getD lane 0) (bitsOf b.bytes)
  { v with
    scr := v.scr.set lane r.1
    wire := v.wire ++ [{ lane, sync := if b.control then 0b10 else 0b01, bits := BitVec.ofNat 64 (bitsNat r.2) }] }

/-- The stream blocks of a lane between two ALIGN blocks: every 16 384th block of a lane is ALIGN (R328, R337). -/
def alignRun : Nat := 16383

/-- The next block of the stream: on lane i mod 4, after an ALIGN block on all four lanes where one is due (R328). -/
def PortS.emit (v : PortS) (b : Block) : PortS :=
  let v := if v.next % (4 * alignRun) = 0 then (List.range 4).foldl (fun v lane => v.lay lane (alignBlock lane)) v else v
  { v.lay (v.next % 4) b with next := v.next + 1 }

/-- The blocks of a packet or of a single control block, sent back to back (R331); `wire` shows what the port sent last. How many IDLE
blocks went before, and what they left in the scramblers, is free (log entry 120). -/
def PortS.send (v : PortS) (key : Nat) (l : List Block) : PortS :=
  let v := { v with
    next := v.next + Config.idleBlocks key v.sends
    scr := (List.range 4).map (fun lane => Config.laneState key v.sends lane)
    sends := v.sends + 1
    wire := [] }
  l.foldl PortS.emit v

/-- A port sends blocks. -/
def Device.sendBlocks (d : Device) (q : Side) (s : Nat) (l : List Block) : Device :=
  d.setPort q s ((d.portS q s).send (pk q s) l)

/-- Bytes in data blocks of eight. -/
def dataBlocks : Nat → List Byte → List Block
  | 0, _ => []
  | n + 1, l => { control := false, bytes := l.take 8 } :: dataBlocks n (l.drop 8)

/-- A body with its trailer: CRC-32C over the body, and four bytes of 0 (R330). -/
def withTrailer (body : List Byte) : List Byte := withCrc body ++ List.replicate 4 0

/-- A packet: START with its kind, then the body in data blocks (R330). -/
def packet (body : List Byte) : List Block :=
  let b := withTrailer body
  ctlBlock btStart [body.getD 0 0] :: dataBlocks (b.length / 8) b

/-- A control message (R336). -/
def controlMessage (msg tag : Nat) (payload : List Byte) : List Byte :=
  leBytes 1 2 ++ leBytes 1 msg ++ leBytes 2 payload.length ++ leBytes 4 tag ++ payload

/-- A port sends a control message, with a TAG that the spec leaves open. -/
def Device.sendMessage (d : Device) (q : Side) (s msg : Nat) (payload : List Byte) : Device :=
  d.sendBlocks q s (packet (controlMessage msg (Config.messageTag (pk q s) (d.portS q s).sends).toNat payload))

/-- BD_ON of HELLO (R336). -/
def bdOn : Nat := 102283

/-- HELLO (R336). -/
def helloPayload (q : Side) (s : Nat) : List Byte :=
  leBytes 1 1 ++ leBytes 1 s ++ leBytes 1 q.code ++ leBytes 1 0 ++ leBytes 4 bdOn ++ leBytes 8 0

end Sys2Proof.Machine
end

