-- ==== Sys2Proof/Machine/Deflate.lean ====
section
/-! DEFINITION. Streams (R208 to R221, R230): DEFLATE-compatible and wide mode, code tables, and the substream container. The stream
checkers and the decoders share the parser, which keeps the decoded bytes, the newest first. -/

namespace Sys2Proof.Machine

/-! The error codes of R245. -/

def jeNone : Nat := 0
def jeNoSpace : Nat := 1
def jeSrc : Nat := 2
def jeDst : Nat := 3
def jeBadJob : Nat := 4
def jeAborted : Nat := 5
def jeContainer : Nat := 6
def jeCode : Nat := 7
def jeDist : Nat := 8
def jeStored : Nat := 9
def jeLength : Nat := 10
def jeDistRange : Nat := 11
def jeOverrun : Nat := 12
def jeInternal : Nat := 13

/-- What is left of a bitstream, least significant bit of each byte first, and how many bits have been read. -/
structure Bits where
  rest : List Bool
  pos : Nat
  deriving DecidableEq, Repr

/-- Read `n` bits as a number, the first least significant; an early end is LENGTH. -/
def Bits.take (b : Bits) : Nat → Except Nat (Nat × Bits)
  | 0 => .ok (0, b)
  | n + 1 =>
    match b.rest with
    | [] => .error jeLength
    | x :: r =>
      match Bits.take { rest := r, pos := b.pos + 1 } n with
      | .ok (v, b) => .ok (b01 x + 2 * v, b)
      | .error e => .error e

/-- Skip to the next byte boundary. -/
def Bits.align (b : Bits) : Bits :=
  let n := (8 - b.pos % 8) % 8
  { rest := b.rest.drop n, pos := b.pos + n }

/-- A set of prefix codes: how many codes have each length 1 to 15, and the symbols by length, then by number. -/
structure Codes where
  counts : List Nat
  symbols : List Nat
  deriving DecidableEq, Repr

/-- The canonical codes of RFC 1951 for code lengths. -/
def codesOf (lens : List Nat) : Codes :=
  { counts := (List.range 15).map (fun i => lens.countP (fun l => l == i + 1))
    symbols := (List.range 15).flatMap (fun i => ((List.range lens.length).zip lens).filterMap (fun x => if x.2 = i + 1 then some x.1 else none)) }

/-- Codes still free after the lengths of a list of counts; none where they are over-subscribed. -/
def codesLeft : List Nat → Nat → Option Nat
  | [], left => some left
  | c :: r, left => if 2 * left < c then none else codesLeft r (2 * left - c)

/-- Whether code lengths form a complete prefix code. -/
def lensComplete (lens : List Nat) : Bool := codesLeft (codesOf lens).counts 1 == some 0

/-- Whether the distance set is accepted (R221): complete, a single code of length 1, or no code at all. -/
def distOk (lens : List Nat) : Bool :=
  lensComplete lens || lens.all (fun l => l == 0) || (lens.countP (fun l => l != 0) == 1 && lens.contains 1)

/-- Decode a symbol: a code that no symbol has is CODE. -/
def decodeSym (syms : List Nat) : List Nat → Nat → Nat → Nat → Bits → Except Nat (Nat × Bits)
  | [], _, _, _, _ => .error jeCode
  | c :: r, code, first, index, b =>
    match b.take 1 with
    | .error e => .error e
    | .ok (x, b) =>
      let code := 2 * code + x
      if code < first + c then
        match syms[index + (code - first)]? with
        | some s => .ok (s, b)
        | none => .error jeCode
      else decodeSym syms r code (2 * (first + c)) (index + c) b

/-- Decode a symbol of a set. -/
def Codes.next (c : Codes) (b : Bits) : Except Nat (Nat × Bits) := decodeSym c.symbols c.counts 0 0 0 b

/-- The base and extra bits of a length symbol 257 to 285 (RFC 1951). -/
def lengthOf (s : Nat) : Nat × Nat :=
  if s < 265 then (s - 254, 0)
  else if s < 285 then (((s - 265) % 4 + 4) * 2 ^ ((s - 261) / 4) + 3, (s - 261) / 4)
  else (258, 0)

/-- The base and extra bits of a distance code (RFC 1951, R209). -/
def distanceOf (c : Nat) : Nat × Nat := if c < 4 then (c + 1, 0) else ((2 + c % 2) * 2 ^ (c / 2 - 1) + 1, c / 2 - 1)

/-- The largest distance code of a format (R208, R209). -/
def maxDist (format : Nat) : Nat := if format = 1 then 29 else 35

/-- Copy `n` bytes from `distance` back; the newest byte comes first. -/
def copyBack (distance : Nat) : Nat → List Byte → List Byte
  | 0, out => out
  | n + 1, out => copyBack distance n (out.getD (distance - 1) 0 :: out)

/-- The symbols of a block up to its end; `out` holds the bytes decoded so far, newest first. -/
def blockSyms (format limit : Nat) (lit dist : Codes) : Nat → List Byte → Bits → Except Nat (List Byte × Bits)
  | 0, _, _ => .error jeLength
  | n + 1, out, b =>
    match lit.next b with
    | .error e => .error e
    | .ok (s, b) =>
      if s < 256 then blockSyms format limit lit dist n (BitVec.ofNat 8 s :: out) b
      else if s = 256 then .ok (out, b)
      else if 285 < s ∨ dist.symbols.isEmpty then .error jeCode
      else
        let l := lengthOf s
        match b.take l.2 with
        | .error e => .error e
        | .ok (x, b) =>
          let len := l.1 + x
          match dist.next b with
          | .error e => .error e
          | .ok (c, b) =>
            if maxDist format < c then .error jeCode
            else
              let g := distanceOf c
              match b.take g.2 with
              | .error e => .error e
              | .ok (y, b) =>
                let distance := g.1 + y
                if limit < distance then .error jeDistRange
                else if out.length < distance then .error jeDist
                else blockSyms format limit lit dist n (copyBack distance len out) b

/-- The order of the code-length codes (RFC 1951). -/
def clOrder : List Nat := [16, 17, 18, 0, 8, 7, 9, 6, 10, 5, 11, 4, 12, 3, 13, 2, 14, 1, 15]

/-- The fixed literal/length codes (RFC 1951). -/
def fixedLit : List Nat := List.replicate 144 8 ++ List.replicate 112 9 ++ List.replicate 24 7 ++ List.replicate 8 8

/-- The fixed distance codes: 5 bits, or 6 bits in wide mode (R209). -/
def fixedDist (format : Nat) : List Nat := if format = 1 then List.replicate 32 5 else List.replicate 64 6

/-- Read `n` values of `w` bits. -/
def takeMany (w : Nat) : Nat → Bits → Except Nat (List Nat × Bits)
  | 0, b => .ok ([], b)
  | n + 1, b =>
    match b.take w with
    | .error e => .error e
    | .ok (v, b) =>
      match takeMany w n b with
      | .ok (l, b) => .ok (v :: l, b)
      | .error e => .error e

/-- The run-length-coded code lengths of a dynamic header (RFC 1951): `acc` holds those read so far, newest first; more than `total` is
CODE. -/
def readLens (cl : Codes) (total : Nat) : Nat → List Nat → Bits → Except Nat (List Nat × Bits)
  | 0, _, _ => .error jeCode
  | n + 1, acc, b =>
    if acc.length = total then .ok (acc.reverse, b)
    else
      let repeated : Nat → Nat → Nat → Bits → Except Nat (List Nat × Bits) := fun v extra base b =>
        match b.take extra with
        | .error e => .error e
        | .ok (x, b) =>
          if total < acc.length + base + x then .error jeCode
          else .ok (List.replicate (base + x) v ++ acc, b)
      match cl.next b with
      | .error e => .error e
      | .ok (s, b) =>
        if s < 16 then readLens cl total n (s :: acc) b
        else
          let r : Except Nat (List Nat × Bits) := if s = 16 then (match acc with
              | [] => .error jeCode
              | v :: _ => repeated v 2 3 b)
            else if s = 17 then repeated 0 3 3 b
            else repeated 0 7 11 b
          match r with
          | .error e => .error e
          | .ok (acc, b) => readLens cl total n acc b

/-- A dynamic block's header (R209, R221): the literal/length and distance codes. -/
def dynamicHeader (format : Nat) (b : Bits) : Except Nat ((Codes × Codes) × Bits) :=
  match b.take 5 with
  | .error e => .error e
  | .ok (hlit, b) =>
    match b.take (if format = 1 then 5 else 6) with
    | .error e => .error e
    | .ok (hdist, b) =>
      if format ≠ 1 ∧ 35 < hdist then .error jeCode
      else
        match b.take 4 with
        | .error e => .error e
        | .ok (hclen, b) =>
          match takeMany 3 (hclen + 4) b with
          | .error e => .error e
          | .ok (l, b) =>
            let cls := (List.range 19).map (fun s =>
              match clOrder.findIdx? (fun x => x == s) with
              | some i => l.getD i 0
              | none => 0)
            if !lensComplete cls then .error jeCode
            else
              match readLens (codesOf cls) (hlit + 257 + hdist + 1) (hlit + hdist + 259) [] b with
              | .error e => .error e
              | .ok (lens, b) =>
                let lit := lens.take (hlit + 257)
                let dist := lens.drop (hlit + 257)
                if !lensComplete lit || lit.getD 256 0 == 0 || !distOk dist then .error jeCode
                else .ok ((codesOf lit, codesOf dist), b)

/-- The first `n` bytes that bits spell. -/
def bytesOfBits : Nat → List Bool → List Byte
  | 0, _ => []
  | n + 1, l => BitVec.ofNat 8 (bitsNat (l.take 8)) :: bytesOfBits n (l.drop 8)

/-- A stored block's data. -/
def storedBlock (out : List Byte) (b : Bits) : Except Nat (List Byte × Bits) :=
  match b.align.take 16 with
  | .error e => .error e
  | .ok (len, b) =>
    match b.take 16 with
    | .error e => .error e
    | .ok (nlen, b) =>
      if len + nlen ≠ 65535 then .error jeStored
      else if b.rest.length < 8 * len then .error jeLength
      else .ok ((bytesOfBits len b.rest).reverse ++ out, { rest := b.rest.drop (8 * len), pos := b.pos + 8 * len })

/-- The blocks of a stream up to the final one: the decoded bytes, newest first, and what follows. -/
def blocks (format limit : Nat) : Nat → List Byte → Bits → Except Nat (List Byte × Bits)
  | 0, _, _ => .error jeLength
  | n + 1, out, b =>
    match b.take 1 with
    | .error e => .error e
    | .ok (final, b) =>
      match b.take 2 with
      | .error e => .error e
      | .ok (kind, b) =>
        let r : Except Nat (List Byte × Bits) :=
          if kind = 0 then storedBlock out b
          else if kind = 1 then blockSyms format limit (codesOf fixedLit) (codesOf (fixedDist format)) (b.rest.length + 1) out b
          else if kind = 2 then
            match dynamicHeader format b with
            | .error e => .error e
            | .ok (c, b) => blockSyms format limit c.1 c.2 (b.rest.length + 1) out b
          else .error jeCode
        match r with
        | .error e => .error e
        | .ok (out, b) => if final = 1 then .ok (out, b) else blocks format limit n out b

/-- Check a bare bitstream (R221): 0 where it passes, else a code of R245. It must end in its last byte and decode to `expect` bytes. -/
def checkBits (format limit expect : Nat) (l : List Byte) : Nat :=
  match blocks format limit (8 * l.length + 1) [] { rest := bitsOf l, pos := 0 } with
  | .error e => e
  | .ok (out, b) => if out.length = expect ∧ (b.pos + 7) / 8 = l.length then jeNone else jeLength

/-- What a bare bitstream decodes to; nothing where it is wrong. -/
def inflate (format limit : Nat) (l : List Byte) : List Byte :=
  match blocks format limit (8 * l.length + 1) [] { rest := bitsOf l, pos := 0 } with
  | .error _ => []
  | .ok (out, _) => out.reverse

/-- Whether the header of a container is right for a format and a decoded length (R218, R219). -/
def containerOk (l : List Byte) (format outLen : Nat) : Bool :=
  bytesAt l 0 2 == 0xC5A7 && bytesAt l 2 1 == format && bytesAt l 3 1 == 1 && bytesAt l 4 4 == outLen &&
    decide (16 ≤ l.length) && bytesAt l 8 4 == l.length - 16 && crcGood (l.take 16) 12

/-- Check a container (R221); the distance limit with a container is 32 768 (R210). -/
def checkContainer (format outLen : Nat) (l : List Byte) : Nat :=
  if containerOk l format outLen then checkBits format 32768 outLen (l.drop 16) else jeContainer

/-- The distance limit of a general job without a container (R210). -/
def windowOf (format : Nat) : Nat := if format = 1 then 32768 else 262144

/-! Preset tables (R213, R214). -/

/-- Code length `i` of a preset entry. -/
def presetLen (b : List Byte) (i : Nat) : Nat :=
  let x := bytesAt b (4 + i / 2) 1
  if i % 2 = 0 then x % 16 else x / 16

def presetNlit (b : List Byte) : Nat := bytesAt b 0 1
def presetNdist (b : List Byte) : Nat := bytesAt b 1 1
def presetFormat (b : List Byte) : Nat := bytesAt b 2 1

/-- Whether a preset entry is valid (R213, R214). -/
def presetOk (b : List Byte) : Bool :=
  let lit := (List.range (presetNlit b + 257)).map (presetLen b)
  let dist := (List.range (presetNdist b + 1)).map (fun i => presetLen b (286 + i))
  b.length == 192 && decide (presetNlit b ≤ 29) && (presetFormat b == 1 || presetFormat b == 2) &&
    decide (presetNdist b ≤ maxDist (presetFormat b)) && lit.all (fun l => l != 0) && dist.all (fun l => l != 0) &&
    lensComplete lit && lensComplete dist

end Sys2Proof.Machine
end

