-- ==== Sys2Proof/Machine/Planner.lean ====
section
/-! DEFINITION. The trajectory planner of the axes (R487 to R489, R492): piecewise constant jerk on the 1.25 ns timebase. Exact integers: with T
ticks a second, a position is held × 6T³, a velocity × 2T², an acceleration × T. -/

namespace Sys2Proof.Machine

/-- T: timebase ticks a second. -/
def tickRate : Nat := 800000000

def posScale : Nat := 6 * tickRate ^ 3
def velScale : Nat := 2 * tickRate ^ 2

/-- A planner's limits: velocity, acceleration while speed rises, deceleration while it falls, jerk (R485). -/
structure Limits where
  v : Nat
  a : Nat
  d : Nat
  j : Nat
  deriving DecidableEq, Repr

/-- `n` ticks under a constant jerk. -/
def Kin.after (k : Kin) (n : Nat) (j : Int) : Kin :=
  { p := k.p + 3 * k.v * n + 3 * k.a * n ^ 2 + j * n ^ 3
    v := k.v + 2 * k.a * n + j * n ^ 2
    a := k.a + j * n }

/-- The state after the segments of a trajectory, each with its ticks and its jerk. -/
def Kin.run (k : Kin) : List (Nat × Int) → Kin
  | [] => k
  | (n, j) :: l => (k.after n j).run l

/-- The state `n` ticks into segments, at rest in their end when they are over. -/
def Kin.at_ (k : Kin) : Nat → List (Nat × Int) → Kin
  | _, [] => { k with v := 0, a := 0 }
  | n, (m, j) :: l => if n < m then k.after n j else (k.after m j).at_ (n - m) l

/-- The other direction. -/
def Kin.flip (k : Kin) : Kin := { p := -k.p, v := -k.v, a := -k.a }

def flipSegs (l : List (Nat × Int)) : List (Nat × Int) := l.map (fun x => (x.1, -x.2))

/-- The largest x below 2^n that passes a test which holds up to a point. -/
def bisect (f : Nat → Bool) : Nat → Nat → Nat
  | 0, x => x
  | n + 1, x => bisect f n (if f (x + 2 ^ n) then x + 2 ^ n else x)

/-- The integer square root. -/
def isqrt (n : Nat) : Nat := bisect (fun x => decide (x * x ≤ n)) 64 0

/-- From one acceleration to another under a jerk: the ticks. -/
def rampTicks (from_ to_ : Int) (j : Nat) : Nat := (to_ - from_).natAbs / j

/-- The ramp of the acceleration from one value to another. -/
def ramp (from_ to_ : Int) (j : Nat) : Nat × Int := (rampTicks from_ to_ j, if to_ < from_ then -(j : Int) else j)

/-- A change of velocity by way of one peak of acceleration: from velocity `v` and acceleration `a` (of either sign) up to velocity `w`, where the
acceleration ends at 0. `lim` limits the peak. -/
def rise (v a w : Int) (lim j : Nat) : List (Nat × Int) :=
  let top : Int := tickRate * lim
  let room := (j * (w - v) + a * a) / 2
  let peak : Int := min top (isqrt room.toNat)
  let peak := max peak 0
  let k1 := Kin.after { p := 0, v := v, a := a } (ramp a peak j).1 (ramp a peak j).2
  let k2 := Kin.after { p := 0, v := 0, a := peak } (ramp peak 0 j).1 (ramp peak 0 j).2
  let left := w - k1.v - k2.v
  [ramp a peak j, (if peak ≤ 0 then 0 else (left / (2 * peak)).toNat, 0), ramp peak 0 j]

/-- The velocity reached when the acceleration goes straight to 0. -/
def coast (v a : Int) (j : Nat) : Int := v + a * (a.natAbs : Int) / (j : Int)

/-- From velocity `v` ≥ 0 and acceleration `a` to velocity `w` ≥ 0 with acceleration 0 (R487). -/
def toSpeed (l : Limits) (v a w : Int) : List (Nat × Int) :=
  if coast v a l.j ≤ w then rise v a w l.a l.j
  else flipSegs (rise (-v) (-a) (-w) l.d l.j)

/-- To rest: the stop of R492, and the end of every trajectory. -/
def toRest (l : Limits) (k : Kin) : List (Nat × Int) :=
  let r := if coast k.v k.a l.j < 0 then [ramp k.a 0 l.j] else []
  let k' := k.run r
  r ++ (if k'.v < 0 then flipSegs (toSpeed l (-k'.v) (-k'.a) 0) else toSpeed l k'.v k'.a 0)

/-- Up to a velocity and down to rest. -/
def overSpeed (l : Limits) (k : Kin) (w : Int) : List (Nat × Int) :=
  let up := toSpeed l k.v k.a w
  up ++ toSpeed l w 0 0

/-- How far segments lead. -/
def reach (k : Kin) (segs : List (Nat × Int)) : Int := (k.run segs).p - k.p

/-- The trajectory forward by `x` for a state that moves forward or rests and can stop before; with the ticks until it cruises (R487, R499). -/
def forward (l : Limits) (k : Kin) (x : Int) : List (Nat × Int) × Nat :=
  let top : Int := velScale * l.v
  let far := reach k (overSpeed l k top)
  let ticks := fun (s : List (Nat × Int)) => (s.map Prod.fst).sum
  if far ≤ x then
    let up := toSpeed l k.v k.a top
    let n := if top = 0 then 0 else ((x - far) / (3 * top)).toNat
    (up ++ [(n, 0)] ++ toSpeed l top 0 0, ticks up)
  else
    let c := max 0 (coast k.v k.a l.j)
    let late := k.after (rampTicks k.a 0 l.j) l.j
    if k.a < 0 ∧ x < reach k ((rampTicks k.a 0 l.j, (l.j : Int)) :: toRest l late) then
      let n := bisect (fun n => decide (reach k ((n, (l.j : Int)) :: toRest l (k.after n l.j)) ≤ x)) 34 0
      let n := min n (rampTicks k.a 0 l.j)
      let s := (n, (l.j : Int)) :: toRest l (k.after n l.j)
      (s, ticks s)
    else
      let w := if c ≤ top then c + bisect (fun n => decide (c + (n : Int) ≤ top ∧ reach k (overSpeed l k (c + n)) ≤ x)) 84 0
        else c - bisect (fun n => decide (top ≤ c - (n : Int) ∧ reach k (overSpeed l k (c - n)) ≤ x)) 84 0
      (overSpeed l k w, ticks (toSpeed l k.v k.a w))

/-- The trajectory from a state that moves forward or rests, over a distance of either sign: where the target lies behind or is nearer than the axis can stop, it comes to
rest, reverses and approaches from the other side (R488). -/
def pathFrom (l : Limits) (k : Kin) (x : Int) : List (Nat × Int) × Nat :=
  let stop := toRest l k
  let s := reach k stop
  if s ≤ x then forward l k x
  else
    let r := forward l { p := 0, v := 0, a := 0 } (s - x)
    (stop ++ flipSegs r.1, (stop.map Prod.fst).sum + r.2)

/-- Whether a state moves backward. -/
def Kin.back (k : Kin) : Bool := decide (k.v < 0 ∨ (k.v = 0 ∧ k.a < 0))

/-- The trajectory from a state to a microstep (R487). -/
def planTo (l : Limits) (k : Kin) (target : Int) : List (Nat × Int) × Nat :=
  let x := target * (posScale : Int) - k.p
  if k.back ∨ (k.v = 0 ∧ k.a = 0 ∧ x < 0) then
    let r := pathFrom l k.flip (-x)
    (flipSegs r.1, r.2)
  else pathFrom l k x

/-- The trajectory to rest (R492). -/
def planStop (l : Limits) (k : Kin) : List (Nat × Int) := if k.back then flipSegs (toRest l k.flip) else toRest l k

/-- Whether a state can come to rest within limits before it passes a microstep that lies ahead of it (R489). -/
def canStop (l : Limits) (k : Kin) (target : Int) : Bool :=
  let x := target * (posScale : Int) - k.p
  let k' := if k.back then k.flip else k
  decide (0 ≤ coast k'.v k'.a l.j ∧ reach k' (toRest l k') ≤ (if k.back then -x else x))

/-- A limit of 0 would stop the planner: it counts as 1. -/
def Limits.pos (l : Limits) : Limits := { v := l.v, a := max 1 l.a, d := max 1 l.d, j := max 1 l.j }

/-- The state of a trajectory at a tick. -/
def Plan.kinAt (x : Plan) (tick : Nat) : Kin := x.kin.at_ (tick - x.start) x.segs

/-- Whether a trajectory is over at a tick. -/
def Plan.over (x : Plan) (tick : Nat) : Bool := decide (x.start + (x.segs.map Prod.fst).sum ≤ tick)

/-- A trajectory at rest in a microstep. -/
def Plan.rest (p : Int) : Plan := { kin := { p := p * (posScale : Int), v := 0, a := 0 } }

/-- A number scaled by `n`, rounded to the nearest. -/
def unscale (x : Int) (n : Nat) : Int := (2 * x + (n : Int)) / (2 * n : Int)

end Sys2Proof.Machine
end

