-- ==== Sys2Proof/Machine/Pcie.lean ====
section
/-! DEFINITION. The PCI Express endpoint (R124, R125, R127, R136, R157): its configuration registers, and what they say of the device's own
requests. -/

namespace Sys2Proof.Machine

/-- What the host has configured, once configuration requests are answered (R68, R124); before that, the standard's reset values. -/
def Device.pcie (d : Device) : PcieCfg := if d.host.cfgRetry then {} else d.host.pcie

/-- What BAR `i` of six reads after all ones have been written to it (R46, R124): BAR0 and BAR1 are one 64-bit, non-prefetchable BAR of
64 MiB, and the others report size 0. -/
def barSizing (i : Nat) : Word :=
  match i with
  | 0 => BitVec.ofNat 32 (2 ^ 32 - 2 ^ 26 + 4)
  | 1 => 0xFFFFFFFF
  | _ => 0

/-- A register of the configuration header at a word offset (R124, R125): Vendor ID and Device ID, Revision ID and Class Code, the BARs,
and the Interrupt Pin, which reads 0. Registers that the spec leaves to the standard read 0. -/
def configWord (f : Fuses) (c : PcieCfg) (i : Nat) : Word :=
  match i with
  | 0 => BitVec.ofNat 32 (0x9140 * 65536 + Config.vendorId.toNat)
  | 2 => BitVec.ofNat 32 (0x118000 * 256 + f.stepping.toNat)
  | 4 => BitVec.ofNat 32 (c.bar0 % 2 ^ 32 + 4)
  | 5 => BitVec.ofNat 32 (c.bar0 / 2 ^ 32)
  | _ => 0

/-- The largest request and payload that the device sends (R124): what the host has set, within what the endpoint supports. -/
def Device.maxPayload (d : Device) : Nat := min 512 d.pcie.payload

def Device.maxReadRequest (d : Device) : Nat := min 4096 d.pcie.readReq

/-- Record a read of host memory for job ring `r`, with its attributes (R124): Relaxed Ordering where Device Control and the ring allow it,
No Snoop where the ring asks for it. -/
def Device.hostRead (d : Device) (r : Nat) : Device :=
  d.modHost (fun v => { v with rdAttr :=
    { relaxed := d.pcie.relaxed && d.flag (HIF_RING_CFG r) HIF_RING_CFG_RO_READ, noSnoop := d.flag (HIF_RING_CFG r) HIF_RING_CFG_NS } })

/-- Posted writes that the model keeps to take back (R631). -/
def postedMax : Nat := 64

/-- A posted write of the device to host memory: an event entry or a write-back. Neither attribute is ever set (R124, R136). -/
def Device.postedWrite (d : Device) (a : Nat) (l : List Byte) (event : Bool) : Device :=
  let x : Posted := { addr := hostAddr a, old := d.bytes (hostAddr a) l.length, event }
  (d.modHost (fun v => { v with wrAttr := {}, posted := (x :: v.posted).take postedMax })).setBytes (hostAddr a) l

/-- The newest `n` posted writes were never sent (R631): host memory holds what it held before. -/
def Device.unsend (d : Device) : List Posted → Nat → Device
  | x :: r, n + 1 => (d.setBytes x.addr x.old).unsend r n
  | _, _ => d

end Sys2Proof.Machine
end

