-- ==== Sys2Proof/Machine/Events.lean ====
section
/-! DEFINITION. The host event ring (R152 to R157): an event's bytes, posting with the backlog, and the interrupts. -/

namespace Sys2Proof.Machine

/-- The bytes of an event entry (R152). -/
def Event.bytes (e : Event) (phase : Bool) : List Byte :=
  leBytes 1 e.typ ++ leBytes 1 (128 * b01 phase + 64 * b01 e.nmi) ++ leBytes 2 e.seq ++ leBytes 4 e.code ++ leBytes 8 e.wsn ++
    leBytes 8 e.data ++ leBytes 6 e.time ++ leBytes 2 0

/-- Whether the event ring is enabled. -/
def Device.evtOn (d : Device) : Bool := d.flag HIF_EVT_CFG HIF_EVT_CFG_ENABLE

/-- Entries the host has not consumed: PROD − CONS modulo 2^32 (R129). -/
def Device.evtUsed (d : Device) : Nat := (d.nat HIF_EVT_PROD + 2 ^ 32 - d.nat HIF_EVT_CONS) % 2 ^ 32

/-- Whether the event ring is enabled and has a free slot. -/
def Device.evtRoom (d : Device) : Bool := d.evtOn && decide (d.evtUsed < 2 ^ d.host.evtRing.log2)

/-- The word of the MSI-X table at an index of 32-bit words; a vector is masked until the host unmasks it (the standard's default). -/
def msixDefault (i : Nat) : Word := if i % 4 = 3 then 1 else 0

/-- Send the interrupt of a vector, or set its pending bit while the vector or the function is masked (R157). Without MSI-X enabled there
is no interrupt (R124). -/
def Device.sendIrq (d : Device) (v : Nat) : Device :=
  if !d.pcie.msixOn then d
  else if d.pcie.msixMask || (sget msixDefault d.host.msix (4 * v + 3)).getLsbD 0 then
    d.modHost (fun v' => { v' with pba := sput (fun _ => false) v'.pba v true })
  else d.modHost (fun v' => { v' with sent := sput (fun _ => 0) v'.sent v (sget (fun _ => 0) v'.sent v + 1) })

/-- The vector that HIF_EVT_VEC assigns to an event type (R157). -/
def Device.eventVector (d : Device) (typ : Nat) : Nat := natBits (d.nat (HIF_EVT_VEC (typ / 4))) (8 * (typ % 4) + 5) (8 * (typ % 4))

/-- Account an event that became visible: an NMI event raises vector 1 at once, another is signalled when COUNT have gathered at its
vector (DEDUCED, log entry 112: COUNT and TIME are counted per vector). -/
def Device.announce (d : Device) (e : Event) : Device :=
  if e.nmi then d.sendIrq 1
  else
    let v := d.eventVector e.typ
    let n := sget (fun _ => 0) d.host.unsignalled v + 1
    if max 1 (d.fld HIF_EVT_MOD HIF_EVT_MOD_COUNT) ≤ n then
      (d.modHost (fun v' => { v' with unsignalled := sput (fun _ => 0) v'.unsignalled v 0 })).sendIrq v
    else d.modHost (fun v' => { v' with unsignalled := sput (fun _ => 0) v'.unsignalled v n })

/-- Write an event to the ring, advance PROD and announce it (R152, R154). The link leaves L1 for it. -/
def Device.toRing (d : Device) (e : Event) : Device :=
  let d := d.modHost (fun v => { v with l1 := false })
  let prod := d.nat HIF_EVT_PROD
  let size := 2 ^ d.host.evtRing.log2
  ((d.postedWrite (d.host.evtRing.base + 32 * (prod % size)) (e.bytes (prod / size % 2 == 0)) true).setNat HIF_EVT_PROD
    (prod + 1)).announce e

/-- Entries the backlog holds at most (R155). -/
def backlogMax : Nat := 1024

/-- Put an event into a backlog: an NMI event ahead of every other, behind earlier NMI events (R156); another at the end (R155). -/
def intoBacklog (e : Event) : List Event → List Event
  | [] => [e]
  | x :: r => if e.nmi && !x.nmi then e :: x :: r else x :: intoBacklog e r

/-- Drop the newest entry that is not an NMI event (R156); none where every entry is one. -/
def dropNewest (l : List Event) : Option (List Event) :=
  match l.reverse.findIdx? (fun x => !x.nmi) with
  | some i => some (l.reverse.eraseIdx i).reverse
  | none => none

/-- Count events that were discarded (R155). -/
def Device.loseEvents (d : Device) (n : Nat) : Device :=
  (d.addSat HIF_EVT_LOST wholeWord n).modHost (fun v => { v with lost := v.lost + n })

/-- Count an event that was discarded (R155). -/
def Device.loseEvent (d : Device) : Device := d.loseEvents 1

/-- Post an event that has its sequence number: to the ring, to the backlog, or lost (R154 to R156). -/
def Device.place (d : Device) (e : Event) : Device :=
  if d.evtRoom && (e.nmi || d.host.backlog.isEmpty) then d.toRing e
  else if d.host.backlog.length < backlogMax then d.modHost (fun v => { v with backlog := intoBacklog e v.backlog })
  else if e.nmi then
    match dropNewest d.host.backlog with
    | some l => d.loseEvent.modHost (fun v => { v with backlog := intoBacklog e l })
    | none => d.loseEvent
  else d.loseEvent

/-- An event of type `typ` arises: it takes the next SEQ and the time, and is posted (R155). -/
def Device.post (d : Device) (typ : Nat) (nmi : Bool) (code wsn data : Nat) : Device :=
  let e : Event := { typ, nmi, seq := d.host.seq, code, wsn, data, time := d.usec % 2 ^ 48 }
  (d.modHost (fun v => { v with seq := (v.seq + 1) % 65536 })).place e

/-- Post the entries at the head of the backlog while the ring has room; `n` bounds the entries. -/
def Device.drain (d : Device) : Nat → Device
  | 0 => d
  | n + 1 =>
    match d.host.backlog with
    | [] => d
    | e :: r => if d.evtRoom then ((d.modHost (fun v => { v with backlog := r })).toRing e).drain n else d

/-- Append the OVERFLOW entry once the backlog has room after a loss (R155). -/
def Device.overflow (d : Device) : Device :=
  if d.host.lost = 0 ∨ backlogMax ≤ d.host.backlog.length then d
  else
    let e : Event := { typ := 0x0E, nmi := false, seq := d.host.seq, code := 0, wsn := 0, data := d.host.lost, time := d.usec % 2 ^ 48 }
    d.modHost (fun v => { v with seq := (v.seq + 1) % 65536, lost := 0, backlog := v.backlog ++ [e] })

/-- Post what the ring has room for, with the OVERFLOW entry after a loss. -/
def Device.drainAll (d : Device) : Device := ((d.drain backlogMax).overflow).drain backlogMax

/-! The event types of R153. -/

def evPageStatus : Nat := 0x01
def evDelivered : Nat := 0x02
def evDiverted : Nat := 0x03
def evStranded : Nat := 0x04
def evResubmitFrom : Nat := 0x05
def evStateChange : Nat := 0x06
def evUpdateComplete : Nat := 0x07
def evParamStatus : Nat := 0x08
def evInspectDone : Nat := 0x09
def evFault : Nat := 0x0A
def evThrottle : Nat := 0x0B
def evSheetUnexpected : Nat := 0x0C
def evRingHalted : Nat := 0x0D
def evRoleChange : Nat := 0x0F

end Sys2Proof.Machine
end

