-- ==== Sys2Proof/Machine/Ledger.lean ====
section
/-! DEFINITION. The fault ledger (R591 to R598): its bits, window counting, the journal and the non-maskable flags. -/

namespace Sys2Proof.Machine

/-! The ledger bits of R592. -/

def lbBadWidth : Nat := 16
def lbFabricCode : Nat := 17
def lbSramUe : Nat := 18
def lbCrossWrite : Nat := 19
def lbDecodeMiss : Nat := 20
def lbSlowStage : Nat := 21
def lbLockedWrite : Nat := 22
def lbBootFail : Nat := 32
def lbIntRailFail : Nat := 33
def lbQtrBootFail : Nat := 34
def lbRailSeqFault : Nat := 35
def lbRailStuck : Nat := 36
def lbRailLost : Nat := 37
def lbPmbusFault : Nat := 38
def lbPwrButton : Nat := 39
def lbClkAFail : Nat := 48
def lbClkBFail : Nat := 49
def lbIoscFail : Nat := 50
def lbClkMuxStall : Nat := 51
def lbClkGateForced : Nat := 52
def lbPsRateFallback : Nat := 64
def lbPsDrift : Nat := 65
def lbPsHot : Nat := 66
def lbPsUe : Nat := 67
def lbPsRecoveryFail : Nat := 68
def lbDecodeErr : Nat := 69
def lbInspOverrun : Nat := 70
def lbInspDrop : Nat := 71
def lbInspGap : Nat := 72
def lbSheetUnexpected : Nat := 80
def lbSheetMissing : Nat := 81
def lbYieldSoft : Nat := 96
def lbYieldHard : Nat := 97
def lbHandoverCut : Nat := 98
def lbTestFail : Nat := 99
def lbQtrDouble : Nat := 100
def lbEmitterMarginal : Nat := 112
def lbEmitterDead : Nat := 113
def lbLinkHole : Nat := 114
def lbLinkFail : Nat := 115
def lbLinkDown : Nat := 116
def lbRegQueueOvf : Nat := 128
def lbRegFallback : Nat := 129
def lbPolyBrakeFail : Nat := 130
def lbPolyStartFail : Nat := 131
def lbPolyLost : Nat := 132
def lbPolyResyncFail : Nat := 133
def lbPmsmEncFault : Nat := 134
def lbChopFault : Nat := 135
def lbBusHard : Nat := 136
def lbAxisLimit : Nat := 144
def lbAxisChatter : Nat := 145
def lbAxisStall : Nat := 146
def lbAxisHomeFail : Nat := 147
def lbAxisComm : Nat := 148
def lbDriveBusFail : Nat := 149
def lbThermSensor : Nat := 160
def lbThermWarn : Nat := 161
def lbThermThrottle : Nat := 162
def lbThermShutdown : Nat := 163
def lbThermStop : Nat := 164
def lbThermTrip : Nat := 165
def lbCnsFault : Nat := 166
def lbCnsLifeWarn : Nat := 167

/-- ORIGIN of a journal entry of the shared core (R597). -/
def shared : Nat := 2

/-- The bits whose image entry R596 ignores. -/
def forcedBit (b : Nat) : Bool := decide (b ≤ 10) || b == lbClkAFail || b == lbClkBFail || b == lbIoscFail || b == lbQtrDouble || b == lbThermTrip

/-- The bits of R596 that act through the Safe entry of their Kerb trigger. -/
def kerbBit (b : Nat) : Bool := decide (b ≤ 10) || b == lbClkAFail || b == lbQtrDouble

/-- N of a source (R594, R596). -/
def Device.ledgerN (d : Device) (b : Nat) : Nat :=
  if forcedBit b then 1 else max 1 (min 16 (bytesAt (d.entry 0x13 0 b) 0 1))

/-- ACTION of a source: 3 is taken as 0; the bits of R596 count as 1. -/
def Device.ledgerAction (d : Device) (b : Nat) : Nat :=
  if forcedBit b then 1
  else
    let a := bytesAt (d.entry 0x13 0 b) 1 1 / 64
    if a = 3 then 0 else a

/-- The window of a source, in time units. -/
def Device.ledgerWindow (d : Device) (b : Nat) : Nat := max 1 (bytesAt (d.entry 0x13 0 b) 2 2) * tuPerMs

/-- Whether a ledger bit is set. -/
def Device.sticky (d : Device) (b : Nat) : Bool := (d.reg (LDG_STICKY (b / 32))).getLsbD (b % 32)

/-- Set a ledger bit (R591). -/
def Device.setSticky (d : Device) (b : Nat) : Device :=
  d.setReg (LDG_STICKY (b / 32)) (d.reg (LDG_STICKY (b / 32)) ||| BitVec.ofNat 32 (2 ^ (b % 32)))

/-- Entries the fault journal holds (R597). -/
def journalSize : Nat := 64

/-- Write an entry of the fault journal; a dropped one still takes its number (R598). -/
def Device.journal (d : Device) (b origin detail detail2 : Nat) (kerb nmi yield : Bool) : Device :=
  let e : JournalEntry :=
    { bit := b, origin, kerb, nmi, yield, no := d.ledger.nextNo, time := d.usec, detail, detail2,
      count := d.fld (LDG_CNT b) LDG_CNT_EVENTS, dropped := d.ledger.dropNext }
  d.modLedger (fun v => { v with
      journal := (e :: v.journal).take journalSize, nextNo := (v.nextNo + 1) % 2 ^ 32, dropNext := false })

/-- Whether the event that a bit's source raises now asserts the non-maskable path (R596, R606). -/
def Device.ledgerNmi (d : Device) (b : Nat) : Bool :=
  if kerbBit b then d.flag LDG_CFG LDG_CFG_KERB_NMI else d.ledgerAction b == 1

/-- The flags that a lasting source sets of its own: LEDGER by its ACTION, CLOCK and IOSC by R596. CLOCK is shared with
CLK_STATUS.NMI (R606). -/
def Device.ledgerFlags (d : Device) (b : Nat) : Device :=
  if b = lbClkBFail then (d.setFlag LDG_NMI LDG_NMI_CLOCK true).setFlag CLK_STATUS CLK_STATUS_NMI true
  else if b = lbIoscFail then d.setFlag LDG_NMI LDG_NMI_IOSC true
  else if b = lbThermTrip then d.setFlag LDG_NMI LDG_NMI_THERM_TRIP true
  else if forcedBit b then d
  else if d.ledgerAction b = 1 then d.setFlag LDG_NMI LDG_NMI_LEDGER true
  else d

/-- Count an event of source `b` (R595): LDG_CNT.EVENTS and its time. -/
def Device.ledgerCount (d : Device) (b : Nat) : Device :=
  let d := d.count (LDG_CNT b) LDG_CNT_EVENTS
  d.modLedger (fun v => { v with
      times := sput (fun _ => []) v.times b ((d.now :: sget (fun _ => []) v.times b).take 16) })

/-- Whether source `b` is lasting by the times it holds (R595). -/
def Device.ledgerLasting (d : Device) (b : Nat) : Bool :=
  windowLasting (d.ledgerN b) (d.ledgerWindow b) (sget (fun _ => []) d.ledger.times b)

/-- What a lasting event does but for a Kerb trigger: the bit, LASTING, the journal entry, the flags and the FAULT event (R595,
R607). -/
def Device.ledgerLast (d : Device) (b origin detail detail2 : Nat) : Device :=
  let no := d.ledger.nextNo
  let d := (d.setSticky b).count (LDG_CNT b) LDG_CNT_LASTING
  let kerb := decide (b ≤ 10) || (!forcedBit b && d.ledgerAction b == 2)
  let d := (d.journal b origin detail detail2 kerb (d.ledgerNmi b) false).ledgerFlags b
  d.post evFault (d.ledgerAction b == 1) b 0 no

/-- An event of source `b` without the Kerb trigger that its ACTION may raise. -/
def Device.ledgerBase (d : Device) (b origin detail detail2 : Nat) : Device :=
  let d := d.ledgerCount b
  if d.ledgerLasting b then d.ledgerLast b origin detail detail2 else d

/-- Whether an event of source `b` that has just been taken raises the LEDGER Kerb trigger (R595). -/
def Device.ledgerKerb (d : Device) (b : Nat) : Bool := d.ledgerLasting b && d.ledgerAction b == 2

/-- The bytes of a fault-journal entry (R597). -/
def JournalEntry.bytes (e : JournalEntry) : List Byte :=
  withCrc (leBytes 2 e.bit ++ leBytes 1 e.origin ++ leBytes 1 (4 * b01 e.kerb + 2 * b01 e.nmi + b01 e.yield) ++ leBytes 4 e.no ++
    leBytes 8 e.time ++ leBytes 4 e.detail ++ leBytes 4 e.detail2 ++ leBytes 2 e.count ++ leBytes 2 0)

/-- A byte of the journal window at 0x1009_1000 (R597); an entry that was dropped leaves bytes the spec does not give (R598). -/
def Device.journalByte (d : Device) (off : Nat) : Byte :=
  match d.ledger.journal.find? (fun e => e.no % journalSize == off / 32) with
  | some e => if e.dropped then Config.droppedJournalByte e.no (off % 32) else e.bytes.getD (off % 32) 0
  | none => 0

end Sys2Proof.Machine
end

