-- ==== Sys2Proof/Machine/Sheets.lean ====
section
/-! DEFINITION. Sheets and pages (R88 to R112): the device state, the retention commit register, the sheet journal, defective
sheets with their followers, freeing pages, and stranding. -/

namespace Sys2Proof.Machine

/-- The state of the device changes, with a state-change event (R7). -/
def Device.setSt (d : Device) (n : DevState) : Device :=
  if d.st = n then d else (d.withSt n).post evStateChange false n.code 0 d.st.code

/-- A slot of the retention commit register holds LAST_DELIVERED: the valid one with the newer toggle. Slot 0 is the newer when the
toggles are equal, slot 1 when they differ. -/
def DeliveryS.slot1Newer (v : DeliveryS) : Bool := v.slot1.valid && (!v.slot0.valid || (v.slot0.toggle != v.slot1.toggle))

/-- LAST_DELIVERED (R89): 0 where no slot is valid. -/
def DeliveryS.last (v : DeliveryS) : Nat :=
  if v.slot1Newer then v.slot1.wsn else if v.slot0.valid then v.slot0.wsn else 0

/-- Commit a WSN: the slot that does not hold the current value takes it, and its toggle makes it the newer (R98). -/
def DeliveryS.commit (v : DeliveryS) (wsn : Nat) : DeliveryS :=
  if v.slot1Newer || !v.slot0.valid then { v with slot0 := { wsn, toggle := v.slot1.toggle, crc := Config.commitCrc wsn v.slot1.toggle, valid := true } }
  else { v with slot1 := { wsn, toggle := !v.slot0.toggle, crc := Config.commitCrc wsn (!v.slot0.toggle), valid := true } }

/-- Whether the reject path is declared (R403). -/
def Device.rejectGate (d : Device) : Bool := d.flag (TML_CTRL .north) TML_CTRL_REJECT_GATE

/-- Whether web mode is selected (R403). -/
def Device.web (d : Device) : Bool := d.flag (TML_CTRL .north) TML_CTRL_WEB

/-- Entries the sheet journal holds (R101). -/
def sheetJournalSize : Nat := 32768

/-- The kinds of a sheet-journal entry (R102). -/
def skAccepted : Nat := 1
def skDelivered : Nat := 2
def skDiverted : Nat := 3
def skStranded : Nat := 4
def skWithdrawn : Nat := 5
def skStart : Nat := 6

/-- Append an entry to the sheet journal (R102). -/
def Device.sheetJournal (d : Device) (kind wsn cause stations : Nat) (reprint duplex : Bool) (handle : Nat) : Device :=
  let e : SheetEntry :=
    { wsn, no := d.dlv.nextNo, kind, cause, stations, reprint, duplex, quarter := d.owner.code, time := d.usec, pageId := handle }
  d.modDlv (fun v => { v with journal := (e :: v.journal).take sheetJournalSize, nextNo := (v.nextNo + 1) % 2 ^ 32 })

/-- The bytes of a sheet-journal entry (R102). -/
def SheetEntry.bytes (e : SheetEntry) : List Byte :=
  withCrc (leBytes 8 e.wsn ++ leBytes 4 e.no ++ leBytes 1 e.kind ++ leBytes 1 e.cause ++ leBytes 1 e.stations ++
    leBytes 1 (4 * b01 e.reprint + 2 * b01 e.duplex + e.quarter) ++ leBytes 8 e.time ++ leBytes 4 e.pageId)

/-- The highest WSN of a page: the second side's for a duplex pair (R91). -/
def Page.top (p : Page) : Nat :=
  match p.second with
  | some q => q.wsn
  | none => p.first.wsn

/-- The WSN that the delivery of an instance commits (R91). -/
def Instance.top (i : Instance) : Nat := if i.wsn2 = 0 then i.wsn else i.wsn2

/-- DATA of a delivery, diversion or stranding event (R153). -/
def Device.sheetData (d : Device) (i : Instance) : Nat :=
  b01 (i.cause != 0) + 2 * b01 i.reprint + 4 * b01 (i.wsn2 != 0) + 8 * d.owner.code

/-- The instance of a number. -/
def Device.inst (d : Device) (n : Nat) : Option Instance := sget (fun _ => none) d.tml.insts n

/-- Open, change or close the instance of a number. -/
def Device.setInst (d : Device) (n : Nat) (i : Option Instance) : Device :=
  d.modTml (fun v => { v with insts := sput (fun _ => none) v.insts n i })

/-- The open instances with their numbers. -/
def Device.openInsts (d : Device) : List (Nat × Instance) :=
  d.tml.insts.filterMap (fun x => x.2.map (fun i => (x.1, i)))

/-- The sheets in flight (R92). -/
def Device.flight (d : Device) : List (Nat × Instance) := d.openInsts.filter (fun x => x.2.inFlight && !x.2.clearout)

/-- Change every open instance. -/
def Device.mapInsts (d : Device) (f : Nat → Instance → Instance) : Device :=
  d.modTml (fun v => { v with insts := v.insts.map (fun x => (x.1, x.2.map (f x.1))) })

/-- Change every held page. -/
def Device.mapPages (d : Device) (f : Page → Page) : Device := d.modDlv (fun v => { v with pages := v.pages.map f })

/-- The lowest WSN that waits for its reprint (R108); 0 where none does. -/
def lowestReprint (l : List Page) : Nat :=
  match (l.filter (fun p => p.reprint && !p.started)).head? with
  | some p => p.first.wsn
  | none => 0

/-- The blocks of a page. -/
def Page.allBlocks (p : Page) : List Nat := p.chains.flatten

/-- How many blocks a page holds. -/
def Page.blockCount (p : Page) : Nat := (p.chains.map (fun l => l.length)).sum

/-- Free the blocks of a page and its handle (R186). -/
def Device.freePage (d : Device) (p : Page) : Device :=
  d.setFld PGS_ALLOC_BLOCKS PGS_ALLOC_BLOCKS_FREE (d.fld PGS_ALLOC_BLOCKS PGS_ALLOC_BLOCKS_FREE + p.blockCount)

/-- HORIZON once pages are gone: LAST_DELIVERED where none is held (R89). -/
def Device.fixHorizon (d : Device) : Device :=
  if d.dlv.pages.isEmpty then d.modDlv (fun v => { v with horizon := v.last }) else d

/-- Draining with no sheet in flight becomes Ready at once (R4). -/
def Device.settle (d : Device) : Device := if d.st = .draining && d.flight.isEmpty then d.setSt .ready else d

/-- An event that moves Ready or Printing to Draining (R4). -/
def Device.enterDraining (d : Device) : Device :=
  if d.st = .ready ∨ d.st = .printing then (d.setSt .draining).settle else d

/-- A page defective with cause 7 for the second time is withdrawn with every held page above it (R110). Its entry carries that cause (DEDUCED, log
entry 48). -/
def Device.withdrawFrom (d : Device) (p : Page) : Device :=
  let w := p.first.wsn
  let d := d.sheetJournal skWithdrawn w 7 p.first.stations p.reprint p.second.isSome p.handle
  let gone := d.dlv.pages.filter (fun x => decide (w ≤ x.first.wsn))
  let d := d.each gone (fun x d => d.freePage x)
  let d := d.modDlv (fun v => { v with
    horizon := w - 1, pages := v.pages.filter (fun x => decide (x.first.wsn < w)),
    cursor := if v.cursor < w then v.cursor else 0 })
  (d.post evResubmitFrom false 0 w 0).enterDraining

/-- The pages of a defective sheet and its followers print again (R107, R108). -/
def Device.againFrom (d : Device) (w : Nat) : Device :=
  let d := d.mapPages (fun p => if w ≤ p.first.wsn ∧ p.started then { p with started := false, reprint := true } else p)
  d.modDlv (fun v => { v with cursor := if v.cursor = 0 ∨ w < v.cursor then w else v.cursor })

/-- Mark instance `n` of page `w` with a cause, and every sheet of a later page as a purge follower; `divert` says whether they are
diverted (R107, R112). A sheet that is marked already keeps its cause. -/
def Device.markFrom (d : Device) (n w cause : Nat) (divert : Bool) : Device :=
  d.mapInsts (fun k i =>
    if i.clearout || i.cause != 0 then i
    else if k = n then { i with cause, divert }
    else if w < i.wsn then { i with cause := 10, divert := divert && !i.gateFired }
    else i)

/-- The sheet of instance `n` becomes defective (R107), unless it is already. After its GATE it is delivered with its cause and nothing follows (R405);
without a reject path it and its followers are delivered and the device enters Draining (R112); a page defective with cause 7 a
second time is withdrawn (R110). -/
def Device.sheetDefective (d : Device) (n cause : Nat) : Device :=
  match d.inst n with
  | none => d
  | some i =>
    if i.clearout || !i.inFlight || i.cause != 0 then d
    else if i.gateFired then d.setInst n (some { i with cause })
    else if !d.rejectGate then (d.markFrom n i.wsn cause false).enterDraining
    else
      let d := d.markFrom n i.wsn cause true
      match d.dlv.pages.find? (fun p => p.first.wsn == i.wsn) with
      | none => d
      | some p =>
        if cause = 7 ∧ p.ue then d.withdrawFrom p
        else
          let d := d.againFrom i.wsn
          if cause = 7 then d.mapPages (fun x => if x.first.wsn = i.wsn then { x with ue := true } else x) else d

/-- Every sheet in flight that images at a station of a mask (all of them for mask 256 and above) becomes defective. -/
def Device.stationsDefective (d : Device) (mask cause : Nat) : Device :=
  d.each (d.flight.filter (fun x => decide (256 ≤ mask) || (x.2.imaging &&& mask) != 0)) (fun x d => d.sheetDefective x.1 cause)

/-- On entry into Safe every sheet in flight is journaled STRANDED, with its event, and prints again (R111). -/
def Device.strand (d : Device) : Device :=
  let l := d.flight
  let d := d.each l (fun x d =>
    (d.sheetJournal skStranded x.2.top 9 x.2.stations x.2.reprint (x.2.wsn2 != 0) x.2.handle).post evStranded false 9 x.2.top
      (d.sheetData { x.2 with cause := 9 }))
  let opened := d.openInsts.map (fun x => x.2.wsn)
  let d := d.mapPages (fun p =>
    if opened.contains p.first.wsn then { p with started := false, reprint := p.reprint || l.any (fun x => x.2.wsn == p.first.wsn) }
    else p)
  (d.modTml (fun v => { v with insts := [], clearoutLeft := 0 })).modDlv (fun v => { v with stranded := min 255 (v.stranded + l.length), cursor := lowestReprint v.pages })

end Sys2Proof.Machine
end

