-- ==== Sys2Proof/Machine/Slots.lean ====
section
/-! DEFINITION. The state of the engines' slots, controllers and axes, the header of a Regulator slot (R431), and where a slot's output
goes (R430): what entry into Safe needs of them. -/

namespace Sys2Proof.Machine

/-- The tick of the 1.25 ns timebase (R487). -/
def Device.timeTick (d : Device) : Nat := d.now / 80

/-- An action of a rank drives an output: where two drive it in the same cycle of the timebase, the value of the higher WSN stands, and the
Supervisor's over both (R398, R422); a write through a parameter slot, of rank 0, gives way to the Timeline's (R449). -/
def Device.drives (d : Device) (key rank : Nat) (f : Device → Device) : Device :=
  let x := sget (fun _ => {}) d.tml.driven key
  if x.tick == d.timeTick && decide (rank < x.rank) then d
  else f (d.modTml (fun v => { v with driven := sput (fun _ => {}) v.driven key { tick := d.timeTick, rank } }))

/-- The rank of the Supervisor, above that of every WSN. -/
def supRank : Nat := 2 ^ 33

/-- The state of an axis beside its registers. -/
def Device.axisS (d : Device) (q : Side) (a : Nat) : AxisS := sget (fun _ => {}) d.axs.axis (32 * q.code + a)

def Device.setAxis (d : Device) (q : Side) (a : Nat) (v : AxisS) : Device :=
  d.modAxs (fun v' => { v' with axis := sput (fun _ => {}) v'.axis (32 * q.code + a) v })

/-- The state of a Regulator slot beside its registers. -/
def Device.slotS (d : Device) (q : Side) (n : Nat) : SlotS := sget (fun _ => {}) d.rgl.slots (512 * q.code + n)

def Device.setSlot (d : Device) (q : Side) (n : Nat) (v : SlotS) : Device :=
  d.modRgl (fun v' => { v' with slots := sput (fun _ => {}) v'.slots (512 * q.code + n) v })

/-! The header of a slot (R431). -/

def Device.slotEntry (d : Device) (n : Nat) : List Byte := d.entry 0x03 0 n
def hDiv (h : List Byte) : Nat := bytesAt h 0 1
def hPhase (h : List Byte) : Nat := bytesAt h 1 1
def hSplit (h : List Byte) : Nat := bytesAt h 2 1 / 16
def hNprim (h : List Byte) : Nat := bytesAt h 2 1 % 16
def hBit (h : List Byte) (i : Nat) : Bool := natBit (bytesAt h 3 1) i
def hFallback (h : List Byte) : Nat := natBits (bytesAt h 3 1) 5 4
def hFb (h : List Byte) : Nat := bytesAt h 4 2
def hDst (h : List Byte) : Nat := bytesAt h 6 2
def hIdle (h : List Byte) : Int := toSigned 32 (bytesAt h 8 4)
def hSlew (h : List Byte) : Nat := bytesAt h 12 4
def hMin (h : List Byte) : Int := toSigned 32 (bytesAt h 16 4)
def hMax (h : List Byte) : Int := toSigned 32 (bytesAt h 20 4)
def hDead (h : List Byte) : Nat := bytesAt h 24 2
def hFreezeN (h : List Byte) : Nat := max 2 (bytesAt h 26 1)
def hFreezeOut (h : List Byte) : Nat := bytesAt h 28 4
def hOp (h : List Byte) (p : Nat) : Nat := bytesAt h (32 + 20 * p) 1
def hSrc (h : List Byte) (p : Nat) : Nat := bytesAt h (34 + 20 * p) 2

/-- The key of a PWM channel of a Quarter. -/
def pwmKey (q : Side) (ch : Nat) : Nat := 128 * q.code + ch

/-- The key of a polygon or a PMSM controller. -/
def Device.polyS (d : Device) (q : Side) (p : Nat) : PolyS := sget (fun _ => {}) d.mot.poly (8 * q.code + p)

def Device.setPoly (d : Device) (q : Side) (p : Nat) (v : PolyS) : Device :=
  d.modMot (fun v' => { v' with poly := sput (fun _ => {}) v'.poly (8 * q.code + p) v })

def Device.pmsmS (d : Device) (q : Side) (n : Nat) : PmsmS := sget (fun _ => {}) d.mot.pmsm (4 * q.code + n)

def Device.setPmsm (d : Device) (q : Side) (n : Nat) (v : PmsmS) : Device :=
  d.modMot (fun v' => { v' with pmsm := sput (fun _ => {}) v'.pmsm (4 * q.code + n) v })

/-- A slot's output goes to its register and its target (R430, R436). -/
def Device.putOut (d : Device) (q : Side) (n : Nat) (y : Int) : Device :=
  let dst := hDst (d.slotEntry n)
  let i := dst % 4096
  let d := d.setReg (REG_SLOT_OUT q n) (BitVec.ofInt 32 y)
  match dst / 4096 with
  | 1 => d.modMot (fun v => { v with want := sput (fun _ => none) v.want (pwmKey q i) (some (max 0 y)) })
  | 3 => d.setReg (REG_SLOT_SP q i) (BitVec.ofInt 32 y)
  | 6 => d.setPmsm q i { d.pmsmS q i with command := y }
  | 7 => d.setPoly q i { d.polyS q i with command := y }
  | _ => d

/-- Whether a slot is in a fallback. -/
def Device.inFallback (d : Device) (q : Side) (n : Nat) : Bool := d.flag (REG_SLOT_STATUS q n) REG_SLOT_STATUS_IN_FALLBACK

def Device.setFallback (d : Device) (q : Side) (n : Nat) (b : Bool) (cause : Nat) : Device :=
  let d := (d.setFlag (REG_SLOT_STATUS q n) REG_SLOT_STATUS_IN_FALLBACK b).setFld (REG_SLOT_STATUS q n) REG_SLOT_STATUS_CAUSE cause
  d.setFld (REG_FALLBACK q (n / 32)) ⟨n % 32, n % 32⟩ (b01 b)

/-- Whether a slot's fallback is SAFE: its own, or the one that entry into Safe puts on it (R446, R601). -/
def Device.fallKind (d : Device) (q : Side) (n : Nat) : Nat := if (d.slotS q n).safe then 2 else hFallback (d.slotEntry n)

end Sys2Proof.Machine
end

