-- ==== Sys2Proof/Machine/Hooks.lean ====
section
/-! DEFINITION. What entry into Safe does in every block (R601), and what a power cycle of a Quarter resets (R41). -/

namespace Sys2Proof.Machine

/-- A Regulator slot whose target is a PWM channel, a PMSM or a polygon controller goes into its SAFE fallback with cause SUPERVISOR
(R601). -/
def Device.safeSlot (d : Device) (q : Side) (n : Nat) : Device :=
  let h := d.slotEntry n
  let c := hDst h / 4096
  if c = 1 ∨ c = 6 ∨ c = 7 then
    let d := if d.inFallback q n then d
      else
        let d := d.setFallback q n true 4
        if d.owner = q then d.ledgerBase lbRegFallback q.code (4 * 65536 + n) 0 else d
    (d.setSlot q n { d.slotS q n with safe := true }).putOut q n (hIdle h)
  else d

/-- An axis takes its driver's POSITION as its rest position, and a move or a homing run ends (R512, R601). -/
def Device.axisRest (d : Device) (q : Side) (a pos : Nat) : Device :=
  let inv := d.flag (AXS_CFG q a) AXS_CFG_DIR_INV
  let v := if inv then BitVec.ofNat 32 (2 ^ 32 - pos % 2 ^ 32) else BitVec.ofNat 32 pos
  let d := ((d.setReg (AXS_POS q a) v).setReg (AXS_TARGET q a) v).setReg (AXS_VEL q a) 0
  let d := (d.setFlag (AXS_STATUS q a) AXS_STATUS_MOVING false).setFlag (AXS_STATUS q a) AXS_STATUS_STOPPING false
  let d := (d.setFlag (AXS_STATUS q a) AXS_STATUS_HOMING false).setFlag (AXS_STATUS q a) AXS_STATUS_LIMIT_DEFERRED false
  d.setAxis q a { d.axisS q a with plan := Plan.rest v.toInt, homing := 0, stallEn := false, restAt := d.now }

/-- A polygon controller goes OFF on entry into Safe (R601). -/
def Device.safePoly (d : Device) (q : Side) (p : Nat) : Device :=
  (((d.setFld (MOT_POLY_STATUS q p) MOT_POLY_STATUS_STATE 0).setFlag (MOT_POLY_CTRL q p) MOT_POLY_CTRL_BUSY false).setReg
    (MOT_POLY_SPEED q p) 0).setPoly q p {}

/-- A PMSM controller stops on entry into Safe (R601). -/
def Device.safePmsm (d : Device) (q : Side) (n : Nat) : Device :=
  ((d.setFlag (MOT_PMSM_STATUS q n) MOT_PMSM_STATUS_RUNNING false).setFlag (MOT_PMSM_CTRL q n) MOT_PMSM_CTRL_BUSY false).setPmsm q n
    { d.pmsmS q n with winding := false, iRef := 0 }

/-- A Quarter's slots, controllers, axes and PWM outputs on entry into Safe (R601). -/
def Device.safeQuarter (d : Device) (q : Side) : Device :=
  let d := d.each ((List.range 512).filter (fun n => !(d.slotEntry n).isEmpty)) (fun n d => d.safeSlot q n)
  let d := d.each (List.range 8) (fun p d => d.safePoly q p)
  let d := d.each (List.range 4) (fun n d => d.safePmsm q n)
  let d := d.each ((List.range 32).filter (fun a => (d.axisS q a).bound)) (fun a d => d.axisRest q a (d.nat (AXS_DRV_POS q a)))
  d.modMot (fun v => { v with
    duty := v.duty.filter (fun x => x.1 / 128 != q.code), bridge := v.bridge.filter (fun x => x.1 / 16 != q.code), pins := [] })

/-- Blocks of both Quarters on entry into Safe (R601): slots, commutation controllers and axes. What the stations print ends with the
sheets. -/
def Device.safeHooks (d : Device) : Device :=
  (d.each bothSides (fun q d => d.safeQuarter q)).modBmo (fun v => { v with prints := [], meas := [], safePend := 0 })

/-! Power domains (R40). -/

/-- Set whether domain `n` switches. -/
def Device.domBusy (d : Device) (n : Nat) (b : Bool) : Device :=
  d.setFld PWR_DOM_STATUS PWR_DOM_STATUS_BUSY (setNatBit (d.fld PWR_DOM_STATUS PWR_DOM_STATUS_BUSY) n b)

/-- Set whether domain `n` is powered. -/
def Device.domOn (d : Device) (n : Nat) (b : Bool) : Device :=
  d.setFld PWR_DOM_STATUS PWR_DOM_STATUS_ON (setNatBit (d.fld PWR_DOM_STATUS PWR_DOM_STATUS_ON) n b)

/-- Whether a domain is on. -/
def Device.domainIsOn (d : Device) (n : Nat) : Bool := natBit (d.fld PWR_DOM_STATUS PWR_DOM_STATUS_ON) n

/-- The domain of a Quarter's logic. -/
def logicDomain (q : Side) : Nat := 8 + q.code

/-- The domain of a Quarter's lanes (R53). -/
def laneDomain (q : Side) : Nat := 10 + q.code

/-- A key of Quarter `q` in a table that holds `w` instances per Quarter. -/
def ofSide (q : Side) (w k : Nat) : Bool := k / w == q.code

/-- What a power cycle leaves of a register of a Quarter's blocks: its RWL bits, and the reset value elsewhere (R41). -/
def cycleReg (q : Side) (x : Nat × Word) : Option (Nat × Word) :=
  if q.base + 0x10000 ≤ x.1 ∧ x.1 < q.base + 0x100000 then
    match regRow x.1 with
    | some r =>
      let v := (x.2 &&& r.rwl) ||| (resetWord x.1 &&& ~~~ r.rwl)
      if v = resetWord x.1 then none else some (x.1, v)
    | none => none
  else some x

/-- An axis after a power cycle: only whether the image binds it stays (R41). -/
def cycleAxis (q : Side) (x : Nat × AxisS) : Option (Nat × AxisS) :=
  if !ofSide q 32 x.1 then some x else if x.2.bound then some (x.1, { bound := true }) else none

/-- A Quarter's logic loses its power (R41): its blocks' registers but for RWL fields return to their reset values. What its local
memory and its half of the Regulator state SRAM hold stays (DESIGN CHOICE, log entry 108). -/
def Device.quarterReset (d : Device) (q : Side) : Device :=
  let d := d.withSup (d.sup.filter (fun x => !ofSide q 256 x.1))
  let d := d.withSynth (d.synth.filter (fun x => !ofSide q 8 x.1))
  let d := d.withRef (d.ref.filter (fun x => !ofSide q 1 x.1))
  let d := d.withPort (d.port.filter (fun x => !ofSide q 8 x.1))
  let d := d.withDma (d.dma.filter (fun x => x.1 / 16 != q.code + 1))
  let d := d.modBmo (fun v => { v with lines := v.lines.filter (fun x => !ofSide q 8 x.1) })
  let d := d.modRgl (fun v => { v with
    slots := v.slots.filter (fun x => !ofSide q 512 x.1), ticks := v.ticks.filter (fun x => !ofSide q 1 x.1)
    prevPos := v.prevPos.filter (fun x => !ofSide q 16 x.1), vel := v.vel.filter (fun x => !ofSide q 16 x.1) })
  let d := d.modMot (fun v => { v with
    poly := v.poly.filter (fun x => !ofSide q 8 x.1), pmsm := v.pmsm.filter (fun x => !ofSide q 4 x.1)
    bridge := v.bridge.filter (fun x => !ofSide q 16 x.1), want := v.want.filter (fun x => !ofSide q 128 x.1), duty := v.duty.filter (fun x => !ofSide q 128 x.1) })
  let d := d.modAxs (fun v => { v with
    axis := v.axis.filterMap (cycleAxis q), enc := v.enc.filter (fun x => !ofSide q 8 x.1)
    good := v.good.filter (fun x => !ofSide q 4 x.1), frame := v.frame.filter (fun x => !ofSide q 4 x.1) })
  d.withRegs (d.regs.filterMap (cycleReg q))

end Sys2Proof.Machine
end

