-- ==== Sys2Proof/Machine/Kerb.lean ====
section
/-! DEFINITION. The Kerb (R599 to R604): triggers, forcing and entry into Safe, and the ledger events that can raise it. -/

namespace Sys2Proof.Machine

/-! The triggers of R599. -/

def ktIntlkOp : Nat := 0
def ktIntlkDr : Nat := 1
def ktEstopPin : Nat := 2
def ktEstopCmd : Nat := 3
def ktClock : Nat := 4
def ktRail : Nat := 5
def ktThermal : Nat := 6
def ktSupervisor : Nat := 7
def ktJam : Nat := 8
def ktDouble : Nat := 9
def ktLedger : Nat := 10

/-- Mark trigger `t` live or removed. -/
def Device.setLive (d : Device) (t : Nat) (b : Bool) : Device :=
  d.setFld KRB_STATUS KRB_STATUS_LIVE (setNatBit (d.fld KRB_STATUS KRB_STATUS_LIVE) t b)

/-- Latch trigger `t` in KRB_CAUSE. -/
def Device.latchCause (d : Device) (t : Nat) : Device :=
  d.setFld KRB_CAUSE KRB_CAUSE_CAUSE (setNatBit (d.fld KRB_CAUSE KRB_CAUSE_CAUSE) t true)

/-- A Quarter that does not transmit: its line-strobe pins are idle (R273, R274). -/
def QuarterS.quiet (w : QuarterS) : QuarterS := { w with transmits := false, strobes := 0 }

/-- Both Quarters stop transmitting and no overlap goes on (R381, R601). No station scans, so no port is at a panic level (R192, R372). -/
def Device.stopTransmitting (d : Device) : Device :=
  ((d.modNorth QuarterS.quiet).modSouth QuarterS.quiet).withTransfer none |>.setReg RDB_PANIC 0

/-- Enter Safe because of trigger `t` (R600, R601, R606). -/
def Device.enterSafe (d : Device) (t : Nat) : Device :=
  let d := (d.setFlag KRB_STATUS KRB_STATUS_FORCING true).setFld KRB_CAUSE KRB_CAUSE_FIRST t
  let d := d.setNat64 KRB_TIME_LO d.usec
  let d := if d.flag LDG_CFG LDG_CFG_KERB_NMI then d.setFlag LDG_NMI LDG_NMI_KERB true else d
  ((d.setSt .safe).strand).stopTransmitting.safeHooks

/-- Trigger `t` fires (R599 to R602). In Held, Ready, Printing and Draining the device enters Safe; in Booting the outputs are forced
and the trigger is latched until step 8; in Parked it is latched in D0; in Safe only its bits are set. -/
def Device.kerbTrigger (d : Device) (t origin detail : Nat) : Device :=
  let d := d.modKerb (fun v => { v with firedAt := some d.now })
  match d.st with
  | .off => d
  | .parked => (d.setSticky t).modKerb (fun v => { v with latched := setNatBit v.latched t true })
  | .booting =>
    let d := (d.ledgerBase t origin detail 0).latchCause t
    (d.setFlag KRB_STATUS KRB_STATUS_FORCING true).modKerb (fun v => { v with latched := setNatBit v.latched t true })
  | .safe => (d.ledgerBase t origin detail 0).latchCause t
  | _ => ((d.ledgerBase t origin detail 0).enterSafe t).latchCause t

/-- An event of ledger source `b`, with the Kerb trigger that ACTION = 2 raises (R595). -/
def Device.ledgerEvent (d : Device) (b origin detail detail2 : Nat) : Device :=
  let d := d.ledgerBase b origin detail detail2
  if d.ledgerKerb b then d.kerbTrigger ktLedger origin b else d

end Sys2Proof.Machine
end

