-- ==== Sys2Proof/Machine/Checks.lean ====
section
/-! DEFINITION. The self-diagnosis checks, yields and token transfers (R358 to R388). -/

namespace Sys2Proof.Machine

/-! The checks of R361. -/

def ckFabric : Nat := 0
def ckLocalUe : Nat := 1
def ckSynthLock : Nat := 2
def ckLateSeg : Nat := 3
def ckTimelineWd : Nat := 4
def ckLoopPlaus : Nat := 5
def ckTlmLoop : Nat := 6
def ckMirror : Nat := 7

/-- Set the role of a Quarter. -/
def Device.setRole (d : Device) (q : Side) (r : Role) : Device := d.setQ q { d.q q with role := r }

/-- A Quarter starts or stops transmitting; its line-strobe pins are idle until its next line starts (R274). -/
def Device.setTransmits (d : Device) (q : Side) (b : Bool) : Device := d.setQ q { d.q q with transmits := b, strobes := 0 }

/-- The stations that image now. -/
def Device.imagingMask (d : Device) : Nat := d.flight.foldl (fun m x => m ||| x.2.imaging) 0

/-- A Quarter enters Testing: its logic and its lanes are powered off (R41), to come back before the self-test (R543), and the lasting
marks of its checks are cleared (R382). -/
def Device.enterTesting (d : Device) (q : Side) : Device :=
  let d := (d.setQ q { d.q q with role := .testing, transmits := false, strobes := 0, times := [], hardFabric := false, mirrorAt := none, caughtUp := false })
  let d := ((d.setFld (QTR_CHK_STATUS q) QTR_CHK_STATUS_LASTING 0).setFlag (QTR_TEST q) QTR_TEST_PASSED false).quarterReset q
  (d.domOn (logicDomain q) false).domOn (laneDomain q) false

/-- A Yielded Quarter that has stopped transmitting enters Testing at once, with all its retries, unless no Quarter holds the token
(R382, R384, R388). -/
def Device.testIfYielded (d : Device) (q : Side) : Device :=
  if d.role q = .yielded ∧ d.token ≠ none ∧ !(d.q q).stuck then
    (d.setFld (QTR_TEST q) QTR_TEST_RETRIES_LEFT (d.fld (QTR_CFG q) QTR_CFG_TEST_RETRIES)).enterTesting q
  else d

/-- The old Quarter of a transfer stops transmitting, and the transfer is over (R374). -/
def Device.endOverlap (d : Device) : Device :=
  match d.transfer with
  | none => d
  | some x =>
    let n := x.old.other
    let d := d.setFld (QTR_TAKEOVER n) QTR_TAKEOVER_OVERLAP (min 65535 ((d.now - x.at_) * 10 / tuPerUs))
    ((d.withTransfer none).setTransmits x.old false).testIfYielded x.old

/-- Real-time ports of the new Quarter are held at PANIC1 while a station waits (R372); each that enters it counts (R192). -/
def Device.holdPanic (d : Device) (q : Side) (mask : Nat) : Device :=
  let was := d.fld RDB_PANIC RDB_PANIC_PANIC1
  let d := d.setFld RDB_PANIC RDB_PANIC_PANIC1 (was ||| mask * 256 ^ q.code)
  d.each ((maskList 8 mask).filter (fun s => !natBit was (pk q s))) (fun _ d => d.count RDB_PANIC_CNT RDB_PANIC_CNT_PANIC1_CNT)

/-- The new Quarter of a transfer rejoins the bands of the stations in a mask (R370): their shadow FIFOs are flushed, and their decoders begin anew
and write from the mirrored segment position on (R235). -/
def Device.rejoin (d : Device) (q : Side) (mask : Nat) : Device :=
  d.each (maskList 8 mask) (fun s d => d.setLine q s { d.lineS q s with written := [], chunk := (d.lineS q.other s).chunk, group := 0 })

/-- A port that stops in the middle of a packet sends ABORT (R331). -/
def Device.abortPacket (d : Device) (q : Side) (s : Nat) : Device :=
  (d.count (ENW_CNT1 q s) ENW_CNT1_ABORTS).sendBlocks q s [ctlBlock btAbort []]

/-- The token passes from `old` to the other Quarter (R370 to R380). `kind` is 1 for a soft yield, 2 for a hard yield, 3 for a
planned transfer. With no station imaging there is no overlap (R380); a new Quarter that still transmits does not rejoin (R371). -/
def Device.passToken (d : Device) (old : Side) (kind : Nat) : Device :=
  let new := old.other
  let waiting := if (d.q new).transmits then 0 else d.imagingMask
  let age := match (d.q new).mirrorAt with
    | some m => min 255 ((d.now - m) / tuPerUs)
    | none => 255
  let d := ((d.withToken (some new)).withTokenAt d.now).withPlanned none
  let d := (d.setRole new .active).setTransmits new true
  let d := (d.setFld (QTR_TAKEOVER new) QTR_TAKEOVER_KIND kind).setFld (QTR_TAKEOVER new) QTR_TAKEOVER_MIRROR_AGE age
  let d := (d.setFld (QTR_CATCHUP new) QTR_CATCHUP_CUT 0).setFld (QTR_CATCHUP new) QTR_CATCHUP_CATCHUP 0
  let d := if kind = 2 then
      (d.each (maskList 8 d.imagingMask) (fun s d => d.abortPacket old s)).stationsDefective 255 3 |>.setTransmits old false
    else d
  let d := (d.rejoin new waiting).withTransfer (some { at_ := d.now, old, kind, waiting, overlap := kind ≠ 2 })
  if waiting = 0 ∧ (d.imagingMask = 0 ∨ kind = 2) then d.endOverlap
  else if kind = 2 then (d.testIfYielded old).holdPanic new waiting
  else d.holdPanic new waiting

/-- Whether a Quarter can take the token (R359). -/
def Device.canTake (d : Device) (q : Side) : Bool :=
  d.role q == .standby || (d.role q == .returning && (d.q q).caughtUp)

/-- Post the event and journal the yield of Quarter `q` for check `n` with its class (R364). Where no Quarter takes the token, the double
failure posts the event (R388). -/
def Device.noteYield (d : Device) (q : Side) (n cls : Nat) (holder : Bool) : Device :=
  let b := if cls = 2 then lbYieldHard else lbYieldSoft
  let d := (d.setFld (QTR_LAST_YIELD q) QTR_LAST_YIELD_CHECK n).setFld (QTR_LAST_YIELD q) QTR_LAST_YIELD_CLASS cls
  let d := d.setNat64 (QTR_YIELD_TIME_LO q) d.usec
  let d := d.count (QTR_CNT q) (if cls = 2 then QTR_CNT_HARD else QTR_CNT_SOFT)
  let d := d.setQ q { d.q q with yields := (d.now :: (d.q q).yields).take 256 }
  let d := d.ledgerCount b
  let last := d.ledgerLasting b
  let no := d.ledger.nextNo
  let d := d.journal b q.code (d.nat (QTR_LAST_YIELD q)) 0 (last && d.ledgerAction b == 2) (last && d.ledgerNmi b) true
  let d := if last then
      (((d.setSticky b).count (LDG_CNT b) LDG_CNT_LASTING).ledgerFlags b).post evFault (d.ledgerAction b == 1) b 0 no
    else d
  let d := if last && d.ledgerAction b == 2 then d.kerbTrigger ktLedger q.code b else d
  if holder && d.canTake q.other then d.post evRoleChange false q.other.code 0 cls else d

/-- A yield of class `cls` finds no Quarter to take the token (R388): its ROLE_CHANGE names no Quarter and holds the class. -/
def Device.doubleFailure (d : Device) (q : Side) (cls : Nat) : Device :=
  let d := (d.withToken none).withPlanned none
  let d := d.setFlag (QTR_LAST_YIELD q) QTR_LAST_YIELD_DOUBLE true
  let d := (d.setLive ktDouble true).kerbTrigger ktDouble q.code 0
  (d.ledgerBase lbQtrDouble q.code 0 0).post evRoleChange false Config.doubleRoleCode.toNat 0 cls

/-- The yields of a Quarter within the last hour (R384). -/
def Device.flaps (d : Device) (q : Side) : Nat :=
  ((d.q q).yields.filter (fun t => decide (d.now - t ≤ 3600000 * tuPerMs))).length

/-- FLAP_LIMIT, 0 taken as 3. -/
def Device.flapLimit (d : Device) (q : Side) : Nat :=
  let n := d.fld (QTR_CFG q) QTR_CFG_FLAP_LIMIT
  if n = 0 then 3 else n

/-- The Quarter goes Yielded; after FLAP_LIMIT yields within 60 min it stays so (R384). -/
def Device.goYielded (d : Device) (q : Side) : Device :=
  d.setQ q { d.q q with role := .yielded, caughtUp := false, stuck := decide (d.flapLimit q ≤ d.flaps q) }

/-- Quarter `q` yields because check `n` became lasting (R359, R362 to R364, R381). -/
def Device.yield (d : Device) (q : Side) (n : Nat) (hard : Bool) : Device :=
  let cls := if hard then 2 else 1
  let d := (d.noteYield q n cls true).goYielded q
  if d.canTake q.other then d.passToken q cls
  else d.doubleFailure q cls

/-- A Quarter without the token goes Yielded and then tests itself (R362, R364, R382). -/
def Device.yieldOther (d : Device) (q : Side) (n : Nat) : Device :=
  ((d.noteYield q n 1 false).goYielded q).testIfYielded q

/-- A self-test fails at a step: the Quarter goes Yielded (R382). -/
def Device.testFailed (d : Device) (q : Side) (step : Nat) : Device :=
  let d := (d.setFld (QTR_TEST q) QTR_TEST_FAIL_STEP step).setFlag (QTR_TEST q) QTR_TEST_PASSED false
  (d.setQ q { d.q q with role := .yielded, stuck := (d.q q).stuck || decide (d.fld (QTR_TEST q) QTR_TEST_RETRIES_LEFT = 0) }).ledgerEvent
    lbTestFail q.code step 0

/-- Whether a lasting check of the Quarter is hard (R363). -/
def Device.hardNow (d : Device) (q : Side) : Bool :=
  let m := d.fld (QTR_CHK_STATUS q) QTR_CHK_STATUS_LASTING
  natBit m ckTlmLoop || (natBit m ckFabric && (d.q q).hardFabric)

/-- The Quarter in the soft-yield overlap, whose hard check stops it at once (R363, R381). -/
def Device.hardInOverlap (d : Device) (q : Side) : Device :=
  match d.transfer with
  | some x =>
    if x.old = q ∧ x.kind = 1 ∧ x.overlap then
      let d := d.each (d.flight.filter (fun y => (y.2.imaging &&& x.waiting) != 0)) (fun y d => d.sheetDefective y.1 3)
      (d.setTransmits q false).withTransfer (some { x with overlap := false })
    else d
  | none => d

/-- One event of check `n` of Quarter `q` (R361, R362). The MIRROR check counts only in the Standby and Returning roles. -/
def Device.checkEvent (d : Device) (q : Side) (n : Nat) (hard : Bool) : Device :=
  if n = ckMirror ∧ d.role q ≠ .standby ∧ d.role q ≠ .returning then d
  else
    let ts := (d.now :: sget (fun _ => []) (d.q q).times n).take 255
    let d := d.setQ q { d.q q with
      times := sput (fun _ => []) (d.q q).times n ts, hardFabric := (d.q q).hardFabric || (hard && n == ckFabric) }
    let need := max 1 (d.fld (QTR_CHK q n) QTR_CHK_N)
    if windowLasting need (d.fld (QTR_CHK q n) QTR_CHK_WINDOW * tuPerUs) ts then
      let d := d.setFld (QTR_CHK_STATUS q) QTR_CHK_STATUS_LASTING
        (setNatBit (d.fld (QTR_CHK_STATUS q) QTR_CHK_STATUS_LASTING) n true)
      match d.role q with
      | .active => d.yield q n (d.hardNow q)
      | .standby => d.yieldOther q n
      | .returning => d.yieldOther q n
      | .testing => d.testFailed q 2
      | .yielded => if d.hardNow q then d.hardInOverlap q else d
    else d

/-- A planned transfer to Quarter `new` (R386): the old one becomes Standby. -/
def Device.plannedTransfer (d : Device) (new : Side) (handover : Bool) : Device :=
  let d := d.count (QTR_CNT new) (if handover then QTR_CNT_HANDOVERS else QTR_CNT_RETURNS)
  let d := (d.setRole new.other .standby).post evRoleChange false new.code 0 (if handover then 0 else 3)
  d.passToken new.other 3

/-- The token moves for a planned transfer that waits: at a gap, or at once in Held and Ready (R386). -/
def Device.plannedNow (d : Device) : Device :=
  match d.planned with
  | some x =>
    if d.st = .draining ∨ d.st = .safe ∨ d.openInsts.any (fun y => y.2.divert && !y.2.gateFired && !y.2.clearout) ∨ !d.canTake x.newQ ∨
        d.token = none ∨ d.token = some x.newQ ∨ d.transfer.isSome then d
    else d.plannedTransfer x.newQ x.handover
  | none => d

end Sys2Proof.Machine
end

