-- ==== Sys2Proof/Machine/Thermal.lean ====
section
/-! DEFINITION. Thermal management (R563 to R576). Temperatures are signed, in 1/8 °C. -/

namespace Sys2Proof.Machine

/-- A zone entry (R567). -/
structure ZoneEntry where
  used : Bool
  sensors : Nat
  warn : Int
  throttle : Int
  shutdown : Int
  hyst : Int
  rise : Nat
  pct : Nat
  stopS : Nat
  board : Bool
  shutEn : Bool
  deriving DecidableEq, Repr

/-- Read a zone entry. -/
def parseZone (b : List Byte) : ZoneEntry :=
  let f := bytesAt b 18 1
  { used := natBit f 0, sensors := bytesAt b 0 5, warn := toSigned 16 (bytesAt b 8 2), throttle := toSigned 16 (bytesAt b 10 2),
    shutdown := toSigned 16 (bytesAt b 12 2), hyst := bytesAt b 14 1, rise := bytesAt b 15 1, pct := bytesAt b 16 1,
    stopS := bytesAt b 17 1, board := natBit f 2, shutEn := natBit f 1 }

/-- Zone 0 where the image loads no entry 0 (R567). -/
def zoneZero : ZoneEntry :=
  { used := true, sensors := 0xFFFF, warn := 95 * 8, throttle := 105 * 8, shutdown := 113 * 8, hyst := 5, rise := 40, pct := 75,
    stopS := 30, board := false, shutEn := true }

/-- The entry of a zone 0 to 15; zone 0 always holds sensors 0 to 15 and acts. Zone 16 is the page-store zone. -/
def Device.zone (d : Device) (z : Nat) : ZoneEntry :=
  if z = 16 then
    { used := true, sensors := 0, warn := 0, throttle := 0, shutdown := 0, hyst := 0, rise := 0,
      pct := d.fld THM_CFG THM_CFG_PS_ENFORCE_PCT, stopS := 0, board := false, shutEn := false }
  else
    let b := d.entry 0x11 1 z
    if z = 0 then
      if b.isEmpty then zoneZero
      else { parseZone b with used := true, shutEn := true, sensors := (parseZone b).sensors ||| 0xFFFF }
    else parseZone b

/-- What is kept of a sensor. -/
def Device.sensor (d : Device) (k : Nat) : SensorS := sget (fun _ => {}) d.thm.sensors k

/-- The largest reading of the zone's sensors that are not broken (R569). -/
def Device.zoneTemp (d : Device) (e : ZoneEntry) : Option Int :=
  ((maskList 40 e.sensors).filterMap (fun k =>
    let x := d.sensor k
    if x.seen && !x.broken then some x.val else none)).max?

/-- Whether every sensor of the zone is broken. -/
def Device.zoneAllFailed (d : Device) (e : ZoneEntry) : Bool :=
  e.sensors != 0 && (maskList 40 e.sensors).all (fun k => (d.sensor k).broken)

/-- The level a zone stands at by its temperature and its present level (R569). -/
def levelFor (e : ZoneEntry) (cur : Nat) (t : Int) : Nat :=
  let holds := fun (l : Nat) (th : Int) => decide (th ≤ t) || (decide (l ≤ cur) && decide (th - e.hyst * 8 ≤ t))
  if holds 3 e.shutdown then 3 else if holds 2 e.throttle then 2 else if holds 1 e.warn then 1 else 0

/-- The smallest ENFORCE_PCT among the zones at throttle (R572); 100 where none is. -/
def Device.thermF (d : Device) : Nat :=
  (((List.range 17).filter (fun z => (d.zone z).used && decide (2 ≤ d.fld (THM_ZONE_STATUS z) THM_ZONE_STATUS_LEVEL))).map
    (fun z => (d.zone z).pct)).foldl min 100

/-- Whether a zone stands at throttle or above. -/
def Device.throttled (d : Device) : Bool :=
  (List.range 17).any (fun z => (d.zone z).used && decide (2 ≤ d.fld (THM_ZONE_STATUS z) THM_ZONE_STATUS_LEVEL))

/-- The requested speed for a share `f` (R572). -/
def Device.requestedSpeed (d : Device) (f : Nat) : Nat := d.thm.lastSpeed * f / 100

/-- Grace time left, in ms. -/
def Device.graceLeft (d : Device) : Nat :=
  if d.flag THM_STATUS THM_STATUS_GRACE then d.fld THM_CFG THM_CFG_GRACE_MS - (d.now - d.thm.throttleAt) / tuPerMs else 0

/-- The slow-down follows the zones (R572): it begins, its share changes, or it ends. -/
def Device.slowDown (d : Device) : Device :=
  let f := d.thermF
  let was := d.flag THM_STATUS THM_STATUS_THROTTLE
  let old := d.fld THM_STATUS THM_STATUS_F
  let d := d.setFlag THM_STATUS THM_STATUS_WARN
    ((List.range 17).any (fun z => (d.zone z).used && decide (1 ≤ d.fld (THM_ZONE_STATUS z) THM_ZONE_STATUS_LEVEL)))
  if d.throttled then
    let d := d.setFld THM_STATUS THM_STATUS_F f
    if was then
      if f = old then d else d.post evThrottle false (d.requestedSpeed f) 0 d.graceLeft
    else
      let d := (d.setFlag THM_STATUS THM_STATUS_THROTTLE true).setFlag THM_STATUS THM_STATUS_GRACE true
      (d.modThm (fun v => { v with throttleAt := d.now, credit := 0 })).post evThrottle false (d.requestedSpeed f) 0
        (d.fld THM_CFG THM_CFG_GRACE_MS)
  else if was then
    let d := ((d.setFlag THM_STATUS THM_STATUS_THROTTLE false).setFlag THM_STATUS THM_STATUS_GRACE false).setFlag THM_STATUS
      THM_STATUS_ENFORCING false
    (d.setFld THM_STATUS THM_STATUS_F 100).post evThrottle false 0xFFFFFFFF 0 0
  else d

/-- The zone whose temperature stands for the board (R574). -/
def Device.boardZone (d : Device) : Nat :=
  ((List.range 16).find? (fun z => (d.zone z).used && (d.zone z).board)).getD 0

/-- Whether writes to the flash and the consumable memories are not allowed: the board temperature lies outside 0 °C to 70 °C, or its
zone is ALL_FAILED (R84, R574). -/
def Device.writesOut (d : Device) : Bool :=
  let z := d.boardZone
  let t := toSigned 16 (d.fld (THM_ZONE_STATUS z) THM_ZONE_STATUS_TEMP)
  d.flag (THM_ZONE_STATUS z) THM_ZONE_STATUS_ALL_FAILED || decide (t < 0) || decide (70 * 8 < t)

/-- Writes are held from now on; of a PROGRAM that runs, the remainder is deferred (R84). -/
def Device.holdWrites (d : Device) : Device :=
  let d := d.setFlag THM_STATUS THM_STATUS_WRITE_HOLD true
  match d.boot.update with
  | some u => if u.op = 2 then d.setFld CFG_UPD_STATUS CFG_UPD_STATUS_STATE 2 else d
  | none => d

/-- Writes to the flash and the consumable memories are held outside 0 °C to 70 °C until 2 °C to 68 °C (R574). -/
def Device.writeHold (d : Device) (z : Nat) (t : Option Int) (failed : Bool) : Device :=
  if z ≠ d.boardZone then d
  else
    match t with
    | none => if failed then d.holdWrites else d
    | some t =>
      if t < 0 ∨ 70 * 8 < t then d.holdWrites
      else if 2 * 8 ≤ t ∧ t ≤ 68 * 8 then d.setFlag THM_STATUS THM_STATUS_WRITE_HOLD false
      else d

/-- Set the level of a zone and do what each level entered does (R571); at shutdown enforcement ends (R576). -/
def Device.setLevel (d : Device) (z n : Nat) : Device :=
  let old := d.fld (THM_ZONE_STATUS z) THM_ZONE_STATUS_LEVEL
  let d := d.setFld (THM_ZONE_STATUS z) THM_ZONE_STATUS_LEVEL n
  let d := if old < 1 ∧ 1 ≤ n then d.ledgerEvent lbThermWarn shared z 0 else d
  let d := if old < 2 ∧ 2 ≤ n then d.ledgerEvent lbThermThrottle shared z 0 else d
  let d := d.slowDown
  if (d.zone z).shutEn then
    if old < 3 ∧ 3 ≤ n then
      (((d.setFlag THM_STATUS THM_STATUS_ENFORCING false).ledgerEvent lbThermShutdown shared z 0).setLive ktThermal true).kerbTrigger ktThermal
        shared z
    else d
  else d

/-- The THERMAL cause counts as removed once no acting zone stands at shutdown (R571). -/
def Device.thermalLive (d : Device) : Device :=
  if (List.range 17).any (fun z => (d.zone z).used && (d.zone z).shutEn && d.fld (THM_ZONE_STATUS z) THM_ZONE_STATUS_LEVEL == 3) then d
  else d.setLive ktThermal false

/-- The readings of a zone since the last evaluation of its rise, as sum and number (R570). -/
def Device.readings (d : Device) (z : Nat) : Int × Nat := sget (fun _ => (0, 0)) d.thm.sums z

/-- A zone's temperature counts toward its mean of the present 100 ms (R570). -/
def Device.addReading (d : Device) (z : Nat) (t : Int) : Device :=
  let x := d.readings z
  d.modThm (fun v => { v with sums := sput (fun _ => (0, 0)) v.sums z (x.1 + t, x.2 + 1) })

/-- Evaluate a zone (R569, R570). -/
def Device.evalZone (d : Device) (z : Nat) : Device :=
  let e := d.zone z
  if !e.used then d
  else if d.zoneAllFailed e then
    let d := (d.setFlag (THM_ZONE_STATUS z) THM_ZONE_STATUS_ALL_FAILED true).writeHold z none true
    (d.setLevel z 1).thermalLive
  else
    match d.zoneTemp e with
    | none => d
    | some t =>
      let d := (d.setFlag (THM_ZONE_STATUS z) THM_ZONE_STATUS_ALL_FAILED false).setFld (THM_ZONE_STATUS z) THM_ZONE_STATUS_TEMP (ofSigned 16 t)
      let d := d.addReading z t
      let d := if toSigned 16 (d.fld (THM_ZONE_MAX z) THM_ZONE_MAX_MAX) < t then d.setFld (THM_ZONE_MAX z) THM_ZONE_MAX_MAX (ofSigned 16 t) else d
      let d := d.writeHold z (some t) false
      let l := levelFor e (d.fld (THM_ZONE_STATUS z) THM_ZONE_STATUS_LEVEL) t
      let l := if d.flag (THM_ZONE_STATUS z) THM_ZONE_STATUS_RISE then max l 2 else l
      (d.setLevel z l).thermalLive

/-- The page-store zone stands at throttle while any channel reports too high a refresh rate (R170, R568). -/
def Device.evalStoreZone (d : Device) : Device := d.setLevel 16 (if d.ps.hot = 0 then 0 else 2)

/-- Set the broken bit of a sensor. -/
def Device.sensorFail (d : Device) (k : Nat) (b : Bool) : Device :=
  if k < 32 then d.setReg THM_SENSOR_FAIL_LO (BitVec.ofNat 32 (setNatBit (d.nat THM_SENSOR_FAIL_LO) k b))
  else d.setReg THM_SENSOR_FAIL_HI (BitVec.ofNat 32 (setNatBit (d.nat THM_SENSOR_FAIL_HI) (k - 32) b))

/-- Whether the image marks a thermistor unused (R564). -/
def Device.sensorUnused (d : Device) (k : Nat) : Bool :=
  decide (16 ≤ k) && decide (k < 32) &&
    (let b := d.entry 0x11 0 (k - 16)
     bytesAt b 0 4 == 0 || bytesAt b 4 4 == 0 || bytesAt b 8 2 == 0)

/-- Whether a reading shows its sensor broken (R566). -/
def SensorS.shows (x : SensorS) (now k : Nat) (r : Int) (valid : Bool) : Bool :=
  !valid || decide (k < 32 ∧ r < -400) || decide (k < 16 ∧ 1200 < r) || decide (16 ≤ k ∧ k < 32 ∧ 2000 < r) ||
    (x.seen && decide (now - x.at_ ≤ tuPerMs) && decide (80 < (r - x.val).natAbs))

/-- Set what is kept of a sensor. -/
def Device.setSensor (d : Device) (k : Nat) (x : SensorS) : Device :=
  d.modThm (fun v => { v with sensors := sput (fun _ => {}) v.sensors k x })

/-- Every zone that holds sensor `k` is evaluated (R569). -/
def Device.evalZonesOf (d : Device) (k : Nat) : Device :=
  d.each ((List.range 16).filter (fun z => natBit (d.zone z).sensors k)) (fun z d => d.evalZone z)

/-- A sensor is broken: on entry it is flagged and reported (R566). -/
def Device.breakSensor (d : Device) (k : Nat) : Device :=
  let x := d.sensor k
  let d := d.setSensor k { x with seen := true, broken := true, okSince := none }
  if x.broken then d else ((d.sensorFail k true).ledgerEvent lbThermSensor shared k 0).evalZonesOf k

/-- A sensor is sampled: `r` is its reading in 1/8 °C, converted as R564 gives for a thermistor; `valid` is false when its own check
or the code limits of R566 fail. A broken sensor is used again after 1 s of valid readings. -/
def Device.sampleSensor (d : Device) (k : Nat) (r : Int) (valid : Bool) : Device :=
  if d.sensorUnused k then d
  else
    let x := d.sensor k
    if x.shows d.now k r valid then d.breakSensor k
    else if x.broken then
      match x.okSince with
      | none => d.setSensor k { x with val := r, at_ := d.now, okSince := some d.now }
      | some o =>
        if 1000 * tuPerMs ≤ d.now - o then
          let d := (d.setSensor k { seen := true, val := r, at_ := d.now }).sensorFail k false
          (d.setFld (THM_SENSOR_TEMP k) THM_SENSOR_TEMP_TEMP (ofSigned 16 r)).evalZonesOf k
        else d.setSensor k { x with val := r, at_ := d.now }
    else
      let d := d.setSensor k { seen := true, val := r, at_ := d.now }
      (d.setFld (THM_SENSOR_TEMP k) THM_SENSOR_TEMP_TEMP (ofSigned 16 r)).evalZonesOf k

/-! The conversion of R564, in steps of 2^−40. -/

/-- ln 2. -/
def ln2 : Int := 762123384785

/-- ln ((1 + z) ÷ (1 − z)) for |z| ≤ 1/3, by its series. -/
def lnSeries (z : Int) : Int :=
  let z2 := z * z / 2 ^ 40
  2 * ((List.range 14).foldl (fun (x : Int × Int) i => (x.1 + x.2 / ((2 * i + 1 : Nat) : Int), x.2 * z2 / 2 ^ 40)) (0, z)).1

/-- ln (p ÷ q) of positive numbers. -/
def lnRatio (p q : Nat) : Int :=
  let e : Int := (Nat.log2 p : Int) - (Nat.log2 q : Int)
  let p' := p * 2 ^ (-e).toNat
  let q' := q * 2 ^ e.toNat
  e * ln2 + lnSeries (((p' : Int) - (q' : Int)) * 2 ^ 40 / ((p' : Int) + (q' : Int)))

/-- The temperature of a thermistor in 1/8 °C, to the nearest, at `mv` on its input (R564); none where the divider gives no resistance. -/
def thermistor (b : List Byte) (mv : Nat) : Option Int :=
  let r25 := bytesAt b 0 4
  let beta := bytesAt b 8 2
  let vref := bytesAt b 10 2
  if mv = 0 ∨ vref ≤ mv then none
  else
    let l := lnRatio (bytesAt b 4 4 * mv) (r25 * (vref - mv))
    let num : Int := 29815 * 2 ^ 40 * (beta : Int)
    let den : Int := 100 * 2 ^ 40 * (beta : Int) + 29815 * l
    if den ≤ 0 then none else some ((80 * num - 21847 * den) / (10 * den))

/-- The reading of a sensor in 1/8 °C (R563): for an on-die sensor what it delivers, for a thermistor the conversion of its analog input, for a head the
newest temperature received; none where the checks of R566 on a code or on the age of a head temperature fail. -/
def Device.reading (d : Device) (k : Nat) (r : Int) (valid : Bool) : Option Int :=
  let q := d.owner
  if k < 16 then (if valid then some r else none)
  else if k < 32 then
    let code := sget (fun _ => 0) d.rgl.adc (40 + k)
    if d.fld (REG_OS_CFG q) REG_OS_CFG_OPEN_CODE ≤ code ∨ code ≤ d.fld (REG_OS_CFG q) REG_OS_CFG_SHORT_CODE then none
    else thermistor (d.entry 0x11 0 (k - 16)) (code * 1800 / 4095)
  else if d.now ≤ (d.portS q (k - 32)).goodAt + 10 * tuPerMs then some (toSigned 8 (d.fld (BMO_STATUS q (k - 32)) BMO_STATUS_HEAD_TEMP) * 8)
  else none

/-- A sensor is sampled (R565); `reading` and `valid` are what an on-die sensor delivers, with its own validity check. -/
def execSensorSample (t : Nat) (k : Fin 40) (reading : Int) (valid : Bool) (s : State) : Result :=
  s.run t fun d =>
    match d.reading k reading valid with
    | some r => d.sampleSensor k r true
    | none => d.sampleSensor k 0 false

/-- The rate of rise of zone `z` is evaluated with its mean of the last 100 ms, in 1/8 °C (R570). -/
def Device.evalRise (d : Device) (z : Nat) (m : Int) : Device :=
  let e := d.zone z
  if !e.used then d
  else
    let h := sget (fun _ => []) d.thm.hist z
    let d := d.modThm (fun v => { v with hist := sput (fun _ => []) v.hist z ((m :: h).take 10) })
    match h[9]? with
    | none => d
    | some o =>
      let rate := (m - o) * 10
      let d := d.setFld (THM_ZONE_STATUS z) THM_ZONE_STATUS_RATE (ofSigned 8 (max (-127) (min 127 (rate / 8))))
      let fast := e.rise ≠ 0 && decide ((e.rise : Int) * 8 < rate)
      let up := if fast then sget (fun _ => 0) d.thm.above z + 1 else 0
      let down := if fast then 0 else sget (fun _ => 0) d.thm.below z + 1
      let d := d.modThm (fun v => { v with
        above := sput (fun _ => 0) v.above z up, below := sput (fun _ => 0) v.below z down })
      let t := toSigned 16 (d.fld (THM_ZONE_STATUS z) THM_ZONE_STATUS_TEMP)
      let d :=
        if 3 ≤ up then d.setFlag (THM_ZONE_STATUS z) THM_ZONE_STATUS_RISE true
        else if 10 ≤ down ∧ t < e.throttle - e.hyst * 8 then d.setFlag (THM_ZONE_STATUS z) THM_ZONE_STATUS_RISE false
        else d
      d.evalZone z

/-- The rate of rise of a zone that has had readings in the last 100 ms is evaluated with their mean, and the next 100 ms begin. -/
def Device.riseOf (d : Device) (z : Nat) : Device :=
  let x := d.readings z
  if x.2 = 0 then d
  else (d.modThm (fun v => { v with sums := sput (fun _ => (0, 0)) v.sums z (0, 0) })).evalRise z (x.1 / (x.2 : Int))

/-- Every 100 ms each zone's rate of rise is evaluated (R570). -/
def execRiseEvaluation (t : Nat) (s : State) : Result := s.run t fun d => d.each (List.range 16) (fun z d => d.riseOf z)

/-- The grace time ends: enforcement starts (R572). -/
def execGraceEnd (t : Nat) (s : State) : Result :=
  s.run t fun d =>
    if d.flag THM_STATUS THM_STATUS_GRACE then
      let d := (d.setFlag THM_STATUS THM_STATUS_GRACE false).setFlag THM_STATUS THM_STATUS_ENFORCING true
      (d.modThm (fun v => { v with credit := 0 })).post evThrottle false (d.requestedSpeed (d.fld THM_STATUS THM_STATUS_F)) 0 0
    else d

/-- Enforcement reaches a stop (R573): it has run for STOP_S of a zone that stays at throttle, or F is 0. -/
def execEnforcementStop (t : Nat) (s : State) : Result :=
  s.run t fun d =>
    if d.flag THM_STATUS THM_STATUS_ENFORCING && !d.flag THM_STATUS THM_STATUS_STOPPED &&
        (d.fld THM_STATUS THM_STATUS_F == 0 ||
          (List.range 16).any (fun z => (d.zone z).used && (d.zone z).stopS != 0 && decide (2 ≤ d.fld (THM_ZONE_STATUS z) THM_ZONE_STATUS_LEVEL))) then
      (((d.setFlag THM_STATUS THM_STATUS_STOPPED true).count THM_ENF_CNT THM_ENF_CNT_STOPS).ledgerEvent lbThermStop shared 0 0).enterDraining
    else d

/-- The host writes 1 to STOPPED: printing may go on, unless a zone stands at throttle (R573). -/
def Device.stoppedClear (d : Device) : Device := if d.throttled then d else d.setFlag THM_STATUS THM_STATUS_STOPPED false

def execStoppedClear (t : Nat) (s : State) : Result := s.run t Device.stoppedClear

/-- The credit of enforcement at a pitch start that would take a page of speed `v` (R572): whether the page is taken. -/
def Device.enforce (d : Device) (v : Nat) : Device × Bool :=
  if d.flag THM_STATUS THM_STATUS_ENFORCING && decide (d.requestedSpeed (d.fld THM_STATUS THM_STATUS_F) < v) then
    let c := d.thm.credit + d.fld THM_STATUS THM_STATUS_F
    if 100 ≤ c then (d.modThm (fun v => { v with credit := c - 100 }), true)
    else ((d.count THM_ENF_CNT THM_ENF_CNT_BLANKS).modThm (fun v => { v with credit := c }), false)
  else (d, true)

end Sys2Proof.Machine
end

