-- ==== Sys2Proof/Machine/Consumables.lean ====
section
/-! DEFINITION. Consumables (R579 to R590): imaging-unit memories, authentication, life counting and write-back. -/

namespace Sys2Proof.Machine

/-- A station's unit. -/
def Device.unit (d : Device) (s : Nat) : UnitS := sget (fun _ => {}) d.cns.units s

/-- Set a station's unit. -/
def Device.setUnit (d : Device) (s : Nat) (u : UnitS) : Device :=
  d.modCns (fun v => { v with units := sput (fun _ => {}) v.units s u })

/-- MAGIC, FORMAT and CRC of an identity block (R581, R586). -/
def blockMagicOk (b : List Byte) : Bool :=
  b.length == 256 && bytesAt b 0 2 == 0x4955 && bytesAt b 2 1 == 1 && crcGood b 252

def blockKind (b : List Byte) : Nat := bytesAt b 3 1
def blockRated (b : List Byte) : Nat := bytesAt b 4 4
def blockSerial (b : List Byte) : Nat := bytesAt b 8 8
def blockBaseValid (b : List Byte) : Bool := natBit (bytesAt b 16 1) 0
def blockBase (b : List Byte) (e : Nat) : Nat := bytesAt b (24 + 2 * e) 2

/-- The WRITE_NO of a counter slot whose CRC is right (R582). -/
def slotNo (b : List Byte) : Option Nat := if b.length = 32 ∧ crcGood b 28 then some (bytesAt b 8 4) else none

/-- Whether slot B is the newer: its WRITE_NO is larger modulo 2^32 (R582). -/
def slotBNewer (a b : Option Nat) : Bool :=
  match a, b with
  | some x, some y => decide (0 < (y + 2 ^ 32 - x) % 2 ^ 32) && decide ((y + 2 ^ 32 - x) % 2 ^ 32 < 2 ^ 31)
  | none, some _ => true
  | _, _ => false

/-- The settings of R588 of a station. -/
def Device.cnsKind (d : Device) (s : Nat) : Nat := bytesAt (d.entry 0x14 0 s) 0 1
def Device.cnsWarnPct (d : Device) (s : Nat) : Nat := bytesAt (d.entry 0x14 0 s) 1 1
def Device.eolAction (d : Device) (s : Nat) : Nat := bytesAt (d.entry 0x14 0 s) 2 1 % 4

/-- Every emitter class of a station is "not measured" again, its baselines come from the unit, and its proposals are cleared
(R317, R318, R586). -/
def Device.resetEmitters (d : Device) (s : Nat) (block : List Byte) : Device :=
  let d := d.each bothSides (fun q d =>
    let d := (d.setReg (BMO_HEALTH0 q s) 0xFFFFFFFF).setReg (BMO_HEALTH1 q s) 0xFFFFFFFF
    let d := (d.setReg (BMO_HEALTH2 q s) 0xFFFFFFFF).setReg (BMO_HEALTH3 q s) 0xFFFFFFFF
    let d := d.setReg (BMO_HEALTH4 q s) 0x0000FFFF
    let d := (d.setReg (BMO_MAP_PEND0 q s) 0).setReg (BMO_MAP_PEND1 q s) 0
    (d.setFlag (BMO_STATUS q s) BMO_STATUS_CLASS_LOST false).setFlag (BMO_STATUS q s) BMO_STATUS_DEAD_UNMAPPED false)
  d.each (List.range 72) (fun e d =>
    d.modBmo (fun v => { v with
      base := sput (fun _ => 0) v.base (128 * s + e) (if blockBaseValid block then blockBase block e else 0)
      last := sput (fun _ => 0) v.last (128 * s + e) 0 }))

/-- A measurement in progress is abandoned (R319). -/
def Device.measStop (d : Device) (s : Nat) : Device :=
  let d := d.modBmo (fun v => { v with meas := sput (fun _ => none) v.meas s none })
  d.each bothSides (fun q d => d.setFlag (BMO_STATUS q s) BMO_STATUS_MEAS_BUSY false)

/-- A unit fails: the status bit and CNS_FAULT (R587). -/
def Device.unitFault (d : Device) (s : Nat) (f : Fld) : Device := (d.setFlag (CNS_STATUS s) f true).ledgerEvent lbCnsFault shared s 0

/-- A unit is detected: its block is checked, its count and baselines are taken, a measurement in progress is abandoned (R590), and a challenge is
sent (R583, R586). -/
def Device.detectUnit (d : Device) (s : Nat) (a : UnitAnswer) (challenge : List Byte) : Device :=
  let noA := slotNo a.slotA
  let noB := slotNo a.slotB
  let count := if slotBNewer noA noB then bytesAt a.slotB 0 8 else if noA.isSome then bytesAt a.slotA 0 8 else 0
  let d := d.setReg (CNS_STATUS s) 1
  let d := d.setFlag (CNS_STATUS s) CNS_STATUS_NO_COUNT (noA.isNone && noB.isNone)
  let d := (d.setNat64 (CNS_UNIT_LO s) (blockSerial a.block)).setNat64 (CNS_BANDS_LO s) count
  let d := (d.setNat (CNS_RATED s) (blockRated a.block)).setUnit s { block := a.block, noA, noB }
  let d := d.modCns (fun v => { v with eolStop := setNatBit v.eolStop s false })
  if !blockMagicOk a.block then d.unitFault s CNS_STATUS_BLOCK_ERR
  else if d.cnsKind s ≠ 0 ∧ d.cnsKind s ≠ blockKind a.block then d.unitFault s CNS_STATUS_KIND_ERR
  else ((d.measStop s).resetEmitters s a.block).setUnit s { block := a.block, noA, noB, challenge := some challenge }

/-- A memory is polled (R586, R587). -/
def Device.pollUnit (d : Device) (s : Nat) (a : Option UnitAnswer) (challenge : List Byte) : Device :=
  match a with
  | none =>
    if d.flag (CNS_STATUS s) CNS_STATUS_NO_ANSWER then d
    else ((d.setFlag (CNS_STATUS s) CNS_STATUS_PRESENT false).setFlag (CNS_STATUS s) CNS_STATUS_AUTH_OK false).unitFault s CNS_STATUS_NO_ANSWER
  | some a =>
    if d.flag (CNS_STATUS s) CNS_STATUS_PRESENT ∧ d.nat64 (CNS_UNIT_LO s) = blockSerial a.block then d
    else d.detectUnit s a challenge

/-- Every memory of the list is polled, from station 0 on; `challenge` holds 32 bytes for each. -/
def Device.pollUnits (d : Device) (units : List (Option UnitAnswer)) (challenge : List Byte) : Device :=
  if d.flag CNS_CTRL CNS_CTRL_ENABLE then d.each ((List.range 8).zip units) (fun x d => d.pollUnit x.1 x.2 ((challenge.drop (32 * x.1)).take 32))
  else d

/-- Each second in Held every memory is polled; `challenge` is what the random generator gives (R583, R586). -/
def execUnitPoll (t : Nat) (units : List (Option UnitAnswer)) (challenge : List Byte) (s : State) : Result :=
  s.run t fun d => if d.st = .held then d.pollUnits units challenge else d

/-- The response that passes (R583). -/
def expectedResponse (key block challenge : List Byte) : List Byte :=
  let serial := leBytes 8 (blockSerial block)
  hmac (hmac key serial) (challenge ++ serial ++ leBytes 4 (bytesAt block 252 4))

/-- 5 ms after the challenge the response is read and compared (R583); a blank key passes nothing (R578). -/
def execAuthResponseRead (t : Nat) (st : Station) (response : List Byte) (s : State) : Result :=
  s.runF t fun f d =>
    let u := d.unit st
    match u.challenge with
    | none => d
    | some c =>
      let key := f.keys.getD (d.fld CNS_CFG CNS_CFG_AUTH_SLOT) []
      let d := d.setUnit st { u with challenge := none }
      if keySet key && response == expectedResponse key u.block c then d.setFlag (CNS_STATUS st) CNS_STATUS_AUTH_OK true
      else d.unitFault st CNS_STATUS_AUTH_FAIL

/-- The I2C bus and the address of a station's identity memory (R579). -/
def memoryAt (s : Nat) : Nat × Nat := (s / 4, 0x50 + s % 4)

/-- The bytes of a counter slot (R582). -/
def counterSlot (bands no : Nat) : List Byte := withCrc (leBytes 8 bands ++ leBytes 4 no ++ leBytes 16 0)

/-- Write a station's count back into the slot that does not hold the newest value (R585). -/
def Device.writeCount (d : Device) (s : Nat) : Device :=
  let u := d.unit s
  let newest := if slotBNewer u.noA u.noB then u.noB.getD 0 else u.noA.getD 0
  let no := (newest + 1) % 2 ^ 32
  let bands := d.nat64 (CNS_BANDS_LO s)
  let d := d.setFlag (CNS_STATUS s) CNS_STATUS_WB_DEFERRED false
  if slotBNewer u.noA u.noB || u.noA.isNone then d.setUnit s { u with noA := some no, sheets := 0, written := some (0x0100, counterSlot bands no) }
  else d.setUnit s { u with noB := some no, sheets := 0, written := some (0x0120, counterSlot bands no) }

/-- A write-back falls due: deferred while the board temperature is out of range (R574, R590); at a power-down it is then lost. -/
def Device.writeback (d : Device) (s : Nat) (power : Bool) : Device :=
  if !d.flag CNS_CTRL CNS_CTRL_ENABLE ∨ !d.flag (CNS_STATUS s) CNS_STATUS_PRESENT then d
  else if d.writesOut then
    if power then (d.setFlag (CNS_STATUS s) CNS_STATUS_WB_LOST true).setFlag (CNS_STATUS s) CNS_STATUS_WB_DEFERRED false
    else d.setFlag (CNS_STATUS s) CNS_STATUS_WB_DEFERRED true
  else d.writeCount s

/-- Every station's count is written back before a power-down (R585). -/
def Device.writebackAll (d : Device) : Device := d.each (List.range 8) (fun s d => d.writeback s true)

/-- Every station's count is written back on entry into Held (R585). -/
def Device.writebackHeld (d : Device) : Device := d.each (List.range 8) (fun s d => d.writeback s false)

/-- The deferred write-backs run once the board temperature is in range (R574, R590). -/
def execWritebackResume (t : Nat) (s : State) : Result :=
  s.run t fun d =>
    if d.flag THM_STATUS THM_STATUS_WRITE_HOLD then d
    else d.each ((List.range 8).filter (fun s => d.flag (CNS_STATUS s) CNS_STATUS_WB_DEFERRED)) (fun s d => d.writeCount s)

/-- A band is released to a station: its count rises, with the warning and the end of life (R585, R589). -/
def Device.countBand (d : Device) (s : Nat) : Device :=
  if !d.flag CNS_CTRL CNS_CTRL_ENABLE then d
  else
    let n := d.nat64 (CNS_BANDS_LO s) + 1
    let d := d.setNat64 (CNS_BANDS_LO s) n
    let rated := d.nat (CNS_RATED s)
    if rated = 0 then d
    else
      let d := if d.cnsWarnPct s ≠ 0 ∧ d.cnsWarnPct s * rated ≤ n * 100 ∧ !d.flag (CNS_STATUS s) CNS_STATUS_LIFE_WARN then
          (d.setFlag (CNS_STATUS s) CNS_STATUS_LIFE_WARN true).ledgerEvent lbCnsLifeWarn shared s 0
        else d
      if rated ≤ n ∧ !d.flag (CNS_STATUS s) CNS_STATUS_EOL then
        let d := d.setFlag (CNS_STATUS s) CNS_STATUS_EOL true
        if d.eolAction s = 2 then d.enterDraining else d
      else d

/-- A sheet is delivered or diverted by the stations of a mask: after WB_SHEETS of them the count is written back (R585). -/
def Device.countSheet (d : Device) (mask : Nat) : Device :=
  let lim := let n := d.fld CNS_CFG CNS_CFG_WB_SHEETS; if n = 0 then 256 else n
  d.each (maskList 8 mask) (fun s d =>
    let u := d.unit s
    if lim ≤ u.sheets + 1 then (d.setUnit s { u with sheets := 0 }).writeback s false
    else d.setUnit s { u with sheets := u.sheets + 1 })

/-- On entry into Held the stations at their end of life stop taking pages (R589). -/
def Device.eolHeld (d : Device) : Device :=
  let m := ((List.range 8).filter (fun s => d.flag (CNS_STATUS s) CNS_STATUS_EOL && d.eolAction s != 0)).foldl (fun m s => setNatBit m s true) 0
  d.modCns (fun v => { v with eolStop := m })

/-- Whether a station's unit does not answer, or has failed a check or its authentication (R587). -/
def Device.unitFailed (d : Device) (s : Nat) : Bool :=
  [CNS_STATUS_NO_ANSWER, CNS_STATUS_BLOCK_ERR, CNS_STATUS_KIND_ERR, CNS_STATUS_AUTH_FAIL].any (fun f => d.flag (CNS_STATUS s) f)

/-- Whether the unit of a station lets it be released (R587). -/
def Device.unitReleasable (d : Device) (s : Nat) : Bool := !d.flag CNS_CFG CNS_CFG_AUTH_REQ || !d.unitFailed s

end Sys2Proof.Machine
end

