-- ==== Sys2Proof/Machine/Stations.lean ====
section
/-! DEFINITION. What the station blocks share: their state by Quarter and station, what a station prints, and safe stations (R603). -/

namespace Sys2Proof.Machine

/-- A synthesizer's state beside its registers. -/
def Device.synthS (d : Device) (q : Side) (s : Nat) : SynthS := sget (fun _ => {}) d.synth (pk q s)

def Device.setSynth (d : Device) (q : Side) (s : Nat) (v : SynthS) : Device :=
  d.withSynth (sput (fun _ => {}) d.synth (pk q s) v)

/-- What a station prints. -/
def Device.print (d : Device) (s : Nat) : Option PrintS := sget (fun _ => none) d.bmo.prints s

def Device.setPrint (d : Device) (s : Nat) (p : Option PrintS) : Device :=
  d.modBmo (fun v => { v with prints := sput (fun _ => none) v.prints s p })

/-- Whether a station images a sheet now. -/
def Device.images (d : Device) (s : Nat) : Bool := natBit d.imagingMask s

/-- The page side that an instance prints at a station (R91). -/
def Device.sideAt (d : Device) (i : Instance) (s : Nat) : Option PageSide :=
  match d.dlv.pages.find? (fun p => p.first.wsn == i.wsn) with
  | none => none
  | some p => if natBit i.side2 s then p.second else some p.first

/-- The page side that a station prints. -/
def Device.printSide (d : Device) (s : Nat) : Option PageSide :=
  match d.print s with
  | none => none
  | some p =>
    match d.inst p.inst with
    | none => none
    | some i => d.sideAt i s

/-- The band that a station prints now, with the side of the page it belongs to (R184); none before the first line, between prints and in
a tail. -/
def Device.printRec (d : Device) (s : Nat) : Option (PageSide × BandRec) :=
  match d.print s, d.printSide s with
  | some p, some side =>
    if !p.started || p.tail then none
    else ((side.recs.filter (fun r => r.station == s))[p.band]?).map (fun r => (side, r))
  | _, _ => none

/-- A port starts bring-up: TRAINING (R343). -/
def Device.trainPort (d : Device) (q : Side) (s : Nat) : Device :=
  (d.setFld (ENW_STATUS q s) ENW_STATUS_STATE 1).setPort q s { d.portS q s with tableOk := false, retrain := false }

/-- Whether a Quarter has a station to catch up before it sends there (R370). -/
def Device.waitsFor (d : Device) (q : Side) (s : Nat) : Bool :=
  match d.transfer with
  | some x => x.old != q && natBit x.waiting s
  | none => false

/-- The active scan of a station in a Quarter is over: its port reads 100 % (R192), and stays at PANIC1 only while it catches up (R372). -/
def Device.scanOver (d : Device) (q : Side) (s : Nat) : Device :=
  let p1 := d.fld RDB_PANIC RDB_PANIC_PANIC1
  let d := if natBit p1 (pk q s) && !d.waitsFor q s then d.setFld RDB_PANIC RDB_PANIC_PANIC1 (setNatBit p1 (pk q s) false) else d
  let p2 := d.fld RDB_PANIC RDB_PANIC_PANIC2
  if natBit p2 (pk q s) then d.setFld RDB_PANIC RDB_PANIC_PANIC2 (setNatBit p2 (pk q s) false) else d

/-- A station's printing ends: its last band, or it stops early. A bring-up that waited for it starts (R343). -/
def Device.endPrint (d : Device) (s : Nat) : Device :=
  match d.print s with
  | none => d
  | some p =>
    let d := d.setPrint s none
    let d := match d.inst p.inst with
      | some i => d.setInst p.inst (some { i with imaging := setNatBit i.imaging s false })
      | none => d
    let d := d.modBmo (fun v => { v with lastLine := sput (fun _ => 0) v.lastLine s d.now })
    d.each bothSides (fun q d => let d := d.scanOver q s; if (d.portS q s).retrain then d.trainPort q s else d)

/-- Show in both Quarters and at the Kerb whether a station is safe (R603). -/
def Device.showSafe (d : Device) (s : Nat) : Device :=
  let b := natBit d.bmo.headSafe s || natBit d.bmo.otherSafe s
  let d := d.each bothSides (fun q d => d.setFlag (BMO_CTRL q s) BMO_CTRL_SAFE b)
  d.setFld KRB_ENABLES KRB_ENABLES_STATION_FORCED (setNatBit (d.fld KRB_ENABLES KRB_ENABLES_STATION_FORCED) s b)

/-- A station becomes safe: its laser-enable is forced inactive and it prints no further line. -/
def Device.nowSafe (d : Device) (s : Nat) : Device :=
  let d := d.modBmo (fun v => { v with safePend := setNatBit v.safePend s false })
  (d.endPrint s).showSafe s

/-- A station goes safe, after the line it prints (R263, R283, R284, R323, R418, R468); its sheet is defective with a cause. `head`
marks a station safe for its head temperature. -/
def Device.goSafe (d : Device) (s cause : Nat) (head : Bool) : Device :=
  let d := d.stationsDefective (2 ^ s) cause
  let d := if head then d.modBmo (fun v => { v with headSafe := setNatBit v.headSafe s true })
    else d.modBmo (fun v => { v with otherSafe := setNatBit v.otherSafe s true })
  if (d.print s).isSome then d.modBmo (fun v => { v with safePend := setNatBit v.safePend s true }) else d.nowSafe s

/-- Whether a station is safe, or becomes so at the end of its line. -/
def Device.isSafe (d : Device) (s : Nat) : Bool := natBit d.bmo.headSafe s || natBit d.bmo.otherSafe s

/-- Entry into Held: stations leave safe, but for those whose head is still too warm (R324, R418). -/
def Device.stationsHeld (d : Device) : Device :=
  let d := d.modBmo (fun v => { v with otherSafe := 0 })
  d.each (List.range 8) (fun s d => d.showSafe s)

/-- The multi-pass factor of a Quarter's BMO_PASS (R294). -/
def Device.passM (d : Device) (q : Side) : Nat :=
  match d.fld (BMO_PASS q) BMO_PASS_M with
  | 0 => 1
  | 1 => 2
  | _ => 4

/-- The interlace pitch P of a station (R292). -/
def Device.pitchP (d : Device) (q : Side) (s : Nat) : Nat := 2 * d.fld (BMO_CTRL q s) BMO_CTRL_PITCH + 1

/-- Certified rates of R29 in 0.1 GB/s by pace level: substream decoder and compressor. -/
def decoderRate : Nat → Nat
  | 0 => 11
  | 1 => 15
  | 2 => 19
  | _ => 23

def compressorRate : Nat → Nat
  | 0 => 14
  | 1 => 20
  | 2 => 25
  | _ => 30

/-- The time in 1/64 ns that `n` bytes take at a rate in 0.1 GB/s. -/
def bytesTime (n rate : Nat) : Nat := n * 640 / rate

/-- The pace level whose certified figures apply: during a change the lower of the two levels between which the step in progress goes
(R35), whatever has been requested since. -/
def Device.paceNow (d : Device) : Nat :=
  if d.flag PWR_PACE PWR_PACE_CHANGING then min (d.fld PWR_PACE PWR_PACE_LEVEL) d.pwr.paceTo else d.fld PWR_PACE PWR_PACE_LEVEL

/-! The pace level (R34, R35). -/

/-- The highest pace level that a page plans. -/
def Page.paceMax (p : Page) : Nat := max p.first.pace ((p.second.map (fun x => x.pace)).getD 0)

/-- Whether a page's sheet has been diverted and its reprint has not begun: its pace level does not count (R34). -/
def Device.diverted (d : Device) (p : Page) : Bool :=
  p.reprint && !p.started && d.openInsts.all (fun x => x.2.wsn != p.first.wsn || x.2.gateFired)

/-- The pace level that the accepted pages not yet delivered or diverted require (R34); where there is none, P0 in Held (R28) and P1
elsewhere (R61, R618). -/
def Device.paceNeeded (d : Device) : Nat :=
  (d.dlv.pages.filter (fun p => !d.diverted p)).foldl (fun m p => max m p.paceMax) (if d.st = .held then 0 else 1)

/-- A voltage step to the requested level starts where the present level differs (R35, R538). -/
def Device.paceStep (d : Device) : Device :=
  let want := d.fld PWR_PACE PWR_PACE_REQ
  if d.fld PWR_PACE PWR_PACE_LEVEL = want then d
  else (d.setFlag PWR_PACE PWR_PACE_CHANGING true).modPwr (fun v => { v with paceTo := want, paceAt := d.now })

/-- The device requests the pace level of R34; a step that runs goes to its own end first (R35). -/
def Device.paceRequest (d : Device) : Device :=
  let d := d.setFld PWR_PACE PWR_PACE_REQ d.paceNeeded
  if d.flag PWR_PACE PWR_PACE_CHANGING then d else d.paceStep

/-- The pace level is raised before a page that needs more enters decode (R34): as soon as the page is accepted, or its reprint begins. -/
def Device.paceRaise (d : Device) : Device := if d.fld PWR_PACE PWR_PACE_REQ < d.paceNeeded then d.paceRequest else d

/-- The step in progress is at its end: its level holds, and a step to a level requested meanwhile starts. -/
def Device.paceDone (d : Device) : Device :=
  if d.flag PWR_PACE PWR_PACE_CHANGING then
    ((d.setFld PWR_PACE PWR_PACE_LEVEL d.pwr.paceTo).setFlag PWR_PACE PWR_PACE_CHANGING false).paceStep
  else d

/-- A step that began 20 µs ago or earlier is over (R35), whether its end has been seen or not. -/
def Device.paceSettle (d : Device) : Device := if d.pwr.paceAt + 20 * tuPerUs ≤ d.now then d.paceDone else d

/-- The bypass rate of raw-pass substreams in 0.1 GB/s (R377). -/
def bypassRate : Nat := 30

/-- Whether substream `n` of a band is stored uncompressed (R220). -/
def BandRec.raw (b : BandRec) (n : Nat) : Bool := b.format == 0 || natBit b.rawPass n

/-- The certified time of substream `n`'s decoder for a band (R29, R377). -/
def Device.decodeTime (d : Device) (b : BandRec) (dots n : Nat) : Nat :=
  bytesTime (4 * dots) (if b.raw n then bypassRate else decoderRate d.paceNow)

/-- The unit numbers that SLOW_STAGE records (R55; DESIGN CHOICE, log entry 70): decoders, compressors, inspection compressors, real-time
ports. -/
def unitDecoder (q : Side) (s n : Nat) : Nat := 64 * q.code + 8 * s + n
def unitCompressor (c : Nat) : Nat := 128 + c
def unitInspection (i : Nat) : Nat := 132 + i
def unitPort (q : Side) (s : Nat) : Nat := 136 + 8 * q.code + s

/-- SLOW_STAGE for a unit that took longer than its certified time (R55). -/
def Device.slowStage (d : Device) (origin unit limit took : Nat) : Device :=
  if limit < took then d.ledgerEvent lbSlowStage origin unit 0 else d

/-- The decoders and the real-time port of a station that took longer than certified for the band just ended set SLOW_STAGE (R55). The
certified time of a port is free (log entry 70). -/
def Device.slowStages (d : Device) (q : Side) (s : Nat) (b : BandRec) (dots : Nat) (times : List Nat) (port : Nat) : Device :=
  let d := d.each ((List.range 8).zip times) (fun x d => d.slowStage q.code (unitDecoder q s x.1) (d.decodeTime b dots x.1) x.2)
  d.slowStage q.code (unitPort q s) (Config.portTime (b.lens.sum) d.paceNow) port

end Sys2Proof.Machine
end

