-- ==== Sys2Proof/Machine/PageStore.lean ====
section
/-! DEFINITION. The page store (R164 to R205): its areas and blocks, drift tracking, ECC, refresh, the guard against row disturbance,
and self-refresh. -/

namespace Sys2Proof.Machine

/-- The base of the page store in the DMA space (R45, R171). -/
def storeBase : Nat := 0x1000000000

/-- Addressable bytes of an allocator block (R179). -/
def blockBytes : Nat := 917504

/-- The addressable offset of a physical offset (R173). -/
def addressable (p : Nat) : Nat := 14336 * (p / 16384) + p % 16384

/-- The physical offset of an addressable offset (R173). -/
def physical (a : Nat) : Nat := 16384 * (a / 14336) + a % 14336

/-- Whether a physical offset lies in a check area (R173). -/
def inCheckArea (p : Nat) : Bool := decide (0x3800 ≤ p % 16384)

/-- Where a physical offset lies (R171). -/
structure StorePlace where
  byte : Nat
  sub : Nat
  channel : Nat
  col : Nat
  group : Nat
  bank : Nat
  row : Nat
  rank : Nat
  deriving DecidableEq, Repr

/-- Row bits of a bank: rows 65536 × capacity ÷ 16 GiB per rank (R172); `k` is the top row bit, less 17. -/
def rowBits (gib ranks : Nat) : Nat :=
  match gib, ranks with
  | 8, _ => 15
  | 16, 1 => 16
  | 16, _ => 15
  | 32, _ => 16
  | _, _ => 17

/-- The place of a physical offset (R171), with `rows` row bits; the column is the burst half under the high bits. -/
def placeIn (rows p : Nat) : StorePlace :=
  { byte := p % 64, sub := p / 64 % 2, channel := p / 256 % 4, col := 2 * (p / 1024 % 16) + p / 128 % 2, group := p / 16384 % 4
    bank := p / 65536 % 4, row := p / 2 ^ 18 % 2 ^ rows, rank := p / 2 ^ (18 + rows) % 2 }

/-- The place of a physical offset but for its rank, where that is not asked for. -/
def storePlace (p : Nat) : StorePlace := placeIn 17 p

/-- Installed blocks of 1 MiB physical (R172, R179). -/
def Device.storeBlocks (d : Device) : Nat := d.fld RDB_STATUS RDB_STATUS_CAP_GIB * 1024

/-- The areas of R179. -/
inductive StoreArea where
  | system
  | inspection
  | general
  | page
  deriving DecidableEq, Repr

/-- The place of a physical offset in the installed store. -/
def Device.placeOf (d : Device) (p : Nat) : StorePlace :=
  placeIn (rowBits (d.fld RDB_STATUS RDB_STATUS_CAP_GIB) (if d.flag RDB_STATUS RDB_STATUS_RANKS2 then 2 else 1)) p

/-- The bank of a rank of a sub-channel that a place lies in, 0 to 255 (R197): 16 banks, then rank, sub-channel and channel. -/
def StorePlace.bankNo (x : StorePlace) : Nat := 16 * (2 * (2 * x.channel + x.sub) + x.rank) + 4 * x.group + x.bank

/-- The rank 1 training block (R180), where two ranks are fitted. -/
def Device.rank1Block (d : Device) : Option Nat :=
  if d.flag RDB_STATUS RDB_STATUS_RANKS2 then some (d.storeBlocks / 2 + 2) else none

/-- The area of a block (R179). The rank 1 training block is system wherever it lies (DEDUCED, log entry 117). -/
def Device.areaOf (d : Device) (b : Nat) : StoreArea :=
  if b < 4 ∨ d.rank1Block = some b then .system
  else if b < 4 + d.fld PGS_ALLOC_CFG PGS_ALLOC_CFG_INSP_BLOCKS then .inspection
  else if b < 4 + d.fld PGS_ALLOC_CFG PGS_ALLOC_CFG_INSP_BLOCKS + d.fld PGS_ALLOC_CFG PGS_ALLOC_CFG_GEN_BLOCKS then .general
  else .page

/-- Blocks of the page area (R179). -/
def Device.pageBlocks (d : Device) : Nat :=
  let used := 4 + d.fld PGS_ALLOC_CFG PGS_ALLOC_CFG_INSP_BLOCKS + d.fld PGS_ALLOC_CFG PGS_ALLOC_CFG_GEN_BLOCKS
  let rank1 := match d.rank1Block with
    | some b => b01 (decide (used ≤ b))
    | none => 0
  d.storeBlocks - used - rank1

/-- Free blocks of the page area. -/
def Device.freeBlocks (d : Device) : Nat := d.fld PGS_ALLOC_BLOCKS PGS_ALLOC_BLOCKS_FREE

/-- Whether an access of the page store ends with ERR_GATED (R203). -/
def Device.storeGated (d : Device) : Bool := d.ps.entering || d.flag RDB_STATUS RDB_STATUS_SR

/-- Whether page-store accesses end with ERR_GATED: in self-refresh (R203), at a closed gate (R531), or while the controller runs on IOSC (R523). -/
def Device.storeOff (d : Device) : Bool :=
  d.storeGated || natBit (d.fld CLK_GATE_STATUS CLK_GATE_STATUS_CLOSED) 2 || natBit d.clk.passing 4

/-! Scheduling (R190 to R194). -/

/-- The ports of the Roundabout (R190). -/
inductive StorePort where
  | realTime (q : Side) (s : Nat)
  | system
  | ingest
  | staging
  | general
  | maintenance
  deriving DecidableEq, Repr

/-- The number of a real-time port: its bit in RDB_PANIC (R190). -/
def rtPort (q : Side) (s : Nat) : Nat := 8 * q.code + s

/-- The port that a DMA channel uses (R190): 5 for ingest, 7 for inspection staging, the free channels and the Quarters' for the general
area; the others do not use the page store. -/
def channelPort (e : Engine) (c : Nat) : Option StorePort :=
  match e with
  | .quarter _ => some .general
  | .shared => if c = 5 then some .ingest else if c = 7 then some .staging else if 11 ≤ c then some .general else none

/-- The class of precedence in which a port's request is granted, 1 the first (R191): `level` is the panic level of a real-time port, `due`
tells that a refresh is at the postponement limit or a mitigation is due. -/
def StorePort.grantClass (p : StorePort) (level : Nat) (due : Bool) : Nat :=
  match p with
  | .maintenance => if due then 1 else 5
  | .realTime _ _ => if level = 0 then 4 else 2
  | .system => 3
  | _ => 6

/-- Whether no IW, IS or GP request is granted: a port is at PANIC2 (R193), or a station of the Quarter that took the token has not caught
up (R372). -/
def Device.storeHeld (d : Device) : Bool :=
  d.fld RDB_PANIC RDB_PANIC_PANIC2 != 0 || (match d.transfer with
    | some x => x.waiting != 0
    | none => false)

/-- How long an allowance in 0.1 GB/s paces `n` bytes, in time units. -/
def paceTime (n allow : Nat) : Nat := n * tuPerMs / (100000 * max 1 allow)

/-- IW and GP together are paced within ALLOW_INGEST: `n` bytes are charged to it (R194). -/
def Device.chargeIngest (d : Device) (n : Nat) : Device :=
  d.modPs (fun v => { v with ingestDue := max d.now v.ingestDue + paceTime n (d.fld PGS_TG_CTRL PGS_TG_CTRL_ALLOW_INGEST) })

/-- IS is paced within ALLOW_INSP: `n` bytes are charged to it (R194). -/
def Device.chargeStaging (d : Device) (n : Nat) : Device :=
  d.modPs (fun v => { v with stagingDue := max d.now v.stagingDue + paceTime n (d.fld PGS_TG_CTRL PGS_TG_CTRL_ALLOW_INSP) })

/-- An access of the general or the staging area is charged as 1 792 B at least (R194). -/
def chargeOf (n : Nat) : Nat := max 1792 n

/-- Whether an address is one of the installed page store. -/
def Device.inStore (d : Device) (a : Nat) : Bool := decide (storeBase ≤ a) && decide (a < storeBase + d.storeBlocks * 2 ^ 20)

/-- Whether a port's request must wait: of those of class 6 none is granted now, or the pacing of its allowance holds it back (R191, R193,
R194). -/
def Device.portWaits (d : Device) (p : StorePort) : Bool :=
  p.grantClass 0 false == 6 &&
    (d.storeHeld ||
      (if p = .staging then decide (d.now < d.ps.stagingDue) || d.fld PGS_TG_CTRL PGS_TG_CTRL_ALLOW_INSP == 0
       else decide (d.now < d.ps.ingestDue) || d.fld PGS_TG_CTRL PGS_TG_CTRL_ALLOW_INGEST == 0))

/-! Drift tracking (R168 to R170). -/

/-- The correction of a measured drift, in 1/1000 UI (R169). -/
def driftStep (x : Int) : Int := max (-250) (min 250 x)

/-- The MR4 refresh-rate field of a channel (RDB_MR4). -/
def mr4Fld (ch : Nat) : Fld := ⟨8 * ch + 4, 8 * ch⟩

/-- Whether an MR4 refresh-rate code asks for more than twice the base rate (R170); the codes are JESD209-5B's. -/
def mr4Hot (code : Nat) : Bool := decide (12 ≤ code)

/-- The DQS oscillator and MR4 of a channel are read: `drift` is the drift measured from the trained value, in 1/1000 UI. -/
def execDriftTrackTick (t : Nat) (ch : Fin 4) (drift : Int) (mr4 : BitVec 5) (s : State) : Result :=
  s.run t fun d =>
    if d.storeOff || !d.flag RDB_STATUS RDB_STATUS_TRAINED then d
    else
      let d := d.modPs (fun v => { v with drift := sput (fun _ => 0) v.drift ch (driftStep drift) })
      let d := if driftStep drift = drift then d
        else (d.modPs (fun v => { v with retrain := true })).ledgerEvent lbPsDrift shared ch 0
      let d := d.setFld RDB_MR4 (mr4Fld ch) mr4.toNat
      let now := mr4Hot mr4.toNat
      let d := d.modPs (fun v => { v with hot := setNatBit v.hot ch now })
      let d := if now then d.ledgerEvent lbPsHot shared ch 0 else d
      d.evalStoreZone

/-- At entry into Held the store is retrained in full where a drift passed its limit (R169). -/
def Device.retrainHeld (d : Device) : Device :=
  if d.ps.retrain then d.modPs (fun v => { v with retrain := false, drift := [] }) else d

/-! Inline ECC (R174 to R178). -/

/-- What the check code makes of a block as it is read. -/
inductive BlockRead where
  | good
  | corrected
  | failed
  deriving DecidableEq, Repr

/-- The verdict of the code (R175): one symbol is corrected, two or three and a wrong place are found; of four or more, any may be missed. -/
def blockRead (addr : Nat) : BlockError → BlockRead
  | .wrongPlace => .failed
  | .symbols l =>
    let l := (l.map (fun x => x.val)).dedup
    match l.length with
    | 0 => .good
    | 1 => .corrected
    | 2 => .failed
    | 3 => .failed
    | _ => if Config.eccMissed (addr - storeBase) l then .good else .failed

/-- A read of the store comes with an error that is corrected, in the row as well (R176). -/
def execPsEccCe (t addr : Nat) (e : BlockError) (s : State) : Result :=
  s.run t fun d => if addr < storeBase ∨ blockRead addr e ≠ .corrected then d else d.addSat RDB_ECC_CE wholeWord 1

/-- An uncorrectable error is recorded with its data block, and its access ends with ERR_ECC (R176). -/
def Device.storeUe (d : Device) (addr : Nat) : Device :=
  let d := (d.count RDB_ECC_UE RDB_ECC_UE_COUNT).setNat64 RDB_ECC_ADDR_LO (addr - addr % 64)
  (d.ledgerEvent lbPsUe shared 0 0).reply .errEcc

/-- A real-time read of a substream's band fails: the rest of the band is BLANK and the sheet defective with cause 7 (R177). The ports of a
Quarter that is Yielded or Testing read nothing (R196). -/
def Device.realTimeUe (d : Device) (q : Side) (s sub : Nat) : Device :=
  if (d.print s).isSome ∧ d.role q ≠ .yielded ∧ d.role q ≠ .testing then
    let l := d.lineS q s
    (d.setLine q s { l with ue := l.ue ||| 2 ^ sub }).stationsDefective (2 ^ s) 7
  else d

/-- Data blocks of 64 B that the patrol scrub visits (R178). -/
def Device.scrubBlocks (d : Device) : Nat := d.storeBlocks * (blockBytes / 64)

/-- The patrol scrub reads the next block (R178). -/
def execPatrolScrub (t : Nat) (s : State) : Result :=
  s.run t fun d =>
    if d.storeOff || d.scrubBlocks == 0 then d
    else d.modPs (fun v => { v with scrub := (v.scrub + 1) % d.scrubBlocks })

/-! Refresh and row disturbance (R164, R197 to R201). -/

/-- A refresh of a bank falls due, at the rate that MR4 requires (R170). Of it and of those postponed, `granted` are issued now; at most 8 stay
postponed (R164, R191). -/
def execRefreshDue (t : Nat) (bank : Fin 256) (granted : Nat) (s : State) : Result :=
  s.run t fun d =>
    if d.storeOff && !d.ps.entering then d
    else
      let n := min 8 (sget (fun _ => 0) d.ps.postponed bank + 1 - granted)
      d.modPs (fun v => { v with postponed := sput (fun _ => 0) v.postponed bank n })

/-- The threshold T (RDB_RH_CFG). -/
def Device.rhT (d : Device) : Nat :=
  let n := d.fld RDB_RH_CFG RDB_RH_CFG_THRESHOLD
  if 512 ≤ n ∧ n ≤ 4096 then n else 2048

/-- The index of the smallest count, the lowest on a tie; the arguments carry the best so far. -/
def smallestAt : List (Nat × Nat) → Nat → Nat → Nat → Nat
  | [], _, best, _ => best
  | (_, c) :: r, i, best, least => if c < least then smallestAt r (i + 1) i c else smallestAt r (i + 1) best least

/-- A bank's table after an activate of row `r`, and whether a mitigation is due (R197). -/
def rhUpdate (T : Nat) (tab : List (Nat × Nat)) (r : Nat) : List (Nat × Nat) × Bool :=
  let close := fun (l : List (Nat × Nat)) (i c : Nat) => if T ≤ c then (l.set i (r, 0), true) else (l.set i (r, c), false)
  match tab.findIdx? (fun e => e.1 == r) with
  | some i => close tab i ((tab.getD i (r, 0)).2 + 1)
  | none =>
    if tab.length < 32 then close (tab ++ [(r, 1)]) tab.length 1
    else
      let i := match tab with
        | (_, c) :: l => smallestAt l 1 0 c
        | [] => 0
      close tab i ((tab.getD i (r, 0)).2 + 1)

/-- An activate that its interval's budget allows (R197, R198). -/
def Device.activateNow (d : Device) (bank r : Nat) : Device :=
  let x := rhUpdate d.rhT (sget (fun _ => []) d.ps.rows bank) r
  let d := d.modPs (fun v => { v with
    rows := sput (fun _ => []) v.rows bank x.1, acts := sput (fun _ => 0) v.acts bank (sget (fun _ => 0) v.acts bank + 1) })
  if x.2 then d.setNat RDB_RH_CNT (d.nat RDB_RH_CNT + 1) else d

/-- A row activate for an access at a DMA address: within the budget it updates the bank's table; past it, it waits and counts (R198). -/
def execActivate (t addr : Nat) (s : State) : Result :=
  s.run t fun d =>
    let x := d.placeOf (addr - storeBase)
    let bank := x.bankNo
    let row := x.row
    if d.flag RDB_STATUS RDB_STATUS_SR || decide (addr < storeBase) || decide (storeBase + d.storeBlocks * 2 ^ 20 ≤ addr) then d
    else if sget (fun _ => 0) d.ps.acts bank < d.rhT then d.activateNow bank row
    else
      let d := d.addSat RDB_ACT_DEFER wholeWord 1
      d.modPs (fun v => { v with waiting := sput (fun _ => []) v.waiting bank (sget (fun _ => []) v.waiting bank ++ [row]) })

/-- A bank's table is cleared on its 32 ms schedule (R197). -/
def execRhTableClear (t : Nat) (bank : Fin 256) (s : State) : Result :=
  s.run t fun d => d.modPs (fun v => { v with rows := sput (fun _ => []) v.rows bank [] })

/-- A 1 ms interval of a bank begins: waiting activates go on, up to the budget (R198). -/
def execActIntervalStart (t : Nat) (bank : Fin 256) (s : State) : Result :=
  s.run t fun d =>
    let w := sget (fun _ => []) d.ps.waiting bank
    let d := d.modPs (fun v => { v with
      acts := sput (fun _ => 0) v.acts bank 0, waiting := sput (fun _ => []) v.waiting bank (w.drop d.rhT) })
    d.each (w.take d.rhT) (fun r d => d.activateNow bank r)

/-! Self-refresh (R202 to R205). -/

/-- Entry starts: the accesses in flight complete first (R202). -/
def Device.srBegin (d : Device) : Device := if d.storeGated then d else d.modPs (fun v => { v with entering := true })

/-- The gate of the page store controller's clock (R525) is closed or open. -/
def Device.storeClock (d : Device) (closed : Bool) : Device :=
  d.setFld CLK_GATE_STATUS CLK_GATE_STATUS_CLOSED (setNatBit (d.fld CLK_GATE_STATUS CLK_GATE_STATUS_CLOSED) 2 closed)

/-- Accesses that waited for an interval's budget complete (R202). -/
def Device.finishWaiting (d : Device) : Device := d.each d.ps.waiting (fun x d => d.each x.2 (fun r d => d.activateNow x.1 r))

/-- Entry completes: the accesses in flight have been made, every table entry has been mitigated and the clocks are stopped; the tables begin
empty again (R200, R202, R530). -/
def Device.srFinish (d : Device) : Device :=
  ((d.finishWaiting.storeClock true).setFlag RDB_STATUS RDB_STATUS_SR true).modPs (fun v => { v with entering := false, rows := [], acts := [], waiting := [], postponed := [] })

/-- ENTER: refused outside Held (R202). -/
def Device.srEnter (d : Device) : Device :=
  if d.st = .held then d.srBegin else d.setFlag RDB_STATUS RDB_STATUS_SR_REFUSED true

/-- EXIT restarts the clocks, but for a gate that CLK_GATE closes; it is held while an entry is in progress (R204). -/
def Device.srExit (d : Device) : Device :=
  if d.ps.entering then d.modPs (fun v => { v with exitHeld := true })
  else if d.flag RDB_STATUS RDB_STATUS_SR then (d.storeClock (natBit (d.fld CLK_GATE CLK_GATE_CLOSE) 2)).modPs (fun v => { v with exiting := true })
  else d

def execSrEnter (t : Nat) (s : State) : Result := s.run t Device.srEnter

def execSrExit (t : Nat) (s : State) : Result := s.run t Device.srExit

/-- IDLE_MS in Held with no access to the store (R202); 0 never. -/
def execSrIdleTimeout (t : Nat) (s : State) : Result :=
  s.run t fun d => if d.st = .held ∧ d.fld RDB_SR_CTRL RDB_SR_CTRL_IDLE_MS ≠ 0 then d.srBegin else d

/-- Entry completes, and an EXIT that waited runs at once (R202, R204). -/
def execSrEntryComplete (t : Nat) (s : State) : Result :=
  s.run t fun d =>
    if d.ps.entering then
      let x := d.ps.exitHeld
      let d := d.srFinish
      let d := if x then d.storeClock (natBit (d.fld CLK_GATE CLK_GATE_CLOSE) 2) else d
      d.modPs (fun v => { v with exitHeld := false, exiting := x })
    else d

/-- Exit and its training complete: SR returns to 0 (R204). The read delays are newly trained. -/
def execSrExitComplete (t : Nat) (s : State) : Result :=
  s.run t fun d =>
    if d.ps.exiting then (d.setFlag RDB_STATUS RDB_STATUS_SR false).modPs (fun v => { v with exiting := false, drift := [] }) else d

end Sys2Proof.Machine
end

