-- ==== Sys2Proof/Machine/BootOps.lean ====
section
/-! DEFINITION. What start-up and the image update share with other blocks: a failed boot step (R66) and the end of an update command
(R87). -/

namespace Sys2Proof.Machine

/-- Lock the RWL registers (R82). -/
def Device.lock (d : Device) : Device := d.setFlag CFG_STATUS CFG_STATUS_LOCKED true

/-- A boot step fails: it is recorded with BOOT_FAIL, and the RWL registers lock at their present values (R66). -/
def Device.bootFail (d : Device) (step : Nat) : Device :=
  ((d.setFld CFG_STATUS CFG_STATUS_FAILED_STEP step).ledgerEvent lbBootFail shared step 0).lock

/-- Whether a boot step of the present start has failed (R66). -/
def Device.bootFailed (d : Device) : Bool := d.fld CFG_STATUS CFG_STATUS_FAILED_STEP != 0

/-! The errors of CFG_UPD_STATUS.ERR. -/

def ueBootCopy : Nat := 1
def ueRange : Nat := 2
def ueFlash : Nat := 3
def ueMismatch : Nat := 4
def ueHost : Nat := 5
def ueBusy : Nat := 6
def ueAborted : Nat := 7

/-- An update command ends, with its entry in the event ring (R87). -/
def Device.updateEnd (d : Device) (err : Nat) : Device :=
  let d := d.modBoot (fun v => { v with update := none })
  let d := (d.setFld CFG_UPD_STATUS CFG_UPD_STATUS_ERR err).setFld CFG_UPD_STATUS CFG_UPD_STATUS_STATE 3
  d.post evUpdateComplete false err 0 (d.fld CFG_UPD_STATUS CFG_UPD_STATUS_RESULT)

/-- The host memory that an update command reads ends its reads with an error (R631): PROGRAM and VERIFY end with HOST. -/
def Device.updateHostError (d : Device) : Device :=
  match d.boot.update with
  | some u => if u.op = 2 ∨ u.op = 3 then d.updateEnd ueHost else d
  | none => d

end Sys2Proof.Machine
end

