-- ==== Sys2Proof/Machine/Dma.lean ====
section
/-! DEFINITION. The DMA engines (Alley; R45, R158 to R163, R541, R542): channel registers, where an address leads, and how a channel
ends. -/

namespace Sys2Proof.Machine

/-- The address of channel `c`'s registers of an engine. -/
def aly (e : Engine) (c : Nat) : Nat :=
  match e with
  | .shared => ALYS_SRC_LO c
  | .quarter q => ALYQ_SRC_LO q c

/-- Offsets of a channel's registers. -/
def alySrc : Nat := 0x00
def alyDst : Nat := 0x08
def alyCount : Nat := 0x10
def alyCtrl : Nat := 0x14
def alyPace : Nat := 0x18
def alyStatus : Nat := 0x1C

/-! The errors of ALYS_STATUS.ERR. -/

def deDecode : Nat := 1
def deEcc : Nat := 2
def deHost : Nat := 3
def deDomain : Nat := 4
def deGated : Nat := 5

/-- An address as a master's view of the map places it: a Quarter's own view lies at base 0 (R43). -/
def ownView (m : Master) (a : Nat) : Nat :=
  match m with
  | .quarter q => if a < 0x100000 then q.base + a else a
  | _ => a

/-- The master that an engine is on the fabric (R47, R48). -/
def engineMaster : Engine → Master
  | .shared => .sharedDma
  | .quarter q => .quarter q

/-- The key of a channel. -/
def chanKey (e : Engine) (c : Nat) : Nat :=
  match e with
  | .shared => c
  | .quarter q => 16 + 16 * q.code + c

/-- A channel beside its registers. -/
def Device.chan (d : Device) (e : Engine) (c : Nat) : ChanS := sget (fun _ => {}) d.dma (chanKey e c)

def Device.setChan (d : Device) (e : Engine) (c : Nat) (v : ChanS) : Device :=
  d.withDma (sput (fun _ => {}) d.dma (chanKey e c) v)

/-- Where an address of the map leads: the domain that holds it (R40, R42 to R45); none where nothing is. -/
def Device.addrDomain (d : Device) (a : Nat) : Option Nat :=
  if 2 ^ 63 ≤ a then some 7
  else if storeBase ≤ a ∧ a < storeBase + d.storeBlocks * 2 ^ 20 then some 6
  else if 0x20000000 ≤ a ∧ a < 0x21000000 then some 4
  else if 0x21000000 ≤ a ∧ a < 0x21300000 then some 8
  else if 0x21300000 ≤ a ∧ a < 0x21600000 then some 9
  else if 0x21600000 ≤ a ∧ a < 0x21700000 then some 4
  else if 0x21700000 ≤ a ∧ a < 0x21780000 then some 8
  else if 0x21780000 ≤ a ∧ a < 0x21800000 then some 9
  else if 0x01000000 ≤ a ∧ a < 0x01100000 then some 8
  else if 0x02000000 ≤ a ∧ a < 0x02100000 then some 9
  else
    match regRow a with
    | none => none
    | some _ =>
      match a / 0x10000 % 16 with
      | 2 => some 2
      | 4 => some 5
      | 5 => some 6
      | 7 => some 7
      | 11 => some 7
      | 13 => some 1
      | _ => some 3

/-- The bytes of a width code of ALYS_CTRL. -/
def widthBytes (code : Nat) : Nat := if code ≤ 4 then 4 * 2 ^ code else 4

/-- Whether COUNT is a multiple of the larger of a channel's widths (R161). -/
def Device.countFits (d : Device) (e : Engine) (c : Nat) : Bool :=
  let a := aly e c
  let w := max (widthBytes (d.fld (a + alyCtrl) ALYS_CTRL_SRC_W)) (widthBytes (d.fld (a + alyCtrl) ALYS_CTRL_DST_W))
  d.nat (a + alyCount) % w == 0

/-- A channel stops with an error code. -/
def Device.dmaHalt (d : Device) (e : Engine) (c err : Nat) : Device :=
  ((d.setFld (aly e c + alyStatus) ALYS_STATUS_ERR err).setFlag (aly e c + alyCtrl) ALYS_CTRL_BUSY false).setChan e c {}

/-- An enabled channel starts: no error stands, and a COUNT that is no multiple of the larger width gives ERR_DECODE (R161). -/
def Device.dmaStart (d : Device) (e : Engine) (c : Nat) : Device :=
  let d := (d.setFld (aly e c + alyStatus) ALYS_STATUS_ERR 0).setChan e c { checked := true }
  if d.countFits e c then d else d.dmaHalt e c deDecode

/-- A channel stops. Its end-of-count event comes after a read-back (R162), and with the error of an abort (R542). An enable that waited for
this takes effect (R51). -/
def Device.dmaEnd (d : Device) (e : Engine) (c err : Nat) : Device :=
  let waits := (d.chan e c).waits
  let d := d.dmaHalt e c err
  let d := if err = 0 ∨ err = deDomain then d.setFlag (aly e c + alyStatus) ALYS_STATUS_DONE true else d
  if waits then d.dmaStart e c else d

/-- Whether a channel has a run in progress. -/
def Device.dmaBusy (d : Device) (e : Engine) (c : Nat) : Bool := d.flag (aly e c + alyCtrl) ALYS_CTRL_BUSY

/-- Every channel of the three engines. -/
def allChannels : List (Engine × Nat) :=
  [Engine.shared, .quarter .north, .quarter .south].flatMap (fun e => (List.range 16).map (fun c => (e, c)))

/-- Whether a busy channel's run has an address, read or written, that satisfies a test. -/
def Device.runHas (d : Device) (e : Engine) (c : Nat) (p : Nat → Bool) : Bool :=
  d.dmaBusy e c && (match (d.chan e c).run with
    | some (src, dst) => p src || p dst
    | none => false)

/-- The channels whose present run has its source or destination in a domain (R541). -/
def Device.dmaIn (d : Device) (n : Nat) : List (Engine × Nat) :=
  allChannels.filter (fun x => d.runHas x.1 x.2 (fun a => d.addrDomain a == some n))

/-- A channel is aborted: it keeps in COUNT the bytes not yet written (R542). -/
def Device.dmaAbort (d : Device) (e : Engine) (c : Nat) : Device := d.dmaEnd e c deDomain

/-- The channels whose run reads or writes host memory. -/
def Device.dmaHost (d : Device) : List (Engine × Nat) := allChannels.filter (fun x => d.runHas x.1 x.2 (fun a => decide (2 ^ 63 ≤ a)))

/-- The channels whose run reads or writes host memory end with a host error (R631). -/
def Device.dmaHostError (d : Device) : Device := d.each d.dmaHost (fun x d => d.dmaEnd x.1 x.2 deHost)

/-- Channels that belong to the device: their registers are read only to the host (R158). -/
def deviceChannel (e : Engine) (c : Nat) : Bool := e == .shared && decide (c ≤ 10)

/-- A write of a channel's control register that sets ENABLE. While the channel winds down the enable waits (R51). -/
def Device.dmaOn (d : Device) (e : Engine) (c : Nat) (ctrl : Word) : Device :=
  if deviceChannel e c then d
  else
    let a := aly e c
    let busy := d.flag (a + alyCtrl) ALYS_CTRL_BUSY
    let was := d.flag (a + alyCtrl) ALYS_CTRL_ENABLE
    let d := (d.setReg (a + alyCtrl) (ctrl &&& 0x80000E77)).setFlag (a + alyCtrl) ALYS_CTRL_BUSY busy
    if was then d.setChan e c { d.chan e c with checked := false }
    else if busy then d.setChan e c { d.chan e c with waits := true }
    else d.dmaStart e c

/-- DMA_CHANNEL_ENABLE. -/
def execDmaChannelEnable (t : Nat) (e : Engine) (c : Fin 16) (ctrl : Word) (s : State) : Result :=
  s.run t fun d => d.dmaOn e c (ctrl ||| 0x80000000)

/-- A channel is disabled: its burst finishes and COUNT is kept (R50). -/
def Device.dmaOff (d : Device) (e : Engine) (c : Nat) : Device :=
  if deviceChannel e c then d
  else (d.setFlag (aly e c + alyCtrl) ALYS_CTRL_ENABLE false).setChan e c { d.chan e c with waits := false }

/-- A write that clears ENABLE of a channel. -/
def execDmaChannelDisable (t : Nat) (e : Engine) (c : Fin 16) (s : State) : Result := s.run t fun d => d.dmaOff e c

/-- A channel whose wind-down completes is idle; an enable written meanwhile takes effect (R51). -/
def Device.dmaStopped (d : Device) (e : Engine) (c : Nat) : Device :=
  let waits := (d.chan e c).waits
  let d := (d.setFlag (aly e c + alyCtrl) ALYS_CTRL_BUSY false).setChan e c {}
  if waits then d.dmaStart e c else d

/-- A read of the page store ends with an uncorrectable error (R176): a real-time band goes BLANK (R177), a channel ends with ERR_ECC. -/
def execPsEccUe (t addr : Nat) (e : BlockError) (r : StoreReader) (s : State) : Result :=
  s.run t fun d =>
    if addr < storeBase ∨ blockRead addr e ≠ .failed then d
    else
      let d := d.storeUe addr
      match r with
      | .realTime q st sub => d.realTimeUe q st sub
      | .channel e c => if d.dmaBusy e c then d.dmaEnd e c deEcc else d
      | .scrub => d
      | .system => d

end Sys2Proof.Machine
end

