-- ==== Sys2Proof/Machine/Ingest.lean ====
section
/-! DEFINITION. Pages in ingest (R137 to R146, R184 to R189): their descriptors and band tables, the blocks and handles they take, and
the status in which each ends. -/

namespace Sys2Proof.Machine

/-! The page statuses of R144. -/

def psAccepted : Nat := 0
def psRejected : Nat := 1
def psDuplicate : Nat := 2
def psBadDescriptor : Nat := 3
def psOrder : Nat := 4
def psHostRead : Nat := 5
def psPayloadCrc : Nat := 6
def psNoSpace : Nat := 7
def psCodecFail : Nat := 8

/-- Whether a status halts the page ring (R144). -/
def haltsRing (v : Nat) : Bool := v != psAccepted && v != psDuplicate

/-- HALT_CAUSE of a bad doorbell. -/
def hcBadDoorbell : Nat := 0xE

/-- A length rounded up to 64 B (R139, R181). -/
def up64 (n : Nat) : Nat := (n + 63) / 64 * 64

/-- The largest bitstream of a compression of `n` bytes with `f` flush points (R237). -/
def growthBound (n f : Nat) : Nat := n + 5 * ((n + 65534) / 65535) + 8 + 10 * f

/-! Rings. -/

/-- What a ring holds from its enable on. -/
def Device.force (d : Device) (r : Nat) : RingForce := sget (fun _ => {}) d.host.rings r

/-- Write CONS to the ring's write-back address, unless that is 0 (R132). -/
def Device.writeBack (d : Device) (r : Nat) : Device :=
  let wb := (d.force r).wb
  if wb = 0 then d else d.postedWrite wb (leBytes 8 (d.nat (HIF_RING_CONS r))) false

/-- Whether a job ring is halted. -/
def Device.ringHalted (d : Device) (r : Nat) : Bool := d.flag (HIF_RING_STATUS r) HIF_RING_STATUS_HALTED

/-- A job ring halts, with its event (R131, R144, R153). -/
def Device.haltRing (d : Device) (r cause : Nat) : Device :=
  ((d.setFlag (HIF_RING_STATUS r) HIF_RING_STATUS_HALTED true).setFld (HIF_RING_STATUS r) HIF_RING_STATUS_HALT_CAUSE cause).post
    evRingHalted false cause 0 r

/-! Descriptors. -/

/-- The side of a page that a descriptor gives (R137), without its bands. -/
def parseSide (b : List Byte) : PageSide :=
  let f := bytesAt b 9 1
  { wsn := bytesAt b 0 8, crcEn := natBit f 2, lpi1200 := natBit f 1, duplex := natBit f 0, pace := bytesAt b 10 1 % 4,
    stations := bytesAt b 11 1, speed := bytesAt b 12 2, template := bytesAt b 14 1, dots := bytesAt b 16 4, bands := bytesAt b 20 2,
    recs := [] }

/-- BAND_TABLE of a descriptor. -/
def bandTable (b : List Byte) : Nat := bytesAt b 24 8

/-- A WSN that R88 reserves. -/
def wsnReserved (w : Nat) : Bool := w == 0 || w == 2 ^ 64 - 1

/-- Whether a descriptor cannot be trusted at all: a DESC_CRC that does not match, or a reserved WSN (R88, R137). -/
def descUntrusted (b : List Byte) : Bool :=
  b.length != 64 || wsnReserved (bytesAt b 0 8) || (natBit (bytesAt b 9 1) 2 && !crcGood b 60)

/-- The directory entry of a Timeline template (R399): the index of its first entry, its length and its kind. -/
def Device.templateDir (d : Device) (t : Nat) : Nat × Nat × Nat :=
  let b := if t < 32 then d.entry 0x01 1 t else []
  (bytesAt b 0 2, bytesAt b 2 2, bytesAt b 4 1)

/-- Whether a page may name a template: defined, and of the kind of the present mode (R403). -/
def Device.templateOk (d : Device) (t : Nat) : Bool :=
  let x := d.templateDir t
  x.2.1 != 0 && x.2.2 == (if d.web then 2 else 1)

/-! Timeline entries (R400). -/

/-- A Timeline entry. -/
structure TmlEntry where
  action : Nat
  trig : Nat
  imagedOnly : Bool
  side : Nat
  arg : Nat
  trigger : Int
  value : Nat
  value2 : Nat
  deriving DecidableEq, Repr

/-- Read a Timeline entry. -/
def parseEntry (b : List Byte) : TmlEntry :=
  let f := bytesAt b 1 1
  { action := bytesAt b 0 1, trig := f / 64, imagedOnly := natBit f 5, side := b01 (natBit f 4), arg := bytesAt b 2 2,
    trigger := toSigned 32 (bytesAt b 4 4), value := bytesAt b 8 4, value2 := bytesAt b 12 4 }

/-- Entry `i` of the entry array. -/
def Device.tmlEntry (d : Device) (i : Nat) : TmlEntry := parseEntry (d.entry 0x01 0 i)

/-- The entries of a template, with their table indices. -/
def Device.templateEntries (d : Device) (t : Nat) : List (Nat × TmlEntry) :=
  let x := d.templateDir t
  (List.range x.2.1).map (fun k => (x.1 + k, d.tmlEntry (x.1 + k)))

/-- Bytes of the band table of a side (R138). -/
def tableBytes (p : PageSide) : Nat := 64 * p.bands * popCount 8 p.stations

/-- Whether a descriptor has a reserved value, a field out of range, or a template that it may not name (R137, R140, R403). -/
def Device.descBad (d : Device) (b : List Byte) : Bool :=
  let p := parseSide b
  bytesAt b 8 1 != 1 || bytesAt b 9 1 / 8 != 0 || bytesAt b 10 1 / 4 != 0 || bytesAt b 15 1 != 0 || bytesAt b 22 2 != 0 ||
    bytesAt b 32 28 != 0 || p.dots == 0 || decide (99212 < p.dots) || p.bands == 0 || p.stations == 0 || bandTable b % 64 != 0 ||
    decide (2 ^ 63 < bandTable b + tableBytes p) || decide (2 ^ 63 ≤ bandTable b) || !d.templateOk p.template

/-- The band of an entry of a band table (R139). -/
def parseBand (b : List Byte) : BandRec :=
  let format := bytesAt b 8 1
  let rawPass := bytesAt b 9 1
  { station := bytesAt b 12 1, band := bytesAt b 10 2, format, rawPass, addr := bytesAt b 0 8,
    lens := (List.range 8).map (fun k => bytesAt b (16 + 4 * k) 4), crc := bytesAt b 48 4,
    checked := if format = 0 then 0 else rawPass }

/-- The host address of substream `k` of a band (R139); that of substream 8 is the end of the band. -/
def BandRec.subAddr (r : BandRec) (k : Nat) : Nat := r.addr + ((r.lens.take k).map up64).sum

/-- Whether an entry of the band table is right for its station and band (R139, R140, R219). A substream may end at 2^63 exactly (DEDUCED, log
entry 115). -/
def bandOk (b : List Byte) (dots s n : Nat) : Bool :=
  let x := parseBand b
  let q := 4 * dots
  b.length == 64 && x.addr % 64 == 0 && decide (x.subAddr 8 ≤ 2 ^ 63) && decide (x.addr < 2 ^ 63) &&
    decide (x.format ≤ 2) && (x.format != 0 || x.rawPass == 0) && x.station == s && x.band == n && bytesAt b 13 3 == 0 &&
    bytesAt b 52 12 == 0 &&
    (List.range 8).all (fun k =>
      let l := x.lens.getD k 0
      if x.format = 0 ∨ natBit x.rawPass k then l == q else decide (17 ≤ l) && decide (l ≤ 16 + growthBound q 0))

/-- The positions of a band table, station ascending, then band ascending (R138). -/
def tablePlaces (p : PageSide) : List (Nat × Nat) :=
  (maskList 8 p.stations).flatMap (fun s => (List.range p.bands).map (fun n => (s, n)))

/-- The bands of a side from its band table, where every entry is right; `base` is added to the band numbers of a second side, whose
bands follow the first side's in each chain (R184). -/
def readTable (p : PageSide) (base : Nat) (table : List (List Byte)) : Option PageSide :=
  if table.length = (tablePlaces p).length ∧ ((tablePlaces p).zip table).all (fun x => bandOk x.2 p.dots x.1.1 x.1.2) then
    some { p with recs := table.map (fun b => let x := parseBand b; { x with band := x.band + base }) }
  else none

/-! Blocks and handles. -/

/-- Every band of a page. -/
def Page.recs (p : Page) : List BandRec :=
  p.first.recs ++ (match p.second with
    | some q => q.recs
    | none => [])

/-- Change every band of a page. -/
def Page.mapRecs (p : Page) (f : BandRec → BandRec) : Page :=
  { p with first := { p.first with recs := p.first.recs.map f }, second := p.second.map (fun q => { q with recs := q.recs.map f }) }

/-- Sides of a page. -/
def Page.sides (p : Page) : Nat := if p.second.isSome then 2 else 1

/-- Bytes of a band in its chain: its substreams, each rounded up to 64 B (R181). -/
def BandRec.size (r : BandRec) : Nat := (r.lens.map up64).sum

/-- Bytes of the directory of a chain (R181). -/
def Page.dirBytes (p : Page) : Nat := 64 * p.first.bands * p.sides

/-- Bytes of the chain of a station: its directory and the bands stored (R181). -/
def Page.chainBytes (p : Page) (s : Nat) : Nat :=
  p.dirBytes + ((p.recs.filter (fun r => r.station == s && r.stored)).map BandRec.size).sum

/-- The bands of a chain in order, each with its CHAIN_OFF; `o` is where the first starts (R181, R182). -/
def chainPlaces : Nat → List BandRec → List (BandRec × Nat)
  | _, [] => []
  | o, r :: l => (r, o) :: chainPlaces (o + r.size) l

/-- The bands of a station's chain with their CHAIN_OFFs. -/
def Page.chainBands (p : Page) (s : Nat) : List (BandRec × Nat) := chainPlaces p.dirBytes (p.recs.filter (fun r => r.station == s))

/-- The DMA address of chain offset `c` of a chain's blocks (R181). -/
def chainAddr (blocks : List Nat) (c : Nat) : Nat :=
  storeBase + physical (blockBytes * blocks.getD (c / blockBytes) 0 + c % blockBytes)

/-- Write bytes of a chain from a chain offset on. -/
def Device.putChain (d : Device) (blocks : List Nat) (c : Nat) : List Byte → Device
  | [] => d
  | b :: l => (d.setByte (chainAddr blocks c) b).putChain blocks (c + 1) l

/-- `n` bytes of a chain from a chain offset on. -/
def Device.chainRead (d : Device) (blocks : List Nat) (c : Nat) : Nat → List Byte
  | 0 => []
  | n + 1 => d.byte (chainAddr blocks c) :: d.chainRead blocks (c + 1) n

/-- Where substream `k` of a band starts in its chain (R181). -/
def subOff (r : BandRec) (off k : Nat) : Nat := off + ((r.lens.take k).map up64).sum

/-- A band's substreams are written into its chain. -/
def Device.putBand (d : Device) (blocks : List Nat) (x : BandRec × Nat) : Device :=
  d.each x.1.data (fun y d => d.putChain blocks (subOff x.1 x.2 y.1) y.2)

/-- Blocks that hold a number of bytes of a chain. -/
def blocksFor (n : Nat) : Nat := (n + blockBytes - 1) / blockBytes

/-- Set whether ingest waits for blocks or handles (R189). -/
def Device.ingestWait (d : Device) (b : Bool) : Device :=
  (d.setFlag PGS_ALLOC_PAGES PGS_ALLOC_PAGES_WAIT b).modPs (fun v => { v with short := 0 })

/-- Ingest waits until `n` blocks are free (R189). -/
def Device.waitBlocks (d : Device) (n : Nat) : Device := (d.ingestWait true).modPs (fun v => { v with short := n })

/-- Whether payload fetching is paused: an allocation waits, or the page area has no free block (R142, R189). -/
def Device.paused (d : Device) : Bool := d.flag PGS_ALLOC_PAGES PGS_ALLOC_PAGES_WAIT || (d.pageBlocks != 0 && d.freeBlocks == 0)

/-- Take or return free blocks of the page area. -/
def Device.setFree (d : Device) (n : Nat) : Device := d.setFld PGS_ALLOC_BLOCKS PGS_ALLOC_BLOCKS_FREE n

/-- The blocks of the page area that chains hold. -/
def Device.blocksUsed (d : Device) : List Nat :=
  d.dlv.pages.flatMap Page.allBlocks ++ d.host.ingest.flatMap (fun x => x.page.allBlocks)

/-- The lowest `n` blocks from `b` on that pass a test, of the next `fuel` blocks. -/
def takeBlocks (ok : Nat → Bool) : Nat → Nat → Nat → List Nat
  | 0, _, _ => []
  | _ + 1, _, 0 => []
  | fuel + 1, b, n + 1 => if ok b then b :: takeBlocks ok fuel (b + 1) n else takeBlocks ok fuel (b + 1) (n + 1)

/-- The `n` free blocks of the page area that the allocator hands out next: the lowest (DESIGN CHOICE, log entry 114). -/
def Device.nextBlocks (d : Device) (n : Nat) : List Nat :=
  takeBlocks (fun b => decide (d.areaOf b = .page) && !d.blocksUsed.contains b) d.storeBlocks 0 n

/-- Give a station's chain of a page `n` blocks where so many are free. -/
def Device.growChain (d : Device) (p : Page) (s n : Nat) : Option (Device × Page) :=
  let chain := p.chains.getD s []
  let more := n - chain.length
  if more ≤ d.freeBlocks then
    some (d.setFree (d.freeBlocks - more), { p with chains := p.chains.set s (chain ++ d.nextBlocks more) })
  else none

/-- The record slots in use (R184). -/
def Device.slotsUsed (d : Device) : List Nat :=
  d.dlv.pages.map (fun p => p.handle % 4096) ++ (d.host.ingest.filter (fun x => x.page.handle != 0)).map (fun x => x.page.handle % 4096)

/-- The lowest slot from `i` on that is not in use. -/
def freeSlot (used : List Nat) : Nat → Nat → Option Nat
  | 0, _ => none
  | n + 1, i => if used.contains i then freeSlot used n (i + 1) else some i

/-- A handle for a page: the record slot, and the count of its uses in bits 31 to 12 (R184). -/
def Device.newHandle (d : Device) : Option (Device × Nat) :=
  match freeSlot d.slotsUsed 4096 0 with
  | none => none
  | some i =>
    let n := sget (fun _ => 0) d.ps.slotCount i + 1
    let n := if n % 2 ^ 20 = 0 then 1 else n % 2 ^ 20
    some (d.modPs (fun v => { v with slotCount := sput (fun _ => 0) v.slotCount i n }), 4096 * n + i)

/-- Pages in ingest that still go on. -/
def IngestS.live (x : IngestS) : Bool := x.verdict.isNone

/-- HIF_RING0_WSN (R141). -/
def Device.ring0Wsn (d : Device) : Nat :=
  (d.host.ingest.filter (fun x => x.live)).foldl (fun m x => max m x.page.top) d.host.wsnFloor

/-- Change the pages in ingest. -/
def Device.setIngest (d : Device) (l : List IngestS) : Device := d.modHost (fun v => { v with ingest := l })

/-- Replace page `i` in ingest. -/
def Device.setIngestAt (d : Device) (i : Nat) (x : IngestS) : Device := d.setIngest (d.host.ingest.set i x)

/-- Compressors stop on the chains of pages whose ingest has ended, and what they reserved beyond the pages' own blocks is free. -/
def Device.dropChains (d : Device) : Device :=
  let keep := (d.host.ingest.filter (fun x => x.live)).map (fun x => x.slot)
  let gone := d.arc.chains.filter (fun x => match x.2 with
    | some r => !keep.contains r.slot
    | none => false)
  d.each gone (fun x d =>
    let d := d.setFld ARC_STATUS ARC_STATUS_CMP_BUSY (setNatBit (d.fld ARC_STATUS ARC_STATUS_CMP_BUSY) x.1 false)
    let d := d.setFree (d.freeBlocks + (match x.2 with
      | some r => r.reserved
      | none => 0))
    d.modArc (fun v => { v with chains := sput (fun _ => none) v.chains x.1 none }))

/-- A ring whose wind-down completes shows BUSY = 0 (R50, R51): ring 0 has no page in ingest any more. -/
def Device.ringIdle (d : Device) (r : Nat) : Bool := decide (r ≠ 0) || d.host.ingest.isEmpty

/-- The first page in ingest ends in a status, with its event. A halting status puts CONS back to its slot, halts the ring, and discards
the later page (R143 to R145). -/
def Device.endHead (d : Device) (v : Nat) : Device :=
  match d.host.ingest with
  | [] => d
  | x :: rest =>
    let w := x.page.first.wsn
    let data := if v = psRejected then d.nat PGS_TG_REJ1 + 2 ^ 32 * d.nat PGS_TG_REJ2 else 0
    let d := if haltsRing v then (d.setIngest []).each (x :: rest) (fun y d => d.freePage y.page) else d.setIngest rest
    let d := d.dropChains.post evPageStatus false v w data
    if haltsRing v then
      let top := if wsnReserved x.page.top then 0 else x.page.top
      let d := d.modHost (fun v => { v with haltSlots := x.slots, haltWsn := top })
      (((d.setNat (HIF_RING_CONS 0) x.slot).writeBack 0).ingestWait false).haltRing 0 v
    else d

/-- Pages at the head of ingest whose status is known end, in ring order (R143). -/
def Device.settleIngest (d : Device) : Nat → Device
  | 0 => d
  | n + 1 =>
    match d.host.ingest with
    | x :: _ =>
      match x.verdict with
      | some v => if x.awaits then d else (d.endHead v).settleIngest n
      | none => d
    | [] => d

/-- Page `i` in ingest will end in a status, at once where no page is before it. -/
def Device.ingestFail (d : Device) (i v : Nat) : Device :=
  match d.host.ingest[i]? with
  | some x => if x.live then (d.setIngestAt i { x with verdict := some v, awaits := false }).dropChains.settleIngest 3 else d
  | none => d

/-- The status that a first side's descriptor and band table give at once (R88, R90, R137 to R141); none where ingest goes on. -/
def Device.firstVerdict (d : Device) (x : FetchedSlot) : Option Nat :=
  let p := parseSide x.desc
  if !x.descOk then some psHostRead
  else if descUntrusted x.desc then some psBadDescriptor
  else if p.wsn ≤ d.dlv.horizon then some psDuplicate
  else if p.wsn ≤ d.ring0Wsn then some psOrder
  else if d.descBad x.desc then some psBadDescriptor
  else if !x.tableOk then some psHostRead
  else if (readTable p 0 x.table).isNone then some psBadDescriptor
  else none

/-- Whether the second side of a pair agrees with the first in what the one page record holds (R91, R184). -/
def sidesAgree (p q : PageSide) : Bool :=
  !q.duplex && p.lpi1200 == q.lpi1200 && p.pace == q.pace && p.stations == q.stations && p.speed == q.speed && p.dots == q.dots &&
    p.bands == q.bands

/-- As `firstVerdict`, for the second side of a pair (R91). -/
def Device.secondVerdict (d : Device) (p : PageSide) (x : FetchedSlot) : Option Nat :=
  let q := parseSide x.desc
  if !x.descOk then some psHostRead
  else if descUntrusted x.desc then some psBadDescriptor
  else if q.wsn ≤ p.wsn then some psOrder
  else if d.descBad x.desc || !sidesAgree p q then some psBadDescriptor
  else if !x.tableOk then some psHostRead
  else if (readTable q p.bands x.table).isNone then some psBadDescriptor
  else none

/-- A page whose compressed bands alone exceed the page area can never be stored (R142). -/
def Device.neverFits (d : Device) (p : Page) : Bool :=
  let all := p.mapRecs (fun r => { r with stored := r.format != 0 })
  decide (d.pageBlocks < ((maskList 8 p.first.stations).map (fun s => blocksFor (all.chainBytes s))).sum)

/-- A page whose descriptors are all read takes a handle, or waits for one (R184, R189), and ends at once where it can never fit. -/
def Device.ingestBegin (d : Device) (i : Nat) : Device :=
  match d.host.ingest[i]? with
  | none => d
  | some x =>
    if !x.live || x.awaits || x.page.handle != 0 then d
    else if d.neverFits x.page then d.ingestFail i psNoSpace
    else
      match d.newHandle with
      | some (d, h) => d.setIngestAt i { x with page := { x.page with handle := h } }
      | none => d.ingestWait true

/-- A slot that starts a page (R137). -/
def Device.newPage (d : Device) (slot : Nat) (x : FetchedSlot) : Device :=
  let p := parseSide x.desc
  let v := d.firstVerdict x
  let halts := match v with
    | some v => haltsRing v
    | none => false
  let pair := x.descOk && p.duplex
  let p := if v.isNone then (readTable p 0 x.table).getD p else p
  let y : IngestS :=
    { page := { first := p, second := none, handle := 0, chains := List.replicate 8 [] }, slot, slots := if pair then 2 else 1,
      awaits := pair && !halts, verdict := v }
  let d := d.setIngest (d.host.ingest ++ [y])
  (d.settleIngest 3).ingestBegin (d.host.ingest.length - 1)

/-- A slot of the page ring is read: a new page, or the second side that the latest page awaits. -/
def Device.fetchPage (d : Device) (slot : Nat) (x : FetchedSlot) : Device :=
  let i := d.host.ingest.length - 1
  match d.host.ingest.getLast? with
  | some y =>
    if y.awaits then
      let q := parseSide x.desc
      let v := match y.verdict with
        | some v => some v
        | none => d.secondVerdict y.page.first x
      let q := (readTable q y.page.first.bands x.table).getD q
      let d := d.setIngestAt i { y with page := { y.page with second := some q }, slots := 2, awaits := false, verdict := v }
      (d.settleIngest 3).ingestBegin i
    else d.newPage slot x
  | none => d.newPage slot x

/-- Whether the page ring takes another slot now: fewer than two pages in ingest, or the second side that the latest one awaits
(R143). -/
def Device.ingestRoom (d : Device) : Bool :=
  decide (d.host.ingest.length < 2) || (match d.host.ingest.getLast? with
    | some y => y.awaits
    | none => false)

/-- Page `i`'s band of a chain has been stored: the chain takes the blocks it needs; where they are not free the device waits and the
band is not stored yet (R142, R189). -/
def Device.storeBand (d : Device) (i s b : Nat) : Device :=
  match d.host.ingest[i]? with
  | none => d
  | some x =>
    let p := x.page.mapRecs (fun r => if r.station = s ∧ r.band = b then { r with stored := true } else r)
    let n := blocksFor (p.chainBytes s)
    match d.growChain p s n with
    | some (d, p) => d.setIngestAt i { x with page := p }
    | none => d.waitBlocks (n - (p.chains.getD s []).length)

/-- Whether every band of a page is stored and every compressed substream has passed (R221). -/
def Page.ready (p : Page) : Bool := p.handle != 0 && p.recs.all (fun r => r.stored && r.checked == 255)

/-- Once every band of page `i` is stored and checked, its bytes stand in the chains that it holds (R181, R185). -/
def Device.placeReady (d : Device) (i : Nat) : Device :=
  match d.host.ingest[i]? with
  | none => d
  | some x =>
    if x.live && x.page.ready then
      let d := d.each (maskList 8 x.page.first.stations) (fun s d =>
        d.each (x.page.chainBands s) (fun y d => d.putBand (x.page.chains.getD s []) y))
      d.setIngestAt i { x with page := x.page.mapRecs (fun r => { r with data := [] }) }
    else d

/-- The side of a page that a chain's band belongs to (R184). -/
def Page.sideOf (p : Page) (b : Nat) : PageSide :=
  match p.second with
  | some q => if p.first.bands ≤ b then q else p.first
  | none => p.first

/-- Bytes cut to a length, or filled with 0 up to it. -/
def fitTo (n : Nat) (l : List Byte) : List Byte := (List.range n).map (fun i => l.getD i 0)

/-- The bytes of substream `k` of a band: those known already, or those given, as many as the descriptor says. -/
def BandRec.sub (r : BandRec) (k : Nat) (given : List Byte) : List Byte :=
  match r.data.find? (fun x => x.1 == k) with
  | some x => x.2
  | none => fitTo (r.lens.getD k 0) given

/-- A band with the bytes of its eight substreams. -/
def BandRec.fill (r : BandRec) (subs : List (List Byte)) : BandRec :=
  { r with data := (List.range 8).map (fun k => (k, r.sub k (subs.getD k []))) }

/-- The CRC-32C over a filled band's substreams, padding excluded (R139). -/
def BandRec.payloadCrc (r : BandRec) : Nat := (crc32c (r.data.flatMap (fun x => x.2))).toNat

/-- Change one band of a page. -/
def Page.mapBand (p : Page) (s b : Nat) (f : BandRec → BandRec) : Page :=
  p.mapRecs (fun r => if r.station = s ∧ r.band = b then f r else r)

/-- The last write of a band has been read back (R162): its PAYLOAD_CRC is checked (R139); a compressed band is in the page store, a RAW
band in the compressor's queue. While the store is gated the write ends with ERR_GATED and the band is not stored (R203); while ingest is paused, or no ingest write is granted,
the band waits (R189, R193). -/
def Device.bandRead (d : Device) (x : BandStored) (raw : Bool) : Device :=
  match d.host.ingest[x.page.val]? with
  | none => d
  | some y =>
    match y.page.recs.find? (fun r => r.station == x.station.val && r.band == x.band && (r.format == 0) == raw) with
    | none => d
    | some r =>
      if !y.live || y.page.handle == 0 || r.stored || (d.paused && r.data.isEmpty) || (!raw && d.storeHeld) then d
      else if !raw && d.storeOff then d.setFld (aly .shared 5 + alyStatus) ALYS_STATUS_ERR deGated
      else
        let r := r.fill x.subs
        if (y.page.sideOf x.band).crcEn ∧ r.payloadCrc ≠ r.crc then d.ingestFail x.page psPayloadCrc
        else
          let page := y.page.mapBand x.station x.band (fun z => { z with data := r.data, checked := if raw then 255 else z.checked })
          let d := d.setIngestAt x.page { y with page }
          if raw then d else ((d.chargeIngest r.size).storeBand x.page x.station x.band).placeReady x.page

/-- Ingest goes on once a delivery or withdrawal has freed the blocks, or the handle, that were missing (R189). -/
def execIngestResume (t : Nat) (s : State) : Result :=
  s.run t fun d =>
    if d.freeBlocks = 0 ∨ d.freeBlocks < d.ps.short ∨ d.newHandle.isNone then d
    else
      let d := d.ingestWait false
      d.each (List.range d.host.ingest.length) (fun i d => d.ingestBegin i)

end Sys2Proof.Machine
end

