-- ==== Sys2Proof/Machine/Emitters.lean ====
section
/-! DEFINITION. Emitters, slots, spare maps, pass masks and the code table (R292 to R309). -/

namespace Sys2Proof.Machine

/-- The class of an emitter in BMO_HEALTH: 0 good, 1 marginal, 2 dead, 3 not measured. -/
def Device.emClass (d : Device) (q : Side) (s e : Nat) : Nat := d.fld (BMO_HEALTH0 q s + 4 * (e / 16)) ⟨2 * (e % 16) + 1, 2 * (e % 16)⟩

/-- Set the class of an emitter in both Quarters (R320). -/
def Device.setEmClass (d : Device) (s e c : Nat) : Device :=
  d.each bothSides (fun q d => d.setFld (BMO_HEALTH0 q s + 4 * (e / 16)) ⟨2 * (e % 16) + 1, 2 * (e % 16)⟩ c)

/-- The entry of spare E(64 + i) in a spare map: its EN and SLOT. -/
def mapEntry (m0 m1 : Word) (i : Nat) : Option Nat :=
  let w := (if i < 4 then m0 else m1).toNat
  if natBit w (8 * (i % 4) + 7) then some (natBits w (8 * (i % 4) + 5) (8 * (i % 4))) else none

/-- The slots that spares drive, with the spare of each. -/
def mapSlots (m0 m1 : Word) : List (Nat × Nat) := (List.range 8).filterMap (fun i => (mapEntry m0 m1 i).map (fun j => (j, 64 + i)))

/-- The spare map in force. -/
def Device.mapNow (d : Device) (q : Side) (s : Nat) : List (Nat × Nat) := mapSlots (d.reg (BMO_MAP0 q s)) (d.reg (BMO_MAP1 q s))

/-- POS(j): the emitter that drives slot j (R293). -/
def Device.pos (d : Device) (q : Side) (s j : Nat) : Nat :=
  match (d.mapNow q s).find? (fun x => x.1 == j) with
  | some x => x.2
  | none => j

/-- Whether any spare is mapped: group 8 is sent (R334). -/
def Device.spares (d : Device) (q : Side) (s : Nat) : Bool := !(d.mapNow q s).isEmpty

/-- A = 64 ÷ M. -/
def Device.advance (d : Device) (q : Side) : Nat := 64 / d.passM q

/-- Whether a spare may drive a slot by R303: s ≡ j (mod A). -/
def Device.mayDrive (d : Device) (q : Side) (spare slot : Nat) : Bool := spare % d.advance q == slot % d.advance q

/-- The slots whose emitter is dead (R299, R307). -/
def Device.deadSlots (d : Device) (q : Side) (s : Nat) : List Nat :=
  (List.range 64).filter (fun j => d.emClass q s (d.pos q s j) == 2)

/-- Cell (y, x) of mask m of a station (R298). -/
def Device.maskCell (d : Device) (s m y x : Nat) : Nat := natBits (bytesAt (d.entry 0x07 s m) (4 * y) 4) (2 * x + 1) (2 * x)

/-- Whether every cell of a mask passes a test. -/
def Device.maskAll (d : Device) (s m : Nat) (f : Nat → Bool) : Bool :=
  (List.range 16).all (fun y => (List.range 16).all (fun x => f (d.maskCell s m y x)))

/-- The masks that BMO_MASKSEL and HIDE_MASK name. -/
def Device.namedMasks (d : Device) (q : Side) (s : Nat) : List Nat :=
  (List.range 32).map (fun c => d.fld (BMO_MASKSEL0 q s + 4 * (c / 8)) ⟨4 * (c % 8) + 2, 4 * (c % 8)⟩) ++
    (List.range 4).map (fun k => d.fld (BMO_HIDE q s) ⟨4 * k + 2, 4 * k⟩)

/-- DEAD_MASK[k] of a station. -/
def Device.deadMask (d : Device) (q : Side) (s k : Nat) : Nat := d.fld (BMO_HIDE q s) ⟨4 * k + 18, 4 * k + 16⟩

/-- The check of R301. At M = 1 no mask applies (R300), and the DEAD_MASK part is not asked. -/
def Device.masksOk (d : Device) (q : Side) (s : Nat) : Bool :=
  let m := d.passM q
  d.fld (BMO_PASS q) BMO_PASS_M != 3 && (d.namedMasks q s).all (fun i => d.maskAll s i (fun c => decide (c < m))) &&
    (m == 1 || (List.range m).all (fun k => d.maskAll s (d.deadMask q s k) (fun c => decide (c < m) && c != k)))

/-- The mask that class c uses (R299), `none` at M = 1. -/
def Device.classMask (d : Device) (q : Side) (s c : Nat) : Option Nat :=
  let a := d.advance q
  let sel := d.fld (BMO_MASKSEL0 q s + 4 * (c / 8)) ⟨4 * (c % 8) + 2, 4 * (c % 8)⟩
  let slots := (List.range (d.passM q)).map (fun k => c + k * a)
  let dead := slots.filter (fun j => d.emClass q s (d.pos q s j) == 2)
  let marg := slots.filter (fun j => d.emClass q s (d.pos q s j) == 1)
  if d.passM q = 1 then none
  else
    match dead, marg with
    | [j], _ => some (d.deadMask q s (j / a))
    | [], [j] => if d.flag (BMO_CTRL q s) BMO_CTRL_HIDE_EN then some (d.fld (BMO_HIDE q s) ⟨4 * (j / a) + 2, 4 * (j / a)⟩) else some sel
    | _, _ => some sel

/-- W[c] of a station's code table (R309). -/
def Device.codeWidth (d : Device) (s c : Nat) : Nat := bytesAt (d.entry 0x07 s 8) (4 * c) 1

/-- The largest code c' ≤ c with W[c'] ≤ W[c] × k ÷ 16 (R312). -/
def Device.scaledCode (d : Device) (s k c : Nat) : Nat :=
  ((List.range (c + 1)).filter (fun x => decide (16 * d.codeWidth s x ≤ d.codeWidth s c * k))).foldl max 0

end Sys2Proof.Machine
end

