-- ==== Sys2Proof/Machine/PixelClock.lean ====
section
/-! DEFINITION. The pixel clock: its frequency, the ramp, the time of each column, the rotator and the line strobe (R261 to R271). -/

namespace Sys2Proof.Machine

/-- f_in in MHz (R261). -/
def Device.fIn (d : Device) (q : Side) (s : Nat) : Nat :=
  match d.fld (PXS_CTRL q s) PXS_CTRL_IN_SEL with
  | 1 => 200
  | 2 => 50
  | _ => 100

/-- f_in × MULT in MHz. -/
def Device.fMdll (d : Device) (q : Side) (s : Nat) : Nat := d.fIn q s * d.fld (PXS_STATUS q s) PXS_STATUS_MULT

/-- f_nom = f_in × MULT × (1 + OFFSET) in MHz × 2^20 (R262). -/
def Device.fNom (d : Device) (q : Side) (s : Nat) : Nat :=
  (((2 ^ 20 : Nat) : Int) + d.int (PXS_OFFSET q s)).toNat * d.fMdll q s

/-- The time in 1/64 ns that `x` pixel periods take at f_nom. -/
def Device.pixelTime (d : Device) (q : Side) (s x : Nat) : Nat := x * 64000 * 2 ^ 20 / d.fNom q s

/-! The ramp (R266, R267). -/

/-- DEV[k] of a ramp profile in units of 2^−20; points beyond 255 are DEV[255]. -/
def rampPoint (b : List Byte) (k : Nat) : Int := toSigned 16 (bytesAt b (16 + 2 * min k 255) 2)

/-- 1024 × the ramp at 2400 dpi column `u`, between its points in proportion (R267). -/
def rampAt (b : List Byte) (u : Nat) : Int :=
  let n := max 1 (bytesAt b 0 2)
  let k := u / n
  1024 * rampPoint b k + 1024 * (rampPoint b (k + 1) - rampPoint b k) * ((u % n : Nat) : Int) / (n : Int)

/-- 1024 × dev(x) in units of 2^−20 (R267): 0 where RAMP_EN = 0 and from column DOTS on. -/
def Device.dev (d : Device) (q : Side) (s dots : Nat) (res1200 : Bool) (x : Nat) : Int :=
  if d.flag (PXS_CTRL q s) PXS_CTRL_RAMP_EN && decide (x < dots) then
    rampAt (d.entry 0x06 0 (d.fld (PXS_CTRL q s) PXS_CTRL_PROFILE)) (if res1200 then 2 * x else x)
  else 0

/-- f_px of a column in MHz × 2^30 (R262). -/
def Device.fPx (d : Device) (q : Side) (s dots : Nat) (res1200 : Bool) (x : Nat) : Nat :=
  (((2 ^ 30 : Nat) : Int) + 1024 * d.int (PXS_OFFSET q s) + d.dev q s dots res1200 x).toNat * d.fMdll q s

/-! The start of a line (R268). -/

/-- The trim of a facet in 1/64 of a 2400 dpi column, where trims are applied (R260). -/
def Device.trimOf (d : Device) (q : Side) (s f : Nat) : Int :=
  if d.flag (PXS_CTRL q s) PXS_CTRL_TRIM_EN && d.flag (PXS_FACET_CFG q s) PXS_FACET_CFG_INDEX_EN then
    toSigned 8 (d.fld (PXS_TRIM0 q s + 4 * (f / 4)) ⟨8 * (f % 4) + 7, 8 * (f % 4)⟩)
  else 0

/-- Pixel periods × 128 from a line start to column 0 (R268): 14, and DELAY and the trim, which count 2400 dpi columns; a negative sum of
these two is taken as 0. -/
def Device.startPeriods (d : Device) (q : Side) (s f : Nat) (res1200 : Bool) : Nat :=
  14 * 128 + ((d.fld (PXS_START q s) PXS_START_DELAY : Int) + d.trimOf q s f).toNat * (if res1200 then 1 else 2)

/-- The time in 1/64 ns from a line start to column 0. -/
def Device.startTime (d : Device) (q : Side) (s f : Nat) (res1200 : Bool) : Nat :=
  d.startPeriods q s f res1200 * 500 * 2 ^ 20 / d.fNom q s

/-- τ(x) of R338: the time in 1/64 ns from a line start to column `x` under R268 and the ramp of R267. -/
def Device.columnTime (d : Device) (q : Side) (s f dots : Nat) (res1200 : Bool) (x : Nat) : Nat :=
  d.startTime q s f res1200 + ((List.range x).map (fun i => 64000 * 2 ^ 62 / d.fPx q s dots res1200 i)).sum / 2 ^ 32

/-! The rotator (R265, R271). Its phase counts steps of 1/64 of the MDLL's period, its accumulator 2^−24 of a step. -/

/-- What the accumulator takes in `n` pixel periods that start at column 0: 64 × (OFFSET + dev(x)) steps each (R265). -/
def Device.rotorTurn (d : Device) (q : Side) (s dots : Nat) (res1200 : Bool) (n : Nat) : Int :=
  64 * 16 * d.int (PXS_OFFSET q s) * (n : Int) + ((List.range (min n dots)).map (fun x => d.dev q s dots res1200 x)).sum

/-- The steps of the phase walk in pixel periods 4 to 11 after a line start: at most 4 a period, the shorter way round (R271). -/
def walkSteps : Nat → Int → List Int
  | 0, _ => []
  | n + 1, rest =>
    let step := max (-4) (min 4 rest)
    step :: walkSteps n (rest - step)

/-- The walk from one phase to another. -/
def phaseWalk (phase target : Nat) : List Int := walkSteps 8 ((((target + 96 - phase % 64) % 64 : Nat) : Int) - 32)

/-- The rotator phase that puts an edge on column 0 at time `col0`, taken back over the periods between the walk and column 0 (R264, R268; DEDUCED, log
entry 121). In SLEW the residual stays (R286). -/
def Device.phaseTarget (d : Device) (q : Side) (s f col0 : Nat) (res1200 : Bool) : Nat :=
  let steps : Int := ((Config.mdllPhase (d.fIn q s) (d.fld (PXS_STATUS q s) PXS_STATUS_MULT) + col0 * d.fMdll q s / 1000 : Nat) : Int)
  let back := 1024 * d.int (PXS_OFFSET q s) * ((d.startPeriods q s f res1200 / 128 : Nat) : Int) / ((2 ^ 24 : Nat) : Int)
  ((steps - back + toSigned 8 (d.fld (PXS_SLEW q s) PXS_SLEW_RESIDUAL)) % 64).toNat

/-- The phase and the 24-bit accumulator of the rotator `n` pixel periods after column 0 of the line in progress (R265): the walk is done, the
accumulator was 0 at the line start, and it carries into the phase. -/
def Device.rotorAt (d : Device) (q : Side) (s n : Nat) : Nat × Nat :=
  let v := d.synthS q s
  let before : Int := 1024 * d.int (PXS_OFFSET q s) * ((d.startPeriods q s (d.fld (PXS_STATUS q s) PXS_STATUS_FACET_ID) v.res1200 / 128 : Nat) : Int)
  let x := ((v.phase : Int) + v.walk.sum) * ((2 ^ 24 : Nat) : Int) + before + d.rotorTurn q s v.dots v.res1200 n
  ((x / ((2 ^ 24 : Nat) : Int) % 64).toNat, (x % ((2 ^ 24 : Nat) : Int)).toNat)

/-- The rotator's phase when the line in progress ends at `at_`, taken before the next line's OFFSET is set. -/
def Device.rotorEnd (d : Device) (q : Side) (s at_ : Nat) : Nat :=
  (d.rotorAt q s ((at_ - (d.synthS q s).col0) * d.fNom q s / (64000 * 2 ^ 20))).1

/-- A line starts at `at_` with the rotator at a phase: its accumulator is cleared, and the phase walk and the time of column 0 are set (R265, R268,
R271). -/
def Device.rotorLine (d : Device) (q : Side) (s at_ phase dots : Nat) (res1200 : Bool) : Device :=
  let f := d.fld (PXS_STATUS q s) PXS_STATUS_FACET_ID
  let col0 := at_ + d.startTime q s f res1200
  d.setSynth q s { d.synthS q s with col0, dots, phase, walk := phaseWalk phase (d.phaseTarget q s f col0 res1200) }

/-! The forwarded clock and line strobe (R269, R270, R273, R274, R288). -/

/-- Whether a synthesizer's pixel clock runs in a state of R288. -/
def clockRuns (state : Nat) : Bool := decide (2 ≤ state)

/-- Whether it is forwarded in that state: FREQ and LOST keep it inside. -/
def clockForwarded (state : Nat) : Bool := decide (3 ≤ state ∧ state ≤ 5)

/-- The frequency in MHz × 2^30 of the pixel clock at time `t` (R269): that of the column in the active scan, f_nom between lines; none
where the clock is stopped. -/
def Device.pixelClock (d : Device) (q : Side) (s t : Nat) : Option Nat :=
  let v := d.synthS q s
  if !clockRuns (d.fld (PXS_STATUS q s) PXS_STATUS_STATE) then none
  else
    let x := if t < v.col0 then v.dots else (t - v.col0) * d.fNom q s / (64000 * 2 ^ 20)
    some (d.fPx q s v.dots v.res1200 x)

/-- The pixel clock at a Quarter's pins: none at the idle level (R273, R274). -/
def Device.clockPins (d : Device) (q : Side) (s t : Nat) : Option Nat :=
  if (d.q q).transmits && clockForwarded (d.fld (PXS_STATUS q s) PXS_STATUS_STATE) then d.pixelClock q s t else none

/-- Whether the line strobe is high at time `t`: from the falling edge before the fourth pixel edge ahead of column 0 to the one before column
0 (R270). -/
def Device.strobeHigh (d : Device) (q : Side) (s t : Nat) : Bool :=
  let c := (d.synthS q s).col0
  decide (c ≤ t + d.pixelTime q s 9 / 2 ∧ t + d.pixelTime q s 1 / 2 < c)

/-- The line strobe at a Quarter's pins (R273, R274): low at the idle level. -/
def Device.strobePins (d : Device) (q : Side) (s t : Nat) : Bool := natBit (d.q q).strobes s && d.strobeHigh q s t

/-- Whether the active scan of a station in a Quarter goes on: columns 0 to DOTS − 1 of the line in progress (R192). -/
def Device.scanning (d : Device) (q : Side) (s : Nat) : Bool :=
  let v := d.synthS q s
  decide (v.col0 ≤ d.now) && d.now < v.lastStart + d.columnTime q s (d.fld (PXS_STATUS q s) PXS_STATUS_FACET_ID) v.dots v.res1200 v.dots

end Sys2Proof.Machine
end

