-- ==== Sys2Proof/Machine/Raster.lean ====
section
/-! DEFINITION. From the page store to emitter codes: what the substream decoders give (R215 to R220, R230), the pass masks (R300), the spare
map and forced zeros (R293 to R307), and a line's segments (R332 to R334). -/

namespace Sys2Proof.Machine

/-! The decoders. -/

/-- The band that a station prints, with its page, its side and its place in its chain; a tail prints the first bands of its page (R296). -/
def Device.bandNow (d : Device) (s : Nat) : Option (Page × PageSide × BandRec × Nat) :=
  match d.print s, d.printSide s with
  | some p, some side =>
    if !p.started then none
    else
      match d.dlv.pages.find? (fun x => x.first.wsn == side.wsn || (x.second.map PageSide.wsn) == some side.wsn), (side.recs.filter (fun r => r.station == s))[p.band]? with
      | some page, some r => ((page.chainBands s).find? (fun x => x.1.band == r.band)).map (fun x => (page, side, x.1, x.2))
      | _, _ => none
  | _, _ => none

/-- The stored bytes of substream `n` of a band (R181). -/
def Device.storedSub (d : Device) (page : Page) (r : BandRec) (off n : Nat) : List Byte :=
  d.chainRead (page.chains.getD r.station []) (subOff r off n) (r.lens.getD n 0)

/-- What decoder `n` gives for a band (R230): a raw-pass substream as it is stored (R220), another inflated from its container. -/
def Device.decoded (d : Device) (page : Page) (r : BandRec) (off n : Nat) : List Byte :=
  let b := d.storedSub page r off n
  if r.raw n then b else inflate r.format 32768 (b.drop 16)

/-- The pixel codes of bytes, two a byte, bits 3 to 0 first (R215). -/
def nibbles (l : List Byte) : List Nat := l.flatMap (fun b => [b.toNat % 16, b.toNat / 16])

/-- The eight rows of a substream from its tiles: 64 columns a tile, its rows one after the other, the last tile narrower (R215, R216). -/
def tileRows : Nat → Nat → List Nat → List (List Nat)
  | 0, _, _ => List.replicate 8 []
  | n + 1, columns, l =>
    let w := min 64 columns
    List.zipWith (fun a b => a ++ b) ((List.range 8).map (fun j => (l.drop (j * w)).take w)) (tileRows n (columns - w) (l.drop (8 * w)))

/-- The tiles of a substream. -/
def tiles (dots : Nat) : Nat := (dots + 63) / 64

/-- The rows of a decoded substream, band lines 8n to 8n + 7. -/
def subRows (dots : Nat) (l : List Byte) : List (List Nat) := tileRows (tiles dots) dots (nibbles l)

/-- The 64 band lines of a band. -/
def Device.bandRows (d : Device) (page : Page) (dots : Nat) (r : BandRec) (off : Nat) : List (List Nat) :=
  (List.range 8).flatMap (fun n => subRows dots (d.decoded page r off n))

/-! Emitter codes. -/

/-- L(b, j): the image line that band line `j` of a station's band `b` prints (R295). -/
def Device.imageLine (d : Device) (q : Side) (s b j : Nat) : Int :=
  ((d.advance q * b + d.pitchP q s * d.pos q s j : Nat) : Int) - ((72 * d.pitchP q s : Nat) : Int)

/-- Whether slot `j` prints at column `x` of its line: no forced zero (R296, R299, R307), and its mask's cell names its pass (R300). The mask
is the one latched at the sheet's first line (R302). -/
def Device.slotPrints (d : Device) (q : Side) (s : Nat) (l : LineS) (b : Nat) (tail : Bool) (j x : Nat) : Bool :=
  let at_ := d.imageLine q s b j
  !(tail && decide (0 ≤ at_)) && !l.forced.contains j &&
    (match l.masks.getD (j % d.advance q) none with
      | none => true
      | some m => d.maskCell s m (at_ % 16).toNat (x % 16) == j / d.advance q)

/-- A row with a test for every column: code 0 where it fails. -/
def keepCodes (f : Nat → Bool) : Nat → List Nat → List Nat
  | _, [] => []
  | x, c :: l => (if f x then c else 0) :: keepCodes f (x + 1) l

/-- The slot that an emitter drives (R293). -/
def Device.slotOf (d : Device) (q : Side) (s e : Nat) : Option Nat := (List.range 64).find? (fun j => d.pos q s j == e)

/-- The codes of the 72 emitters for a line before scaling: a row whose emitter drives no slot carries none (R300, R333). -/
def Device.rawCodes (d : Device) (q : Side) (s : Nat) (l : LineS) : List (List Nat) :=
  match d.bandNow s, d.print s with
  | some (page, side, r, off), some p =>
    let rows := d.bandRows page side.dots r off
    (List.range 72).map (fun e =>
      match d.slotOf q s e with
      | none => []
      | some j => keepCodes (d.slotPrints q s l p.band p.tail j) 0 (rows.getD j []))
  | _, _ => []

/-- The scaled code of each code (R312). -/
def Device.scaleTable (d : Device) (s k : Nat) : List Nat := (List.range 16).map (d.scaledCode s k)

/-- The codes of a line as they are sent (R310, R333). -/
def Device.finalCodes (d : Device) (s : Nat) (ks : List Nat) (rows : List (List Nat)) : List (List Nat) :=
  List.zipWith (fun k row => let t := d.scaleTable s k; row.map (fun c => t.getD c 0)) ks rows

/-! What a line has sent. -/

/-- The substreams that are blank for the rest of the line (R322). -/
def LineS.blank (l : LineS) : Nat := l.cut.foldl (fun m (x : Nat × Nat) => setNatBit m x.1 true) 0

/-- The substreams of a mask go blank from chunk `k` on, unless they are already. -/
def LineS.cutFrom (l : LineS) (mask k : Nat) : LineS :=
  { l with cut := (maskList 8 mask).foldl (fun (c : List (Nat × Nat)) n => if (c.map Prod.fst).contains n then c else c ++ [(n, k)]) l.cut }

/-- The on-time that a line gave an emitter in 1/64 ns (R310): BLANK segments contribute 0. -/
def Device.onTime (d : Device) (q : Side) (s : Nat) (l : LineS) (e : Nat) : Nat :=
  let row := l.codes.getD e []
  let shown := match d.slotOf q s e with
    | none => []
    | some j => match l.cut.find? (fun (x : Nat × Nat) => x.1 == j / 8) with
      | some x => row.take (256 * x.2)
      | none => row
  (shown.map (d.codeWidth s)).sum * 1000 * 2 ^ 20 / l.fnom

/-! Segments (R332 to R334). -/

/-- Bytes of a chunk of one substream: 256 columns of eight rows. -/
def chunkBytes : Nat := 1024

/-- Columns in chunks of 256. -/
def chunksOf (dots : Nat) : Nat := (dots + 255) / 256

/-- Whether a substream's FIFO holds its data for chunk `k` (R230, R322). -/
def LineS.holds (l : LineS) (n k : Nat) : Bool := decide (min (chunkBytes * (k + 1)) (4 * l.dots) ≤ l.written.getD n 0)

/-- What segments took from a substream's FIFO. -/
def LineS.taken (l : LineS) : Nat := min (chunkBytes * l.chunk) (4 * l.dots)

/-- The fill of the eight FIFOs (R192). -/
def LineS.levels (l : LineS) : List Nat := (List.range 8).map (fun n => l.written.getD n 0 - l.taken)

/-- A decoder has written so much of its band: it waits while its slice of 24 576 B is full (R230). -/
def LineS.decodeTo (l : LineS) (given : List Nat) : LineS :=
  { l with written := (List.range 8).map (fun n =>
      let old := l.written.getD n 0
      if natBit (l.dead ||| l.ue) n then old else max old (min (given.getD n 0) (min (4 * l.dots) (l.taken + 24576)))) }

/-- The substreams of whose slots a fire group's emitters drive one. -/
def Device.groupNeeds (d : Device) (q : Side) (s g : Nat) : List Nat :=
  ((List.range 8).filterMap (fun r => (d.slotOf q s (8 * g + r)).map (fun j => j / 8))).dedup

/-- BLANK_ROWS of a segment: rows whose slot's substream is blank (R322, R332). -/
def Device.blankRows (d : Device) (q : Side) (s g mask : Nat) : Nat :=
  (List.range 8).foldl (fun m r => setNatBit m r (match d.slotOf q s (8 * g + r) with
    | none => false
    | some j => natBit mask (j / 8))) 0

/-- A row of a segment: 256 codes, code 0 beyond DOTS (R333). -/
def rowBytes (codes : List Nat) : List Byte :=
  (List.range 128).map (fun i => BitVec.ofNat 8 (codes.getD (2 * i) 0 % 16 + 16 * (codes.getD (2 * i + 1) 0 % 16)))

/-- The body of the segment of group `g` and chunk `k` (R332). -/
def Device.segment (d : Device) (q : Side) (s : Nat) (l : LineS) (g k mask : Nat) : List Byte :=
  let blank := d.blankRows q s g mask
  leBytes 1 1 ++ leBytes 1 (16 * (l.n % 9) + g) ++ leBytes 2 k ++ leBytes 4 l.n ++ leBytes 1 blank ++
    leBytes 1 (128 * b01 (blank != 0) + 8 * l.flags + 4 * b01 (d.spares q s) + 2 * b01 l.res1200 + d.owner.code) ++
    leBytes 2 s ++ leBytes 2 l.wsn ++ leBytes 2 0 ++
    (List.range 8).flatMap (fun r => rowBytes (if natBit blank r then [] else ((l.codes.getD (8 * g + r) []).drop (256 * k)).take 256))

end Sys2Proof.Machine
end

