-- ==== Sys2Proof/Machine/Beam.lean ====
section
/-! DEFINITION. Beam output and emitter management (R292 to R325). -/

namespace Sys2Proof.Machine

/-- CLASS_LOST and DEAD_UNMAPPED of a station: two dead slots of one class, and a dead slot that no DEAD_MASK hides (R299, R307). -/
def Device.showClasses (d : Device) (q : Side) (s : Nat) : Device :=
  let a := d.advance q
  let dead := d.deadSlots q s
  let twice := dead.filter (fun j => dead.any (fun i => decide (i ≠ j) && i % a == j % a))
  let d := d.setFlag (BMO_STATUS q s) BMO_STATUS_CLASS_LOST (!twice.isEmpty)
  d.setFlag (BMO_STATUS q s) BMO_STATUS_DEAD_UNMAPPED (if d.passM q = 1 then !dead.isEmpty else !twice.isEmpty)

/-- Propose a spare for a dead active emitter in BMO_MAP_PENDn (R304). -/
def Device.propose (d : Device) (s e : Nat) : Device :=
  d.each bothSides (fun q d =>
    let now := d.mapNow q s
    let free := (List.range 8).find? (fun i =>
      d.mayDrive q (64 + i) e && !(now.any (fun x => x.2 == 64 + i)) && d.emClass q s (64 + i) != 2 && d.emClass q s (64 + i) != 1)
    match free with
    | none => d
    | some i =>
      let d := (d.setReg (BMO_MAP_PEND0 q s) (d.reg (BMO_MAP0 q s))).setReg (BMO_MAP_PEND1 q s) (d.reg (BMO_MAP1 q s))
      d.setFld (BMO_MAP_PEND0 q s + 4 * (i / 4)) ⟨8 * (i % 4) + 7, 8 * (i % 4)⟩ (128 + e))

/-- Whether both words of a spare map keep R305. -/
def Device.mapOk (d : Device) (q : Side) (s : Nat) (m0 m1 : Word) : Bool :=
  let l := mapSlots m0 m1
  l.all (fun x => d.mayDrive q x.2 x.1 && d.emClass q s x.2 != 2) &&
    l.all (fun x => l.all (fun y => x.1 != y.1 || x.2 == y.2))

/-- A write of BMO_MAPm bound to page `wsn`, or to the next sheet where `wsn` is 0: checked, then kept until that page's first band
(R305). -/
def Device.mapWrite (d : Device) (s m : Nat) (v : Word) (wsn : Nat) : Device :=
  let v := v &&& 0xBFBFBFBF
  let waiting := fun k => match d.bmo.mapNext.reverse.find? (fun x => x.2.1 == 2 * s + k) with
    | some x => x.2.2
    | none => d.reg (BMO_MAP0 .north s + 4 * k)
  let m0 := if m = 0 then v else waiting 0
  let m1 := if m = 0 then waiting 1 else v
  if d.mapOk .north s m0 m1 then d.modBmo (fun v' => { v' with mapNext := v'.mapNext ++ [(wsn, 2 * s + m, v)] })
  else d.each bothSides (fun q d => d.setFlag (BMO_STATUS q s) BMO_STATUS_MAP_ERR true)

/-- A write of BMO_MAPn through a parameter slot that is not bound to a page. -/
def execSpareMapWrite (t : Nat) (st : Station) (m : Fin 2) (value : Word) (s : State) : Result :=
  s.run t fun d => d.mapWrite st m value 0

/-- At the first line of page `wsn` the waiting spare maps of the station take effect (R305). -/
def Device.takeMaps (d : Device) (s wsn : Nat) : Device :=
  let mine := d.bmo.mapNext.filter (fun x => x.2.1 / 2 == s && (x.1 == 0 || x.1 == wsn))
  let d := d.modBmo (fun v => { v with mapNext := v.mapNext.filter (fun x => !(x.2.1 / 2 == s && (x.1 == 0 || x.1 == wsn))) })
  d.each mine (fun x d => d.each bothSides (fun q d => d.setReg (BMO_MAP0 q s + 4 * (x.2.1 % 2)) x.2.2))

/-- A limit of BMO_DUTY in percent. -/
def dutyLimit (v dflt : Nat) : Nat := if 10 ≤ v ∧ v ≤ 100 then v else dflt

/-- The on-time that the lines in a list gave an emitter. -/
def onSum (l : List (List Nat)) (e : Nat) : Nat := (l.map (fun x => x.getD e 0)).sum

/-- The scale k of a budget in 1/64 ns against the on-time F of a full line (R312). -/
def dutyK (budget used full : Nat) : Nat := if full = 0 then 16 else min 16 (16 * (budget - used) / full)

/-- The line in progress ends: its on-times join the window (R310). -/
def Device.lineEnds (d : Device) (q : Side) (s : Nat) : Device :=
  let l := d.lineS q s
  let on := if l.image then (List.range 72).map (d.onTime q s l) else []
  d.setLine q s { l with on := (on :: l.on).take (max l.n1 l.n10), image := false, codes := [], cut := [] }

/-- The marks that a line carries in its segments (R283, R284, R286, R313), DUTY apart: COAST, PREDICTED and SLEW. -/
def Device.lineMarks (d : Device) (q : Side) (s : Nat) : Nat :=
  8 * b01 (d.fld (PXS_STATUS q s) PXS_STATUS_STATE == 4) + 4 * b01 (!(d.synthS q s).lastQual) +
    2 * b01 (d.fld (PXS_STATUS q s) PXS_STATUS_STATE == 5 && d.fld (PXS_SLEW q s) PXS_SLEW_RESIDUAL != 0)

/-- Duty of the line that starts now: the scales, the flags and the codes that are sent (R310 to R313, R333). -/
def Device.dutyLine (d : Device) (q : Side) (s : Nat) (side : PageSide) : Device :=
  let l := d.lineS q s
  let t := d.nat (PXS_PERIOD q s)
  let full := d.pixelTime q s (side.dots * d.codeWidth s 15) / 64
  let elem := dutyLimit (d.fld (BMO_DUTY q s) BMO_DUTY_ELEM_LIMIT) 80
  let head := dutyLimit (d.fld (BMO_DUTY q s) BMO_DUTY_HEAD_LIMIT) 60
  let ke := (List.range 72).map (fun e => dutyK (elem * l.n1 * t / 100) (onSum (l.on.take (l.n1 - 1)) e) full)
  let kh := dutyK (64 * head * l.n10 * t / 100) ((l.on.take (l.n10 - 1)).map List.sum).sum (64 * full)
  let kt := d.fld (BMO_KSCALE q s) BMO_KSCALE_K_T
  let kMin := ke.foldl min 16
  let low := decide (min (min kMin kh) kt < 16)
  let d := d.setLine q s { l with
    image := true, codes := d.finalCodes s (ke.map (fun k => min (min k kh) kt)) (d.rawCodes q s l), fnom := d.fNom q s,
    flags := d.lineMarks q s + b01 low, dots := side.dots, res1200 := side.lpi1200, wsn := side.wsn }
  let d := (d.setFld (BMO_KSCALE q s) BMO_KSCALE_K_E_MIN kMin).setFld (BMO_KSCALE q s) BMO_KSCALE_K_H kh
  let d := if kMin < 16 ∧ kMin ≤ kh then d.setFlag (BMO_STATUS q s) BMO_STATUS_DUTY_ELEM true else d
  let d := if kh < 16 ∧ kh ≤ kMin then d.setFlag (BMO_STATUS q s) BMO_STATUS_DUTY_HEAD true else d
  if low then d.count (BMO_CNT0 q s) BMO_CNT0_CLIPPED else d

/-- N lines that cover a time (R310). -/
def linesIn (time t : Nat) : Nat := if t = 0 then 1 else (time + t - 1) / t

/-- The first line of a sheet at a station, in both Quarters: N1 and N10, the spare maps, and the mask selection and forced slots of the classes that
now apply (R302, R305, R307, R310, R321). -/
def Device.firstLine (d : Device) (s wsn : Nat) : Device :=
  let d := d.takeMaps s wsn
  d.each bothSides (fun q d =>
    let t := d.nat (PXS_PERIOD q s)
    (d.setLine q s { d.lineS q s with
      n1 := linesIn tuPerMs t, n10 := linesIn (10 * tuPerMs) t
      masks := (List.range 64).map (d.classMask q s), forced := d.deadSlots q s }).showClasses q s)

/-- A station is enabled where the check passes, and is else left disabled with CFG_ERR (R301). The line number starts again. While BUSY reads 1
the enable waits (R51). -/
def Device.stationOn (d : Device) (q : Side) (s : Nat) : Device :=
  if d.flag (BMO_CTRL q s) BMO_CTRL_ENABLE then d
  else if d.flag (BMO_CTRL q s) BMO_CTRL_BUSY then d.setFlag (BMO_CTRL q s) BMO_CTRL_ENABLE true
  else if d.masksOk q s then
    let d := (d.setFlag (BMO_CTRL q s) BMO_CTRL_ENABLE true).setLine q s { n := 0 }
    if d.owner = q then d.modKerb (fun v => { v with request := setNatBit v.request s true }) else d
  else d.setFlag (BMO_STATUS q s) BMO_STATUS_CFG_ERR true

/-- A station that was disabled has ended its line; an enable written meanwhile takes effect (R51). -/
def Device.beamStopped (d : Device) (q : Side) (s : Nat) : Device :=
  let d := (d.setFlag (BMO_CTRL q s) BMO_CTRL_BUSY false).endPrint s
  if d.flag (BMO_CTRL q s) BMO_CTRL_ENABLE then (d.setFlag (BMO_CTRL q s) BMO_CTRL_ENABLE false).stationOn q s else d

/-- The owner of the outputs moves a station's print on by a band, and ends it after the last (R231). -/
def Device.nextBand (d : Device) (s : Nat) : Device :=
  match d.print s with
  | none => d
  | some p =>
    let band := if p.started then p.band + 1 else 0
    if p.total ≤ band then d.endPrint s
    else
      let wsn := ((d.printSide s).map PageSide.wsn).getD 0
      let d := if p.started then d else d.firstLine s wsn
      let d := d.setPrint s (some { p with band, started := true })
      if p.tail then d else d.countBand s

/-- The side that a station prints once its print has begun. -/
def Device.imageSide (d : Device) (s : Nat) : Option PageSide := if ((d.print s).map PrintS.started).getD false then d.printSide s else none

/-- A Quarter that joins takes the window sums of the other, and a Returning one what the other latched at the sheet's first line (R302, R310, R314). -/
def Device.joinLine (d : Device) (q : Side) (s : Nat) : Device :=
  let o := d.lineS q.other s
  if d.role q = .returning then d.setLine q s { d.lineS q s with on := o.on, n1 := o.n1, n10 := o.n10, masks := o.masks, forced := o.forced }
  else if d.waitsFor q s then d.setLine q s { d.lineS q s with on := o.on }
  else d

/-- A port that serves a transmitting Quarter sends the LINE block of a line (R335, R347). -/
def Device.sendLine (d : Device) (q : Side) (s n : Nat) : Device :=
  if d.portServes q s then
    let side := d.imageSide s
    let chunks := (side.map (fun x => chunksOf x.dots)).getD 0
    let word := chunks % 512 + 512 * b01 (d.spares q s) + 1024 * b01 ((side.map PageSide.lpi1200).getD false)
    (d.setNat (ENW_LINE q s) n).sendBlocks q s [ctlBlock btLine (leBytes 4 n ++ leBytes 2 word)]
  else d

/-- A line starts at an enabled station of a Quarter: the line before it ends, its number rises, the decoders begin the next band, and the Quarter that
owns the outputs moves the print on (R231, R308, R335). -/
def Device.beamLine (d : Device) (q : Side) (s : Nat) (line : LineInfo) : Device :=
  if !d.flag (BMO_CTRL q s) BMO_CTRL_ENABLE && !d.flag (BMO_CTRL q s) BMO_CTRL_BUSY then d
  else
    let own := d.owner == q
    let d := match d.printRec s with
      | some (side, r) => d.slowStages q s r side.dots line.unitTimes line.portTime
      | none => d
    let d := d.lineEnds q s
    let d := if own && d.flag (BMO_CTRL q s) BMO_CTRL_BUSY then d.beamStopped q s else d
    let d := if own && natBit d.bmo.safePend s then d.nowSafe s else d
    let d := if own then d.nextBand s else d
    let d := (d.scanOver q s).joinLine q s
    let l := d.lineS q s
    let d := d.setLine q s { l with n := l.n + 1, written := [], chunk := 0, group := 0, dead := 0, ue := 0, late := false, blanked := false }
    let d := d.sendLine q s (l.n + 1)
    match d.imageSide s with
    | none => d
    | some side => d.dutyLine q s side

/-- Set BMO_CTRL.ENABLE. -/
def execStationEnable (t : Nat) (q : Side) (st : Station) (s : State) : Result := s.run t fun d => d.stationOn q st

/-- A station is disabled: the line ends, and its sheet is defective with cause 4 (R52, R325). -/
def Device.stationOff (d : Device) (q : Side) (s : Nat) : Device :=
  if !d.flag (BMO_CTRL q s) BMO_CTRL_ENABLE then d
  else
    let d := d.setFlag (BMO_CTRL q s) BMO_CTRL_ENABLE false
    if d.owner = q then
      let d := d.modKerb (fun v => { v with request := setNatBit v.request s false })
      if (d.print s).isSome then (d.stationsDefective (2 ^ s) 4).setFlag (BMO_CTRL q s) BMO_CTRL_BUSY true else d
    else d

/-- Clear BMO_CTRL.ENABLE. -/
def execStationDisable (t : Nat) (q : Side) (st : Station) (s : State) : Result := s.run t fun d => d.stationOff q st

/-- MEASURE for an emitter (R336): its test currents, and SETTLE of 20 µs. -/
def Device.measurePayload (d : Device) (q : Side) (s e : Nat) : List Byte :=
  leBytes 1 e ++ leBytes 1 (d.fld (BMO_MEAS q s) BMO_MEAS_I1) ++ leBytes 1 (d.fld (BMO_MEAS q s) BMO_MEAS_I2) ++ leBytes 1 20 ++ leBytes 4 0

/-- In an idle interval the device sends MEASURE for the emitter at the cursor (R315, R316): the station prints nothing, is not safe,
and its synthesizer is LOCKED, 2 ms after its last line. -/
def execEmitterMeasure (t : Nat) (st : Station) (s : State) : Result :=
  s.run t fun d =>
    let q := d.owner
    let last := sget (fun _ => 0) d.bmo.lastLine st
    if (d.st = .ready ∨ d.st = .printing ∨ d.st = .draining) ∧ d.print st = none ∧ !d.isSafe st ∧
        d.fld (PXS_STATUS q st) PXS_STATUS_STATE = 3 ∧ last + 2 * tuPerMs ≤ d.now then
      let e := d.fld (BMO_STATUS q st) BMO_STATUS_CURSOR
      let d := d.modBmo (fun v => { v with meas := sput (fun _ => none) v.meas st (some e) })
      let d := if d.portServes q st then d.sendMessage q st 3 (d.measurePayload q st e) else d
      d.each bothSides (fun q d => d.setFlag (BMO_STATUS q st) BMO_STATUS_MEAS_BUSY true)
    else d

/-- R_dyn in 0.01 Ω: (V2 − V1) mV over (I2 − I1) × 0.05 mA. -/
def rDyn (v1 v2 i1 i2 : Nat) : Nat := if i2 ≤ i1 then 65535 else min 65535 (2000 * (v2 - v1) / (i2 - i1))

/-- The result of a measurement: 2 dead, open or short, 1 marginal, 0 good (R317). Without a baseline it is 3. -/
def Device.measResult (d : Device) (q : Side) (s e v2 r : Nat) : Nat :=
  let base := sget (fun _ => 0) d.bmo.base (128 * s + e)
  if d.fld (BMO_MEAS_V q s) BMO_MEAS_V_V_OPEN < v2 ∨ v2 < d.fld (BMO_MEAS_V q s) BMO_MEAS_V_V_SHORT then 2
  else if base = 0 then 3
  else if base * (100 + d.fld (BMO_MEAS q s) BMO_MEAS_DEAD_PCT) < r * 100 then 2
  else if base * (100 + d.fld (BMO_MEAS q s) BMO_MEAS_MARG_PCT) < r * 100 then 1
  else 0

/-- The class after two measurements that agree (R317): a dead emitter stays dead, a marginal one returns to good only at 5
percentage points below the threshold. -/
def Device.newClass (d : Device) (q : Side) (s e old res r : Nat) : Nat :=
  let base := sget (fun _ => 0) d.bmo.base (128 * s + e)
  if old = 2 then 2
  else if old = 1 ∧ res = 0 ∧ base * (100 + (d.fld (BMO_MEAS q s) BMO_MEAS_MARG_PCT - 5)) < r * 100 then 1
  else res

/-- A measurement of the emitter at the cursor arrives (R316 to R320). An imaging unit without baselines takes them from it (R318). -/
def Device.measured (d : Device) (s e v1 v2 : Nat) : Device :=
  if sget (fun _ => none) d.bmo.meas s ≠ some e then d
  else
    let q := d.owner
    let r := rDyn v1 v2 (d.fld (BMO_MEAS q s) BMO_MEAS_I1) (d.fld (BMO_MEAS q s) BMO_MEAS_I2)
    let res := d.measResult q s e v2 r
    let old := d.emClass q s e
    let low := old == 1 && d.newClass q s e old res r == 1 && res == 0
    let code := if low then 5 else res + 1
    let prev := sget (fun _ => 0) d.bmo.last (128 * s + e)
    let b := { d.bmo with
      rdyn := sput (fun _ => 0) d.bmo.rdyn (128 * s + e) r
      last := sput (fun _ => 0) d.bmo.last (128 * s + e) code }
    let b := if res = 3 then { b with base := sput (fun _ => 0) b.base (128 * s + e) r } else b
    let d := (d.modBmo (fun _ => b)).measStop s
    let d := d.each bothSides (fun q d => d.setFld (BMO_STATUS q s) BMO_STATUS_CURSOR (if e = 71 then 0 else e + 1))
    let new := if res ≠ 3 ∧ prev = code ∧ !low then d.newClass q s e old res r else old
    if new = old then d
    else
      let d := d.setEmClass s e new
      if new = 2 then
        let d := if e < 64 then d.propose s e else d
        d.ledgerEvent lbEmitterDead q.code (256 * s + e) 0
      else if new = 1 then d.ledgerEvent lbEmitterMarginal q.code (256 * s + e) 0
      else d

/-- k_t and the marks of a head temperature in °C (R323). -/
def Device.headTemp (d : Device) (q : Side) (s : Nat) (temp : Int) : Device :=
  let warn := toSigned 8 (d.fld (BMO_TEMP q s) BMO_TEMP_WARN)
  let limit := toSigned 8 (d.fld (BMO_TEMP q s) BMO_TEMP_LIMIT)
  let hyst : Int := d.fld (BMO_TEMP q s) BMO_TEMP_HYST
  let derate := max 1 (d.fld (BMO_TEMP q s) BMO_TEMP_DERATE_K)
  let d := d.each bothSides (fun q d =>
    let d := d.setFld (BMO_STATUS q s) BMO_STATUS_HEAD_TEMP (ofSigned 8 temp)
    let d := d.setFlag (BMO_STATUS q s) BMO_STATUS_TEMP_LIMIT (decide (limit ≤ temp))
    if warn ≤ temp then (d.setFlag (BMO_STATUS q s) BMO_STATUS_TEMP_WARN true).setFld (BMO_KSCALE q s) BMO_KSCALE_K_T derate
    else if temp < warn - hyst then (d.setFlag (BMO_STATUS q s) BMO_STATUS_TEMP_WARN false).setFld (BMO_KSCALE q s) BMO_KSCALE_K_T 16
    else d)
  if limit ≤ temp ∧ !natBit d.bmo.headSafe s then ((d.goSafe s 5 true).enterDraining) else d

/-- No head temperature for 10 ms: the station is treated as at warning (R323). -/
def execHeadTempTimeout (t : Nat) (st : Station) (s : State) : Result :=
  s.run t fun d => d.each bothSides (fun q d =>
    (d.setFlag (BMO_STATUS q st) BMO_STATUS_TEMP_WARN true).setFld (BMO_KSCALE q st) BMO_KSCALE_K_T
      (max 1 (d.fld (BMO_TEMP q st) BMO_TEMP_DERATE_K)))

/-- A station safe for its head temperature leaves safe in Ready or Held below WARN − HYST, at k_t = 16 (R324). -/
def execStationSafeExit (t : Nat) (st : Station) (s : State) : Result :=
  s.run t fun d =>
    let q := d.owner
    let temp := toSigned 8 (d.fld (BMO_STATUS q st) BMO_STATUS_HEAD_TEMP)
    if natBit d.bmo.headSafe st ∧ (d.st = .ready ∨ d.st = .held) ∧
        temp < toSigned 8 (d.fld (BMO_TEMP q st) BMO_TEMP_WARN) - (d.fld (BMO_TEMP q st) BMO_TEMP_HYST : Int) then
      let d := d.modBmo (fun v => { v with headSafe := setNatBit v.headSafe st false })
      (d.each bothSides (fun q d => d.setFld (BMO_KSCALE q st) BMO_KSCALE_K_T 16)).showSafe st
    else d

/-- The word of an emitter record: BASE and the last R_dyn. -/
def Device.emitterRecord (d : Device) (s e : Nat) : Nat :=
  sget (fun _ => 0) d.bmo.base (128 * s + e) % 65536 * 65536 + sget (fun _ => 0) d.bmo.rdyn (128 * s + e) % 65536

end Sys2Proof.Machine
end

