-- ==== Sys2Proof/Machine/Tollgate.lean ====
section
/-! DEFINITION. The Tollgate (R113 to R118, R635): whether a page is admitted, and what a rejection reports. -/

namespace Sys2Proof.Machine

/-- Lines per inch of a side. -/
def PageSide.lpi (p : PageSide) : Nat := if p.lpi1200 then 1200 else 2400

/-- The speed limit of a side's resolution, 0.01 m/s. -/
def PageSide.limit (p : PageSide) : Nat := if p.lpi1200 then 300 else 150

/-- The data rate of R164 in MT/s by RATE_ACT. -/
def rateMts : Nat → Nat
  | 0 => 8533
  | 1 => 7500
  | 2 => 6400
  | _ => 4266

/-- U of R115 in bytes per ms, times nine; 16 B per transfer over the four channels. -/
def usable9 (mts : Nat) : Nat := (13280 * mts - 4200000) * 8

/-- U in 0.1 GB/s, rounded to the nearest, as PGS_TG_USABLE holds it. -/
def usableTenths (mts : Nat) : Nat := (usable9 mts + 450000) / 900000

/-- Nine times U of R115 in bytes per ms; 0 before the store is trained. -/
def Device.usable (d : Device) : Nat :=
  if d.fld PGS_TG_USABLE PGS_TG_USABLE_U = 0 then 0 else usable9 (rateMts (d.fld RDB_STATUS RDB_STATUS_RATE_ACT))

/-- TML_GRID. -/
def Device.grid (d : Device) : Nat := d.nat (TML_GRID .north)

/-- Check 1 of R113 for one side, with R121 and R297; a sheet is BANDS band lengths of R120 long, at M facets each. -/
def Device.geometryOk (d : Device) (p : PageSide) : Bool :=
  let m := d.passM .north
  d.fld (BMO_PASS .north) BMO_PASS_M != 3 && p.speed != 0 && decide (m * p.speed ≤ p.limit) &&
    decide (p.dots ≤ (if p.lpi1200 then 49606 else 99212)) && d.grid != 0 &&
    (if d.web then m == 1 && (if p.lpi1200 then decide (74 ≤ p.bands) && decide (p.bands ≤ 2214)
        else decide (148 ≤ p.bands) && decide (p.bands ≤ 4429))
      else d.nat (TML_PITCH .north) != 0 && decide (64 * p.bands * 254 ≤ 7500 * p.lpi * m))

/-- Whether a compressed substream of `dots` columns decodes within 0.85 of the facet period at a pace level and a speed (R29, R113,
R297). -/
def decodeOk (dots lpi m speed pace : Nat) : Bool :=
  decide (400 * dots * lpi * m * speed ≤ 85 * 16256 * decoderRate pace * 1000000)

/-- The first of a list of (key, value) pairs by the order of its keys. -/
def leastBy {α : Type} (lt : α → α → Bool) (l : List α) : Option α :=
  l.foldl (fun m x => match m with
    | none => some x
    | some y => if lt x y then some x else some y) none

/-- The order of bands by station, then band. -/
def bandLt (x y : BandRec) : Bool := decide (x.station < y.station) || (x.station == y.station && decide (x.band < y.band))

/-- Check 4 of R113: the first band, by station, whose decode time is too long. -/
def Page.decodeFails (p : Page) (m speed pace : Nat) : Option BandRec :=
  if decodeOk p.first.dots p.first.lpi m speed pace then none
  else leastBy bandLt (p.recs.filter (fun r => r.rawPass % 256 != 255))

/-- A band's read in the plan (R114, R635): its start and end, its bytes, and its band where it is one of the page that is checked. -/
structure PlanRead where
  a : Int
  b : Int
  bytes : Nat
  mine : Option BandRec
  deriving DecidableEq, Repr

/-- What turns the plan's counts and times into one integer scale, at a resolution, a speed and M: a facet period, a count of the
pitch source, a millisecond, and a time unit of the model. -/
structure PlanScale where
  facet : Int
  count : Int
  ms : Int
  unit : Int
  deriving DecidableEq, Repr

/-- The scale in which a time unit is lpi × M × SPEED × TML_GRID. -/
def planScale (grid lpi m speed : Nat) : PlanScale :=
  { facet := (162560 * 64000000 * grid : Nat), count := (162560 * 64000000 * 65536 * m : Nat),
    ms := (64000000 * (lpi * m * speed * grid) : Nat), unit := (lpi * m * speed * grid : Nat) }

/-- Whether a band is one of the second side of its pair. -/
def Page.onSecond (p : Page) (r : BandRec) : Bool := decide (p.first.bands ≤ r.band) && p.second.isSome

/-- The index of a band in its own page. -/
def Page.bandIndex (p : Page) (r : BandRec) : Nat := if p.onSecond r then r.band - p.first.bands else r.band

/-- The stations that a template releases for the second side of a pair. -/
def Device.secondStations (d : Device) (t : Nat) : List Nat :=
  ((d.templateEntries t).filter (fun e => e.2.action == 1 && e.2.side == 1)).map (fun e => e.2.arg)

/-- The reads of a page whose pitch start lies `o` after the moment of the check; what lies before the moment adds nothing. The second
side of a pair is read where the template releases it. -/
def Device.pageReads (d : Device) (z : PlanScale) (p : Page) (o : Int) (mine : Bool) : List PlanRead :=
  let back := d.secondStations p.first.template
  (p.recs.filter (fun r => !p.onSecond r || back.contains r.station)).filterMap (fun r =>
    let n := p.bandIndex r
    let e := o + d.int (TML_OFFSET .north r.station) * z.count + (n : Int) * z.facet
    if e ≤ 0 then none else some { a := max 0 (e - z.facet), b := e, bytes := r.lens.sum, mine := if mine then some r else none })

/-- The time from the moment of the check to the next pitch start, where the device produces pitches (R395). -/
def Device.nextPitch (d : Device) (z : PlanScale) : Int :=
  if d.st = .ready ∨ d.st = .printing ∨ d.st = .draining then
    max 0 ((d.tml.pitchLen : Int) * z.count - ((d.now - d.tml.pitchTime : Nat) : Int) * z.unit)
  else 0

/-- How far the next page's pitch start lies after a page's (R635). -/
def Device.pitchOf (d : Device) (z : PlanScale) (m : Nat) (p : Page) : Int :=
  if d.web then (p.first.bands : Int) * z.facet * (m : Int) else (d.nat (TML_PITCH .north) : Int) * z.count

/-- When the sheet that a started page is on now began: of several open instances the latest, since the others are diverted. -/
def Device.startOf (d : Device) (w : Nat) : Option Nat :=
  (leastBy (fun (x y : Nat × Instance) => decide (y.2.startAt < x.2.startAt))
    (d.openInsts.filter (fun x => x.2.wsn == w && !x.2.clearout))).map (fun x => x.2.startAt)

/-- The reads of the pages of a plan in WSN order; the last page is the one that is checked. `o` is the next page's earliest pitch
start. A started page whose instance has closed has been read. -/
def Device.planReads (d : Device) (z : PlanScale) (m : Nat) (o : Int) : List Page → List PlanRead
  | [] => []
  | p :: rest =>
    if p.started then
      match d.startOf p.first.wsn with
      | some x =>
        let o := -(((d.now - x : Nat) : Int) * z.unit)
        d.pageReads z p o rest.isEmpty ++ d.planReads z m (o + d.pitchOf z m p) rest
      | none => d.planReads z m o rest
    else
      let o := max o (d.nextPitch z)
      d.pageReads z p o rest.isEmpty ++ d.planReads z m (o + d.pitchOf z m p) rest

/-- The bytes that a window of 1 ms from `x` takes of both Quarters' reads, times the facet period (R114). -/
def windowLoad (z : PlanScale) (reads : List PlanRead) (x : Int) : Int :=
  (reads.map (fun r => 2 * (r.bytes : Int) * max 0 (min r.b (x + z.ms) - max r.a x))).sum

/-- The windows that start or end where a read starts or ends (R116). -/
def windowStarts (z : PlanScale) (reads : List PlanRead) : List Int := reads.flatMap (fun r => [r.a, r.b, r.a - z.ms, r.b - z.ms])

/-- The worst window: its load, and where it starts (the earliest of equals). -/
def worstWindow (z : PlanScale) (reads : List PlanRead) : Int × Int :=
  (windowStarts z reads).foldl (fun m x =>
    let l := windowLoad z reads x
    if m.1 < l ∨ (l = m.1 ∧ x < m.2) then (l, x) else m) (0, 0)

/-- The allowances of R114 in 0.1 GB/s. -/
def Device.allowances (d : Device) : Nat := d.fld PGS_TG_CTRL PGS_TG_CTRL_ALLOW_INGEST + d.fld PGS_TG_CTRL PGS_TG_CTRL_ALLOW_INSP

/-- Whether a load fits (check 5 of R113). -/
def Device.loadFits (d : Device) (z : PlanScale) (load : Int) : Bool :=
  decide (9 * (load + (d.allowances : Int) * 100000 * z.facet) ≤ (d.usable : Int) * z.facet)

/-- The plan that a page is checked with: the accepted pages before it, back to the last change of speed or resolution, unless it
differs itself from the last accepted page (R117). -/
def Device.planFor (d : Device) (p : Page) : List Page :=
  let same := fun (x : Page) => x.first.speed == p.first.speed && x.first.lpi1200 == p.first.lpi1200
  match d.dlv.lastPlan with
  | some (v, r) => if v = p.first.speed ∧ r = p.first.lpi1200 then ((d.dlv.pages.reverse.takeWhile same).reverse) ++ [p] else [p]
  | none => [p]

/-- The worst load of a plan at a speed. -/
def Device.planWorst (d : Device) (z : PlanScale) (m : Nat) (l : List Page) : Int × Int × List PlanRead :=
  let reads := d.planReads z m 0 l
  let w := worstWindow z reads
  (w.1, w.2, reads)

/-- Whether a page passes checks 4 and 5 alone at a speed (R118). -/
def Device.passesAt (d : Device) (p : Page) (m speed : Nat) : Bool :=
  let z := planScale d.grid p.first.lpi m speed
  (p.decodeFails m speed p.first.pace).isNone && d.loadFits z (d.planWorst z m [p]).1

/-- REQ_SPEED (R118): the highest speed, from the limit down, at which the page passes alone. -/
def Device.reqSpeed (d : Device) (p : Page) (m : Nat) : Nat → Nat
  | 0 => 0
  | n + 1 => if d.passesAt p m (n + 1) then n + 1 else d.reqSpeed p m n

/-- MAX_PACE (R33). -/
def Device.maxPace (d : Device) : Nat :=
  let n := d.fld PGS_TG_CTRL PGS_TG_CTRL_MAX_PACE
  if n = 0 then 2 else n

/-- REQ_PACE (R118). -/
def Device.reqPace (d : Device) (p : Page) (m kind : Nat) : Nat :=
  if kind = 5 then 15
  else ((List.range 4).find? (fun x => decide (1 ≤ x) && decide (x ≤ d.maxPace) && (p.decodeFails m p.first.speed x).isNone)).getD 15

/-- The result of a check: the kind that failed, 0 none, with the station, band and load of R118. -/
structure GateResult where
  kind : Nat
  station : Nat := 0
  band : Nat := 0
  load : Nat := 0
  deriving DecidableEq, Repr

/-- The checks of R113 in order. -/
def Device.gateCheck (d : Device) (p : Page) : GateResult :=
  let m := d.passM .north
  let sides := p.first :: p.second.toList
  if !sides.all (fun x => d.geometryOk x) then { kind := 1 }
  else if p.first.pace = 0 then { kind := 2 }
  else if d.maxPace < p.first.pace then { kind := 3 }
  else
    match p.decodeFails m p.first.speed p.first.pace with
    | some r => { kind := 4, station := r.station, band := p.bandIndex r }
    | none =>
      let z := planScale d.grid p.first.lpi m p.first.speed
      let w := d.planWorst z m (d.planFor p)
      let load := (w.1 + (100000 * z.facet - 1)) / (100000 * z.facet)
      if d.loadFits z w.1 then { kind := 0, load := min 65535 (load.toNat + d.allowances) }
      else
        let mine := w.2.2.filter (fun r => r.mine.isSome && decide (r.a < w.2.1 + z.ms) && decide (w.2.1 < r.b))
        let before := fun (x y : PlanRead) =>
          decide (x.a < y.a) || (x.a == y.a && (match x.mine, y.mine with
            | some u, some v => bandLt u v
            | _, _ => false))
        match (leastBy before mine).bind (fun r => r.mine) with
        | some r => { kind := 5, station := r.station, band := p.bandIndex r, load := min 65535 (load.toNat + d.allowances) }
        | none =>
          let free := (Config.rejectBand p.first.wsn).toNat
          { kind := 5, station := free / 65536, band := free % 65536, load := min 65535 (load.toNat + d.allowances) }

/-- The rejection registers of R118. -/
def Device.setReject (d : Device) (p : Page) (g : GateResult) : Device :=
  let m := d.passM .north
  let speed := if g.kind = 1 then 0 else d.reqSpeed p m (p.first.limit / m)
  let d := d.setNat PGS_TG_REJ0 p.first.wsn
  let d := ((d.setReg PGS_TG_REJ1 0).setFld PGS_TG_REJ1 PGS_TG_REJ1_REQ_SPEED speed).setFld PGS_TG_REJ1 PGS_TG_REJ1_REQ_PACE (d.reqPace p m g.kind)
  let d := (d.setFld PGS_TG_REJ1 PGS_TG_REJ1_STATION g.station).setFld PGS_TG_REJ1 PGS_TG_REJ1_KIND g.kind
  (d.setFld PGS_TG_REJ2 PGS_TG_REJ2_LOAD g.load).setFld PGS_TG_REJ2 PGS_TG_REJ2_BAND g.band

end Sys2Proof.Machine
end

