-- ==== Sys2Proof/Machine/Grid.lean ====
section
/-! DEFINITION. Position sources (R391) and the facet grid of the stations (R409). -/

namespace Sys2Proof.Machine

/-- A raw or filtered position as the integer that 32 bits spell. -/
def wrap32 (v : Int) : Int := toSigned 32 (ofSigned 32 v)

/-- The position of a source (R391, R392): the filtered position of an encoder, or the planned position of an axis. -/
def Device.position (d : Device) (q : Side) (src : Nat) : Int :=
  if src ≤ 8 then d.int (AXS_ENC_POS q src) else if 16 ≤ src ∧ src ≤ 47 then d.int (AXS_POS q (src - 16)) else 0

/-- Counts × 65536 × M from target 0 of a grid to a position of the pitch source, where the position is not before it. -/
def Device.gridWay (d : Device) (base pos : Int) : Nat := (wrap32 (pos - base)).toNat * 65536 * d.passM .north

/-- The newest target at or before a position. -/
def Device.gridIndex (d : Device) (base pos : Int) : Nat := d.gridWay base pos / max 1 d.grid

/-- When target `k` was reached in a motion from time `t0` to `t1` over the `n` counts that end at `pos`, to 1 timebase cycle (R409). -/
def Device.targetTime (d : Device) (base pos : Int) (k n t0 t1 : Nat) : Nat :=
  let short := d.gridWay base pos - k * d.grid
  (t1 - (t1 - t0) * short / max 1 (n * 65536 * d.passM .north)) / 80 * 80

/-- The positions of target 0 of a station: TML_OFFSET counts from the origin of each instance that images it. -/
def Device.gridBases (d : Device) (s : Nat) : List Int :=
  (d.openInsts.filter (fun x => natBit x.2.stations s)).map (fun x => wrap32 (x.2.origin + d.int (TML_OFFSET .north s)))

/-- The grid of a station after the position has come to `pos` over `n` counts, between `t0` and `t1`: the grid of a further instance takes over at
its target 0, and a target that has been taken stands. -/
def Device.gridMove (d : Device) (s : Nat) (g : Option FacetGrid) (pos : Int) (n t0 t1 : Nat) : Option FacetGrid :=
  let taken := fun base =>
    let k := d.gridIndex base pos
    some { base, last := k, time := d.targetTime base pos k n t0 t1 }
  match (d.gridBases s).find? (fun b => decide (0 ≤ wrap32 (pos - b) ∧ wrap32 (pos - b) < n)) with
  | some b => taken b
  | none =>
    match g with
    | some x => if 0 ≤ wrap32 (pos - x.base) ∧ x.last < d.gridIndex x.base pos then taken x.base else some x
    | none => none

/-- The facet grid of a station as a Quarter sees it. -/
def Device.facetGrid (d : Device) (q : Side) (s : Nat) : Option FacetGrid := sget (fun _ => none) d.tml.grids (8 * q.code + s)

/-- All grids of a Quarter follow the position over `n` counts. -/
def Device.gridsTo (d : Device) (q : Side) (pos : Int) (n t0 t1 : Nat) : Device :=
  d.each (List.range 8) (fun s d =>
    d.modTml (fun v => { v with grids := sput (fun _ => none) v.grids (8 * q.code + s) (d.gridMove s (d.facetGrid q s) pos n t0 t1) }))

/-- The pitch source has an edge at which its position comes from `old` to its present one (R409): between two edges of one forward motion a target's
time is interpolated; at the first edge of a motion, or in a step of more than one count, it is the time of the edge. -/
def Device.pitchEdge (d : Device) (q : Side) (src : Nat) (old : Int) : Device :=
  let pos := d.position q src
  let n := wrap32 (pos - old)
  if d.fld (TML_CTRL .north) TML_CTRL_PITCH_SRC ≠ src ∨ n = 0 then d
  else
    let m := sget (fun _ => {}) d.tml.motion q.code
    let t0 := if m.forward ∧ n = 1 ∧ d.now / 80 ≤ m.time / 80 + Config.standstill then m.time else d.now
    let d := d.modTml (fun v => { v with motion := sput (fun _ => {}) v.motion q.code { forward := decide (0 < n), time := d.now } })
    if 0 < n then d.gridsTo q pos n.toNat t0 d.now else d

/-- An instance opens: targets at its origin, which the position has reached already, have the time of the pitch start. -/
def Device.gridOpen (d : Device) : Device :=
  d.each bothSides (fun q d =>
    let pos := d.position q (d.fld (TML_CTRL .north) TML_CTRL_PITCH_SRC)
    d.gridsTo q pos (1 + (wrap32 (pos - d.tml.pitchAt)).toNat) d.now d.now)

/-- The target of a station's grid nearest to a time (R289): the newest that has been reached, or the one to come. -/
def Device.nearTarget (d : Device) (q : Side) (s at_ : Nat) (next : Option Nat) : Option Nat :=
  match d.facetGrid q s, next.filter (fun x => decide (at_ ≤ x)) with
  | some g, some x => some (if at_ - g.time ≤ x - at_ then g.time else x)
  | some g, none => some g.time
  | none, x => x

end Sys2Proof.Machine
end

