-- ==== Sys2Proof/Machine/Synth.lean ====
section
/-! DEFINITION. Beam detect and pixel clock synthesis (R255 to R291). The states of R288 are PXS_STATUS.STATE. -/

namespace Sys2Proof.Machine

/-- The state of a synthesizer (R288). -/
def Device.pxState (d : Device) (q : Side) (s : Nat) : Nat := d.fld (PXS_STATUS q s) PXS_STATUS_STATE

def pxOff : Nat := 0
def pxAcquire : Nat := 1
def pxFreq : Nat := 2
def pxLocked : Nat := 3
def pxCoast : Nat := 4
def pxSlew : Nat := 5
def pxLost : Nat := 6

def Device.setPx (d : Device) (q : Side) (s n : Nat) : Device := d.setFld (PXS_STATUS q s) PXS_STATUS_STATE n

/-- WIN: 4 to 64, other values taken as 16. -/
def Device.pxWin (d : Device) (q : Side) (s : Nat) : Nat :=
  let w := d.fld (PXS_BD_CFG q s) PXS_BD_CFG_WIN
  if 4 ≤ w ∧ w ≤ 64 then w else 16

/-- PPF_eff × 2, in units of 2^−8: PXS_PPF in 2400 dpi pages, half of it in 1200 dpi pages (R262). -/
def Device.ppf2 (d : Device) (q : Side) (s : Nat) : Nat := d.nat (PXS_PPF q s) * (if (d.synthS q s).res1200 then 1 else 2)

/-- A quotient rounded to the nearest integer. -/
def roundDiv (a b : Nat) : Nat := if b = 0 then 0 else (2 * a + b) / (2 * b)

/-- OFFSET of a line in units of 2^−20 (R262): f_target in MHz is PPF_eff × 250 ÷ T_filt, both in register units. -/
def Device.offsetOf (d : Device) (q : Side) (s : Nat) : Int :=
  (roundDiv (d.ppf2 q s * 125 * 2 ^ 20) (d.nat (PXS_PERIOD q s) * d.fMdll q s) : Int) - ((2 ^ 20 : Nat) : Int)

/-- The range fault of R263: |OFFSET| above 0.22, or f_nom × 1.03 above 320 MHz. -/
def Device.rangeBad (d : Device) (q : Side) (s : Nat) (off : Int) : Bool :=
  decide (22 * 2 ^ 20 < off.natAbs * 100) ||
    decide (320 * 100 * 2 ^ 20 < (((2 ^ 20 : Nat) : Int) + off).toNat * d.fMdll q s * 103)

/-- MULT at FREQ: the integer nearest f_target ÷ f_in within what IN_SEL allows (R261, R263). -/
def Device.multOf (d : Device) (q : Side) (s : Nat) : Nat :=
  let m := roundDiv (d.ppf2 q s * 125) (d.nat (PXS_PERIOD q s) * d.fIn q s)
  let hi := min 16 (330 / d.fIn q s)
  let lo := max 1 (100 / d.fIn q s)
  if d.fld (PXS_CTRL q s) PXS_CTRL_IN_SEL = 1 then 1 else max lo (min hi m)

/-- CFG_ERR of the port where N_req exceeds the buffer that the module reports (R339). -/
def Device.bufCompare (d : Device) (q : Side) (s : Nat) : Device :=
  if d.fld (ENW_MOD_BUF q s) ENW_MOD_BUF_BUF < d.fld (ENW_MOD_BUF q s) ENW_MOD_BUF_REQUIRED then d.setFlag (ENW_STATUS q s) ENW_STATUS_CFG_ERR true
  else d

/-- N_req at entry into LOCKED, compared where the module has reported a buffer; else its first frame is compared (R339). -/
def Device.bufferCheck (d : Device) (q : Side) (s : Nat) : Device :=
  let lead := max 30 (d.fld (ENW_TX_CFG q s) ENW_TX_CFG_LEAD)
  let x := (d.fld (ENW_TX_CFG q s) ENW_TX_CFG_AHEAD + lead) * 6400 * 512 + d.pxWin q s * d.nat (PXS_PERIOD q s)
  let num := x * 103 * d.fNom q s
  let den := 512 * 64000 * 100 * 2 ^ 20 * 256
  let need := 9 * ((num + den - 1) / den + 1)
  let d := d.setFld (ENW_MOD_BUF q s) ENW_MOD_BUF_REQUIRED (min 65535 need)
  if (d.portS q s).goodAt = 0 then d else d.bufCompare q s

/-- Entry into LOCKED. -/
def Device.lockPx (d : Device) (q : Side) (s : Nat) : Device := (d.setPx q s pxLocked).bufferCheck q s

/-- Entry into FREQ: MULT and OFFSET are set, and a range fault is shown (R263). -/
def Device.enterFreq (d : Device) (q : Side) (s : Nat) : Device :=
  let d := (d.setPx q s pxFreq).setFld (PXS_STATUS q s) PXS_STATUS_MULT (d.multOf q s)
  let off := d.offsetOf q s
  let d := d.setReg (PXS_OFFSET q s) (BitVec.ofInt 32 off)
  if d.rangeBad q s off then d.setFlag (PXS_STATUS q s) PXS_STATUS_RANGE true else d

/-- The check of R272. -/
def Device.pxConfigOk (d : Device) (q : Side) (s : Nat) : Bool :=
  let ppf := d.nat (PXS_PPF q s)
  d.fld (PXS_CTRL q s) PXS_CTRL_IN_SEL != 3 && ppf != 0 &&
    decide (((2048 + d.fld (PXS_START q s) PXS_START_DELAY) * 97 + 634956800) * 262144 ≤ ppf * (1024 - d.pxWin q s) * 6208)

/-- Entry into ACQUIRE (R258). -/
def Device.enterAcquire (d : Device) (q : Side) (s : Nat) : Device :=
  (d.setPx q s pxAcquire).setSynth q s { d.synthS q s with edge := none, ivals := [], own := none, lastQual := false, refreq := false }

/-- ENABLE is set: from OFF, or from LOST on a write from 0 to 1 (R272, R287). -/
def Device.synthOn (d : Device) (q : Side) (s : Nat) : Device :=
  if d.flag (PXS_CTRL q s) PXS_CTRL_ENABLE then d
  else
    let d := d.setFlag (PXS_CTRL q s) PXS_CTRL_ENABLE true
    if d.flag (PXS_CTRL q s) PXS_CTRL_BUSY then d
    else if d.pxConfigOk q s then d.enterAcquire q s
    else (d.setPx q s pxOff).setFlag (PXS_STATUS q s) PXS_STATUS_CFG_ERR true

/-- Set PXS_CTRL.ENABLE. -/
def execSynthEnable (t : Nat) (q : Side) (st : Station) (s : State) : Result := s.run t fun d => d.synthOn q st

/-- The clock has stopped: OFF; an enable written meanwhile takes effect now (R51, R291). -/
def Device.synthStopped (d : Device) (q : Side) (s : Nat) : Device :=
  let d := (d.setFlag (PXS_CTRL q s) PXS_CTRL_BUSY false).setPx q s pxOff
  if d.flag (PXS_CTRL q s) PXS_CTRL_ENABLE then (d.setFlag (PXS_CTRL q s) PXS_CTRL_ENABLE false).synthOn q s else d

/-- ENABLE is cleared: while the station images, the line in progress ends first, and the sheet is defective (R52, R291). -/
def Device.synthOff (d : Device) (q : Side) (s : Nat) : Device :=
  if !d.flag (PXS_CTRL q s) PXS_CTRL_ENABLE then d
  else
    let d := d.setFlag (PXS_CTRL q s) PXS_CTRL_ENABLE false
    if d.owner = q ∧ d.images s then (d.stationsDefective (2 ^ s) 4).setFlag (PXS_CTRL q s) PXS_CTRL_BUSY true
    else d.synthStopped q s

/-- Clear PXS_CTRL.ENABLE. -/
def execSynthDisable (t : Nat) (q : Side) (st : Station) (s : State) : Result := s.run t fun d => d.synthOff q st

/-- T_filt takes an interval between qualified edges (R257). -/
def Device.filterPeriod (d : Device) (q : Side) (s ival : Nat) : Device :=
  let t : Int := d.nat (PXS_PERIOD q s)
  let sh := min 8 (d.fld (PXS_BD_CFG q s) PXS_BD_CFG_FILT)
  d.setNat (PXS_PERIOD q s) (t + ((ival : Int) - t) / ((2 ^ sh : Nat) : Int)).toNat

/-- OFFSET of the new line, with the range fault (R262, R263). The Quarter that owns the outputs makes an imaging station safe after
the line; a station that does not image goes back to FREQ. -/
def Device.lineOffset (d : Device) (q : Side) (s : Nat) : Device :=
  let off := d.offsetOf q s
  let d := d.setReg (PXS_OFFSET q s) (BitVec.ofInt 32 off)
  if d.rangeBad q s off then
    let d := d.setFlag (PXS_STATUS q s) PXS_STATUS_RANGE true
    if d.images s then (if d.owner = q then d.goSafe s 4 false else d) else d.enterFreq q s
  else d

/-- The residual of a line in SLEW (R286). -/
def Device.slewLine (d : Device) (q : Side) (s : Nat) (qual : Bool) : Device :=
  let r := toSigned 8 (d.fld (PXS_SLEW q s) PXS_SLEW_RESIDUAL)
  let r := if 0 < r then r - 1 else if r < 0 then r + 1 else 0
  let d := d.setFld (PXS_SLEW q s) PXS_SLEW_RESIDUAL (ofSigned 8 r)
  if r = 0 then (if qual then d.lockPx q s else d)
  else
    let d := d.count (PXS_CNT1 q s) PXS_CNT1_SLEW
    if 8 < r.natAbs then
      let d := d.count (PXS_CNT1 q s) PXS_CNT1_SLEW_DEFECT
      if d.owner = q then d.stationsDefective (2 ^ s) 2 else d
    else d

/-- e of R289 in 1/1024 facet period, saturating at ±512. -/
def phaseUnits (phase : Int) (t : Nat) : Int := max (-512) (min 512 (1024 * phase / (t : Int)))

/-- The first line start of a station's sheet checks the facet phase (R290). -/
def Device.phaseAtRelease (d : Device) (q : Side) (s : Nat) : Device :=
  match d.print s with
  | none => d
  | some p =>
    let e := (toSigned 16 (d.fld (PXS_PHASE_ERR q s) PXS_PHASE_ERR_E)).natAbs
    if !p.started && decide (d.fld (PXS_FACET_CFG q s) PXS_FACET_CFG_PHASE_TOL < e) then
      d.setFlag (PXS_STATUS q s) PXS_STATUS_PHASE_FAULT true
    else d

/-- From its next line start a Quarter that transmits drives its line-strobe pins (R274). -/
def Device.driveStrobe (d : Device) (q : Side) (s : Nat) : Device :=
  if (d.q q).transmits then d.setQ q { d.q q with strobes := setNatBit (d.q q).strobes s true } else d

/-- A line starts at time `at_`, qualified or predicted (R257 to R290). -/
def Device.lineStart (d : Device) (q : Side) (s at_ : Nat) (qual : Bool) (line : LineInfo) : Device :=
  let v := d.synthS q s
  let phase := d.rotorEnd q s at_
  let pred := v.lastStart + d.nat (PXS_PERIOD q s)
  let d := if qual ∧ v.lastQual then d.filterPeriod q s (at_ - v.lastStart) else d
  let facets := max 1 (d.fld (PXS_FACET_CFG q s) PXS_FACET_CFG_FACETS)
  let id := if v.facet0 then 0 else (d.fld (PXS_STATUS q s) PXS_STATUS_FACET_ID + 1) % facets
  let res := match d.printSide s with
    | some side => side.lpi1200
    | none => v.res1200
  let d := d.setSynth q s { v with lastStart := at_, lastQual := qual, own := none, facet0 := false, res1200 := res, pred }
  let d := d.setFld (PXS_STATUS q s) PXS_STATUS_FACET_ID id
  let d := if qual then d.setFld (PXS_STATUS q s) PXS_STATUS_MISS 0
    else ((d.setFld (PXS_STATUS q s) PXS_STATUS_MISS (d.fld (PXS_STATUS q s) PXS_STATUS_MISS + 1)).count (PXS_CNT0 q s) PXS_CNT0_PREDICTED)
  if d.flag (PXS_CTRL q s) PXS_CTRL_BUSY then (d.endPrint s).synthStopped q s
  else
    let d := match qual, d.nearTarget q s at_ line.target with
      | true, some x => d.setFld (PXS_PHASE_ERR q s) PXS_PHASE_ERR_E
          (ofSigned 16 (phaseUnits ((at_ : Int) - (x : Int)) (max 1 (d.nat (PXS_PERIOD q s)))))
      | _, _ => d
    let d := d.phaseAtRelease q s
    let d := if d.pxState q s = pxCoast then (d.count (PXS_CNT0 q s) PXS_CNT0_COAST).checkEvent q ckSynthLock false
      else if d.pxState q s = pxSlew then (d.lineOffset q s).slewLine q s qual
      else d.lineOffset q s
    let d := d.rotorLine q s at_ phase (((d.printSide s).map PageSide.dots).getD 0) res
    (d.driveStrobe q s).beamLine q s line

/-- Whether an edge lies in the window of R256. -/
def Device.inWindow (d : Device) (q : Side) (s at_ : Nat) : Bool :=
  let t := d.nat (PXS_PERIOD q s)
  decide (((at_ : Int) - ((d.synthS q s).lastStart + t : Nat)).natAbs * 1024 ≤ d.pxWin q s * t)

/-- Whether a Quarter takes its timestamps from the one that holds the token (R275). -/
def Device.shadows (d : Device) (q : Side) : Bool := d.token == some q.other && (d.role q == .standby || d.role q == .returning)

/-- The reference PLL of a Quarter is declared locked. -/
def Device.refLocked (d : Device) (q : Side) : Bool := d.flag (PXS_REF_STATUS q) PXS_REF_STATUS_LOCKED

/-- Whether 16 intervals lie within ±2 % of their mean (R258). -/
def steady (l : List Nat) : Bool :=
  l.length == 16 && l.all (fun x => decide (((16 * x : Nat) - (l.sum : Int)).natAbs * 100 ≤ 2 * l.sum))

/-- An edge in ACQUIRE, timed on the 800 MHz timebase (R258): 16 steady intervals give T_filt and start FREQ, where the configuration passes (R272) and the reference
is locked (R281). -/
def Device.acquireEdge (d : Device) (q : Side) (s at_ : Nat) : Device :=
  let v := d.synthS q s
  let iv := match v.edge with
    | some e => ((at_ - e) :: v.ivals).take 16
    | none => []
  let d := d.setSynth q s { v with edge := some at_, ivals := iv, lastStart := at_, lastQual := true }
  if steady iv && d.refLocked q then
    let d := d.setNat (PXS_PERIOD q s) (iv.sum / 16)
    if d.pxConfigOk q s then
      let d := if d.flag (PXS_FACET_CFG q s) PXS_FACET_CFG_INDEX_EN then d else d.setSynth q s { d.synthS q s with facet0 := true }
      d.enterFreq q s
    else (d.setPx q s pxOff).setFlag (PXS_STATUS q s) PXS_STATUS_CFG_ERR true
  else d

/-- A beam-detect edge at a Quarter's receiver (R255 to R258). The Quarter that shadows keeps its own timestamp until the word of the
Active Quarter arrives (R275). -/
def execBeamDetectEdge (t : Nat) (q : Side) (st : Station) (line : LineInfo) (s : State) : Result :=
  s.run t fun d =>
    let x := d.pxState q st
    if x = pxAcquire then d.acquireEdge q st (d.now / 80 * 80)
    else if x = pxFreq ∨ (d.synthS q st).refreq then d.setSynth q st { d.synthS q st with lastStart := d.now, lastQual := true }
    else if x = pxLocked ∨ x = pxCoast ∨ x = pxSlew then
      if !d.inWindow q st d.now || (d.synthS q st).own.isSome then d
      else if d.shadows q then d.setSynth q st { d.synthS q st with own := some d.now }
      else d.lineStart q st d.now true line
    else d

/-- ACQUIRE has lasted 200 ms (R258). -/
def execAcquireTimeout (t : Nat) (q : Side) (st : Station) (s : State) : Result :=
  s.run t fun d => if d.pxState q st = pxAcquire then d.setFlag (PXS_STATUS q st) PXS_STATUS_ACQ_FAIL true else d

/-- FREQ completes and the synthesizer is LOCKED, unless no MULT passes (R263, R264). -/
def execFreqComplete (t : Nat) (q : Side) (st : Station) (s : State) : Result :=
  s.run t fun d =>
    if d.pxState q st = pxFreq then
      let d := d.enterFreq q st
      if d.rangeBad q st (d.offsetOf q st) then d else d.lockPx q st
    else d

/-- The window closes without an edge: the line starts predicted, or, the fifth time in a row, the synthesizer is LOST and the
station goes safe (R284). -/
def execWindowClose (t : Nat) (q : Side) (st : Station) (line : LineInfo) (s : State) : Result :=
  s.run t fun d =>
    let x := d.pxState q st
    if (x = pxLocked ∨ x = pxCoast ∨ x = pxSlew) ∧ (d.synthS q st).own = none ∧ !(d.synthS q st).refreq then
      if 4 ≤ d.fld (PXS_STATUS q st) PXS_STATUS_MISS then
        let d := (d.setFld (PXS_STATUS q st) PXS_STATUS_MISS 5).setPx q st pxLost
        if d.owner = q then (d.goSafe st 4 false).nowSafe st else d
      else
        let p := d.nat (PXS_PERIOD q st)
        d.lineStart q st ((d.synthS q st).lastStart + p + d.pxWin q st * p / 1024) false line
    else d

/-- A rising edge on the index GPIO: the next line start is facet 0 (R260). -/
def Device.indexRise (d : Device) (gpio : Nat) : Device :=
  d.each bothSides (fun q d => d.each (List.range 8) (fun s d =>
    if d.flag (PXS_FACET_CFG q s) PXS_FACET_CFG_INDEX_EN && d.fld (PXS_FACET_CFG q s) PXS_FACET_CFG_INDEX_GPIO == gpio then
      d.setSynth q s { d.synthS q s with facet0 := true }
    else d))

/-- An index edge at a GPIO. -/
def execIndexEdge (t : Nat) (gpio : Fin 64) (s : State) : Result := s.run t fun d => d.indexRise gpio

/-- The Quarter that does not hold the token. -/
def Device.shadowSide (d : Device) : Side := d.owner.other

/-- One step of the rotator in 1/64 ns × f_nom: the difference of two timestamps in steps of 1/64 pixel. -/
def Device.stepsOf (d : Device) (q : Side) (s diff : Nat) : Nat := diff * d.fNom q s / (1000 * 2 ^ 20)

/-- The Active Quarter's timestamp arrives at the Standby, which uses it and compares its own (R275, R276). -/
def execLinePhaseWord (t : Nat) (st : Station) (stamp : Nat) (line : LineInfo) (s : State) : Result :=
  s.run t fun d =>
    let q := d.shadowSide
    let x := d.pxState q st
    if d.shadows q ∧ (x = pxLocked ∨ x = pxCoast ∨ x = pxSlew) ∧ !(d.synthS q st).refreq then
      let d := match (d.synthS q st).own with
        | none => d
        | some own =>
          let n := d.stepsOf q st (((own : Int) - stamp).natAbs)
          let d := d.maxFld (PXS_ALIGN q st) PXS_ALIGN_MAX_DIFF (min 255 n)
          let d := if 1 ≤ n then d.count (PXS_ALIGN q st) PXS_ALIGN_MISMATCH else d
          let k := if 1 < n then (d.synthS q st).diffs + 1 else 0
          let d := d.setSynth q st { d.synthS q st with diffs := if 4 ≤ k then 0 else k }
          if 4 ≤ k then d.checkEvent q ckSynthLock false else d
      d.lineStart q st stamp true line
    else d

/-- No timestamp has arrived by period 4: the Standby uses its own and counts the line (R275). -/
def execLinePhaseTimeout (t : Nat) (st : Station) (line : LineInfo) (s : State) : Result :=
  s.run t fun d =>
    let q := d.shadowSide
    match (d.synthS q st).own with
    | none => d
    | some own => (d.count (PXS_ALIGN q st) PXS_ALIGN_MISMATCH).lineStart q st own true line

/-- A Quarter's reference PLL. -/
def Device.refS (d : Device) (q : Side) : RefS := sget (fun _ => {}) d.ref q.code

def Device.setRef (d : Device) (q : Side) (v : RefS) : Device := d.withRef (sput (fun _ => {}) d.ref q.code v)

/-- A reference PLL is enabled: its lock-pin filter is tested by samples at 50 µs and 300 µs (R279, R281). -/
def execRefPllEnable (t : Nat) (q : Side) (mv50 mv300 : Nat) (s : State) : Result :=
  s.run t fun d =>
    let ok := decide (550 ≤ mv50) && decide (mv50 ≤ 900) && decide (1600 < mv300)
    let d := ((d.setFlag (PXS_REF_STATUS q) PXS_REF_STATUS_LOCKED false).setFlag (PXS_REF_STATUS q) PXS_REF_STATUS_FILTER_FAULT (!ok)).setRef q {}
    if ok then d else d.checkEvent q ckSynthLock false

/-- The reference lock is lost: a SYNTH_LOCK event (R281, R361, R521). -/
def Device.refDrop (d : Device) (q : Side) : Device :=
  (d.setFlag (PXS_REF_STATUS q) PXS_REF_STATUS_LOCKED false).checkEvent q ckSynthLock false

/-- The failure of one reference PLL: the PWM stages of the owner take the other Quarter's timebase (R521). -/
def Device.refLost (d : Device) (q : Side) : Device :=
  let d := if d.owner = q then d.modClk (fun v => { v with tbOther := setNatBit v.tbOther q.code true }) else d
  d.refDrop q

/-- The peak-to-peak value of samples. -/
def peakToPeak (l : List Nat) : Nat := l.foldl max 0 - l.foldl min (l.headD 0)

/-- A 100 kHz sample of the filter node; the ripple is that of the last 1 ms, 100 samples. It declares lock or loss of lock (R280). -/
def execLockPinSample (t : Nat) (q : Side) (mv : Nat) (s : State) : Result :=
  s.run t fun d =>
    let v := d.refS q
    let samples := (mv :: v.samples).take 100
    let ripple := peakToPeak samples
    let d := (d.setFld (PXS_REF_STATUS q) PXS_REF_STATUS_LEVEL_MV (min 1023 mv)).setFld (PXS_REF_STATUS q) PXS_REF_STATUS_RIPPLE_MV (min 1023 ripple)
    let since := if mv < d.fld (PXS_REF_CFG q) PXS_REF_CFG_V_LOCK then some (v.since.getD d.now) else none
    let above := if d.fld (PXS_REF_CFG q) PXS_REF_CFG_V_LOSS < mv then v.above + 1 else 0
    let d := d.setRef q { samples, since, above := min 3 above }
    if d.refLocked q then (if 3 ≤ above then d.refDrop q else d)
    else
      let hold := d.fld (PXS_REF_CFG q) PXS_REF_CFG_HOLD_MS * tuPerMs
      match since with
      | some x =>
        if x + hold ≤ d.now ∧ ripple < 100 ∧ !d.flag (PXS_REF_STATUS q) PXS_REF_STATUS_FILTER_FAULT then
          d.setFlag (PXS_REF_STATUS q) PXS_REF_STATUS_LOCKED true
        else d
      | none => d

/-- No lock within 5 ms of enable (R281). -/
def execRefLockTimeout (t : Nat) (q : Side) (s : State) : Result :=
  s.run t fun d => if d.refLocked q then d else d.checkEvent q ckSynthLock false

/-- A missing reference or a lasting phase error: the synthesizer coasts; ACQUIRE and FREQ will restart FREQ (R282, R287). -/
def execCoastEntry (t : Nat) (q : Side) (st : Station) (cause : CoastCause) (s : State) : Result :=
  s.run t fun d =>
    match cause with
    | .missingReference | .phaseError =>
      let x := d.pxState q st
      if x = pxLocked ∨ x = pxSlew then
        ((d.setPx q st pxCoast).setSynth q st { d.synthS q st with refreq := false }) |> fun d => if d.owner = q then d.measStop st else d
      else if x = pxAcquire ∨ x = pxFreq then
        (d.setPx q st pxCoast).setSynth q st { d.synthS q st with refreq := true }
      else d

/-- 10 ms in COAST while the station images: it goes safe after the line (R283). -/
def execCoastTimeout (t : Nat) (q : Side) (st : Station) (s : State) : Result :=
  s.run t fun d => if d.pxState q st = pxCoast ∧ d.images st ∧ d.owner = q then d.goSafe st 4 false else d

/-- A relock after 1 024 edges of the reference, once its lock is declared, at an offset of `delta` steps (R285, R287). -/
def execRelock (t : Nat) (q : Side) (st : Station) (delta : Int) (s : State) : Result :=
  s.run t fun d =>
    if d.pxState q st = pxCoast ∧ d.refLocked q then
      if (d.synthS q st).refreq then (d.setSynth q st { d.synthS q st with refreq := false }).enterFreq q st
      else
        let r := max (-32) (min 31 delta)
        let d := (d.setFld (PXS_SLEW q st) PXS_SLEW_MAX_ERR r.natAbs).setFld (PXS_SLEW q st) PXS_SLEW_RESIDUAL (ofSigned 8 r)
        if r = 0 then d.lockPx q st else d.setPx q st pxSlew
    else d

/-- Whether a running synthesizer of a Quarter needs the high operating point (R532, R533). -/
def Device.pixNeedsHigh (d : Device) (q : Side) : Bool :=
  (List.range 8).any (fun s => decide (2 ≤ d.pxState q s) && decide (d.pxState q s ≤ 5) && decide (160 * 100 * 2 ^ 20 < d.fNom q s * 103))

end Sys2Proof.Machine
end

