-- ==== Sys2Proof/Machine/Enwell.lean ====
section
/-! DEFINITION. The Enwell link (R326 to R357): ports, telemetry, and the sending of segments. ENW_STATUS.STATE is the port's state. -/

namespace Sys2Proof.Machine

/-- Whether the lanes of a Quarter are powered and do not power down. -/
def Device.lanesLive (d : Device) (q : Side) : Bool :=
  d.domainIsOn (laneDomain q) && !natBit (d.fld PWR_DOM_STATUS PWR_DOM_STATUS_BUSY) (laneDomain q)

/-- Whether the new Quarter of a hard yield has stations that have not caught up: what it misses does not count (R379). -/
def Device.catchingUp (d : Device) (q : Side) : Bool :=
  match d.transfer with
  | some x => x.kind == 2 && x.old != q && x.waiting != 0
  | none => false

/-- Whether both Quarters transmit (R373). -/
def Device.inOverlap (d : Device) : Bool := d.north.transmits && d.south.transmits

/-- The FIFO levels of a station set its port's panic (R192): they count in the active scan and read 100 % outside it. A port whose station catches
up stays at PANIC1 (R372); the ports of a Yielded or Testing Quarter issue no requests (R196). -/
def Device.fifoLevels (d : Device) (q : Side) (s : Nat) : Device :=
  let p := pk q s
  let l := d.lineS q s
  let low := if l.image && d.scanning q s && d.role q != .yielded && d.role q != .testing then l.levels.foldl min 24576 else 24576
  let was1 := natBit (d.fld RDB_PANIC RDB_PANIC_PANIC1) p
  let was2 := natBit (d.fld RDB_PANIC RDB_PANIC_PANIC2) p
  let p1 := decide (low < 9830) || d.waitsFor q s
  let p2 := decide (low < 3686)
  let d := d.setFld RDB_PANIC RDB_PANIC_PANIC1 (setNatBit (d.fld RDB_PANIC RDB_PANIC_PANIC1) p p1)
  let d := d.setFld RDB_PANIC RDB_PANIC_PANIC2 (setNatBit (d.fld RDB_PANIC RDB_PANIC_PANIC2) p p2)
  let d := if p1 && !was1 then d.count RDB_PANIC_CNT RDB_PANIC_CNT_PANIC1_CNT else d
  if p2 && !was2 then d.count RDB_PANIC_CNT RDB_PANIC_CNT_PANIC2_CNT else d

/-- The groups whose segments a chunk has: 0 to 7, and 8 where a spare is mapped (R334). -/
def Device.groups (d : Device) (q : Side) (s : Nat) : List Nat := if d.spares q s then List.range 9 else List.range 8

/-- Whether a Quarter sends segments for a station now (R324, R347): its port serves, the station prints, is not safe and has caught up. -/
def Device.sends (d : Device) (q : Side) (s : Nat) : Bool := d.portServes q s && (d.print s).isSome && !d.waitsFor q s

/-! The send times of a chunk of the line in progress (R338), in 1/64 ns. -/

/-- D(k): LEAD before the earliest time of the chunk's first column. -/
def Device.chunkDeadline (d : Device) (q : Side) (s k : Nat) : Nat :=
  let v := d.synthS q s
  let early := v.pred - d.pxWin q s * d.nat (PXS_PERIOD q s) / 1024 +
    d.columnTime q s (d.fld (PXS_STATUS q s) PXS_STATUS_FACET_ID) v.dots v.res1200 (256 * k)
  early - max 30 (d.fld (ENW_TX_CFG q s) ENW_TX_CFG_LEAD) * 6400

/-- E(k): AHEAD before the deadline. -/
def Device.chunkStart (d : Device) (q : Side) (s k : Nat) : Nat :=
  d.chunkDeadline q s k - d.fld (ENW_TX_CFG q s) ENW_TX_CFG_AHEAD * 6400

/-- Send the segments of groups of a chunk; rows of the substreams in `mask` are blank. -/
def Device.sendSegments (d : Device) (q : Side) (s k mask : Nat) (gs : List Nat) : Device :=
  if d.sends q s then
    let blank := (gs.filter (fun g => d.blankRows q s g mask != 0)).length
    let l := d.lineS q s
    let d := if gs = [] then d else d.sendBlocks q s (gs.flatMap (fun g => packet (d.segment q s l g k mask)))
    let d := d.setNat (ENW_CNT0 q s) (d.nat (ENW_CNT0 q s) + gs.length)
    if blank = 0 then d else d.addSat (ENW_CNT1 q s) ENW_CNT1_BLANK blank
  else d

/-- Move on to a segment of the line. -/
def Device.sentTo (d : Device) (q : Side) (s chunk group : Nat) : Device := d.setLine q s { d.lineS q s with chunk, group }

/-- The decoders of a station in a Quarter have written so much of the band (R230). -/
def Device.decodedTo (d : Device) (q : Side) (s : Nat) (written : List Nat) : Device :=
  d.setLine q s ((d.lineS q s).decodeTo written)

/-- The groups that may go before the deadline: in ascending order, up to the first that lacks data (R322, R334). -/
def Device.readyGroups (d : Device) (q : Side) (s k : Nat) : List Nat :=
  let l := d.lineS q s
  let mask := l.blank ||| l.dead ||| l.ue
  (d.groups q s).takeWhile (fun g => (d.groupNeeds q s g).all (fun n => l.holds n k && !natBit mask n))

/-- The earliest start of a chunk arrives (R338): the decoders have written so much, the FIFO levels are seen (R192), and the segments whose data is
there are sent. No segment of a chunk starts before E(k), nor before those of the chunk ahead of it (R334). -/
def execSegmentSendWindow (t : Nat) (q : Side) (st : Station) (chunk : Nat) (written : List Nat) (s : State) : Result :=
  s.run t fun d =>
    if !(d.lineS q st).image then d.fifoLevels q st
    else
      let d := (d.decodedTo q st written).fifoLevels q st
      let l := d.lineS q st
      if chunk ≠ l.chunk ∨ l.group ≠ 0 ∨ chunksOf l.dots ≤ chunk ∨ d.now < d.chunkStart q st chunk then d
      else
        let gs := d.readyGroups q st chunk
        (d.sendSegments q st chunk 0 gs).sentTo q st chunk gs.length

/-- A line that carries a BLANK segment counts once (BMO_CNT0.LATE), late data or not. -/
def Device.countBlank (d : Device) (q : Side) (s : Nat) : Device :=
  if (d.lineS q s).blanked then d else (d.setLine q s { d.lineS q s with blanked := true }).count (BMO_CNT0 q s) BMO_CNT0_LATE

/-- A line of a station in a Quarter is late for the substreams of a mask from chunk `k` on (R56, R322): once per line it counts, in the Quarter's
check too. -/
def Device.lateLine (d : Device) (q : Side) (s mask k : Nat) : Device :=
  let l := d.lineS q s
  let d := (d.setLine q s { l.cutFrom mask k with late := true }).countBlank q s
  let d := if l.late then d
    else
      let d := d.setFlag (BMO_STATUS q s) BMO_STATUS_LATE_LINE true
      let d := if d.owner = q ∧ d.flag (BMO_CTRL q s) BMO_CTRL_LATE_DEFECT then d.stationsDefective (2 ^ s) 1 else d
      if d.catchingUp q then d else d.checkEvent q ckLateSeg false
  d

/-- The substreams of a mask that lack data for a chunk (R322). -/
def LineS.missing (l : LineS) (k : Nat) : Nat := (List.range 8).foldl (fun m n => setNatBit m n (!l.holds n k)) 0

/-- Deadline D(k) of a chunk (R322, R338): the segments not yet sent go now, BLANK in the rows of the substreams that lack data or are blank already; those
blank for an uncorrectable error are no late data (R177), but the line counts in BMO_CNT0.LATE all the same. During an overlap the BLANK
ones are omitted instead (R373). -/
def execSegmentDeadline (t : Nat) (q : Side) (st : Station) (chunk : Nat) (written : List Nat) (s : State) : Result :=
  s.run t fun d =>
    if !(d.lineS q st).image then d
    else
      let d := (d.decodedTo q st written).fifoLevels q st
      let l := d.lineS q st
      if chunksOf l.dots ≤ chunk ∨ chunk < l.chunk ∨ d.now < d.chunkDeadline q st chunk then d
      else
        let late := (l.missing chunk ||| l.blank ||| l.dead) &&& (255 - l.ue % 256)
        let mask := late ||| l.ue
        let gs := (d.groups q st).drop (if chunk = l.chunk then l.group else 0)
        let clean := gs.filter (fun g => d.blankRows q st g mask == 0)
        let overlap := d.inOverlap
        let d := (d.sendSegments q st chunk mask (if overlap then clean else gs)).sentTo q st (chunk + 1) 0
        if mask = 0 ∨ overlap then d
        else
          let d := d.setLine q st ((d.lineS q st).cutFrom mask chunk)
          if late = 0 then d.countBlank q st else d.lateLine q st late chunk

/-- A decoder meets a stream error at print time (R233): its substream goes BLANK for the rest of the band. -/
def execDecodeStreamError (t : Nat) (q : Side) (st : Station) (sub : Fin 8) (s : State) : Result :=
  s.run t fun d =>
    let l := d.lineS q st
    let d := d.ledgerEvent lbDecodeErr q.code (8 * st.val + sub.val) 0
    if (d.print st).isSome then (d.setLine q st { l with dead := l.dead ||| 2 ^ sub.val }).lateLine q st (2 ^ sub.val) l.chunk else d

/-- A loopback mismatch of a port (R342). -/
def Device.loopMismatch (d : Device) (q : Side) (s : Nat) : Device :=
  ((d.count (ENW_TLM_CNT0 q s) ENW_TLM_CNT0_LOOP_MISMATCH).setFlag (ENW_STATUS q s) ENW_STATUS_LOOP_ERR true).checkEvent q ckTlmLoop true

/-- A port in UP goes DOWN (R345). -/
def Device.portDown (d : Device) (q : Side) (s : Nat) : Device :=
  if d.enState q s = enUp then (d.setEn q s enDown).ledgerEvent lbLinkDown q.code s 0 else d

/-- A DOWN port runs bring-up once the station does not image or the Quarter does not transmit (R345). -/
def Device.portAgain (d : Device) (q : Side) (s : Nat) : Device :=
  if d.enState q s = enDown ∧ (d.print s = none ∨ !(d.q q).transmits) ∧ d.lanesLive q then d.trainPort q s else d

/-- The code table of a station as CODE_TABLE sends it (R309, R336). -/
def Device.codeTable (d : Device) (s : Nat) : List Byte := let b := d.entry 0x07 s 8; b ++ List.replicate (64 - b.length) 0

/-- Whether a frame shows the loop token under R342: taken 16 µs or more after the LOOP block. -/
def Device.echoDue (d : Device) (q : Side) (s : Nat) : Bool := decide ((d.portS q s).tokenAt + 16 * tuPerUs ≤ d.now)

/-- The state of a port after a good frame (R343, R345). -/
def Device.portFrame (d : Device) (q : Side) (s : Nat) (b : List Byte) : Device :=
  let lock := bytesAt b 20 1 % 16
  let v := d.portS q s
  let match_ := d.echoDue q s && bytesAt b 4 2 == v.token
  match d.enState q s with
  | 1 => if lock = 15 ∧ bytesAt b 1 1 = 1 then ((d.setEn q s enConfig).sendMessage q s 1 (helloPayload q s)).sendMessage q s 2 (d.codeTable s) else d
  | 2 =>
    let ok := v.tableOk || bytesAt b 28 4 == (crc32c (d.codeTable s)).toNat
    let d := d.setPort q s { v with tableOk := ok }
    if v.tableOk && match_ then d.setEn q s enUp else d
  | 3 => if lock ≠ 15 then d.portDown q s else if d.echoDue q s && !match_ then d.loopMismatch q s else d
  | 5 => d.loopMismatch q s
  | _ => d

/-- What the Active Quarter takes from a frame on its own lane (R341): the head temperature, a measurement, a rise of HOLES. -/
def Device.ownFrame (d : Device) (q : Side) (s : Nat) (b : List Byte) (holes : Nat) : Device :=
  let d := d.headTemp q s (toSigned 16 (bytesAt b 6 2) / 8)
  let d := if natBit (bytesAt b 21 1) 5 then d.measured s (bytesAt b 22 1) (bytesAt b 24 2) (bytesAt b 26 2) else d
  if bytesAt b 12 2 ≠ holes then
    let d := (d.setFlag (ENW_STATUS q s) ENW_STATUS_HOLE true).ledgerEvent lbLinkHole q.code s 0
    if d.catchingUp q then d else d.checkEvent q ckLateSeg false
  else d

/-- A telemetry frame's body arrives (R340 to R345). -/
def execTelemetryFrame (t : Nat) (q : Side) (st : Station) (frame : List Byte) (s : State) : Result :=
  s.run t fun d =>
    if d.enState q st = enOff then d
    else if frame.length ≠ 64 ∨ bytesAt frame 0 1 ≠ 0x11 ∨ !crcGood frame 56 then
      let d := d.count (ENW_TLM_CNT0 q st) ENW_TLM_CNT0_TLM_CRC
      if d.enState q st = enDown then d.loopMismatch q st else d
    else
      let holes := d.fld (ENW_TLM_CNT1 q st) ENW_TLM_CNT1_HOLES
      let first := (d.portS q st).goodAt = 0
      let d := d.setPort q st { d.portS q st with goodAt := d.now }
      let d := (d.setFld (ENW_STATUS q st) ENW_STATUS_LANE_LOCK (bytesAt frame 20 1 % 16)).setFld (ENW_STATUS q st) ENW_STATUS_MOD_PROTO (bytesAt frame 1 1)
      let d := if natBit (bytesAt frame 21 1) 1 then d.setFlag (ENW_STATUS q st) ENW_STATUS_CLK_LOSS true else d
      let d := d.setFld (ENW_MOD_BUF q st) ENW_MOD_BUF_BUF (bytesAt frame 32 2)
      let d := if first then d.bufCompare q st else d
      let d := (d.setFld (ENW_TLM_CNT1 q st) ENW_TLM_CNT1_HOLES (bytesAt frame 12 2)).setFld (ENW_TLM_CNT1 q st) ENW_TLM_CNT1_CRC_ERR (bytesAt frame 14 2)
      let d := (d.setFld (ENW_TLM_CNT2 q st) ENW_TLM_CNT2_DUP (bytesAt frame 16 2)).setFld (ENW_TLM_CNT2 q st) ENW_TLM_CNT2_STALE (bytesAt frame 18 2)
      let d := (d.setFld (ENW_MOD_STATUS q st) ENW_MOD_STATUS_STATUS (bytesAt frame 21 1)).setFld (ENW_MOD_STATUS q st) ENW_MOD_STATUS_FAULT_CODE (bytesAt frame 34 1)
      let d := if d.token = some q then d.ownFrame q st frame (if first then bytesAt frame 12 2 else holes) else d
      d.portFrame q st frame

/-- 50 µs with no good frame: a loopback mismatch, and a port in UP goes DOWN (R342, R345). -/
def execTelemetryTimeout (t : Nat) (q : Side) (st : Station) (s : State) : Result :=
  s.run t fun d =>
    if d.enState q st = enUp ∨ d.enState q st = enDown then (d.portDown q st).loopMismatch q st else d

/-- 16 invalid sync headers within 64 blocks: the lane loses block lock, and a port in UP goes DOWN (R345). -/
def execTlmSyncLoss (t : Nat) (q : Side) (st : Station) (s : State) : Result :=
  s.run t fun d => (d.setFlag (ENW_STATUS q st) ENW_STATUS_TLM_LOCK false).portDown q st

/-- 64 valid sync headers in a row: the lane has block lock (R343). -/
def execTelemetryBlockLock (t : Nat) (q : Side) (st : Station) (s : State) : Result :=
  s.run t fun d => if d.enState q st = enOff then d else d.setFlag (ENW_STATUS q st) ENW_STATUS_TLM_LOCK true

/-- Every 64 µs a port sends a LOOP block with the next token (R342). A DOWN port that may now run bring-up starts it (R345). -/
def execLoopTick (t : Nat) (q : Side) (st : Station) (s : State) : Result :=
  s.run t fun d =>
    let d := d.portAgain q st
    let x := d.enState q st
    if x = enConfig ∨ x = enUp ∨ x = enDown then
      let token := ((d.portS q st).token + 1) % 65536
      (d.setPort q st { d.portS q st with token, tokenAt := d.now }).sendBlocks q st [ctlBlock btLoop (leBytes 2 token)]
    else d

/-- ENABLE of a port is set: bring-up starts where the lanes are powered (R343). -/
def Device.portOn (d : Device) (q : Side) (s : Nat) : Device :=
  if d.flag (ENW_CTRL q s) ENW_CTRL_ENABLE then d
  else
    let d := d.setFlag (ENW_CTRL q s) ENW_CTRL_ENABLE true
    if d.flag (ENW_CTRL q s) ENW_CTRL_BUSY || !d.lanesLive q then d else d.trainPort q s

/-- Set ENW_CTRL.ENABLE. -/
def execPortEnable (t : Nat) (q : Side) (st : Station) (s : State) : Result := s.run t fun d => d.portOn q st

/-- A port is off; an enable written meanwhile takes effect (R51). -/
def Device.portStopped (d : Device) (q : Side) (s : Nat) : Device :=
  let d := (d.setFlag (ENW_CTRL q s) ENW_CTRL_BUSY false).setEn q s enOff
  if d.flag (ENW_CTRL q s) ENW_CTRL_ENABLE then (d.setFlag (ENW_CTRL q s) ENW_CTRL_ENABLE false).portOn q s else d

/-- ENABLE of a port is cleared: a segment in transmission is finished first (R50, R348). -/
def Device.portOff (d : Device) (q : Side) (s : Nat) : Device :=
  if !d.flag (ENW_CTRL q s) ENW_CTRL_ENABLE then d
  else
    let busy := d.sends q s
    let d := d.setFlag (ENW_CTRL q s) ENW_CTRL_ENABLE false
    if busy then d.setFlag (ENW_CTRL q s) ENW_CTRL_BUSY true else d.portStopped q s

/-- Clear ENW_CTRL.ENABLE. -/
def execPortDisable (t : Nat) (q : Side) (st : Station) (s : State) : Result := s.run t fun d => d.portOff q st

/-- RETRAIN restarts bring-up once the station does not image (R343). -/
def Device.portRetrain (d : Device) (q : Side) (s : Nat) : Device :=
  if !d.flag (ENW_CTRL q s) ENW_CTRL_ENABLE || d.enState q s == enOff then d
  else if (d.print s).isSome then d.setPort q s { d.portS q s with retrain := true }
  else d.trainPort q s

/-- Write ENW_CTRL.RETRAIN. -/
def execRetrain (t : Nat) (q : Side) (st : Station) (s : State) : Result := s.run t fun d => d.portRetrain q st

/-- A port is not UP 50 ms after TRAINING (R344). -/
def execBringupTimeout (t : Nat) (q : Side) (st : Station) (s : State) : Result :=
  s.run t fun d =>
    let x := d.enState q st
    if x = enTraining ∨ x = enConfig then (d.setEn q st enFailed).ledgerEvent lbLinkFail q.code st 0 else d

/-- 100 ms after FAILED, bring-up starts again while ENABLE = 1 (R344). -/
def execBringupRetry (t : Nat) (q : Side) (st : Station) (s : State) : Result :=
  s.run t fun d =>
    if d.enState q st = enFailed ∧ d.flag (ENW_CTRL q st) ENW_CTRL_ENABLE then d.trainPort q st else d

/-- Whether the lanes of a Quarter are powered in the present device state, but for link bring-up (R40): in Safe they stay as they were. -/
def Device.lanesRun (d : Device) : Bool := d.st == .ready || d.st == .printing || d.st == .draining

/-- Whether a Quarter has a port to bring up (R40, R343). -/
def Device.bringsUp (d : Device) (q : Side) : Bool :=
  (List.range 8).any (fun s => d.flag (ENW_CTRL q s) ENW_CTRL_ENABLE && d.enState q s != enUp)

/-- The lanes of a Quarter are in regulation: its enabled ports start bring-up (R343). -/
def Device.lanesPowered (d : Device) (q : Side) : Device :=
  d.each (List.range 8) (fun s d => if d.flag (ENW_CTRL q s) ENW_CTRL_ENABLE then d.trainPort q s else d)

/-- The lanes of a Quarter stop: its ports go DOWN (R345, R523). -/
def Device.lanesStop (d : Device) (q : Side) : Device := d.each (List.range 8) (fun s d => d.portDown q s)

/-- The lanes of a Quarter lose power: its ports are off, to start again with the lanes. -/
def Device.lanesOff (d : Device) (q : Side) : Device :=
  d.each (List.range 8) (fun s d =>
    ((d.setEn q s enOff).setFlag (ENW_STATUS q s) ENW_STATUS_TLM_LOCK false).setFld (ENW_STATUS q s) ENW_STATUS_LANE_LOCK 0)

/-- The lanes of a Quarter power down with the ports and the inspection lanes on them. -/
def Device.lanesDown (d : Device) (q : Side) : Device :=
  ((d.lanesOff q).setFlag (ENW_INSP_STATUS q) ENW_INSP_STATUS_ALIGNED false).domOn (laneDomain q) false

/-- The lanes of a Quarter power up. -/
def Device.lanesUp (d : Device) (q : Side) : Device :=
  if d.domainIsOn (laneDomain q) then d else (d.domOn (laneDomain q) true).lanesPowered q

/-- The power controller switches the domains that the device state powers (R40): from Ready on the codec and both Quarters' lanes are on,
but for the lanes of a Quarter that Testing has powered off. -/
def Device.domainsReady (d : Device) : Device :=
  (d.domOn 5 true).each (bothSides.filter (fun q => d.role q != .testing)) (fun q d => d.lanesUp q)

/-- In Held the lanes are off (R40), but for those of a Quarter in Testing. The codec stays until its idle time is over (R543). -/
def Device.domainsHeld (d : Device) : Device :=
  d.each (bothSides.filter (fun q => d.domainIsOn (laneDomain q) && d.role q != .testing)) (fun q d => d.lanesDown q)

/-- Whether the Timeline may release a station (R259, R324, R339, R346, R463, R587). -/
def Device.releasable (d : Device) (s : Nat) : Bool :=
  let q := d.owner
  let locked := fun q => d.pxState q s == pxLocked || d.role q == .yielded || d.role q == .testing
  locked .north && locked .south && d.enState q s == enUp && !d.flag (ENW_STATUS q s) ENW_STATUS_CFG_ERR &&
    d.flag (BMO_CTRL q s) BMO_CTRL_ENABLE && !d.isSafe s && d.unitReleasable s &&
    d.fld (MOT_POLY_STATUS q s) MOT_POLY_STATUS_STATE != 7

end Sys2Proof.Machine
end

