-- ==== Sys2Proof/Machine/Signals.lean ====
section
/-! DEFINITION. Encoder counts and the signals of the Regulator (R429, R479): what every engine reads. -/

namespace Sys2Proof.Machine

/-- A new raw count: the filtered position follows it with the hysteresis of R479, and the facet grids follow the position (R409). -/
def Device.newCount (d : Device) (q : Side) (e : Nat) (r : Int) : Device :=
  let r := wrap32 r
  let d := d.setReg (AXS_ENC_RAW q e) (BitVec.ofInt 32 r)
  let old := d.int (AXS_ENC_POS q e)
  let f := old
  let h : Int := d.fld (AXS_ENC_CFG q e) AXS_ENC_CFG_HYST
  let diff := wrap32 (r - f)
  let f := if 0 < diff then r else if diff < -h then wrap32 (r + h) else f
  (d.setReg (AXS_ENC_POS q e) (BitVec.ofInt 32 f)).pitchEdge q e old

/-- Gray code to binary. -/
def grayToBin : Nat → Nat → Nat
  | 0, v => v
  | n + 1, v => v ^^^ grayToBin n (v / 2)

/-- A read of the SSI encoder (R482): all ones count as an error. -/
def Device.ssiRead (d : Device) (q : Side) (raw : Nat) : Device :=
  let bits := min 32 (max 8 (d.fld (AXS_SSI_CFG q) AXS_SSI_CFG_BITS))
  let v := raw % 2 ^ bits
  if v = 2 ^ bits - 1 then d.addSat (AXS_ENC_ERR q 8) wholeWord 1
  else d.newCount q 8 (if d.flag (AXS_SSI_CFG q) AXS_SSI_CFG_GRAY then grayToBin bits v else v)

/-- BASE_CYC in timebase cycles (R424). -/
def Device.baseCyc (d : Device) (q : Side) : Nat := max 4000 (d.fld (REG_BASE q) REG_BASE_BASE_CYC)

/-- SPD_SLOT of a PMSM controller (R458, R470). -/
def Device.spdSlot (d : Device) (n : Nat) : Nat := bytesAt (d.entry 0x04 0 (8 + n)) 54 2

/-- Clamp to 32 bits (R428). -/
def sat32 (v : Int) : Int := max (-2147483648) (min 2147483647 v)

/-- The commanded acceleration of an axis at a tick of the timebase, in microsteps per base period² × 2^24 (R429). -/
def Device.axisAccel (d : Device) (q : Side) (a tick : Nat) : Int :=
  ((d.axisS q a).plan.kinAt tick).a / (tickRate : Int) * ((d.baseCyc q ^ 2 * 2 ^ 24 : Nat) : Int) / ((640000000000000000 : Nat) : Int)

/-- A signal of R429, before it is clamped. Class 6 is the change of a speed setpoint (R470). -/
def Device.rawSignal (d : Device) (q : Side) (src : Nat) : Int :=
  let i := src % 4096
  match src / 4096 with
  | 1 => (sget (fun _ => 0) d.rgl.adc i : Nat) * ((2 ^ 19 : Nat) : Int)
  | 2 => d.int (REG_SLOT_OUT q i)
  | 3 => d.int (REG_SLOT_SP q i)
  | 4 => sget (fun _ => 0) d.rgl.vel (16 * q.code + i) * ((2 ^ 16 : Nat) : Int)
  | 5 => d.axisAccel q i d.timeTick
  | 6 => (d.slotS q (d.spdSlot i)).accel * 256
  | 7 => d.int (MOT_POLY_SPEED q i)
  | 8 => toSigned 16 (d.fld (PXS_PHASE_ERR q i) PXS_PHASE_ERR_E) * ((2 ^ 16 : Nat) : Int)
  | 9 => (sget (fun _ => 0) d.params i).toInt
  | 10 => (d.fld PWR_VIN PWR_VIN_VIN : Nat) * ((2 ^ 16 : Nat) : Int)
  | 11 => (d.fld (MOT_BUS_V q) (if i = 0 then MOT_BUS_V_V0 else MOT_BUS_V_V1) : Nat) * (100 * 256 : Int)
  | _ => 0

/-- A signal of R429: 32 bits, and no operation wraps (R428). -/
def Device.signal (d : Device) (q : Side) (src : Nat) : Int := sat32 (d.rawSignal q src)

/-- The commanded acceleration `n` base periods ahead, for FF_ACC (R433): an axis follows its trajectory. -/
def Device.accelAhead (d : Device) (q : Side) (src n : Nat) : Int :=
  let i := src % 4096
  if n = 0 then d.signal q src
  else
    match src / 4096 with
    | 5 => sat32 (d.axisAccel q i (d.timeTick + n * d.baseCyc q))
    | 6 => (Config.accelAhead q.code i (sget (fun _ => 0) d.rgl.ticks q.code) n).toInt
    | _ => d.signal q src

end Sys2Proof.Machine
end

