-- ==== Sys2Proof/Machine/Regulator.lean ====
section
/-! DEFINITION. The Regulator engine (R424 to R451). -/

namespace Sys2Proof.Machine

/-- The product of a value and a coefficient C with shift S (R428). -/
def mulC (a c : Int) (s : Nat) : Int := sat32 ((a * c + (if s = 0 then 0 else ((2 ^ (s - 1) : Nat) : Int))) / ((2 ^ s : Nat) : Int))

/-- A quotient rounded to the nearest integer, for what R428's product does not cover. -/
def divNear (a b : Int) : Int := if b = 0 then 0 else if 0 < b then (2 * a + b) / (2 * b) else (2 * (-a) + (-b)) / (2 * (-b))

def clampI (lo hi v : Int) : Int := max lo (min hi v)

/-- The primitives of a mode (R433). -/
def modePrims (h : List Byte) (mode : Nat) : List Nat :=
  if hSplit h = 0 then List.range (hNprim h)
  else if mode = 0 then List.range (hSplit h)
  else (List.range (hNprim h)).drop (hSplit h)

/-- Whether a mode holds a PI or PID. -/
def piIn (h : List Byte) (ps : List Nat) : Option Nat := ps.find? (fun p => hOp h p == 5 || hOp h p == 6)

/-- The g of FF_VIN as a fraction, clamped to 0.5 … 2.0 (R433). -/
def ffGain (c0 sig : Int) : Int × Int :=
  if 2 * c0 < sig then (1, 2) else if sig ≤ 0 ∨ 2 * sig < c0 then (2, 1) else (c0, sig)

/-- A chain in evaluation: the running value, the integrator, and each primitive's input and output. -/
structure Chain where
  x : Int
  i : Int
  memo : List (Int × Int)

/-- What a chain reads: setpoint, feedback, output limits, whether integrators hold, and the previous output's limit state. -/
structure ChainIn where
  sp : Int
  fb : Int
  lo : Int
  hi : Int
  hold : Bool
  atMax : Bool
  atMin : Bool

/-- The coefficients of a primitive as their registers hold them. -/
def Device.coef (d : Device) (q : Side) (n p k : Nat) : Int :=
  match k with
  | 0 => d.int (REG_COEF_C0 q n p)
  | 1 => d.int (REG_COEF_C1 q n p)
  | _ => d.int (REG_COEF_C2 q n p)

def Device.shift (d : Device) (q : Side) (n p k : Nat) : Nat :=
  d.fld (REG_COEF_SHIFT q n p) (match k with | 0 => REG_COEF_SHIFT_S0 | 1 => REG_COEF_SHIFT_S1 | _ => REG_COEF_SHIFT_S2)

/-- One primitive (R433, R435). -/
def Device.evalPrim (d : Device) (q : Side) (n : Nat) (h : List Byte) (v : ChainIn) (c : Chain) (p : Nat) : Chain :=
  let sig := d.signal q (hSrc h p)
  let c0 := d.coef q n p 0
  let c1 := d.coef q n p 1
  let c2 := d.coef q n p 2
  let s0 := d.shift q n p 0
  let s1 := d.shift q n p 1
  let s2 := d.shift q n p 2
  let u := c.x
  let (uPrev, yPrev) := (d.slotS q n).prev.getD p (0, 0)
  let held := v.hold || (v.atMax && decide (0 < u)) || (v.atMin && decide (u < 0))
  let i := if held then c.i else clampI v.lo v.hi (sat32 (c.i + mulC u c1 s1))
  let pi := sat32 (mulC u c0 s0 + i)
  let (y, i) :=
    match hOp h p with
    | 0x01 => (sat32 (v.sp - v.fb), c.i)
    | 0x02 => (sat32 (mulC sig c0 s0 + c1), c.i)
    | 0x03 => (sat32 (u + mulC sig c0 s0), c.i)
    | 0x04 => (mulC u c0 s0, c.i)
    | 0x05 => (pi, i)
    | 0x06 => (sat32 (pi + mulC (sat32 (u - uPrev)) c2 s2), i)
    | 0x07 => (sat32 (sat32 (mulC u c0 s0 + mulC uPrev c1 s1) + mulC yPrev c2 s2), c.i)
    | 0x08 =>
      let g := ffGain c0 sig
      let once := fun x => sat32 (divNear (x * g.1) g.2)
      (if c1 = 2 then sat32 (divNear (u * g.1 * g.1) (g.2 * g.2)) else once u, c.i)
    | 0x09 => (sat32 (u + mulC (d.accelAhead q (hSrc h p) c1.toNat) c0 s0), c.i)
    | 0x0A => (clampI c0 c1 u, c.i)
    | 0x0B => (mulC u sig s0, c.i)
    | _ => (u, c.i)
  { x := y, i, memo := c.memo ++ [(u, y)] }

/-- Whether a primitive is LIMIT, which the hand-over ignores (R439). -/
def isLimit (h : List Byte) (p : Nat) : Bool := hOp h p == 0x0A

/-- Undo the primitives after a PI or PID to find what its output must be for the chain to give `y`; none where a factor is 0 (R439). -/
def Device.invert (d : Device) (q : Side) (n : Nat) (h : List Byte) (y : Int) : List Nat → Option Int
  | [] => some y
  | p :: r =>
    match d.invert q n h y r with
    | none => none
    | some y =>
      let sig := d.signal q (hSrc h p)
      let c0 := d.coef q n p 0
      let s0 := d.shift q n p 0
      match hOp h p with
      | 0x03 => some (y - mulC sig c0 s0)
      | 0x09 => some (y - mulC (d.accelAhead q (hSrc h p) (d.coef q n p 1).toNat) c0 s0)
      | 0x04 => if c0 = 0 then none else some (divNear (y * ((2 ^ s0 : Nat) : Int)) c0)
      | 0x0B => if sig = 0 then none else some (divNear (y * ((2 ^ s0 : Nat) : Int)) sig)
      | 0x08 =>
        let g := ffGain c0 sig
        some (if d.coef q n p 1 = 2 then divNear (y * g.2 * g.2) (g.1 * g.1) else divNear (y * g.2) g.1)
      | _ => some y

/-- The integrator with which the new mode's chain gives the last output (R439). -/
def Device.preload (d : Device) (q : Side) (n : Nat) (h : List Byte) (v : ChainIn) (ps : List Nat) (y : Int) : Option Int :=
  match piIn h ps with
  | none => none
  | some p =>
    let before := ps.takeWhile (· != p) |>.filter (fun p => !isLimit h p)
    let after := (ps.dropWhile (· != p)).drop 1 |>.filter (fun p => !isLimit h p)
    let c := before.foldl (d.evalPrim q n h { v with hold := true }) { x := 0, i := 0, memo := [] }
    match d.invert q n h y after with
    | none => none
    | some y =>
      let u := c.x
      let dTerm := if hOp h p = 6 then mulC (sat32 (u - ((d.slotS q n).prev.getD p (0, 0)).1)) (d.coef q n p 2) (d.shift q n p 2) else 0
      some (clampI v.lo v.hi (y - mulC u (d.coef q n p 0) (d.shift q n p 0) - dTerm))

/-- A slot enters its fallback (R446): SAFE puts its output at IDLE at once. One that is in a fallback keeps its first cause (R449). -/
def Device.slotFallback (d : Device) (q : Side) (n cause : Nat) : Device :=
  if d.inFallback q n then d
  else
    let h := d.slotEntry n
    let d := d.setFallback q n true cause
    let d := if d.owner = q then d.ledgerEvent lbRegFallback q.code (65536 * cause + n) 0 else d
    if d.fallKind q n = 2 then d.putOut q n (hIdle h) else d

/-- A slot leaves its fallback (R447). -/
def Device.leaveFallback (d : Device) (q : Side) (n : Nat) : Device :=
  (d.setFallback q n false 0).setSlot q n { d.slotS q n with safe := false }

/-- Whether an open or a short is present at the slot's feedback (R445). -/
def Device.openNow (d : Device) (q : Side) (n : Nat) : Bool :=
  let c := d.fld (REG_OS_CFG q) REG_OS_CFG_OS_COUNT
  let c := if c = 0 then 4 else c
  hBit (d.slotEntry n) 2 && (decide (c ≤ (d.slotS q n).opens) || (hBit (d.slotEntry n) 1 && decide (c ≤ (d.slotS q n).shorts)))

/-- RESUME (R447): ignored while an open or a short remains; the slot re-enters its mode by R439, and the freeze test restarts. -/
def Device.slotResume (d : Device) (q : Side) (n : Nat) : Device :=
  if !d.inFallback q n || d.openNow q n then d
  else (d.leaveFallback q n).setSlot q n { d.slotS q n with again := true, hist := [], safe := false }

/-- Whether a slot that the image loads runs. -/
def Device.slotRuns (d : Device) (q : Side) (n : Nat) : Bool :=
  d.flag (REG_CTRL q) REG_CTRL_ENABLE && !d.flag (REG_CTRL q) REG_CTRL_BUSY && d.flag (REG_SLOT_CTRL q n) REG_SLOT_CTRL_ENABLE &&
    !(d.slotEntry n).isEmpty

/-- Write a coefficient or the shifts of a primitive: `k` 0 to 2 for C0 to C2, 3 for SHIFTS. -/
def Device.putCoef (d : Device) (q : Side) (n p k : Nat) (v : Word) : Device :=
  match k with
  | 0 => d.setReg (REG_COEF_C0 q n p) v
  | 1 => d.setReg (REG_COEF_C1 q n p) v
  | 2 => d.setReg (REG_COEF_C2 q n p) v
  | _ => d.setReg (REG_COEF_SHIFT q n p) (v &&& 0x7FFF)

/-- A coefficient write (R441): queued while the slot is enabled, discarded where the queue is full, applied at once otherwise. -/
def Device.coefWrite (d : Device) (q : Side) (n p k : Nat) (v : Word) : Device :=
  if !d.slotRuns q n then d.putCoef q n p k v
  else
    let s := d.slotS q n
    if 8 ≤ s.queue.length then
      let d := d.setFlag (REG_SLOT_STATUS q n) REG_SLOT_STATUS_QUEUE_OVF true
      if d.owner = q then d.ledgerEvent lbRegQueueOvf q.code n 0 else d
    else
      (d.setSlot q n { s with queue := s.queue ++ [(p, k, v)] }).setFld (REG_SLOT_STATUS q n) REG_SLOT_STATUS_QUEUED (s.queue.length + 1)

/-- The oldest queued write applies at the start of a sample (R441). -/
def Device.applyQueued (d : Device) (q : Side) (n : Nat) : Device :=
  let s := d.slotS q n
  match s.queue with
  | [] => d
  | (p, k, v) :: r => ((d.setSlot q n { s with queue := r }).putCoef q n p k v).setFld (REG_SLOT_STATUS q n) REG_SLOT_STATUS_QUEUED r.length

/-- A base tick converts the analog input that a slot feeds back: conversions in a row at the open or the short code are counted (R445). -/
def Device.countOpenShort (d : Device) (q : Side) (n : Nat) : Device :=
  let h := d.slotEntry n
  if !hBit h 2 then d
  else
    let s := d.slotS q n
    let code := sget (fun _ => 0) d.rgl.adc (hFb h % 4096)
    d.setSlot q n { s with
      opens := if d.fld (REG_OS_CFG q) REG_OS_CFG_OPEN_CODE ≤ code then min 15 (s.opens + 1) else 0
      shorts := if code ≤ d.fld (REG_OS_CFG q) REG_OS_CFG_SHORT_CODE then min 15 (s.shorts + 1) else 0 }

/-- OS_COUNT, 0 taken as 4 (R445). -/
def Device.osCount (d : Device) (q : Side) : Nat :=
  let c := d.fld (REG_OS_CFG q) REG_OS_CFG_OS_COUNT
  if c = 0 then 4 else c

/-- The feedback of a sample, with the freeze, open and short tests (R444 to R446). -/
def Device.watchFeedback (d : Device) (q : Side) (n : Nat) (h : List Byte) (fb : Int) : Device :=
  let s := d.slotS q n
  let hist := ((d.int (REG_SLOT_OUT q n), fb) :: s.hist).take (hFreezeN h)
  let d := d.setSlot q n { s with hist := if hBit h 3 then hist else [] }
  let c := d.osCount q
  let fbs := hist.map (fun x => x.2)
  let frozen := hBit h 3 && hist.length == hFreezeN h && hist.all (fun x => decide (hFreezeOut h < x.1.natAbs)) &&
    decide (fbs.foldl max fb - fbs.foldl min fb < ((hDead h * 65536 : Nat) : Int))
  if hBit h 2 && decide (c ≤ s.opens) then d.slotFallback q n 2
  else if hBit h 2 && hBit h 1 && decide (c ≤ s.shorts) then d.slotFallback q n 3
  else if frozen then d.slotFallback q n 1
  else d

/-- Move an output toward a value by at most SLEW (R436). -/
def slewTo (slew : Nat) (y x : Int) : Int := if slew = 0 then x else clampI (y - slew) (y + slew) x

/-- Keep what the next sample needs of a chain: inputs and outputs of its primitives. -/
def keepPrev (old : List (Int × Int)) (ps : List Nat) (memo : List (Int × Int)) : List (Int × Int) :=
  (List.range 6).map (fun p =>
    match (ps.zip memo).find? (fun x => x.1 == p) with
    | some x => x.2
    | none => old.getD p (0, 0))

/-- Every eighth sample of a MIRRORED slot the integrator goes into the mirror frames (R366, R450). -/
def Device.shareInt (d : Device) (q : Side) (n : Nat) : Device :=
  let s := d.slotS q n
  let share := if hBit (d.slotEntry n) 6 && (s.runs + 1) % 8 == 0 then some (d.int (REG_SLOT_INT q n)) else s.share
  d.setSlot q n { s with runs := s.runs + 1, share }

/-- One sample of a slot that runs (R433 to R446). -/
def Device.runSlot (d : Device) (q : Side) (n : Nat) : Device :=
  let h := d.slotEntry n
  let d := d.applyQueued q n
  let fb := d.signal q (hFb h)
  let d := (d.setReg (REG_SLOT_FB q n) (BitVec.ofInt 32 fb)).watchFeedback q n h fb
  let s := d.slotS q n
  let y := d.int (REG_SLOT_OUT q n)
  let want := d.fld (REG_SLOT_CTRL q n) REG_SLOT_CTRL_MODE
  let fall := d.inFallback q n
  let sp := d.int (REG_SLOT_SP q n)
  let v : ChainIn := { sp, fb := if fall then sp else fb, lo := hMin h, hi := hMax h, hold := fall, atMax := decide (y = hMax h), atMin := decide (y = hMin h) }
  if fall && d.fallKind q n != 1 then d
  else if !fall && (s.again || want != s.mode) then
    let ps := modePrims h want
    let i0 := d.int (REG_SLOT_INT q n)
    let c := ps.foldl (d.evalPrim q n h v) { x := 0, i := i0, memo := [] }
    let i := (d.preload q n h v ps y).getD (if (piIn h ps).isSome then clampI (hMin h) (hMax h) i0 else 0)
    let d := d.setSlot q n { s with mode := want, again := false, prev := keepPrev s.prev ps c.memo }
    (d.setReg (REG_SLOT_INT q n) (BitVec.ofInt 32 i)).putOut q n y
  else
    let ps := modePrims h s.mode
    let c := ps.foldl (d.evalPrim q n h v) { x := 0, i := d.int (REG_SLOT_INT q n), memo := [] }
    let x := clampI (hMin h) (hMax h) c.x
    let out := slewTo (hSlew h) y x
    let d := d.setSlot q n { s with prev := keepPrev s.prev ps c.memo }
    let d := d.setReg (REG_SLOT_INT q n) (BitVec.ofInt 32 (if (piIn h ps).isSome then c.i else 0))
    let d := if x ≠ c.x then d.setFlag (REG_SLOT_STATUS q n) REG_SLOT_STATUS_SAT true else d
    (d.setFlag (REG_SLOT_STATUS q n) REG_SLOT_STATUS_SLEWING (decide (out ≠ x))).putOut q n out

/-- The winding-down slots of a Quarter other than `n`. -/
def Device.othersWind (d : Device) (q : Side) (n : Nat) : Bool :=
  (List.range 512).any (fun k => k != n && (d.slotS q k).wind != 0)

/-- A slot's wind-down ends; the engine's ends with the last slot's (R448). -/
def Device.slotStopped (d : Device) (q : Side) (n : Nat) : Device :=
  let d := (d.setSlot q n { d.slotS q n with wind := 0 }).setFlag (REG_SLOT_CTRL q n) REG_SLOT_CTRL_BUSY false
  if d.flag (REG_CTRL q) REG_CTRL_BUSY && !d.othersWind q n then d.setFlag (REG_CTRL q) REG_CTRL_BUSY false else d

/-- One sample of a slot that winds down (R448): held for one period, then toward IDLE at its slew limit. -/
def Device.windSlot (d : Device) (q : Side) (n : Nat) : Device :=
  let h := d.slotEntry n
  let s := d.slotS q n
  if s.wind = 1 then d.setSlot q n { s with wind := 2 }
  else
    let y := slewTo (hSlew h) (d.int (REG_SLOT_OUT q n)) (hIdle h)
    let d := d.putOut q n y
    if y = hIdle h then d.slotStopped q n else d

/-- A slot that is due at base tick `tick` (R424). -/
def dueAt (h : List Byte) (tick : Nat) : Bool := !h.isEmpty && tick % (hDiv h + 1) == hPhase h

/-- The primitive time at a pace level in half nanoseconds (R437): at the fast corner, and certified. -/
def primTime (pace : Nat) : Nat × Nat :=
  match pace with
  | 0 => (28, 80)
  | 1 => (20, 52)
  | 2 => (16, 40)
  | _ => (13, 32)

/-- The analog inputs that a sample of a slot reads: its feedback and the sources of its mode's primitives. -/
def Device.analogInputs (d : Device) (q : Side) (n : Nat) : List Nat :=
  let h := d.slotEntry n
  ((hFb h :: (modePrims h (d.fld (REG_SLOT_CTRL q n) REG_SLOT_CTRL_MODE)).map (hSrc h)).filter (fun x => x / 4096 == 1)).map (fun x => x % 4096)

/-- The bounds of the delay of a sample (R426, R438) in units of 10 ns, rounded outward. -/
def Device.delayBounds (d : Device) (q : Side) (n tick : Nat) : Nat × Nat :=
  let count := fun k => (modePrims (d.slotEntry k) (d.fld (REG_SLOT_CTRL q k) REG_SLOT_CTRL_MODE)).length
  let lower := (List.range n).filter (fun k => dueAt (d.slotEntry k) tick && d.slotRuns q k)
  let e := (lower.map count).sum
  let ready := (d.analogInputs q n).foldl (fun m k => max m (400 * (k % 12 + 1))) 0
  let t := primTime d.paceNow
  ((ready + count n * t.1) / 20, min 65535 ((ready + 5 + t.2 * ((e + 15) / 16 + count n) + 19) / 20))

/-- A sample of slot `n`. -/
def Device.sampleSlot (d : Device) (q : Side) (tick n : Nat) : Device :=
  if !dueAt (d.slotEntry n) tick then d
  else if (d.slotS q n).wind ≠ 0 then d.windSlot q n
  else if d.slotRuns q n then
    let b := d.delayBounds q n tick
    ((d.runSlot q n).shareInt q n).setFld (REG_SLOT_STATUS q n) REG_SLOT_STATUS_LAST_DELAY
      (max b.1 (min b.2 (Config.loopDelay (512 * q.code + n) tick).toNat))
  else d

/-- The velocities of the encoders over the base period (R429 class 4). -/
def Device.takeVelocities (d : Device) (q : Side) : Device :=
  d.each (List.range 9) (fun e d =>
    let k := 16 * q.code + e
    let p := d.position q e
    d.modRgl (fun v => { v with
        vel := sput (fun _ => 0) v.vel k (wrap32 (p - sget (fun _ => 0) v.prevPos k))
        prevPos := sput (fun _ => 0) v.prevPos k p }))

/-- The loaded slots, in ascending order. -/
def Device.loadedSlots (d : Device) : List Nat := (List.range 512).filter (fun n => !(d.slotEntry n).isEmpty)

/-- The VIN sense, sampled with the slots (R429): PWR_VIN keeps the present and the lowest VIN in mV. -/
def Device.senseVin (d : Device) (mv : Nat) : Device :=
  let v := min 65535 mv
  (d.setFld PWR_VIN PWR_VIN_VIN v).setFld PWR_VIN PWR_VIN_VIN_MIN (min v (d.fld PWR_VIN PWR_VIN_VIN_MIN))

/-- A base tick (R424 to R426): VIN is sensed, the analog inputs are scanned, the SSI encoder is read, and every due slot takes a sample in ascending
order. The Quarter's timebase counts ticks whether or not the engine is enabled. -/
def execRegulatorTick (t : Nat) (q : Side) (codes : List Nat) (ssi vin : Nat) (s : State) : Result :=
  s.run t fun d =>
    let d := d.senseVin vin
    let d := if d.owner = q then
        d.each ((List.range 96).zip codes) (fun x d =>
          d.modRgl (fun v => { v with adc := sput (fun _ => 0) v.adc x.1 (x.2 % 4096) }))
      else d
    let d := (d.ssiRead q ssi).takeVelocities q
    let tick := sget (fun _ => 0) d.rgl.ticks q.code
    let d := d.setFld (REG_STATUS q) REG_STATUS_TICK (tick % 256)
    let loaded := d.loadedSlots
    let d := d.each loaded (fun n d =>
      let sp := d.int (REG_SLOT_SP q n)
      (d.setSlot q n { d.slotS q n with accel := sp - (d.slotS q n).lastSp, lastSp := sp }).countOpenShort q n)
    let d := d.each loaded (fun n d => d.sampleSlot q tick n)
    let d := d.maxFld (REG_STATUS q) REG_STATUS_TICK_MAX (Config.tickTime q.code tick).toNat
    d.modRgl (fun v => { v with ticks := sput (fun _ => 0) v.ticks q.code (tick + 1) })

/-- A write of REG_SLOT_CTRL.MODE, which takes effect at the next sample (R439, R449). -/
def execModeWrite (t : Nat) (q : Side) (n : Fin 512) (value : Word) (s : State) : Result :=
  s.run t fun d => d.setFld (REG_SLOT_CTRL q n) REG_SLOT_CTRL_MODE (REG_SLOT_CTRL_MODE.get value)

/-- A write of a coefficient or a SHIFTS word. -/
def execCoefficientWrite (t : Nat) (q : Side) (n : Fin 512) (p : Fin 6) (which : Fin 4) (value : Word) (s : State) : Result :=
  s.run t fun d => d.coefWrite q n p which value

/-- A write of a setpoint (R442). -/
def execSetpointWrite (t : Nat) (q : Side) (n : Fin 512) (value : Word) (s : State) : Result :=
  s.run t fun d => d.setReg (REG_SLOT_SP q n) value

/-- REG_SLOT_CMD.OP = RESUME. -/
def execResume (t : Nat) (q : Side) (n : Fin 512) (s : State) : Result := s.run t fun d => d.slotResume q n

/-- REG_SLOT_CMD.OP = FALLBACK, with cause SUPERVISOR. -/
def execFallback (t : Nat) (q : Side) (n : Fin 512) (s : State) : Result := s.run t fun d => d.slotFallback q n 4

/-- A slot that runs winds down (R448); one in the SAFE fallback is at IDLE already. -/
def Device.slotWind (d : Device) (q : Side) (n : Nat) : Device :=
  if (d.slotS q n).wind ≠ 0 then d
  else
    let safe := d.inFallback q n && d.fallKind q n == 2
    let d := d.setSlot q n { d.slotS q n with wind := 1, hist := [] }
    if safe then d.slotStopped q n else d.setFlag (REG_SLOT_CTRL q n) REG_SLOT_CTRL_BUSY true

/-- REG_SLOT_CTRL.ENABLE is cleared. -/
def Device.slotOff (d : Device) (q : Side) (n : Nat) : Device :=
  let ran := d.slotRuns q n
  let d := d.setFlag (REG_SLOT_CTRL q n) REG_SLOT_CTRL_ENABLE false
  if ran then d.slotWind q n else d

/-- REG_SLOT_CTRL.ENABLE is set: a slot that was disabled in a fallback leaves it (R447). -/
def Device.slotOn (d : Device) (q : Side) (n : Nat) : Device :=
  let d := d.setFlag (REG_SLOT_CTRL q n) REG_SLOT_CTRL_ENABLE true
  if d.inFallback q n then d.leaveFallback q n else d

/-- REG_CTRL.ENABLE is set, which enables the slots again (R447, R448). -/
def Device.regulatorOn (d : Device) (q : Side) : Device :=
  let d := d.setFlag (REG_CTRL q) REG_CTRL_ENABLE true
  d.each (d.loadedSlots.filter (d.inFallback q)) (fun n d => d.leaveFallback q n)

/-- Disable a slot. -/
def execSlotDisable (t : Nat) (q : Side) (n : Fin 512) (s : State) : Result := s.run t fun d => d.slotOff q n

/-- REG_CTRL.ENABLE is cleared: every running slot winds down (R448). -/
def Device.regulatorOff (d : Device) (q : Side) : Device :=
  let run := d.loadedSlots.filter (fun n => d.slotRuns q n)
  let d := d.setFlag (REG_CTRL q) REG_CTRL_ENABLE false
  let d := d.each run (fun n d => d.slotWind q n)
  if d.loadedSlots.any (fun n => (d.slotS q n).wind != 0) then d.setFlag (REG_CTRL q) REG_CTRL_BUSY true else d

/-- Load slot `n` of a table into both Quarters' registers: enable, output at IDLE, coefficients and shifts. -/
def Device.loadSlot (d : Device) (n : Nat) : Device :=
  let h := d.slotEntry n
  d.each bothSides (fun q d =>
    let d := (d.setFlag (REG_SLOT_CTRL q n) REG_SLOT_CTRL_ENABLE (hBit h 7)).setReg (REG_SLOT_OUT q n) (BitVec.ofInt 32 (hIdle h))
    d.each (List.range 6) (fun p d =>
      let d := (d.putCoef q n p 0 (BitVec.ofNat 32 (bytesAt h (40 + 20 * p) 4))).putCoef q n p 1 (BitVec.ofNat 32 (bytesAt h (44 + 20 * p) 4))
      (d.putCoef q n p 2 (BitVec.ofNat 32 (bytesAt h (48 + 20 * p) 4))).putCoef q n p 3 (BitVec.ofNat 32 (bytesAt h (36 + 20 * p) 2))))

end Sys2Proof.Machine
end

