-- ==== Sys2Proof/Machine/Motor.lean ====
section
/-! DEFINITION. Polygon and drive motor commutation (R452 to R477). MOT_POLY_STATUS.STATE is the state of R459. -/

namespace Sys2Proof.Machine

/-! Fields of a commutation entry (R458). -/

/-- The entry of polygon p (0 to 7) or PMSM d (8 + d). -/
def Device.motorEntry (d : Device) (k : Nat) : List Byte := d.entry 0x04 0 k
def mKind (b : List Byte) : Nat := bytesAt b 0 1
def mPairs (b : List Byte) : Nat := max 1 (bytesAt b 1 1)
def mIMax (b : List Byte) : Nat := max 1 (bytesAt b 2 2)
def mIAlign (b : List Byte) : Nat := bytesAt b 4 2
def mRegen (b : List Byte) : Nat := bytesAt b 6 2
def mRamp (b : List Byte) : Nat := max 1 (bytesAt b 30 2)
def mHandoff (b : List Byte) : Nat := bytesAt b 32 2
def mCatch (b : List Byte) : Nat := bytesAt b 34 2
def mConfTh (b : List Byte) : Nat := bytesAt b 36 1
def mRetries (b : List Byte) : Nat := bytesAt b 37 1
def mBus (b : List Byte) : Nat := bytesAt b 38 1
def mEncoder (b : List Byte) : Nat := bytesAt b 39 1
def mCpr (b : List Byte) : Nat := max 1 (bytesAt b 40 4)
def mKe (b : List Byte) : Nat := bytesAt b 16 4
def mKp (b : List Byte) : Nat := bytesAt b 20 4
def mKi (b : List Byte) : Nat := bytesAt b 24 4
def mAlignMs (b : List Byte) : Nat := bytesAt b 28 2
def mOffset (b : List Byte) : Nat := bytesAt b 44 4
def mTMin (b : List Byte) : Nat := bytesAt b 48 2
def mShunt (b : List Byte) : Nat := bytesAt b 52 1

/-! The states of R459. -/

def poOff : Nat := 0
def poSense : Nat := 1
def poBrake : Nat := 2
def poAlign : Nat := 3
def poRamp : Nat := 4
def poRun : Nat := 5
def poResync : Nat := 6
def poFault : Nat := 7

def Device.poState (d : Device) (q : Side) (p : Nat) : Nat := d.fld (MOT_POLY_STATUS q p) MOT_POLY_STATUS_STATE

/-- A polygon controller enters a state now; its speed reads 0 where R464 says so. -/
def Device.setPo (d : Device) (q : Side) (p n : Nat) : Device :=
  let d := (d.setFld (MOT_POLY_STATUS q p) MOT_POLY_STATUS_STATE n).setFlag (MOT_POLY_STATUS q p) MOT_POLY_STATUS_FAULT (n == poFault)
  let d := d.setPoly q p { d.polyS q p with since := d.now }
  if n = poOff ∨ n = poBrake ∨ n = poAlign ∨ n = poFault then d.setReg (MOT_POLY_SPEED q p) 0 else d

/-- A ledger event of a controller, counted for the Quarter that owns the outputs. -/
def Device.ownEvent (d : Device) (q : Side) (b detail : Nat) : Device := if d.owner = q then d.ledgerEvent b q.code detail 0 else d

/-- The regenerative limit of a controller, 0 while its chopper is faulty (R473). -/
def Device.regenMax (d : Device) (q : Side) (b : List Byte) : Nat :=
  if natBit (d.fld (MOT_BUS_STATUS q) MOT_BUS_STATUS_CHOP_FAULT) (mBus b) then 0 else mRegen b

/-- A command of R430 as a current in mA (R464, R470). -/
def Device.currentOf (d : Device) (q : Side) (b : List Byte) (y : Int) : Int :=
  clampI (-(d.regenMax q b : Int)) (mIMax b) (y * (mIMax b : Int) / 2147483648)

/-- SENSE begins: the phases are released and the crossings counted anew (R460). -/
def Device.enterSense (d : Device) (q : Side) (p : Nat) : Device :=
  let d := d.setPo q p poSense
  d.setPoly q p { d.polyS q p with cross := [], handoffAt := none, retrying := false, coasting := false, winding := false, failed := false }

/-- Whether the commutation block of a Quarter runs: enabled, with no wind-down in progress (R51), and past Booting (R63). -/
def Device.motOn (d : Device) (q : Side) : Bool :=
  d.flag (MOT_CTRL q) MOT_CTRL_ENABLE && !d.flag (MOT_CTRL q) MOT_CTRL_BUSY && d.st != .booting

/-- An enabled controller in OFF or FAULT starts (R459). -/
def Device.polyStart (d : Device) (q : Side) (p : Nat) : Device :=
  if mKind (d.motorEntry p) = 1 ∧ d.motOn q ∧ (d.poState q p = poOff ∨ d.poState q p = poFault) then
    (((d.setFld (MOT_POLY_STATUS q p) MOT_POLY_STATUS_ATTEMPTS 0).setFld (MOT_POLY_STATUS q p) MOT_POLY_STATUS_CONF 0).setPoly q p {}).enterSense q p
  else d

/-- A PMSM controller's bridge is driven; without an index it aligns first (R469). -/
def Device.pmsmStart (d : Device) (q : Side) (n : Nat) : Device :=
  let b := d.motorEntry (8 + n)
  if mKind b = 2 ∧ d.motOn q then
    let d := (d.setFlag (MOT_PMSM_STATUS q n) MOT_PMSM_STATUS_RUNNING true).setFlag (MOT_PMSM_STATUS q n) MOT_PMSM_STATUS_ENC_FAULT false
    d.setPmsm q n { d.pmsmS q n with faults := [], winding := false, iRef := mIAlign b, alignAt := d.now, alignedAt := none, loop := {} }
  else d

/-- Start the enabled controllers of a Quarter that stand still. -/
def Device.motorsStart (d : Device) (q : Side) : Device :=
  let d := d.each ((List.range 8).filter (fun p => d.flag (MOT_POLY_CTRL q p) MOT_POLY_CTRL_ENABLE && !d.flag (MOT_POLY_CTRL q p) MOT_POLY_CTRL_BUSY))
    (fun p d => if d.poState q p = poOff then d.polyStart q p else d)
  d.each ((List.range 4).filter (fun n => d.flag (MOT_PMSM_CTRL q n) MOT_PMSM_CTRL_ENABLE && !d.flag (MOT_PMSM_CTRL q n) MOT_PMSM_CTRL_BUSY &&
      !d.flag (MOT_PMSM_STATUS q n) MOT_PMSM_STATUS_ENC_FAULT)) (fun n d => d.pmsmStart q n)

/-- Whether any controller of a Quarter winds down. -/
def Device.motWinds (d : Device) (q : Side) : Bool :=
  (List.range 8).any (fun k => d.flag (MOT_POLY_CTRL q k) MOT_POLY_CTRL_BUSY) ||
    (List.range 4).any (fun k => d.flag (MOT_PMSM_CTRL q k) MOT_PMSM_CTRL_BUSY)

/-- The commutation block's wind-down is over once no controller winds down; an enable written meanwhile takes effect (R51). -/
def Device.motSettle (d : Device) (q : Side) : Device :=
  if !d.flag (MOT_CTRL q) MOT_CTRL_BUSY || d.motWinds q then d else (d.setFlag (MOT_CTRL q) MOT_CTRL_BUSY false).motorsStart q

/-- MOT_POLY_CTRL.ENABLE is set; it waits while the controller winds down (R51). -/
def Device.polyOn (d : Device) (q : Side) (p : Nat) : Device :=
  if d.flag (MOT_POLY_CTRL q p) MOT_POLY_CTRL_ENABLE then d
  else
    let d := d.setFlag (MOT_POLY_CTRL q p) MOT_POLY_CTRL_ENABLE true
    if d.flag (MOT_POLY_CTRL q p) MOT_POLY_CTRL_BUSY then d else d.polyStart q p

/-- Set MOT_POLY_CTRL.ENABLE. -/
def execPolyEnable (t : Nat) (q : Side) (p : Fin 8) (s : State) : Result := s.run t fun d => d.polyOn q p

/-- The rotor stands still with nothing to start: OFF, and a pending enable takes effect (R51, R476). -/
def Device.polyStopped (d : Device) (q : Side) (p : Nat) : Device :=
  let d := (d.setPo q p poOff).setFlag (MOT_POLY_CTRL q p) MOT_POLY_CTRL_BUSY false
  let d := (d.setPoly q p {}).motSettle q
  if d.flag (MOT_POLY_CTRL q p) MOT_POLY_CTRL_ENABLE then d.polyStart q p else d

/-- A controller winds down (R476): in RUN it brakes, otherwise it coasts; its station goes safe. One in FAULT stays there (R459). -/
def Device.polyWind (d : Device) (q : Side) (p : Nat) : Device :=
  let x := d.poState q p
  let d := if d.owner = q ∧ x ≠ poOff ∧ x ≠ poFault then d.goSafe p 4 false else d
  if x = poOff ∨ x = poFault then d
  else
    let d := d.setFlag (MOT_POLY_CTRL q p) MOT_POLY_CTRL_BUSY true
    if x = poRun ∨ x = poBrake then d.setPoly q p { d.polyS q p with winding := true }
    else
      let d := if x = poResync then d else d.setPo q p poSense
      d.setPoly q p { d.polyS q p with winding := true, coasting := true, cross := [], retrying := false }

/-- MOT_POLY_CTRL.ENABLE is cleared. -/
def Device.polyOff (d : Device) (q : Side) (p : Nat) : Device :=
  if d.flag (MOT_POLY_CTRL q p) MOT_POLY_CTRL_ENABLE then
    (d.setFlag (MOT_POLY_CTRL q p) MOT_POLY_CTRL_ENABLE false).polyWind q p
  else d

/-- Clear MOT_POLY_CTRL.ENABLE. -/
def execPolyDisable (t : Nat) (q : Side) (p : Fin 8) (s : State) : Result := s.run t fun d => d.polyOff q p

/-- BRAKE begins (R461). -/
def Device.enterBrake (d : Device) (q : Side) (p : Nat) : Device :=
  let d := d.setPo q p poBrake
  d.setPoly q p { d.polyS q p with coasting := false }

/-- The speed in rpm × 2^12 from two crossings `n` sixths of an electrical cycle apart. -/
def crossSpeed (pairs n dt : Nat) : Int := if dt = 0 then 0 else ((60 * 64000000000 * 4096 * n / (6 * dt * pairs) : Nat) : Int)

/-- Whether crossings, newest first, run through the phases in the order U, V, W (`step` 1) or backwards (`step` 2). -/
def inOrder (step : Nat) : List (Nat × Nat) → Bool
  | a :: b :: r => a.2 % 3 == (b.2 + step) % 3 && inOrder step (b :: r)
  | _ => true

/-- RESYNC begins (R466, R467); the 20 ms of R468 count from `from_`. -/
def Device.enterResync (d : Device) (q : Side) (p from_ : Nat) : Device :=
  let d := d.setPo q p poResync
  d.setPoly q p { d.polyS q p with cross := [], low := 0, resyncAt := from_ }

/-- RUN begins: the current reference starts at `i` mA and moves toward the command at CMD_SLEW (R464). -/
def Device.enterRun (d : Device) (q : Side) (p : Nat) (i : Int) : Device :=
  let d := d.setPo q p poRun
  d.setPoly q p { d.polyS q p with iRef := i, iStart := i, handedOver := false, low := 0, handoffAt := none }

/-- RESYNC fails (R468): the rotor coasts to CATCH_RPM, brakes and ends in OFF; the station goes safe. -/
def Device.resyncFail (d : Device) (q : Side) (p : Nat) : Device :=
  let d := (d.setFlag (MOT_POLY_STATUS q p) MOT_POLY_STATUS_RESYNC_FAIL true).ownEvent q lbPolyResyncFail p
  let d := d.setPoly q p { d.polyS q p with coasting := true, failed := true, cross := [] }
  if d.owner = q then d.goSafe p 4 false else d

/-- A start attempt fails (R463). -/
def Device.attemptFails (d : Device) (q : Side) (p : Nat) : Device :=
  let n := (d.polyS q p).fails + 1
  let d := (d.setPoly q p { d.polyS q p with fails := n }).setFld (MOT_POLY_STATUS q p) MOT_POLY_STATUS_ATTEMPTS (min 3 n)
  if mRetries (d.motorEntry p) < n then (d.setPo q p poFault).ownEvent q lbPolyStartFail p
  else
    let d := d.setPo q p poSense
    d.setPoly q p { d.polyS q p with retrying := true, handoffAt := none, cross := [] }

/-- The third crossing of SENSE decides (R460). -/
def Device.senseDone (d : Device) (q : Side) (p : Nat) (l : List (Nat × Nat)) (speed : Int) : Device :=
  let b := d.motorEntry p
  if inOrder 1 l && decide ((mCatch b : Int) * 4096 ≤ speed) then d.enterResync q p d.now
  else
    let d := if inOrder 2 l then d.setFlag (MOT_POLY_STATUS q p) MOT_POLY_STATUS_REVERSE_SEEN true else d
    d.enterBrake q p

/-- A phase-voltage comparator changes (R454, R460, R467, R468). -/
def execPhaseComparatorEdge (t : Nat) (q : Side) (p : Fin 8) (phase : Fin 3) (s : State) : Result :=
  s.run t fun d =>
    let v := d.polyS q p
    let b := d.motorEntry p
    let l := ((d.now, phase.val) :: v.cross).take 7
    let d := d.setPoly q p { v with cross := l }
    let x := d.poState q p
    if x ≠ poSense ∧ x ≠ poResync ∨ v.retrying then d
    else
      let l3 := l.take 3
      let speed := match l3 with
        | [a, _, c] => (if inOrder 2 l3 then -1 else 1) * crossSpeed (mPairs b) 2 (a.1 - c.1)
        | _ => d.int (MOT_POLY_SPEED q p)
      let d := d.setReg (MOT_POLY_SPEED q p) (BitVec.ofInt 32 speed)
      if v.coasting then (if l3.length = 3 ∧ speed ≤ (mCatch b : Int) * 4096 then d.enterBrake q p else d)
      else if x = poSense then
        (if l3.length = 3 ∧ (inOrder 1 l3 ∨ inOrder 2 l3) then d.senseDone q p l3 speed else d)
      else if l.length = 7 ∧ inOrder 1 l then
        let d := (d.setFld (MOT_POLY_STATUS q p) MOT_POLY_STATUS_CONF (min 255 (mConfTh b + 32))).count (MOT_POLY_CNT q p) MOT_POLY_CNT_RESYNCS
        let d := d.setPoly q p { d.polyS q p with loop := { intQ := speed * (mKe b : Int) * 16 / 1000 } }
        d.enterRun q p 0
      else if l3.length = 3 ∧ speed < (mCatch b : Int) * 4096 then (d.resyncFail q p).enterBrake q p
      else d

/-- SENSE_MS ends with fewer than three crossings: standstill (R460). -/
def execSenseTimeout (t : Nat) (q : Side) (p : Fin 8) (s : State) : Result :=
  s.run t fun d =>
    let v := d.polyS q p
    if d.poState q p = poSense ∧ !v.retrying ∧ !v.coasting then d.setPo q p poAlign else d

/-- 100 ms without a comparator change: standstill (R459). A controller that starts enters ALIGN; one that winds down or failed to
resynchronise enters OFF. -/
def execStandstill (t : Nat) (q : Side) (p : Fin 8) (s : State) : Result :=
  s.run t fun d =>
    let v := d.polyS q p
    let x := d.poState q p
    if x = poBrake ∨ ((x = poSense ∨ x = poResync) ∧ v.coasting) then
      if v.winding ∨ v.failed then d.polyStopped q p else d.setPo q p poAlign
    else d

/-- No standstill 10 s after BRAKE (R461). -/
def execBrakeTimeout (t : Nat) (q : Side) (p : Fin 8) (s : State) : Result :=
  s.run t fun d =>
    if d.poState q p = poBrake then
      (((d.setPo q p poFault).setFlag (MOT_POLY_CTRL q p) MOT_POLY_CTRL_BUSY false).motSettle q).ownEvent q lbPolyBrakeFail p
    else d

/-- ALIGN_MS has passed: RAMP, whose frequency reaches HANDOFF_RPM at RAMP_RPM_S (R462, R463). -/
def execAlignTimeout (t : Nat) (q : Side) (p : Fin 8) (s : State) : Result :=
  s.run t fun d =>
    if d.poState q p = poAlign then
      let b := d.motorEntry p
      let d := d.setPo q p poRamp
      d.setPoly q p { d.polyS q p with handoffAt := some (d.now + mHandoff b * 1000 * tuPerMs / mRamp b), iRef := mIAlign b }
    else d

/-- The confidence has not reached CONF_TH within 500 ms of HANDOFF_RPM (R463). -/
def execHandoffTimeout (t : Nat) (q : Side) (p : Fin 8) (s : State) : Result :=
  s.run t fun d => if d.poState q p = poRamp then d.attemptFails q p else d

/-- 1 s after a failed attempt the controller starts again at SENSE (R463). -/
def execStartRetry (t : Nat) (q : Side) (p : Fin 8) (s : State) : Result :=
  s.run t fun d => if d.poState q p = poSense ∧ (d.polyS q p).retrying then d.enterSense q p else d

/-- A release of RESYNC ends without success: a new one begins (R467). -/
def execResyncReleaseEnd (t : Nat) (q : Side) (p : Fin 8) (s : State) : Result :=
  s.run t fun d =>
    if d.poState q p = poResync ∧ !(d.polyS q p).coasting then d.setPoly q p { d.polyS q p with cross := [] } else d

/-- 20 ms in RESYNC (R468). -/
def execResyncTimeout (t : Nat) (q : Side) (p : Fin 8) (s : State) : Result :=
  s.run t fun d => if d.poState q p = poResync ∧ !(d.polyS q p).coasting then d.resyncFail q p else d

/-- C of R466 after one PWM period. -/
def nextConf (c iErr iMax : Nat) : Nat :=
  let x : Int := 255 - min 255 (2040 * iErr / iMax)
  ((c : Int) + (x - (c : Int)) / 16).toNat

/-- The integral of a current loop stays within the bus voltage, and so does its output (R464). -/
def loopAxis (b : List Byte) (lim int err : Int) : Int × Int :=
  let i := clampI (-lim) lim (int + (mKi b : Int) * err)
  (i, clampI (-lim) lim ((mKp b : Int) * err + i))

/-- A current loop runs for one period toward 0 on the d axis and `ref` mA on the q axis; `dv` is the bus voltage in 0.1 V (R464). -/
def CurrentLoop.next (v : CurrentLoop) (b : List Byte) (dv : Nat) (ref : Int) (m : MotorSample) : CurrentLoop :=
  let lim : Int := ((dv * 100 * 65536 : Nat) : Int)
  let x := loopAxis b lim v.intD (-m.id)
  let y := loopAxis b lim v.intQ (ref - m.iq)
  { intD := x.1, outD := x.2, intQ := y.1, outQ := y.2 }

/-- The voltage of the bus that feeds a controller, in 0.1 V. -/
def Device.busVolts (d : Device) (q : Side) (b : List Byte) : Nat := d.fld (MOT_BUS_V q) (if mBus b = 0 then MOT_BUS_V_V0 else MOT_BUS_V_V1)

/-- The electrical angle of a PMSM drive from its raw count (R469): from the index once it has passed, before from the count at which it was
aligned, where the angle is 0. -/
def Device.pmsmAngle (d : Device) (q : Side) (n : Nat) : Nat :=
  let b := d.motorEntry (8 + n)
  let v := d.pmsmS q n
  let turn := fun base : Int => wrap32 (d.int (AXS_ENC_RAW q (mEncoder b)) - base) * ((mPairs b * 2 ^ 32 : Nat) : Int) / (mCpr b : Int)
  if d.flag (MOT_PMSM_STATUS q n) MOT_PMSM_STATUS_INDEXED then ofSigned 32 (turn v.indexAt + (mOffset b : Int))
  else match v.alignedAt with
    | some r => ofSigned 32 (turn r)
    | none => 0

/-- The samples skipped in one period of single-shunt sampling (R465): on-times and the period in steps of 312.5 ps. -/
def shuntSkips (period tMin u v w : Nat) : Nat :=
  let hi := max u (max v w)
  let lo := min u (min v w)
  let mid := u + v + w - hi - lo
  let need1 := tMin - (hi - mid) / 2
  let need2 := tMin - (mid - lo) / 2
  b01 (decide ((period - hi) / 2 < need1)) + b01 (decide ((period - lo) / 2 < need2))

/-- The pulses of a bridge, centre-aligned, as start and length (R455). -/
def centred (period : Nat) (on : List Nat) : List (Nat × Nat) := on.map (fun n => ((period - n) / 2, n))

/-- Single-shunt sampling moves the longest pulse earlier and the shortest later until both windows last `tMin`, within the period (R465). -/
def shuntMoved (period tMin : Nat) (on : List Nat) : List (Nat × Nat) :=
  let hi := on.foldl max 0
  let lo := on.foldl min hi
  let mid := on.sum - hi - lo
  let longest := on.idxOf hi
  let shortest := if hi = lo then 2 else 2 - on.reverse.idxOf lo
  (List.range on.length).map (fun k =>
    let n := on.getD k 0
    let a := (period - n) / 2
    if k = longest then (a - (tMin - (hi - mid) / 2), n)
    else if k = shortest then (min (period - n) (a + (tMin - (mid - lo) / 2)), n)
    else (a, n))

/-- What controller `k` (8 + d for a PMSM) does to its bridge in the coming period; `none` releases it. -/
def Device.setBridge (d : Device) (q : Side) (k : Nat) (x : Option (List (Nat × Nat))) : Device :=
  d.modMot (fun v => { v with bridge := sput (fun _ => none) v.bridge (16 * q.code + k) x })

/-- The bridge of a polygon controller in its state (R459): BRAKE turns the three low switches on, SENSE and RESYNC release it. -/
def Device.polyBridge (d : Device) (q : Side) (p : Nat) (m : MotorSample) : Device :=
  let x := d.poState q p
  let b := d.motorEntry p
  let per := 4 * d.fld (MOT_PWM_PERIOD q 0) MOT_PWM_PERIOD_PERIOD
  d.setBridge q p
    (if x = poAlign ∨ x = poRamp ∨ x = poRun then some (shuntMoved per (4 * mTMin b) [m.onU, m.onV, m.onW])
     else if x = poBrake then some (centred per [0, 0, 0])
     else none)

/-- Whether the hard limit holds the bridges of a controller's bus off (R474). -/
def Device.busTripped (d : Device) (q : Side) (b : List Byte) : Bool := natBit (d.fld (MOT_BUS_STATUS q) MOT_BUS_STATUS_HARD_TRIP) (mBus b)

/-- A polygon's PWM period (R463 to R468, R476). -/
def Device.polyPeriod (d : Device) (q : Side) (p : Nat) (m : MotorSample) : Device :=
  let b := d.motorEntry p
  let x := d.poState q p
  if mKind b ≠ 1 ∨ d.busTripped q b ∨ (x ≠ poRamp ∧ x ≠ poRun) then d
  else
    let per := 4 * d.fld (MOT_PWM_PERIOD q 0) MOT_PWM_PERIOD_PERIOD
    let d := d.addSat (MOT_POLY_CNT q p) MOT_POLY_CNT_SHUNT_SKIP (shuntSkips per (4 * mTMin b) m.onU m.onV m.onW)
    let conf := nextConf (d.fld (MOT_POLY_STATUS q p) MOT_POLY_STATUS_CONF) m.iErr (mIMax b)
    let d := (d.setFld (MOT_POLY_STATUS q p) MOT_POLY_STATUS_CONF conf).setReg (MOT_POLY_SPEED q p) (BitVec.ofInt 32 m.speed)
    let v := d.polyS q p
    if x = poRamp then
      let past := match v.handoffAt with
        | some h => decide (h ≤ d.now)
        | none => false
      if past && m.reverse then d.attemptFails q p
      else if past && decide (mConfTh b ≤ conf) then d.enterRun q p (mIAlign b)
      else d
    else if v.winding then
      let i : Int := -(d.regenMax q b : Int)
      let d := d.setPoly q p { v with iRef := i, loop := v.loop.next b (d.busVolts q b) i m }
      if m.speed ≤ (mCatch b : Int) * 4096 then d.enterBrake q p else d
    else
      let want := d.currentOf q b v.command
      let step : Int := ((d.now - v.since) * d.fld (MOT_POLY_LIM q p) MOT_POLY_LIM_CMD_SLEW / tuPerMs : Nat)
      let i := if v.handedOver then want else clampI (v.iStart - step) (v.iStart + step) want
      let low := if conf < mConfTh b then v.low + 1 else 0
      let d := d.setPoly q p { v with iRef := i, handedOver := v.handedOver || i == want, low, loop := v.loop.next b (d.busVolts q b) i m }
      if 4 ≤ low then
        ((d.setFlag (MOT_POLY_STATUS q p) MOT_POLY_STATUS_LOST true).ownEvent q lbPolyLost p).enterResync q p d.now
      else d

/-- MOT_PMSM_CTRL.ENABLE is set. -/
def Device.pmsmOn (d : Device) (q : Side) (n : Nat) : Device :=
  if d.flag (MOT_PMSM_CTRL q n) MOT_PMSM_CTRL_ENABLE then d
  else
    let d := d.setFlag (MOT_PMSM_CTRL q n) MOT_PMSM_CTRL_ENABLE true
    if d.flag (MOT_PMSM_CTRL q n) MOT_PMSM_CTRL_BUSY then d else d.pmsmStart q n

/-- Set MOT_PMSM_CTRL.ENABLE. -/
def execPmsmEnable (t : Nat) (q : Side) (n : Fin 4) (s : State) : Result := s.run t fun d => d.pmsmOn q n

/-- A PMSM bridge is released; a pending enable takes effect (R51). -/
def Device.pmsmStopped (d : Device) (q : Side) (n : Nat) : Device :=
  let d := (d.setFlag (MOT_PMSM_STATUS q n) MOT_PMSM_STATUS_RUNNING false).setFlag (MOT_PMSM_CTRL q n) MOT_PMSM_CTRL_BUSY false
  let d := d.setPmsm q n { d.pmsmS q n with winding := false, iRef := 0 }
  let d := d.motSettle q
  if d.flag (MOT_PMSM_CTRL q n) MOT_PMSM_CTRL_ENABLE then d.pmsmStart q n else d

/-- A PMSM controller winds down: it brakes to 0 rpm (R476). -/
def Device.pmsmWind (d : Device) (q : Side) (n : Nat) : Device :=
  if d.flag (MOT_PMSM_STATUS q n) MOT_PMSM_STATUS_RUNNING then
    (d.setPmsm q n { d.pmsmS q n with winding := true }).setFlag (MOT_PMSM_CTRL q n) MOT_PMSM_CTRL_BUSY true
  else d

/-- MOT_PMSM_CTRL.ENABLE is cleared. -/
def Device.pmsmOff (d : Device) (q : Side) (n : Nat) : Device :=
  if d.flag (MOT_PMSM_CTRL q n) MOT_PMSM_CTRL_ENABLE then (d.setFlag (MOT_PMSM_CTRL q n) MOT_PMSM_CTRL_ENABLE false).pmsmWind q n else d

/-- Clear MOT_PMSM_CTRL.ENABLE. -/
def execPmsmDisable (t : Nat) (q : Side) (n : Fin 4) (s : State) : Result := s.run t fun d => d.pmsmOff q n

/-- A PMSM controller's PWM period (R464, R465, R469, R470, R476). -/
def Device.pmsmPeriod (d : Device) (q : Side) (n : Nat) (m : MotorSample) : Device :=
  let b := d.motorEntry (8 + n)
  if !d.flag (MOT_PMSM_STATUS q n) MOT_PMSM_STATUS_RUNNING then d
  else
    let per := 4 * d.fld (MOT_PWM_PERIOD q 1) MOT_PWM_PERIOD_PERIOD
    let d := if mShunt b = 0 then d.addSat (MOT_PMSM_CNT q n) MOT_PMSM_CNT_SHUNT_SKIP (shuntSkips per (4 * mTMin b) m.onU m.onV m.onW) else d
    let d := (d.setFld (MOT_PMSM_IDQ q n) MOT_PMSM_IDQ_IQ (ofSigned 16 m.iq)).setFld (MOT_PMSM_IDQ q n) MOT_PMSM_IDQ_ID (ofSigned 16 m.id)
    let v := d.pmsmS q n
    let indexed := d.flag (MOT_PMSM_STATUS q n) MOT_PMSM_STATUS_INDEXED
    let alignedAt := if !indexed && v.alignedAt.isNone && decide (v.alignAt + mAlignMs b * tuPerMs ≤ d.now) then
        some (d.int (AXS_ENC_RAW q (mEncoder b))) else v.alignedAt
    let i : Int := if v.winding then -(d.regenMax q b : Int) else if indexed then d.currentOf q b v.command else mIAlign b
    let d := d.setPmsm q n { v with iRef := i, alignedAt, loop := v.loop.next b (d.busVolts q b) i m }
    if v.winding ∧ m.speed ≤ 0 then d.pmsmStopped q n else d

/-- The bridge of a PMSM controller (R465, R469). -/
def Device.pmsmBridge (d : Device) (q : Side) (n : Nat) (m : MotorSample) : Device :=
  let b := d.motorEntry (8 + n)
  let per := 4 * d.fld (MOT_PWM_PERIOD q 1) MOT_PWM_PERIOD_PERIOD
  let on := [m.onU, m.onV, m.onW]
  d.setBridge q (8 + n)
    (if d.flag (MOT_PMSM_STATUS q n) MOT_PMSM_STATUS_RUNNING then some (if mShunt b = 0 then shuntMoved per (4 * mTMin b) on else centred per on) else none)

/-- The channels of a period group (R452). -/
def groupChannels (g : Nat) : List Nat :=
  match g with
  | 0 => List.range 48
  | 1 => (List.range 72).drop 48
  | 2 => (List.range 100).drop 72
  | _ => (List.range 128).drop 100

/-- The bridge that a channel belongs to, as controller and phase, where that controller is used (R452, R453). -/
def Device.bridgeOf (d : Device) (ch : Nat) : Option (Nat × Nat) :=
  let k := if ch < 48 then ch / 6 else 8 + (ch - 48) / 6
  if ch < 72 ∧ mKind (d.motorEntry k) ≠ 0 then some (k, ch % 6 / 2) else none

/-- The pulse of a channel in the coming period of a Quarter, in steps of 312.5 ps (R430, R455); for a bridge channel that of its phase. -/
def Device.pulseOf (d : Device) (q : Side) (g ch : Nat) : Option (Nat × Nat) :=
  match d.bridgeOf ch with
  | some (k, phase) => (sget (fun _ => none) d.mot.bridge (16 * q.code + k)).bind (fun l => l[phase]?)
  | none => (sget (fun _ => none) d.mot.duty (pwmKey q ch)).map (fun y =>
      let per := 4 * d.fld (MOT_PWM_PERIOD q g) MOT_PWM_PERIOD_PERIOD
      let n := (divNear (y * (per : Int)) ((2 ^ 31 : Nat) : Int)).toNat
      ((per - n) / 2, n))

/-- The Quarter that owns the pins of a period group. -/
def Device.pwmOwner (d : Device) (g : Nat) : Side := sget (fun _ => .north) d.mot.owns g

/-- A period boundary at the pins (R375, R456): the pulses latched by the owner go out, and after a transfer of the token the group changes owner. While
the owner's reference PLL has failed, the boundaries are the other Quarter's and the latched duty stays (R521). -/
def Device.latchPins (d : Device) (q : Side) (g : Nat) : Device :=
  let owner := d.pwmOwner g
  let foreign := natBit d.clk.tbOther owner.code
  if (if foreign then owner.other else owner) ≠ q then d
  else
    let d := if foreign then d else d.each (groupChannels g) (fun ch d =>
      d.modMot (fun v => { v with pins := sput (fun _ => none) v.pins ch (d.pulseOf q g ch) }))
    d.modMot (fun v => { v with edge := sput (fun _ => 0) v.edge g d.now, owns := sput (fun _ => .north) v.owns g d.owner })

/-- The period group of a channel. -/
def groupOf (ch : Nat) : Nat := if ch < 48 then 0 else if ch < 72 then 1 else if ch < 100 then 2 else 3

/-- The level of a PWM pin now (R455 to R457): the dead time keeps both switches of a pair off between the edges of one and of the other, and the Kerb
and the hard limit of a bus keep its bridges off (R474, R601); the Kerb puts the other channels at their idle level (R600). In Parked and Off the
pull-down gives the level (R540), in Booting the pin is low (R613). -/
def Device.pwmPin (d : Device) (ch : Nat) : Bool :=
  let g := groupOf ch
  let q := d.pwmOwner g
  let x := (d.now - sget (fun _ => 0) d.mot.edge g) / 20
  let forced := d.flag KRB_STATUS KRB_STATUS_FORCING
  if d.st = .parked ∨ d.st = .off ∨ (d.st = .booting ∧ !forced) then false
  else
  match d.bridgeOf ch, if forced then none else sget (fun _ => none) d.mot.pins ch with
  | some (k, _), some (a, n) =>
    let dead := d.fld (MOT_PWM_PERIOD q g) MOT_PWM_PERIOD_DEAD
    !d.busTripped q (d.motorEntry k) && (if ch % 2 = 0 then decide (a + dead ≤ x ∧ x < a + n) else decide (¬ (a ≤ x ∧ x < a + n + dead)))
  | some _, none => false
  | none, some (a, n) => decide (a ≤ x ∧ x < a + n)
  | none, none => natBit (d.nat (MOT_PWM_IDLE q (ch / 32))) (ch % 32)

/-- A period boundary of group `g` (R455): new duties are latched, and the controllers of the group run once. In Booting the outputs keep
their reset level (R63). -/
def execPwmPeriodBoundary (t : Nat) (q : Side) (g : Fin 4) (samples : List MotorSample) (s : State) : Result :=
  s.run t fun d =>
    if d.st = .booting then d
    else
    let d := d.each (groupChannels g) (fun ch d =>
      let k := pwmKey q ch
      d.modMot (fun v => { v with duty := sput (fun _ => none) v.duty k (sget (fun _ => none) v.want k) }))
    let d := match g.val with
      | 0 => d.each ((List.range 8).zip samples) (fun x d => (d.polyPeriod q x.1 x.2).polyBridge q x.1 x.2)
      | 1 => d.each ((List.range 4).zip samples) (fun x d => (d.pmsmPeriod q x.1 x.2).pmsmBridge q x.1 x.2)
      | _ => d
    d.latchPins q g

/-- A PWM channel is disabled: from the next boundary it drives its idle level (R457). -/
def execPwmDisable (t : Nat) (q : Side) (ch : Fin 128) (s : State) : Result :=
  s.run t fun d => d.modMot (fun v => { v with want := sput (fun _ => none) v.want (pwmKey q ch) none })

/-- An encoder fault of the PMSM controllers of an encoder: four within 1 ms release the bridge (R471). -/
def Device.encoderFault (d : Device) (q : Side) (e : Nat) : Device :=
  d.each ((List.range 4).filter (fun n => mKind (d.motorEntry (8 + n)) == 2 && mEncoder (d.motorEntry (8 + n)) == e)) (fun n d =>
    let d := d.count (MOT_PMSM_CNT q n) MOT_PMSM_CNT_ENC_ERR
    let ts := (d.now :: (d.pmsmS q n).faults).take 4
    let d := d.setPmsm q n { d.pmsmS q n with faults := ts }
    if windowLasting 4 tuPerMs ts && d.flag (MOT_PMSM_STATUS q n) MOT_PMSM_STATUS_RUNNING then
      let d := (d.setFlag (MOT_PMSM_STATUS q n) MOT_PMSM_STATUS_ENC_FAULT true).ownEvent q lbPmsmEncFault n
      let d := d.setFlag (MOT_PMSM_STATUS q n) MOT_PMSM_STATUS_RUNNING false
      let d := d.setPmsm q n { d.pmsmS q n with winding := false, iRef := 0 }
      (d.setFlag (MOT_PMSM_CTRL q n) MOT_PMSM_CTRL_BUSY false).motSettle q
    else d)

/-- An index pulse of an encoder (R469, R471): the first gives the angle, a later one more than 4 counts away from a multiple of ENC_CPR
is a fault. -/
def execEncoderIndex (t : Nat) (q : Side) (e : Fin 8) (s : State) : Result :=
  s.run t fun d =>
    let r := d.int (AXS_ENC_RAW q e)
    let mine := (List.range 4).filter (fun n => mKind (d.motorEntry (8 + n)) == 2 && mEncoder (d.motorEntry (8 + n)) == e.val)
    let away := mine.any (fun n =>
      let cpr : Int := mCpr (d.motorEntry (8 + n))
      let off := wrap32 (r - (d.pmsmS q n).indexAt) % cpr
      d.flag (MOT_PMSM_STATUS q n) MOT_PMSM_STATUS_INDEXED && decide (4 < off) && decide (4 < cpr - off))
    let d := d.each mine (fun n d =>
      if d.flag (MOT_PMSM_STATUS q n) MOT_PMSM_STATUS_INDEXED then d
      else (d.setFlag (MOT_PMSM_STATUS q n) MOT_PMSM_STATUS_INDEXED true).setPmsm q n { d.pmsmS q n with indexAt := r })
    if away then d.encoderFault q e else d

/-- A DC bus. -/
def Device.busS (d : Device) (b : Nat) : BusS := sget (fun _ => {}) d.mot.bus b

def Device.setBus (d : Device) (b : Nat) (v : BusS) : Device := d.modMot (fun v' => { v' with bus := sput (fun _ => {}) v'.bus b v })

/-- Set a bit of a bus field in both Quarters. -/
def Device.busBit (d : Device) (f : Fld) (b : Nat) (v : Bool) : Device :=
  d.each bothSides (fun q d => d.setFld (MOT_BUS_STATUS q) f (setNatBit (d.fld (MOT_BUS_STATUS q) f) b v))

/-- A DC-bus sample in 0.1 V drives the chopper output (R472). -/
def execDcbusSample (t : Nat) (b : Fin 2) (dv : Nat) (s : State) : Result :=
  s.run t fun d =>
    let d := d.each bothSides (fun q d => d.setFld (MOT_BUS_V q) (if b.val = 0 then MOT_BUS_V_V0 else MOT_BUS_V_V1) (min 65535 dv))
    let q := d.owner
    let on := natBit (d.fld (MOT_BUS_STATUS q) MOT_BUS_STATUS_CHOP_ON) b
    let now := if d.fld (MOT_BUS_THR q b) MOT_BUS_THR_CHOP_ON < dv then true
      else if dv < d.fld (MOT_BUS_THR q b) MOT_BUS_THR_CHOP_OFF then false else on
    let d := if now then d else d.setBus b { d.busS b with onAll := false }
    d.busBit MOT_BUS_STATUS_CHOP_ON b now

/-- A 20 µs average: ten rising in a row with the chopper on throughout make it faulty (R473). -/
def execDcbusAverage (t : Nat) (b : Fin 2) (dv : Nat) (s : State) : Result :=
  s.run t fun d =>
    let v := d.busS b
    let on := natBit (d.fld (MOT_BUS_STATUS d.owner) MOT_BUS_STATUS_CHOP_ON) b
    let rises := if v.onAll && v.avg < dv then v.rises + 1 else 0
    let d := d.setBus b { v with avg := dv, rises := min 10 rises, onAll := on }
    if 10 ≤ rises ∧ !natBit (d.fld (MOT_BUS_STATUS d.owner) MOT_BUS_STATUS_CHOP_FAULT) b then
      let d := (d.busBit MOT_BUS_STATUS_CHOP_FAULT b true).ledgerEvent lbChopFault shared b 0
      d.each bothSides (fun q d => d.each ((List.range 4).filter (fun n => mBus (d.motorEntry (8 + n)) == b.val)) (fun n d =>
        d.setFlag (MOT_PMSM_STATUS q n) MOT_PMSM_STATUS_REGEN_ZERO true))
    else d

/-- Whether a polygon controller drives its rotor, so that the loss of its bridge makes it resynchronise. -/
def Device.polyDrives (d : Device) (q : Side) (p b : Nat) : Bool :=
  mKind (d.motorEntry p) == 1 && mBus (d.motorEntry p) == b && (d.poState q p == poRun || d.poState q p == poRamp || d.poState q p == poResync)

/-- The hard limit of a bus (R474): the Kerb turns its bridges off, and every sheet in flight is defective with cause 6. -/
def execDcbusHardLimit (t : Nat) (b : Fin 2) (s : State) : Result :=
  s.run t fun d =>
    let d := d.setBus b { d.busS b with trippedAt := d.now }
    let d := d.busBit MOT_BUS_STATUS_HARD_TRIP b true
    let d := d.setFld KRB_ENABLES KRB_ENABLES_BUS_FORCED (setNatBit (d.fld KRB_ENABLES KRB_ENABLES_BUS_FORCED) b true)
    (d.ledgerEvent lbBusHard shared b 0).stationsDefective 256 6

/-- The bus has been below CHOP_OFF for 10 ms: the bridges return, polygons resynchronise within 20 ms of the trip and PMSM drives go on
(R474, R477). -/
def execBusHardRecovery (t : Nat) (b : Fin 2) (s : State) : Result :=
  s.run t fun d =>
    if !natBit (d.fld (MOT_BUS_STATUS d.owner) MOT_BUS_STATUS_HARD_TRIP) b then d
    else
      let at_ := (d.busS b).trippedAt
      let d := d.busBit MOT_BUS_STATUS_HARD_TRIP b false
      let d := d.setFld KRB_ENABLES KRB_ENABLES_BUS_FORCED (setNatBit (d.fld KRB_ENABLES KRB_ENABLES_BUS_FORCED) b false)
      d.each bothSides (fun q d => d.each ((List.range 8).filter (fun p => d.polyDrives q p b && !(d.polyS q p).winding && !(d.polyS q p).coasting))
        (fun p d => d.enterResync q p (if d.poState q p = poResync then min at_ (d.polyS q p).resyncAt else at_)))

/-- CLEAR_CHOP in Held restores the regenerative limits (R473). -/
def Device.clearChop (d : Device) : Device :=
  if d.st = .held then
    d.each bothSides (fun q d =>
      d.each (List.range 4) (fun n d => d.setFlag (MOT_PMSM_STATUS q n) MOT_PMSM_STATUS_REGEN_ZERO false) |>.setFld (MOT_BUS_STATUS q) MOT_BUS_STATUS_CHOP_FAULT 0)
  else d

/-- MOT_CMD.OP = CLEAR_CHOP. -/
def execClearChop (t : Nat) (s : State) : Result := s.run t fun d => d.clearChop

/-- MOT_CTRL.ENABLE is set: the enabled controllers start, once a wind-down in progress is over (R51). -/
def Device.motorsOn (d : Device) (q : Side) : Device :=
  let d := d.setFlag (MOT_CTRL q) MOT_CTRL_ENABLE true
  if d.flag (MOT_CTRL q) MOT_CTRL_BUSY then d else d.motorsStart q

/-- MOT_CTRL.ENABLE is cleared: every controller winds down (R476). -/
def Device.motorsOff (d : Device) (q : Side) : Device :=
  let d := d.setFlag (MOT_CTRL q) MOT_CTRL_ENABLE false
  let d := d.each ((List.range 8).filter (fun p => mKind (d.motorEntry p) == 1 && d.poState q p != poOff)) (fun p d => d.polyWind q p)
  let d := d.each (List.range 4) (fun n d => d.pmsmWind q n)
  if d.motWinds q then d.setFlag (MOT_CTRL q) MOT_CTRL_BUSY true else d

end Sys2Proof.Machine
end

