-- ==== Sys2Proof/Machine/Axes.lean ====
section
/-! DEFINITION. Encoders, stepper axes and the drive bus (R478 to R512). -/

namespace Sys2Proof.Machine

/-- Where a quadrature state stands in the cycle in which A leads B. -/
def quadPos (a b : Bool) : Nat :=
  match a, b with
  | false, false => 0
  | true, false => 1
  | true, true => 2
  | false, true => 3

/-- A filtered change of a quadrature encoder's inputs (R478, R479); A and B changing together count as an error, and as a fault of
the PMSM controllers on that encoder (R471). -/
def execEncoderEdge (t : Nat) (q : Side) (e : Fin 8) (a b : Bool) (s : State) : Result :=
  s.run t fun d =>
    let k := 8 * q.code + e.val
    let o := sget (fun _ => {}) d.axs.enc k
    let d := d.modAxs (fun v => { v with enc := sput (fun _ => {}) v.enc k { a, b } })
    let n := (quadPos a b + 4 - quadPos o.a o.b) % 4
    let up : Int := if d.flag (AXS_ENC_CFG q e) AXS_ENC_CFG_DIR then -1 else 1
    match n with
    | 1 => d.newCount q e (d.int (AXS_ENC_RAW q e) + up)
    | 3 => d.newCount q e (d.int (AXS_ENC_RAW q e) - up)
    | 2 => (d.addSat (AXS_ENC_ERR q e) wholeWord 1).encoderFault q e
    | _ => d

/-- The frame period in timebase cycles (R503). -/
def framePeriod : Nat := 16000

/-! Profiles (R485). -/

def Device.profile (d : Device) (i : Nat) : List Byte := d.entry 0x05 0 i
def pfSpeed (b : List Byte) : Nat := bytesAt b 0 4
def pfAcc (b : List Byte) : Nat := bytesAt b 4 4
def pfDec (b : List Byte) : Nat := bytesAt b 8 4
def pfJerk (b : List Byte) : Nat := bytesAt b 12 4
def pfRun (b : List Byte) : Nat := bytesAt b 16 1
def pfHold (b : List Byte) : Nat := bytesAt b 17 1
def pfStall (b : List Byte) : Nat := bytesAt b 18 1
def pfHoldMs (b : List Byte) : Nat := bytesAt b 20 2

/-- A flag of AXS_STATUS. -/
def Device.axFlag (d : Device) (q : Side) (a : Nat) (f : Fld) : Bool := d.flag (AXS_STATUS q a) f

def Device.setAx (d : Device) (q : Side) (a : Nat) (f : Fld) (b : Bool) : Device := d.setFlag (AXS_STATUS q a) f b

/-- Whether an axis moves. -/
def Device.moving (d : Device) (q : Side) (a : Nat) : Bool := d.axFlag q a AXS_STATUS_MOVING

/-- The state of a chain, as the Quarter that owns the outputs has it (R507, R509): 0 OFF, 1 BRING-UP, 2 UP, 3 FAILED. -/
def Device.chainState (d : Device) (q : Side) (c : Nat) : Nat := d.fld (AXS_BUS_STATUS q) ⟨2 * c + 1, 2 * c⟩

def Device.setChain (d : Device) (q : Side) (c n : Nat) : Device := d.setFld (AXS_BUS_STATUS q) ⟨2 * c + 1, 2 * c⟩ n

def Device.axChain (d : Device) (q : Side) (a : Nat) : Nat := d.fld (AXS_CFG q a) AXS_CFG_CHAIN

def Device.chainUp (d : Device) (q : Side) (a : Nat) : Bool := d.chainState d.owner (d.axChain q a) == 2

/-- Whether a target may not be moved to (R486, R495). -/
def Device.moveRefused (d : Device) (q : Side) (a : Nat) (target : Int) : Bool :=
  let v := d.axisS q a
  let p := d.int (AXS_POS q a)
  !v.bound || !d.flag (AXS_ACTL q a) AXS_ACTL_ENABLE || d.flag (AXS_ACTL q a) AXS_ACTL_BUSY || d.axFlag q a AXS_STATUS_FAULT || !d.chainUp q a || v.homing != 0 ||
    d.axFlag q a AXS_STATUS_STOPPING ||
    (d.axFlag q a AXS_STATUS_HOMED && (decide (target < d.int (AXS_SOFT_MIN q a)) || decide (d.int (AXS_SOFT_MAX q a) < target))) ||
    (d.axFlag q a AXS_STATUS_LIM_NEG && decide (target < p)) || (d.axFlag q a AXS_STATUS_LIM_POS && decide (p < target))

/-- The limits of a profile (R485). -/
def Device.profileLimits (d : Device) (prof : Nat) : Limits :=
  let b := d.profile prof
  Limits.pos { v := pfSpeed b, a := pfAcc b, d := pfDec b, j := pfJerk b }

/-- The limits in force: velocity and acceleration of the profile in use, deceleration and jerk of the profile last taken (R489). -/
def Device.axisLimits (d : Device) (q : Side) (a : Nat) : Limits :=
  let new := d.profileLimits (d.fld (AXS_ACTL q a) AXS_ACTL_PROFILE)
  let old := d.profileLimits (d.axisS q a).limits
  { new with d := old.d, j := old.j }

/-- The present state of an axis: on its trajectory, or at rest. -/
def Device.axisKin (d : Device) (q : Side) (a : Nat) : Kin :=
  if d.moving q a then (d.axisS q a).plan.kinAt d.timeTick else (Plan.rest (d.int (AXS_POS q a))).kin

/-- A new trajectory from the present state to the target (R487). -/
def Device.replan (d : Device) (q : Side) (a : Nat) : Device :=
  let k := d.axisKin q a
  let r := planTo (d.axisLimits q a) k (d.int (AXS_TARGET q a))
  d.setAxis q a { d.axisS q a with plan := { start := d.timeTick, kin := k, segs := r.1, cruise := r.2 } }

/-- Whether the limits of a profile lower the deceleration or the jerk so that an axis which could stop at its target no longer can (R489). -/
def Device.infeasible (d : Device) (q : Side) (a prof : Nat) : Bool :=
  let k := d.axisKin q a
  let target := d.int (AXS_TARGET q a)
  let old := d.profileLimits (d.axisS q a).limits
  let new := d.profileLimits prof
  decide (new.d < old.d ∨ new.j < old.j) && !canStop new k target && canStop old k target

/-- Take the limits of a profile, or defer its deceleration and jerk while they are not feasible (R489), and plan anew. -/
def Device.takeLimits (d : Device) (q : Side) (a prof : Nat) : Device :=
  let late := d.infeasible q a prof
  let d := d.setAx q a AXS_STATUS_LIMIT_DEFERRED late
  (if late then d else d.setAxis q a { d.axisS q a with limits := prof }).replan q a

/-- Start a move (R486, R487), or refuse it with TARGET_ERR. -/
def Device.axisMove (d : Device) (q : Side) (a : Nat) (target : Int) (prof : Nat) : Device :=
  if d.moveRefused q a target then d.setAx q a AXS_STATUS_TARGET_ERR true
  else
    let d := (d.setReg (AXS_TARGET q a) (BitVec.ofInt 32 target)).setFld (AXS_ACTL q a) AXS_ACTL_PROFILE prof
    (d.takeLimits q a prof).setAx q a AXS_STATUS_MOVING true

/-- A write of AXS_TARGET. -/
def execAxisTargetWrite (t : Nat) (q : Side) (a : Fin 32) (value : Word) (s : State) : Result :=
  s.run t fun d => d.axisMove q a value.toInt (d.fld (AXS_ACTL q a) AXS_ACTL_PROFILE)

/-- A homing run ends in a fault (R500). -/
def Device.homeFault (d : Device) (q : Side) (a : Nat) : Device :=
  let d := ((d.setAx q a AXS_STATUS_HOME_FAULT true).setAx q a AXS_STATUS_HOMED false).setAx q a AXS_STATUS_HOMING false
  (d.setAxis q a { d.axisS q a with homing := 0, stallEn := false }).ownEvent q lbAxisHomeFail a

/-- The limits of a stop (R492). -/
def Device.stopLimits (d : Device) (q : Side) (a : Nat) : Limits :=
  Limits.pos { v := 0, a := d.nat (AXS_STOP_DEC q a), d := d.nat (AXS_STOP_DEC q a), j := d.nat (AXS_STOP_JERK q a) }

/-- A stop (R492): a moving axis decelerates under the stop limits, and a stop in progress goes on (R512); one at rest holds its position as target.
A homing run ends in a fault. -/
def Device.axisStop (d : Device) (q : Side) (a : Nat) : Device :=
  let d := if (d.axisS q a).homing ≠ 0 then d.homeFault q a else d
  if !d.moving q a then d.setReg (AXS_TARGET q a) (d.reg (AXS_POS q a))
  else if d.axFlag q a AXS_STATUS_STOPPING then d
  else
    let k := d.axisKin q a
    let d := d.setAx q a AXS_STATUS_STOPPING true
    d.setAxis q a { d.axisS q a with plan := { start := d.timeTick, kin := k, segs := planStop (d.stopLimits q a) k } }

/-- AXS_CMD.OP = STOP. -/
def execStop (t : Nat) (q : Side) (a : Fin 32) (s : State) : Result := s.run t fun d => d.axisStop q a

/-- An axis is disabled: it stops, and BUSY reads 1 until its bridge is off (R493). -/
def Device.axisOff (d : Device) (q : Side) (a : Nat) : Device :=
  if !d.flag (AXS_ACTL q a) AXS_ACTL_ENABLE then d
  else if d.flag (AXS_ACTL q a) AXS_ACTL_BUSY then d.setFlag (AXS_ACTL q a) AXS_ACTL_ENABLE false
  else ((d.setFlag (AXS_ACTL q a) AXS_ACTL_ENABLE false).axisStop q a).setFlag (AXS_ACTL q a) AXS_ACTL_BUSY true

/-- An axis takes the limits of its profile and holds its position from now on: its enable takes effect. -/
def Device.axisOn (d : Device) (q : Side) (a : Nat) : Device :=
  d.setAxis q a { d.axisS q a with limits := d.fld (AXS_ACTL q a) AXS_ACTL_PROFILE, restAt := d.now }

/-- The bridge of a disabled axis is off (R493); an enable written meanwhile takes effect (R51). -/
def Device.axisStopped (d : Device) (q : Side) (a : Nat) : Device :=
  let d := d.setFlag (AXS_ACTL q a) AXS_ACTL_BUSY false
  if d.flag (AXS_ACTL q a) AXS_ACTL_ENABLE then d.axisOn q a else d

/-- A write of AXS_ACTL: enable or disable the axis, or a change of profile, which is a move to the present target (R483, R486,
R493). While BUSY reads 1 an enable waits (R51). -/
def Device.axisControl (d : Device) (q : Side) (a : Nat) (value : Word) : Device :=
  let en := AXS_ACTL_ENABLE.get value == 1
  let prof := AXS_ACTL_PROFILE.get value
  let was := d.flag (AXS_ACTL q a) AXS_ACTL_ENABLE
  if en && !(d.axisS q a).bound then d.setAx q a AXS_STATUS_TARGET_ERR true
  else if en && !was then
    let d := (d.setFlag (AXS_ACTL q a) AXS_ACTL_ENABLE true).setFld (AXS_ACTL q a) AXS_ACTL_PROFILE prof
    if d.flag (AXS_ACTL q a) AXS_ACTL_BUSY then d else d.axisOn q a
  else if !en && was then d.axisOff q a
  else if prof = d.fld (AXS_ACTL q a) AXS_ACTL_PROFILE then d
  else d.axisMove q a (d.int (AXS_TARGET q a)) prof

/-- A write of AXS_ACTL. -/
def execAxisControlWrite (t : Nat) (q : Side) (a : Fin 32) (value : Word) (s : State) : Result := s.run t fun d => d.axisControl q a value

/-- HOME (R499 step 1): the axis moves toward the stop; refused as a move is. -/
def Device.axisHome (d : Device) (q : Side) (a : Nat) : Device :=
  let pos := d.int (AXS_POS q a)
  let dist : Int := d.nat (AXS_HOME_DIST q a)
  let dir : Int := if d.flag (AXS_HOME_CFG q a) AXS_HOME_CFG_DIR then 1 else -1
  let prof := d.fld (AXS_HOME_CFG q a) AXS_HOME_CFG_PROFILE
  let d0 := d.setAx q a AXS_STATUS_HOMED false
  if d0.moveRefused q a (pos + dir * dist) then d.setAx q a AXS_STATUS_TARGET_ERR true
  else
    let d := (d0.setAx q a AXS_STATUS_HOMING true).axisMove q a (pos + dir * dist) prof
    d.setAxis q a { d.axisS q a with homing := 1, stallEn := false, stalls := 0 }

/-- AXS_CMD.OP = HOME. -/
def execHome (t : Nat) (q : Side) (a : Fin 32) (s : State) : Result := s.run t fun d => d.axisHome q a

/-- Whether the level of a switch changed 8 times or more within the last 50 ms (R496). -/
def chatters (now : Nat) (l : LimitS) : Bool :=
  match l.changes[7]? with
  | some t0 => decide (now - t0 ≤ 50 * tuPerMs)
  | none => false

/-- CLEAR clears a FAULT at rest, unless the chatter persists (R496). -/
def Device.axisClear (d : Device) (q : Side) (a : Nat) : Device :=
  let v := d.axisS q a
  if d.moving q a || chatters d.now v.neg || chatters d.now v.pos then d
  else ((d.setAx q a AXS_STATUS_FAULT false).setAx q a AXS_STATUS_CHATTER false).setAxis q a { v with clear := true }

/-- AXS_CMD.OP = CLEAR. -/
def execClearFault (t : Nat) (q : Side) (a : Fin 32) (s : State) : Result := s.run t fun d => d.axisClear q a

/-- SETTLE_MS after the stall the axis backs off from the stop (R499 step 5). -/
def execHomeSettleTimeout (t : Nat) (q : Side) (a : Fin 32) (s : State) : Result :=
  s.run t fun d =>
    if (d.axisS q a).homing = 3 then
      let back : Int := d.fld (AXS_HOME_CFG q a) AXS_HOME_CFG_BACKOFF
      let target := d.int (AXS_POS q a) + (if d.flag (AXS_HOME_CFG q a) AXS_HOME_CFG_DIR then -back else back)
      let d := ((d.setReg (AXS_TARGET q a) (BitVec.ofInt 32 target)).replan q a).setAx q a AXS_STATUS_MOVING true
      d.setAxis q a { d.axisS q a with homing := 5, stalls := 0 }
    else d

/-- At the latest at rest the deferred limits are taken (R489). -/
def Device.restLimits (d : Device) (q : Side) (a : Nat) : Device :=
  (d.setAx q a AXS_STATUS_LIMIT_DEFERRED false).setAxis q a { d.axisS q a with limits := d.fld (AXS_ACTL q a) AXS_ACTL_PROFILE }

/-- An axis comes to rest: at its target, or where a stop ended; a homing run goes on or fails (R487, R492, R499, R500). -/
def Device.axisAtRest (d : Device) (q : Side) (a : Nat) : Device :=
  let stopping := d.axFlag q a AXS_STATUS_STOPPING
  let d := if stopping then d.setReg (AXS_TARGET q a) (d.reg (AXS_POS q a)) else d.setReg (AXS_POS q a) (d.reg (AXS_TARGET q a))
  let d := ((d.setAx q a AXS_STATUS_MOVING false).setAx q a AXS_STATUS_STOPPING false).setReg (AXS_VEL q a) 0
  let d := d.setAxis q a { d.axisS q a with plan := Plan.rest (d.int (AXS_POS q a)), restAt := d.now }
  let d := if d.axFlag q a AXS_STATUS_LIMIT_DEFERRED then d.restLimits q a else d
  match (d.axisS q a).homing with
  | 1 => d.homeFault q a
  | 2 => d.homeFault q a
  | 5 =>
    let d := (d.setAx q a AXS_STATUS_HOMED true).setAx q a AXS_STATUS_HOMING false
    let src := d.fld (AXS_FE_CFG q a) AXS_FE_CFG_SRC
    d.setAxis q a { d.axisS q a with homing := 0, fHome := d.position q src, pHome := d.int (AXS_POS q a) }
  | _ => d

/-- The position that a frame slot gives an axis: the trajectory at the end of the frame period that begins, rounded to a microstep (R487), no more than
21 microsteps away (R490). -/
def Device.nextPos (d : Device) (q : Side) (a : Nat) : Int :=
  let p := d.int (AXS_POS q a)
  p + clampI (-21) 21 (unscale ((d.axisS q a).plan.kinAt (d.timeTick + framePeriod)).p posScale - p)

/-- Whether the trajectory of an axis is over by the end of the frame period that begins, with the axis in its last position: its target, or where the
stop ends (R487, R492). -/
def Device.comesToRest (d : Device) (q : Side) (a : Nat) : Bool :=
  let x := (d.axisS q a).plan
  let at_ := d.timeTick + framePeriod
  x.over at_ && d.nextPos q a == (if d.axFlag q a AXS_STATUS_STOPPING then unscale (x.kinAt at_).p posScale else d.int (AXS_TARGET q a))

/-- One axis at a frame slot: its position and velocity at the end of the frame period that begins (R487); a homing move that has reached its cruise velocity sets STALL_EN
(R499); deferred limits are tested again (R489). -/
def Device.axisSample (d : Device) (q : Side) (a : Nat) : Device :=
  if !d.moving q a then d
  else
    let at_ := d.timeTick + framePeriod
    let x := (d.axisS q a).plan
    let rest := d.comesToRest q a
    let old := d.int (AXS_POS q a)
    let d := (d.setReg (AXS_POS q a) (BitVec.ofInt 32 (d.nextPos q a))).setReg (AXS_VEL q a)
      (BitVec.ofInt 32 (clampI (-1048575) 1048575 (unscale (x.kinAt at_).v velScale)))
    let d := d.pitchEdge q (16 + a) old
    let d := if decide (x.start + x.cruise ≤ at_) ∧ (d.axisS q a).homing = 1 then d.setAxis q a { d.axisS q a with homing := 2, stallEn := true } else d
    if rest then d.axisAtRest q a
    else if d.axFlag q a AXS_STATUS_LIMIT_DEFERRED && !d.axFlag q a AXS_STATUS_STOPPING then d.takeLimits q a (d.fld (AXS_ACTL q a) AXS_ACTL_PROFILE)
    else d

/-- The command of an axis in a frame (R484, R505). -/
def Device.axisCommand (d : Device) (q : Side) (a : Nat) : List Byte :=
  let v := d.axisS q a
  let prof := d.profile (d.fld (AXS_ACTL q a) AXS_ACTL_PROFILE)
  let p := d.int (AXS_POS q a)
  let p := if d.flag (AXS_CFG q a) AXS_CFG_DIR_INV then -p else p
  let hold := !d.moving q a && v.homing == 0 && decide (v.restAt + pfHoldMs prof * tuPerMs ≤ d.now)
  let on := d.chainUp q a && ((d.flag (AXS_ACTL q a) AXS_ACTL_ENABLE && !d.flag (AXS_ACTL q a) AXS_ACTL_BUSY) || d.moving q a) && !d.flag KRB_STATUS KRB_STATUS_FORCING
  let stallEn := if v.homing = 0 then on else v.stallEn
  leBytes 4 (ofSigned 32 p) ++ leBytes 1 (if hold then pfHold prof else pfRun prof) ++ leBytes 1 (pfStall prof) ++
    leBytes 1 (4 * b01 v.clear + 2 * b01 stallEn + b01 on) ++ leBytes 1 0

/-- The axis bound to a slot of a chain. -/
def Device.axisAt (d : Device) (q : Side) (c k : Nat) : Option Nat :=
  (List.range 32).find? (fun a => (d.axisS q a).bound && d.axChain q a == c && d.fld (AXS_CFG q a) AXS_CFG_SLOT == k)

/-- The body of a chain's frame (R504). -/
def Device.frameBody (d : Device) (q : Side) (c seq : Nat) : List Byte :=
  let cmds := (List.range 8).map (fun k =>
    match d.axisAt q c k with
    | some a => d.axisCommand q a
    | none => List.replicate 8 0)
  withCrc (leBytes 1 0xD1 ++ leBytes 1 q.code ++ leBytes 2 seq ++ leBytes 1 c ++ leBytes 1 (d.fld (AXS_CHAIN_CFG q c) AXS_CHAIN_CFG_DRIVERS) ++
    leBytes 2 0 ++ cmds.flatten) ++ List.replicate 96 0

/-- Bring-up of a chain (R509). -/
def Device.chainStart (d : Device) (q : Side) (c : Nat) : Device :=
  (d.setChain q c 1).modAxs (fun v => { v with good := sput (fun _ => []) v.good (4 * q.code + c) [] })

/-- Each chain with drivers is brought up (R509). -/
def Device.driveStart (d : Device) (q : Side) : Device :=
  d.each ((List.range 4).filter (fun c => d.fld (AXS_CHAIN_CFG q c) AXS_CHAIN_CFG_DRIVERS != 0 && d.chainState q c == 0)) (fun c d => d.chainStart q c)

/-- Whether a Quarter sends drive-bus frames now: it transmits, or it holds the token in Safe (R613), past Booting (R63), with its bus on or
winding down (R50). The old Quarter of a transfer sends at most two more (R375). -/
def Device.sendsFrames (d : Device) (q : Side) : Bool :=
  ((d.q q).transmits || (d.st == .safe && d.token == some q)) && d.st != .booting &&
    (d.flag (AXS_CTRL q) AXS_CTRL_ENABLE || d.flag (AXS_CTRL q) AXS_CTRL_BUSY) &&
    (match d.transfer with
     | some x => x.old != q || x.frames != 0
     | none => true)

/-- A frame of the old Quarter of a transfer is counted (R375). -/
def Device.countOldFrame (d : Device) (q : Side) : Device :=
  match d.transfer with
  | some x => if x.old = q then d.withTransfer (some { x with frames := x.frames - 1 }) else d
  | none => d

/-- The drive bus is off once its axes rest and their bridges are off (R493); an enable written meanwhile takes effect (R51). -/
def Device.driveStopped (d : Device) (q : Side) : Device :=
  let d := (d.setFlag (AXS_CTRL q) AXS_CTRL_BUSY false).setReg (AXS_BUS_STATUS q) (d.reg (AXS_BUS_STATUS q) &&& 0xFFFF0000)
  if d.flag (AXS_CTRL q) AXS_CTRL_ENABLE then d.driveStart q else d

/-- Every 20 µs: the planner's trajectories are evaluated and each chain's frame is sent by the Quarter that transmits (R487, R503). -/
def execDriveFrameSlot (t : Nat) (q : Side) (s : State) : Result :=
  s.run t fun d =>
    let seq := (d.fld (AXS_BUS_STATUS q) AXS_BUS_STATUS_SEQ + 1) % 65536
    let d := d.setFld (AXS_BUS_STATUS q) AXS_BUS_STATUS_SEQ seq
    let d := d.each (List.range 32) (fun a d => d.axisSample q a)
    let d := if d.sendsFrames q then
        (d.each ((List.range 4).filter (fun c => d.chainState q c == 1 || d.chainState q c == 2)) (fun c d =>
          d.modAxs (fun v => { v with frame := sput (fun _ => []) v.frame (4 * q.code + c) (d.frameBody q c seq) }))).countOldFrame q
      else d
    let d := d.each (List.range 32) (fun a d =>
      let d := if (d.axisS q a).clear then d.setAxis q a { d.axisS q a with clear := false } else d
      if d.flag (AXS_ACTL q a) AXS_ACTL_BUSY && !d.moving q a then d.axisStopped q a else d)
    if d.flag (AXS_CTRL q) AXS_CTRL_BUSY && (List.range 32).all (fun a => !d.flag (AXS_ACTL q a) AXS_ACTL_BUSY) then d.driveStopped q else d

/-- An axis loses communication (R507): it stops, or rests at the driver's POSITION after LOST, and is then no longer HOMED if it moved. -/
def Device.axisComm (d : Device) (q : Side) (a : Nat) (lost : Option Nat) : Device :=
  let d := (d.setAx q a AXS_STATUS_COMM true).ownEvent q lbAxisComm a
  match lost with
  | none => d.axisStop q a
  | some p =>
    let moved := d.moving q a
    let d := if (d.axisS q a).homing ≠ 0 then d.homeFault q a else d
    let d := d.axisRest q a p
    if moved then d.setAx q a AXS_STATUS_HOMED false else d

/-- A response with STALL: the second in a row ends a homing move at the stop, or stops the axis (R498, R499, R512). -/
def Device.axisStall (d : Device) (q : Side) (a : Nat) (stall : Bool) : Device :=
  let v := d.axisS q a
  let n := if stall then v.stalls + 1 else 0
  let d := d.setAxis q a { v with stalls := min 2 n }
  if n < 2 then d
  else if v.homing = 2 then
    let pos := d.reg (AXS_HOME_POS q a)
    let d := ((d.setReg (AXS_POS q a) pos).setReg (AXS_TARGET q a) pos).setReg (AXS_VEL q a) 0
    let d := d.setAx q a AXS_STATUS_MOVING false
    d.setAxis q a { d.axisS q a with homing := 3, stallEn := false, stalls := 0, plan := Plan.rest pos.toInt }
  else if v.homing = 5 then d.axisStop q a
  else if v.homing = 0 ∧ !d.axFlag q a AXS_STATUS_STALL then
    (((d.setAx q a AXS_STATUS_STALL true).setAx q a AXS_STATUS_HOMED false).ownEvent q lbAxisStall a).axisStop q a
  else d

/-- A slot missed a frame (R507). -/
def Device.slotMissed (d : Device) (q : Side) (c k : Nat) : Device :=
  let d := d.count (AXS_CHAIN_CNT q c) AXS_CHAIN_CNT_MISSED
  match d.axisAt q c k with
  | none => d
  | some a =>
    let n := (d.axisS q a).misses + 1
    let d := d.setAxis q a { d.axisS q a with misses := min 3 n }
    if n = 3 ∧ d.chainState q c = 2 then d.axisComm q a none else d

/-- A good response of a slot (R506, R507). -/
def Device.slotGood (d : Device) (q : Side) (c k : Nat) (r : List Byte) : Device :=
  match d.axisAt q c k with
  | none => d
  | some a =>
    let d := (d.setNat (AXS_DRV_STATUS q a) (bytesAt r 4 4)).setNat (AXS_DRV_POS q a) (bytesAt r 0 4)
    let d := d.setAxis q a { d.axisS q a with misses := 0 }
    let flags := bytesAt r 6 1
    let d := d.axisStall q a (natBit flags 0)
    if natBit flags 6 ∧ d.chainState q c = 2 then d.axisComm q a (some (bytesAt r 0 4)) else d

/-- A returning frame is checked by the Quarter that sent it (R507); 16 consecutive good responses of every slot bring the chain UP
(R509). -/
def execDriveFrameReturn (t : Nat) (q : Side) (c : Fin 4) (body : List Byte) (s : State) : Result :=
  s.run t fun d =>
    let st := d.chainState q c
    if !((d.q q).transmits || (d.st == .safe && d.token == some q)) ∨ (st ≠ 1 ∧ st ≠ 2) then d
    else
      let n := min 8 (d.fld (AXS_CHAIN_CFG q c) AXS_CHAIN_CFG_DRIVERS)
      let crcOk := crcGood body 72
      let d := if crcOk then d else d.count (AXS_CHAIN_CNT q c) AXS_CHAIN_CNT_CMD_CRC
      let ok := fun k =>
        let r := (body.drop (76 + 12 * k)).take 12
        crcOk && r.length == 12 && crcGood r 8 && bytesAt r 7 1 == bytesAt body 2 1
      let d := d.each (List.range n) (fun k d =>
        if ok k then d.slotGood q c k ((body.drop (76 + 12 * k)).take 12) else d.slotMissed q c k)
      if st = 1 then
        let key := 4 * q.code + c.val
        let g := sget (fun _ => []) d.axs.good key
        let g := (List.range n).map (fun k => if ok k then min 16 (g.getD k 0 + 1) else 0)
        let d := d.modAxs (fun v => { v with good := sput (fun _ => []) v.good key g })
        if g.all (· == 16) then d.setChain q c 2 else d
      else d

/-- A limit switch of an axis becomes active (R495, R500). -/
def Device.limitTrip (d : Device) (q : Side) (a : Nat) (positive : Bool) : Device :=
  let v := d.int (AXS_VEL q a)
  if (positive && decide (v < 0)) || (!positive && decide (0 < v)) then d
  else ((d.setAx q a AXS_STATUS_LIMIT_HIT true).ownEvent q lbAxisLimit a).axisStop q a

/-- A 100 kHz sample of a limit switch: debounce, chatter and trip (R494 to R496). -/
def execLimitSwitchSample (t : Nat) (q : Side) (a : Fin 32) (positive level : Bool) (s : State) : Result :=
  s.run t fun d =>
    let en := d.flag (AXS_CFG q a) (if positive then AXS_CFG_LIMP_EN else AXS_CFG_LIMN_EN)
    if !en then d
    else
      let active := level == d.flag (AXS_CFG q a) (if positive then AXS_CFG_LIMP_LVL else AXS_CFG_LIMN_LVL)
      let v := d.axisS q a
      let l := if positive then v.pos else v.neg
      let l : LimitS := if level = l.level then { l with run := min 8 (l.run + 1) }
        else { level, run := 1, changes := (d.now :: l.changes).take 8 }
      let d := d.setAxis q a (if positive then { v with pos := l } else { v with neg := l })
      let f := if positive then AXS_STATUS_LIM_POS else AXS_STATUS_LIM_NEG
      let was := d.axFlag q a f
      let d := if l.run = 8 then d.setAx q a f active else d
      let d := if l.run = 8 ∧ active ∧ !was then d.limitTrip q a positive else d
      if chatters d.now l && !d.axFlag q a AXS_STATUS_CHATTER then
        (((d.setAx q a AXS_STATUS_CHATTER true).ownEvent q lbAxisChatter a).axisStop q a).setAx q a AXS_STATUS_FAULT true
      else d

/-- AXS_CTRL.ENABLE is set; while the bus winds down the enable waits (R51). -/
def Device.driveOn (d : Device) (q : Side) : Device :=
  let d := d.setFlag (AXS_CTRL q) AXS_CTRL_ENABLE true
  if d.flag (AXS_CTRL q) AXS_CTRL_BUSY then d else d.driveStart q

/-- Set AXS_CTRL.ENABLE. -/
def execDriveBusEnable (t : Nat) (q : Side) (s : State) : Result := s.run t fun d => d.driveOn q

/-- AXS_CTRL.ENABLE is cleared: every axis stops and its bridge goes off (R493). -/
def Device.driveOff (d : Device) (q : Side) : Device :=
  if !d.flag (AXS_CTRL q) AXS_CTRL_ENABLE then d
  else if d.flag (AXS_CTRL q) AXS_CTRL_BUSY then d.setFlag (AXS_CTRL q) AXS_CTRL_ENABLE false
  else
    let d := (d.setFlag (AXS_CTRL q) AXS_CTRL_ENABLE false).setFlag (AXS_CTRL q) AXS_CTRL_BUSY true
    d.each (List.range 32) (fun a d => d.axisOff q a)

/-- Clear AXS_CTRL.ENABLE. -/
def execDriveBusDisable (t : Nat) (q : Side) (s : State) : Result := s.run t fun d => d.driveOff q

/-- A chain is not UP 10 ms after bring-up started (R509); a homing axis on it ends in a fault (R500). -/
def execChainBringupTimeout (t : Nat) (q : Side) (c : Fin 4) (s : State) : Result :=
  s.run t fun d => if d.chainState q c = 1 then (d.setChain q c 3).ownEvent q lbDriveBusFail c else d

/-- 100 ms after FAILED a chain starts bring-up again (R509). -/
def execChainBringupRetry (t : Nat) (q : Side) (c : Fin 4) (s : State) : Result :=
  s.run t fun d => if d.chainState q c = 3 ∧ d.flag (AXS_CTRL q) AXS_CTRL_ENABLE then d.chainStart q c else d

/-- The following error of an axis (R497). -/
def Device.followError (d : Device) (q : Side) (a : Nat) : Int :=
  if d.flag (AXS_FE_CFG q a) AXS_FE_CFG_EN && d.axFlag q a AXS_STATUS_HOMED then
    let v := d.axisS q a
    let f := d.position q (d.fld (AXS_FE_CFG q a) AXS_FE_CFG_SRC)
    d.int (AXS_POS q a) - (v.pHome + wrap32 (f - v.fHome) * (d.fld (AXS_FE_CFG q a) AXS_FE_CFG_SCALE : Int) / 65536)
  else 0

end Sys2Proof.Machine
end

