-- ==== Sys2Proof/Machine/Compress.lean ====
section
/-! DEFINITION. What a compressor produces (R208 to R214, R218, R238, R239, R243): blocks of 65 535 input bytes, coded or stored, and flush
points. Which matches it finds and how it writes a code-length header are choices that it is given; a choice that does not fit the input
is replaced, so every result is a valid stream of its input. -/

namespace Sys2Proof.Machine

/-! Bits. -/

/-- The `n` low bits of a number, least significant first. -/
def bitsLsb : Nat → Nat → List Bool
  | 0, _ => []
  | n + 1, v => (v % 2 == 1) :: bitsLsb n (v / 2)

/-- Bits packed into bytes, the last byte padded with 0. -/
def packBits (l : List Bool) : List Byte := bytesOfBits ((l.length + 7) / 8) l

/-- The bits from a position up to the next byte boundary. -/
def padBits (pos : Nat) : List Bool := List.replicate ((8 - pos % 8) % 8) false

/-! Codes. -/

/-- The first code of length `n` of a set of code lengths (RFC 1951). -/
def firstCode (lens : List Nat) (n : Nat) : Nat :=
  (List.range n).foldl (fun c i => 2 * (c + (if i = 0 then 0 else lens.countP (fun l => l == i)))) 0

/-- The code of a symbol, most significant bit first; none where it has no length. -/
def codeOf (lens : List Nat) (s : Nat) : Option (List Bool) :=
  let n := lens.getD s 0
  if n = 0 then none
  else some (bitsLsb n (firstCode lens n + (lens.take s).countP (fun l => l == n))).reverse

/-- A code length of every symbol of a set: the set's two lists of code lengths, for literals and lengths, and for distances. -/
structure CodeLens where
  lit : List Nat
  dist : List Nat
  deriving DecidableEq, Repr

/-- The fixed codes (RFC 1951, R209). -/
def fixedLens (format : Nat) : CodeLens := { lit := fixedLit, dist := fixedDist format }

/-- The codes of a preset (R213). -/
def presetLens (b : List Byte) : CodeLens :=
  { lit := (List.range (presetNlit b + 257)).map (presetLen b)
    dist := (List.range (presetNdist b + 1)).map (fun i => presetLen b (286 + i)) }

/-- Complete codes for any block, where a dynamic block is given none that fit it. -/
def plainLens (format : Nat) : CodeLens :=
  { lit := fixedLit, dist := if format = 1 then List.replicate 32 5 else List.replicate 28 5 ++ List.replicate 8 6 }

/-- The code lengths of a set of codes, as long as `n` symbols. -/
def Codes.lens (c : Codes) (n : Nat) : List Nat :=
  let groups := c.counts.foldl (fun (x : List Nat × List (List Nat)) k => (x.1.drop k, x.2 ++ [x.1.take k])) (c.symbols, [])
  (List.range n).map (fun s =>
    match groups.2.findIdx? (fun g => g.contains s) with
    | some i => i + 1
    | none => 0)

/-- The code lengths that a code-length header gives, where it is one and nothing follows it. -/
def headerLens (format : Nat) (h : List Bool) : Option CodeLens :=
  match dynamicHeader format { rest := h, pos := 0 } with
  | .ok ((lit, dist), b) =>
    if b.rest.isEmpty then
      some { lit := lit.lens (bitsNat (h.take 5) + 257), dist := dist.lens (bitsNat ((h.drop 5).take (if format = 1 then 5 else 6)) + 1) }
    else none
  | .error _ => none

/-- A code-length header without run lengths: each of the 16 lengths has a 4-bit code. -/
def plainHeader (format : Nat) (c : CodeLens) : List Bool :=
  bitsLsb 5 (c.lit.length - 257) ++ bitsLsb (if format = 1 then 5 else 6) (c.dist.length - 1) ++ bitsLsb 4 15 ++
    clOrder.flatMap (fun s => bitsLsb 3 (if s < 16 then 4 else 0)) ++ (c.lit ++ c.dist).flatMap (fun l => (bitsLsb 4 l).reverse)

/-! Symbols. -/

/-- The length symbol of a match with its extra bits. -/
def lengthSym (n : Nat) : Nat × List Bool :=
  let s := ((List.range 29).reverse.find? (fun k => decide ((lengthOf (257 + k)).1 ≤ n))).getD 0 + 257
  (s, bitsLsb (lengthOf s).2 (n - (lengthOf s).1))

/-- The distance code of a match with its extra bits. -/
def distSym (n : Nat) : Nat × List Bool :=
  let c := ((List.range 36).reverse.find? (fun k => decide ((distanceOf k).1 ≤ n))).getD 0
  (c, bitsLsb (distanceOf c).2 (n - (distanceOf c).1))

/-- The bits of a literal or match; none where the codes do not have its symbols. -/
def tokBits (c : CodeLens) : Tok → Option (List Bool)
  | .lit b => codeOf c.lit b.toNat
  | .ref len dist =>
    match codeOf c.lit (lengthSym len).1, codeOf c.dist (distSym dist).1 with
    | some x, some y => some (x ++ (lengthSym len).2 ++ y ++ (distSym dist).2)
    | _, _ => none

/-- The bits of a block's symbols and its end; none where a symbol has no code. -/
def symsBits (c : CodeLens) : List Tok → Option (List Bool)
  | [] => codeOf c.lit 256
  | x :: r =>
    match tokBits c x, symsBits c r with
    | some a, some b => some (a ++ b)
    | _, _ => none

/-- What tokens append to the bytes before them, newest first; none where one has a length or distance that the format, the limit or the
history does not allow. -/
def expand (format limit : Nat) : List Tok → List Byte → Option (List Byte)
  | [], out => some out
  | .lit b :: r, out => expand format limit r (b :: out)
  | .ref len dist :: r, out =>
    if 3 ≤ len ∧ len ≤ 258 ∧ 1 ≤ dist ∧ dist ≤ limit ∧ dist ≤ out.length ∧ (distSym dist).1 ≤ maxDist format then
      expand format limit r (copyBack dist len out)
    else none

/-- The tokens of a block: those given where they spell it, its bytes as literals otherwise. -/
def blockToks (format limit : Nat) (given : List Tok) (before block : List Byte) : List Tok :=
  if expand format limit given before = some (block.reverse ++ before) then given else block.map Tok.lit

/-! Blocks. -/

/-- How a job codes (R211): its format, the distance limit of its use, STATIC 0 or DYNAMIC 1, and the preset of TABLE_ID, empty for the
fixed codes. -/
structure Coding where
  format : Nat
  limit : Nat
  tables : Nat
  preset : List Byte
  deriving DecidableEq, Repr

/-- A coded block after its first bit: BTYPE, any code-length header, its symbols (R211). A header that does not give the codes that the
setting asks for, or codes that lack a symbol of the block, are replaced; so are matches that a preset has no codes for. -/
def codedBits (c : Coding) (given : List Bool) (block : List Byte) (toks : List Tok) : List Bool :=
  let literals := block.map Tok.lit
  let pick := fun (x : CodeLens) => ((symsBits x toks).orElse (fun _ => symsBits x literals)).getD []
  if c.tables = 0 ∧ c.preset.isEmpty then bitsLsb 2 1 ++ pick (fixedLens c.format)
  else if c.tables = 0 then
    let x := presetLens c.preset
    bitsLsb 2 2 ++ (if headerLens c.format given = some x then given else plainHeader c.format x) ++ pick x
  else
    match headerLens c.format given with
    | some x =>
      (match symsBits x toks with
        | some b => bitsLsb 2 2 ++ given ++ b
        | none => bitsLsb 2 2 ++ plainHeader c.format (plainLens c.format) ++ pick (plainLens c.format))
    | none => bitsLsb 2 2 ++ plainHeader c.format (plainLens c.format) ++ pick (plainLens c.format)

/-- A stored block after its first bit, from a bit position on. -/
def storedBits (pos : Nat) (block : List Byte) : List Bool :=
  bitsLsb 2 0 ++ padBits (pos + 3) ++ bitsLsb 16 block.length ++ bitsLsb 16 (65535 - block.length) ++ bitsOf block

/-- A block: stored whenever that takes no more bits than the coded form (R212). -/
def blockBits (c : Coding) (x : BlockChoice) (final : Bool) (before block : List Byte) (pos : Nat) : List Bool :=
  let coded := codedBits c x.header block (blockToks c.format c.limit x.toks before block)
  let stored := storedBits pos block
  final :: (if stored.length ≤ coded.length then stored else coded)

/-- Whether a run of input is cut where it stands: at 65 535 bytes, or where a flush point falls. -/
def cutLength (flushes : List Nat) (at_ left : Nat) : Nat :=
  (flushes.filter (fun p => decide (at_ < p))).foldl (fun m p => min m (p - at_)) (min left 65535)

/-- The blocks of a run of input from position `at_` on (R212, R238): `before` holds the input so far, newest first, `out` the bits so far.
After a block that ends at a flush point comes an empty stored block for each. The last block is the final one where `final` says so, and
ends at a flush point otherwise. -/
def encodeFrom (c : Coding) (final : Bool) (flushes : List Nat) :
    Nat → Nat → List Byte → List Byte → List BlockChoice → List Bool → List Bool
  | 0, _, _, _, _, out => out
  | n + 1, at_, before, input, choices, out =>
    let k := cutLength flushes at_ input.length
    let block := input.take k
    let rest := input.drop k
    let out := out ++ blockBits c (choices.headD { header := [], toks := [] }) (rest.isEmpty && final) before block out.length
    if rest.isEmpty then (if final then out else out ++ false :: storedBits out.length [])
    else
      let out := (flushes.filter (fun p => p == at_ + k)).foldl (fun o _ => o ++ false :: storedBits o.length []) out
      encodeFrom c final flushes n (at_ + k) (block.reverse ++ before) rest choices.tail out

/-- The bitstream of a compression: `flushes` lists its flush points. One at the end of the input is none (R239). A flush at position 0 comes
before any block. -/
def encode (c : Coding) (flushes : List Nat) (choices : List BlockChoice) (input : List Byte) : List Byte :=
  let fl := flushes.filter (fun p => decide (p < input.length))
  let first := (fl.filter (fun p => p == 0)).foldl (fun o _ => o ++ false :: storedBits o.length []) []
  packBits (encodeFrom c true fl (input.length + 1) 0 [] input choices first)

/-- A group of an inspection image: it starts with empty history, and each but the last ends with a flush point (R249). -/
def encodeGroup (c : Coding) (last : Bool) (choices : List BlockChoice) (input : List Byte) : List Byte :=
  packBits (encodeFrom c last [] (input.length + 1) 0 [] input choices [])

/-- A substream container around a bitstream (R218). -/
def containerOf (format outLen : Nat) (bits : List Byte) : List Byte :=
  withCrc (leBytes 2 0xC5A7 ++ leBytes 1 format ++ leBytes 1 1 ++ leBytes 4 outLen ++ leBytes 4 bits.length) ++ bits

end Sys2Proof.Machine
end

