-- ==== Sys2Proof/Machine/Codec.lean ====
section
/-! DEFINITION. The codec (Arcade; R206 to R248): stream checks of bands in ingest, RAW chains, general jobs, and disabling. -/

namespace Sys2Proof.Machine

/-- Change the codec's state beside its registers. -/
def Device.setArc (d : Device) (f : CodecS → CodecS) : Device := d.modArc f

/-- Whether the Arcade works: enabled, with no wind-down in progress, and powered. -/
def Device.arcOn (d : Device) : Bool :=
  d.flag ARC_CTRL ARC_CTRL_ENABLE && !d.flag ARC_CTRL ARC_CTRL_BUSY && natBit (d.fld PWR_DOM_STATUS PWR_DOM_STATUS_ON) 5

/-- Whether compressor `c` is enabled. -/
def Device.cmpOn (d : Device) (c : Nat) : Bool := d.arcOn && natBit (d.fld ARC_CTRL ARC_CTRL_CMP_EN) c

/-- Record an ingest or inspection error (ARC_ERR). -/
def Device.arcErr (d : Device) (sub s band unit code : Nat) : Device :=
  d.setNat ARC_ERR (sub % 8 * 2 ^ 27 + s % 8 * 2 ^ 24 + band % 65536 * 256 + unit % 16 * 16 + code)

/-- Show whether compressor `c` is busy. -/
def Device.cmpBusy (d : Device) (c : Nat) (b : Bool) : Device :=
  d.setFld ARC_STATUS ARC_STATUS_CMP_BUSY (setNatBit (d.fld ARC_STATUS ARC_STATUS_CMP_BUSY) c b)

/-! Host-compressed bands (R221 to R223). -/

/-- A stream checker has read a substream of SUB_LEN bytes, as they are written to the page store: it passes, or its page ends with
CODEC_FAIL (R219, R221, R222). -/
def execStreamCheckDone (t : Nat) (page : Fin 2) (st : Station) (band : Nat) (sub : Fin 8) (bytes : List Byte) (s : State) : Result :=
  s.run t fun d =>
    match d.host.ingest[page.val]? with
    | none => d
    | some y =>
      match y.page.recs.find? (fun r => r.station == st.val && r.band == band && r.format != 0) with
      | none => d
      | some r =>
        if !d.arcOn || !y.live || natBit r.checked sub then d
        else
          let l := r.sub sub bytes
          let e := checkContainer r.format (4 * (y.page.sideOf band).dots) l
          if e = jeNone then
            (d.setIngestAt page { y with page := y.page.mapBand st band (fun r =>
              { r with checked := r.checked ||| 2 ^ sub.val, data := (sub.val, l) :: r.data.filter (fun x => x.1 != sub.val) }) }).placeReady page
          else (d.arcErr sub st band 6 e).ingestFail page psCodecFail

/-! RAW chains (R224 to R228). -/

/-- S_max of a page (R225), rounded up to 64 B. -/
def Device.sMax (d : Device) (dots : Nat) : Nat :=
  up64 (if d.flag ARC_CMP_CFG ARC_CMP_CFG_RAWPASS_EN then 4 * dots else 16 + growthBound (4 * dots) 0)

/-- The chain of compressor `c`. -/
def Device.arcChain (d : Device) (c : Nat) : Option ChainRun := sget (fun _ => none) d.arc.chains c

def Device.setArcChain (d : Device) (c : Nat) (x : Option ChainRun) : Device :=
  d.setArc (fun a => { a with chains := sput (fun _ => none) a.chains c x })

/-- Whether a chain of a page waits for a compressor (R224). -/
def Device.chainWaits (d : Device) (x : IngestS) (s : Nat) : Bool :=
  x.live && x.page.handle != 0 && x.page.recs.any (fun r => r.station == s && r.format == 0 && !r.stored) &&
    !d.arc.chains.any (fun y => match y.2 with
      | some r => r.slot == x.slot && r.station == s
      | none => false)

/-- The next chain: pages in ring order, then stations in ascending order (R224). -/
def Device.nextChain (d : Device) : Option (IngestS × Nat) :=
  (d.host.ingest.flatMap (fun x => (List.range 8).map (fun s => (x, s)))).find? (fun y => d.chainWaits y.1 y.2)

/-- Whether a general job runs on compressor `c`. -/
def Device.jobOn (d : Device) (c : Nat) : Bool :=
  match d.arc.run with
  | some r => r.unit == c
  | none => false

/-- The RAW bands of a chain that are not compressed yet, in band order. -/
def Page.rawBands (p : Page) (s : Nat) : List BandRec := p.recs.filter (fun b => b.station == s && b.format == 0)

/-- Blocks beyond those a chain holds that its directory and next band need: 8 × S_max behind its present end (R225). -/
def Device.chainNeed (d : Device) (p : Page) (s : Nat) : Nat :=
  blocksFor (p.chainBytes s + 8 * d.sMax p.first.dots) - (p.chains.getD s []).length

/-- A compressor reserves the space of its chain's next band, or waits for it (R189, R225). -/
def Device.chainReserve (d : Device) (c : Nat) (r : ChainRun) (p : Page) : Device :=
  let need := d.chainNeed p r.station
  if need ≤ d.freeBlocks + r.reserved then
    (d.setFree (d.freeBlocks + r.reserved - need)).setArcChain c (some { r with reserved := need, waits := false })
  else (d.setArcChain c (some { r with waits := true })).waitBlocks (need - r.reserved)

/-- A free compressor takes the next chain once its directory and first band have their space (R225). -/
def execChainCompressStart (t : Nat) (c : Fin 4) (s : State) : Result :=
  s.run t fun d =>
    if !d.cmpOn c || (d.arcChain c).isSome || d.jobOn c then d
    else
      match d.nextChain with
      | none => d
      | some (x, st) =>
        let need := d.chainNeed x.page st
        if need ≤ d.freeBlocks then
          ((d.setFree (d.freeBlocks - need)).setArcChain c (some { slot := x.slot, station := st, reserved := need })).cmpBusy c true
        else d.waitBlocks need

/-- The codes of RAW compression (R211, R226). -/
def Device.ingestCoding (d : Device) : Coding :=
  let id := d.fld ARC_CMP_CFG ARC_CMP_CFG_TABLE_ID
  { format := 1, limit := 32768, tables := d.fld ARC_CMP_CFG ARC_CMP_CFG_TABLES
    preset := if id = 0 then [] else d.entry 0x12 0 (id - 1) }

/-- A band that a compressor has written: each substream's container, or its raw bytes where the container would grow beyond them
(R226, R227). -/
def Device.compressed (d : Device) (dots : Nat) (r : BandRec) (choices : List (List BlockChoice)) : BandRec :=
  let raw := d.flag ARC_CMP_CFG ARC_CMP_CFG_RAWPASS_EN
  let out := (List.range 8).map (fun k =>
    let input := r.sub k []
    let x := containerOf 1 (4 * dots) (encode d.ingestCoding [] (choices.getD k []) input)
    if raw && decide (4 * dots < x.length) then (true, input) else (false, x))
  { r with
    format := 1, stored := true
    rawPass := (List.range 8).foldl (fun m k => setNatBit m k (out.getD k (false, [])).1) 0
    lens := out.map (fun x => x.2.length)
    data := (List.range 8).map (fun k => (k, (out.getD k (false, [])).2)) }

/-- Work of a compressor in certified units of bytes that took longer than certified (R55). -/
def Device.slowCompressor (d : Device) (unit bytes : Nat) (times : List Nat) : Device :=
  d.each times (fun x d => d.slowStage shared unit (bytesTime bytes (compressorRate d.paceNow)) x)

/-- A chain's next band is compressed into the space reserved for it, in a page of `i`; then the space for the band after it is reserved,
or, after the last band, what is left is freed and the compressor is free (R224 to R227). -/
def Device.chainBandDone (d : Device) (c i : Nat) (r : ChainRun) (x : IngestS) (b : BandRec) (choices : List (List BlockChoice)) : Device :=
  let z := d.compressed x.page.first.dots b choices
  let p := x.page.mapBand b.station b.band (fun _ => z)
  let need := blocksFor (p.chainBytes r.station)
  let others := ((p.chains.set r.station []).map (fun l => l.length)).sum
  if d.pageBlocks < others + need then d.ingestFail i psNoSpace
  else
    let d := (d.addSat ARC_RAWPASS_CNT wholeWord (popCount 8 z.rawPass)).chargeIngest z.size
    let d := d.setFree (d.freeBlocks + r.reserved)
    match d.growChain p r.station need with
    | none => d
    | some (d, p) =>
      let r := { r with reserved := 0 }
      let d := d.setIngestAt i { x with page := p }
      if (p.rawBands r.station).isEmpty then ((d.setArcChain c none).cmpBusy c false).placeReady i
      else d.chainReserve c r p

/-- The next bands of a chain are compressed, in band order, as far as their payloads have been read, their space is reserved and their writes
are granted (R193); a
compressor that waited for space looks for it again first. -/
def Device.chainBands (d : Device) (c : Nat) : List (List (List BlockChoice)) → Device
  | [] => d
  | choices :: rest =>
    match d.arcChain c with
    | none => d
    | some r =>
      match d.host.ingest.findIdx? (fun x => x.slot == r.slot) with
      | none => d
      | some i =>
        match d.host.ingest[i]? with
        | none => d
        | some x =>
          if r.waits && decide (d.freeBlocks + r.reserved < d.chainNeed x.page r.station) then d
          else
            let d := if r.waits then d.chainReserve c r x.page else d
            match d.arcChain c, (x.page.rawBands r.station).head? with
            | some r, some b => if b.checked ≠ 255 ∨ d.storeOff ∨ d.storeHeld then d else (d.chainBandDone c i r x b choices).chainBands c rest
            | _, _ => d

/-- CHAIN_COMPRESS_DONE: `bands` gives, for the next bands of a compressor's chain in order, what their compression chose by substream and
block, `times` how long each took. With its last band the chain is finished, and its unused reservation is freed. -/
def execChainCompressDone (t : Nat) (c : Fin 4) (bands : List (List (List BlockChoice))) (times : List Nat) (s : State) : Result :=
  s.run t fun d =>
    match d.arcChain c with
    | none => d
    | some r =>
      match d.host.ingest.find? (fun x => x.slot == r.slot) with
      | none => d
      | some x => (d.slowCompressor (unitCompressor c) (32 * x.page.first.dots) times).chainBands c bands

/-- A chain's page ends because its compressor stops (R228, R247). -/
def Device.chainFail (d : Device) (c code : Nat) : Device :=
  match d.arcChain c with
  | none => d
  | some r =>
    let d := d.arcErr 0 r.station 0 c code
    match d.host.ingest.findIdx? (fun x => x.slot == r.slot) with
    | some i => d.ingestFail i psCodecFail
    | none => d

/-! General jobs (R240 to R246). -/

/-- The job that the descriptor window holds (R240). -/
def Device.jobWindow (d : Device) (word7 : Word) : Job :=
  let w := fun m => d.nat (ARC_JOB_D m)
  let c := w 6
  { src := w 0 + 2 ^ 32 * w 1, dst := w 2 + 2 ^ 32 * w 3, srcLen := w 4, dstLen := w 5, kind := natBits c 7 0, format := natBits c 15 8,
    tableId := natBits c 23 20, container := natBit c 19, tables := natBits c 18 16, flush := natBits c 31 24, tag := word7.toNat }

/-- Whether a region lies in memory that a general job may use (R242). -/
def Device.jobRegion (d : Device) (a n : Nat) : Bool :=
  (decide (2 ^ 63 ≤ a) && decide (a + n ≤ 2 ^ 64)) ||
    (decide (0x20D00000 ≤ a) && decide (a + n ≤ 0x21000000)) ||
    (decide (storeBase ≤ a) && decide (a + n ≤ storeBase + d.storeBlocks * 2 ^ 20) &&
      (List.range ((a + max n 1 - 1 - storeBase) / 2 ^ 20 + 1)).all (fun b => decide (b < (a - storeBase) / 2 ^ 20) || d.areaOf b == .general))

/-- Whether a region of the page store touches a check area (R173). -/
def touchesCheck (a n : Nat) : Bool :=
  decide (storeBase ≤ a) && decide (a < 2 ^ 63) && decide (n ≠ 0) && decide (0x3800 < (a - storeBase) % 16384 + n)

/-- Whether a job ends BAD_JOB (R214, R242). Bit 2 of byte 26 is reserved, and TABLES is 0 or 1. -/
def Device.badJob (d : Device) (j : Job) : Bool :=
  (j.kind != 1 && j.kind != 2) || (j.format != 1 && j.format != 2) || decide (1 < j.tables) || decide (8 < j.tableId) ||
    (j.tables == 1 && j.tableId != 0) ||
    (j.tableId != 0 && presetFormat (d.entry 0x12 0 (j.tableId - 1)) != j.format) ||
    !d.jobRegion j.src j.srcLen || (j.kind == 1 && !d.jobRegion j.dst j.dstLen)

/-- Set QUEUED. -/
def Device.showQueue (d : Device) : Device := d.setFld ARC_JOB_STATUS ARC_JOB_STATUS_QUEUED d.arc.jobs.length

/-- A write of ARC_JOB_D7 enqueues the descriptor, or discards it on a full queue (R241). In Held it powers D5 on (R248). -/
def Device.jobEnqueue (d : Device) (word7 : Word) : Device :=
  let d := d.setReg (ARC_JOB_D 7) word7
  if 4 ≤ d.arc.jobs.length then d.setFlag ARC_JOB_STATUS ARC_JOB_STATUS_OVF true
  else
    let j := d.jobWindow word7
    let d := (d.setArc (fun a => { a with jobs := a.jobs ++ [j] })).showQueue
    if d.st = .held then d.setFld PWR_DOM_STATUS PWR_DOM_STATUS_ON (setNatBit (d.fld PWR_DOM_STATUS PWR_DOM_STATUS_ON) 5 true) else d

def execJobEnqueue (t : Nat) (word7 : Word) (s : State) : Result := s.run t fun d => d.jobEnqueue word7

/-- A job ends: its state and code, its output length, its tag (R245). A job that failed or was aborted leaves its output region
undefined (R243, R246). -/
def Device.jobEnd (d : Device) (j : Job) (st err out : Nat) : Device :=
  let d := (d.setFld ARC_JOB_STATUS ARC_JOB_STATUS_STATE st).setFld ARC_JOB_STATUS ARC_JOB_STATUS_ERR err
  let d := d.setFld ARC_JOB_STATUS ARC_JOB_STATUS_COMPLETED (d.fld ARC_JOB_STATUS ARC_JOB_STATUS_COMPLETED + 1)
  let d := (d.setNat ARC_JOB_OUT_LEN out).setNat ARC_JOB_TAG j.tag
  match d.arc.run with
  | none => d
  | some r =>
    let d := d.setArc (fun a => { a with run := none })
    let d := if r.unit < 4 then (d.cmpBusy r.unit false).setFld ARC_STATUS ARC_STATUS_GEN_JOB 0 else d.setFld ARC_STATUS ARC_STATUS_CHK_BUSY 0
    if err ≠ jeNone ∧ j.kind = 1 then d.scramble j.dst j.dstLen else d

/-- The compressor that is free for a general job (R229). -/
def Device.freeCompressor (d : Device) : Option Nat :=
  if d.nextChain.isSome then none else (List.range 4).find? (fun c => d.cmpOn c && (d.arcChain c).isNone)

/-- The oldest waiting job starts, or ends BAD_JOB (R242). `input` is what the device reads from host memory. -/
def execJobStart (t : Nat) (input : List Byte) (s : State) : Result :=
  s.run t fun d =>
    match d.arc.jobs with
    | [] => d
    | j :: rest =>
      if !d.arcOn || d.arc.run.isSome then d
      else
        let pop := (d.setArc (fun a => { a with jobs := rest })).showQueue
        if d.badJob j then pop.jobEnd j 3 jeBadJob 0
        else
          let bytes := if 2 ^ 63 ≤ j.src then fitTo j.srcLen input else d.bytes j.src j.srcLen
          let go := fun (unit : Nat) =>
            let d := pop.setArc (fun a => { a with run := some { job := j, unit, input := bytes } })
            let d := ((d.setFld ARC_JOB_STATUS ARC_JOB_STATUS_STATE 1).setFld ARC_JOB_STATUS ARC_JOB_STATUS_ERR 0).setNat ARC_JOB_TAG j.tag
            d.setNat ARC_JOB_OUT_LEN 0
          if j.kind = 2 then (go 4).setFld ARC_STATUS ARC_STATUS_CHK_BUSY 1
          else
            match d.freeCompressor with
            | some c => ((go c).cmpBusy c true).setFld ARC_STATUS ARC_STATUS_GEN_JOB (2 ^ c)
            | none => d

/-- The codes of a compression (R211, R214); with a container every distance keeps within 32 768 (R243). -/
def Device.jobCoding (d : Device) (j : Job) : Coding :=
  { format := j.format, limit := if j.container then 32768 else windowOf j.format, tables := j.tables
    preset := if j.tableId = 0 then [] else d.entry 0x12 0 (j.tableId - 1) }

/-- The flush points of a compression: after every FLUSH_16K × 16 KiB of input, and where its FLUSH commands were accepted (R239). -/
def RunJob.flushPoints (r : RunJob) (at_ : List Nat) : List Nat :=
  let step := r.job.flush * 16384
  (if step = 0 then [] else (List.range (r.input.length / step)).map (fun k => step * (k + 1))) ++ at_.take r.flushes

/-- What a compression writes: the bitstream, in a container where that is asked for (R218, R243). -/
def Device.jobOutput (d : Device) (r : RunJob) (x : Encoding) : List Byte :=
  let bits := encode (d.jobCoding r.job) (r.flushPoints x.flushAt) x.blocks r.input
  if r.job.container then containerOf r.job.format r.job.srcLen bits else bits

/-- The verdict of a VERIFY job (R244). -/
def Job.verify (j : Job) (input : List Byte) : Nat :=
  if j.container then checkContainer j.format (bytesAt input 4 4) input else checkBits j.format (windowOf j.format) j.dstLen input

/-- Whether a job that uses the general area waits (R193). -/
def Device.jobHeld (d : Device) (j : Job) : Bool :=
  d.storeHeld && (d.inStore j.src || (j.kind == 1 && d.inStore j.dst))

/-- A job's bytes in the general area are charged (R194). -/
def Device.chargeJob (d : Device) (j : Job) (out : Nat) : Device :=
  let d := if d.inStore j.src then d.chargeIngest (chargeOf j.srcLen) else d
  if j.kind = 1 ∧ d.inStore j.dst then d.chargeIngest (chargeOf out) else d

/-- Whether a job's access of a region ends with ERR_GATED (R203). -/
def Device.regionGated (d : Device) (a : Nat) : Bool := decide (storeBase ≤ a) && decide (a < 2 ^ 63) && d.storeOff

/-- The running job ends after the read-back of its last write (R243 to R246). `x` is what a compression chose; `srcOk` and `dstOk` tell
that no read or write ended with an error. -/
def execJobDone (t : Nat) (x : Encoding) (srcOk dstOk : Bool) (s : State) : Result :=
  s.run t fun d =>
    match d.arc.run with
    | none => d
    | some r =>
      let j := r.job
      if d.jobHeld j then d
      else if !srcOk || touchesCheck j.src j.srcLen || d.regionGated j.src then d.jobEnd j 3 jeSrc 0
      else if j.kind = 2 then
        let e := j.verify r.input
        let d := d.chargeJob j 0
        if e = jeNone then d.jobEnd j 2 jeNone 0 else d.jobEnd j 3 e 0
      else
        let out := d.jobOutput r x
        if j.dstLen < out.length then d.jobEnd j 3 jeNoSpace 0
        else if !dstOk || touchesCheck j.dst out.length || d.regionGated j.dst then d.jobEnd j 3 jeDst 0
        else ((d.chargeJob j out.length).jobEnd j 2 jeNone out.length).setBytes j.dst out

/-- FLUSH: the running compression inserts a flush point; with none running it is ignored (R239). -/
def Device.jobFlush (d : Device) : Device :=
  match d.arc.run with
  | some r => if r.job.kind = 1 then d.setArc (fun a => { a with run := some { r with flushes := r.flushes + 1 } }) else d
  | none => d

/-- ABORT: the running job ends ABORTED (R246). -/
def Device.jobAbort (d : Device) : Device :=
  match d.arc.run with
  | some r => d.jobEnd r.job 4 jeAborted 0
  | none => d

/-- ABORT_ALL also empties the queue (R246). -/
def Device.jobAbortAll (d : Device) : Device := (d.jobAbort.setArc (fun a => { a with jobs := [] })).showQueue

def execFlush (t : Nat) (s : State) : Result := s.run t Device.jobFlush

def execAbort (t : Nat) (s : State) : Result := s.run t Device.jobAbort

def execAbortAll (t : Nat) (s : State) : Result := s.run t Device.jobAbortAll

/-- Whether the codec has no work (R543). -/
def Device.codecIdle (d : Device) : Bool :=
  d.arc.jobs.isEmpty && d.arc.run.isNone && d.arc.chains.all (fun x => x.2.isNone) && d.arc.imgs.isEmpty

/-- Reads and writes of host memory by the running job fail at a link-down (R631). -/
def Device.jobHostError (d : Device) : Device :=
  match d.arc.run with
  | none => d
  | some r =>
    if 2 ^ 63 ≤ r.job.src then d.jobEnd r.job 3 jeSrc 0
    else if r.job.kind = 1 ∧ 2 ^ 63 ≤ r.job.dst then d.jobEnd r.job 3 jeDst 0
    else d

end Sys2Proof.Machine
end

