-- ==== Sys2Proof/Machine/Inspect.lean ====
section
/-! DEFINITION. Inspection images (R151, R249 to R254, R353 to R357), and disabling the codec (R247). -/

namespace Sys2Proof.Machine

/-- Whether the inspection port of a Quarter is aligned. -/
def Device.inspAligned (d : Device) (q : Side) : Bool := d.flag (ENW_INSP_STATUS q) ENW_INSP_STATUS_ALIGNED

/-- The port the Arcade prefers (R357). -/
def Device.inspPreferred (d : Device) : Side := if d.inspAligned d.owner then d.owner else d.owner.other

/-- The image whose lines still come. -/
def Device.openImage (d : Device) : Option InspImg :=
  match d.arc.imgs.getLast? with
  | some x => if x.ended then none else some x
  | none => none

/-- The port that feeds the Arcade: a change takes effect only at a FIRST line (R357). -/
def Device.inspRouted (d : Device) : Side := if d.openImage.isSome then d.arc.port else d.inspPreferred

/-- The instance whose inspection window is open (R355). -/
def Device.inspWindow (d : Device) : Option (Nat × Instance) := d.openInsts.find? (fun x => x.2.inspect)

/-- Show whether an image is in progress. -/
def Device.showImage (d : Device) : Device :=
  let x := d.openImage
  d.each bothSides (fun q d =>
    d.setFlag (ENW_INSP_STATUS q) ENW_INSP_STATUS_IN_IMAGE (match x with
      | some x => x.port == q
      | none => false))

/-- GROUP_LINES: a multiple of 8 from 8 to 248, else 64. -/
def Device.groupLines (d : Device) : Nat :=
  let n := d.fld ARC_INSP_CFG ARC_INSP_CFG_GROUP_LINES
  if n % 8 = 0 ∧ 8 ≤ n ∧ n ≤ 248 then n else 64

/-- Inspection compressors busy: those that work on an image (ARC_STATUS). -/
def Device.showInsp (d : Device) : Device :=
  d.setFld ARC_STATUS ARC_STATUS_INSP_BUSY (if d.arc.imgs.isEmpty then 0 else d.fld ARC_CTRL ARC_CTRL_INSP_EN)

/-- Close the image in progress: its last line has come, its window closes, or another FIRST line arrives (R355). -/
def Device.closeImage (d : Device) : Device :=
  (d.setArc (fun a => { a with imgs := a.imgs.map (fun x => { x with ended := true }) })).showImage

/-- DATA of INSPECT_DONE (R153). -/
def inspData (b : InspBuf) (n : Nat) : Nat := n + 2 ^ 32 * b.tag

/-- An image fails as a whole (R252): its event, its count, the error, and a buffer whose contents are undefined. -/
def Device.imageFail (d : Device) (x : InspImg) (code : Nat) : Device :=
  let d := d.setArc (fun a => { a with imgs := a.imgs.filter (fun y => y != x), skip := a.skip || !x.ended })
  let d := d.arcErr 0 0 0 (4 + (x.lines - 1) / x.group % 2) code
  let d := (d.count ARC_INSP_CNT ARC_INSP_CNT_FAILED).scramble (hostAddr x.buf.addr) x.buf.len
  let d := d.post evInspectDone false 1 x.wsn (inspData x.buf 0)
  let d := if code = jeOverrun then d.ledgerEvent lbInspOverrun shared 0 0 else d
  d.showImage.showInsp

/-- A line that the compressors cannot take ends its image (R252). -/
def Device.imageSpace (d : Device) (line : InspectionLine) : Device :=
  match d.openImage with
  | none => d
  | some x => if line.full then d.imageFail x jeOverrun else if line.noBlock then d.imageFail x jeNoSpace else d

/-- A FIRST line in a window starts an image in the next buffer; without one the image is dropped (R253), and with a compressor disabled
it fails (R247). -/
def Device.firstInsp (d : Device) (q : Side) (line : InspectionLine) (n : Nat) (i : Instance) : Device :=
  let d := d.setArc (fun a => { a with port := q, skip := false })
  match d.host.bufs with
  | [] => ((d.addSat ARC_INSP_DROP wholeWord 1).setArc (fun a => { a with skip := true })).ledgerEvent lbInspDrop shared 0 0
  | b :: rest =>
    let x : InspImg :=
      { buf := b, port := q, inst := n, wsn := i.wsn, start := d.usec, lineBytes := line.lineBytes, lineNo := line.lineNo,
        group := d.groupLines, data := [fitTo line.lineBytes line.payload] }
    let d := d.modHost (fun v => { v with bufs := rest })
    let d := (d.setArc (fun a => { a with imgs := a.imgs ++ [x] })).setFld (ENW_INSP_STATUS q) ENW_INSP_STATUS_LINE_BYTES line.lineBytes
    if d.arcOn && d.fld ARC_CTRL ARC_CTRL_INSP_EN == 3 then d.showImage.showInsp else d.imageFail x jeAborted

/-- A later line of the image in progress; missing ones before it are filled with zeros (R356). -/
def Device.nextInsp (d : Device) (q : Side) (line : InspectionLine) (x : InspImg) : Device :=
  if line.lineNo ≤ x.lineNo then d.count (ENW_INSP_CNT1 q) ENW_INSP_CNT1_ORDER
  else if line.lineBytes ≠ x.lineBytes then d.imageFail x jeLength
  else
    let gap := line.lineNo - x.lineNo - 1
    let d := d.setArc (fun a => { a with
      imgs := a.imgs.map (fun y => if y.ended then y else { y with
        lines := y.lines + gap + 1, lineNo := line.lineNo
        data := fitTo y.lineBytes line.payload :: (List.replicate gap (List.replicate y.lineBytes 0) ++ y.data) }) })
    if gap = 0 then d else (d.addSat (ENW_INSP_CNT0 q) ENW_INSP_CNT0_GAP_LINES gap).ledgerEvent lbInspGap q.code gap 0

/-- A good line that the Arcade takes (R355 to R357). -/
def Device.goodInsp (d : Device) (q : Side) (line : InspectionLine) : Device :=
  let d := if line.first then d.closeImage else d
  match d.inspWindow with
  | none => d.count (ENW_INSP_CNT1 q) ENW_INSP_CNT1_OUTSIDE
  | some (n, i) =>
    let d := if line.first then (d.firstInsp q line n i).imageSpace line
      else
        match d.openImage with
        | some x => (d.nextInsp q line x).imageSpace line
        | none => if d.arc.skip then d else d.count (ENW_INSP_CNT1 q) ENW_INSP_CNT1_OUTSIDE
    if line.last then (d.closeImage).setArc (fun a => { a with skip := false }) else d

/-- An inspection line arrives at a port. -/
def execInspectionLine (t : Nat) (q : Side) (line : InspectionLine) (s : State) : Result :=
  s.run t fun d =>
    if !d.flag (ENW_INSP_CTRL q) ENW_INSP_CTRL_ENABLE || !d.inspAligned q then d
    else if !line.good then d.count (ENW_INSP_CNT0 q) ENW_INSP_CNT0_CRC_ERR
    else if (if line.first then d.inspPreferred else d.inspRouted) = q then d.goodInsp q line
    else d

/-- Groups of an image (R250). -/
def InspImg.groups (x : InspImg) : Nat := (x.lines + x.group - 1) / x.group

/-- The header of an image (R250). -/
def InspImg.header (x : InspImg) (bits : Nat) : List Byte :=
  withCrc (leBytes 2 0xC5A8 ++ leBytes 1 2 ++ leBytes 1 1 ++ leBytes 4 x.lines ++ leBytes 4 x.lineBytes ++ leBytes 4 x.groups ++
    leBytes 8 x.wsn ++ leBytes 8 x.start ++ leBytes 8 (x.lines * x.lineBytes) ++ leBytes 4 bits ++ leBytes 2 x.group ++
    leBytes 1 x.port.code ++ leBytes 1 0 ++ leBytes 4 (64 + (bits + 3) / 4 * 4) ++ leBytes 8 0)

/-- The codes of inspection images (R211, R226, R249): wide mode, with the settings of ARC_INSP_CFG. -/
def Device.inspCoding (d : Device) : Coding :=
  let id := d.fld ARC_INSP_CFG ARC_INSP_CFG_TABLE_ID
  { format := 2, limit := 262144, tables := d.fld ARC_INSP_CFG ARC_INSP_CFG_TABLES
    preset := if id = 0 then [] else d.entry 0x12 0 (id - 1) }

/-- The compressed groups of an image, in order; `choices` gives what each group's compression chose (R249). -/
def Device.imageGroups (d : Device) (x : InspImg) (choices : List (List BlockChoice)) : List (List Byte) :=
  let lines := x.data.reverse
  (List.range x.groups).map (fun k =>
    encodeGroup d.inspCoding (k + 1 == x.groups) (choices.getD k []) ((lines.drop (k * x.group)).take x.group).flatten)

/-- Where each of a list of pieces starts. -/
def offsets (l : List (List Byte)) : List Nat := (List.range l.length).map (fun k => ((l.take k).map (fun g => g.length)).sum)

/-- The oldest image whose last line has come is written: the stream, the group table, the header, and INSPECT_DONE (R250, R251).
`choices` gives what the compression of each group chose, `times` how long each group took. While no staging request is granted it waits
(R193). -/
def execInspectImageDone (t : Nat) (choices : List (List BlockChoice)) (times : List Nat) (s : State) : Result :=
  s.run t fun d =>
    match d.arc.imgs with
    | [] => d
    | x :: rest =>
      if !x.ended || d.storeHeld then d
      else
        let groups := d.imageGroups x choices
        let stream := groups.flatten
        let table := 64 + (stream.length + 3) / 4 * 4
        let size := table + 4 * x.groups
        if x.buf.len < size then d.imageFail x jeNoSpace
        else
          let a := hostAddr x.buf.addr
          let d := (d.chargeStaging (2 * chargeOf stream.length)).setArc (fun c => { c with imgs := rest })
          let d := d.each ((List.range times.length).zip times) (fun y d => d.slowCompressor (unitInspection (y.1 % 2)) (x.group * x.lineBytes) [y.2])
          let d := (d.setBytes (a + 64) stream).setBytes (a + table) ((offsets groups).flatMap (fun o => leBytes 4 o))
          let d := (d.setBytes a (x.header stream.length)).setFld ARC_INSP_CNT ARC_INSP_CNT_DONE (d.fld ARC_INSP_CNT ARC_INSP_CNT_DONE + 1)
          (d.post evInspectDone false 0 x.wsn (inspData x.buf size)).showInsp

/-- The port in use loses alignment: the image in progress fails (R357). -/
def execInspAlignLoss (t : Nat) (q : Side) (s : State) : Result :=
  s.run t fun d =>
    let d := d.setFlag (ENW_INSP_STATUS q) ENW_INSP_STATUS_ALIGNED false
    match d.openImage with
    | some x => if x.port = q then d.imageFail x jeSrc else d
    | none => d

/-- Both lanes of a port are block-locked and deskewed (R353). -/
def execInspectionPortAligned (t : Nat) (q : Side) (s : State) : Result :=
  s.run t fun d =>
    if d.flag (ENW_INSP_CTRL q) ENW_INSP_CTRL_ENABLE && d.domainIsOn (laneDomain q) then
      (d.setFlag (ENW_INSP_STATUS q) ENW_INSP_STATUS_ALIGNED true).setFld (ENW_INSP_STATUS q) ENW_INSP_STATUS_LANE_LOCK 3
    else d

/-- Every image fails (R247, R631). -/
def Device.imagesFail (d : Device) (code : Nat) : Device := d.each d.arc.imgs (fun x d => d.imageFail x code)

/-- An inspection port is disabled: a line in progress ends first (R51). -/
def Device.inspPortOff (d : Device) (q : Side) : Device :=
  let d := d.setFlag (ENW_INSP_CTRL q) ENW_INSP_CTRL_ENABLE false
  match d.openImage with
  | some x => if x.port = q then d.setFlag (ENW_INSP_CTRL q) ENW_INSP_CTRL_BUSY true else d
  | none => d

/-- A write of ARC_CTRL (R247): units that it disables abort their work, and BUSY reads 1 until that has wound down. While it does, an
enable waits (R51). -/
def Device.arcCtrl (d : Device) (v : Word) : Device :=
  let on := ARC_CTRL_ENABLE.get v = 1
  let cmp := if on then ARC_CTRL_CMP_EN.get v else 0
  let insp := if on then ARC_CTRL_INSP_EN.get v else 0
  let stopped := (List.range 4).filter (fun c => (d.arcChain c).isSome && !natBit cmp c)
  let job := match d.arc.run with
    | some r => if r.unit < 4 then !natBit cmp r.unit else !on
    | none => false
  let img := !d.arc.imgs.isEmpty && insp != 3
  let busy := d.flag ARC_CTRL ARC_CTRL_BUSY || !stopped.isEmpty || job || img
  let d := d.setReg ARC_CTRL (v &&& 0x8000030F)
  let d := d.each stopped (fun c d => d.chainFail c jeAborted)
  let d := if job then d.jobAbort else d
  let d := if img then d.imagesFail jeAborted else d
  d.setFlag ARC_CTRL ARC_CTRL_BUSY busy

def execArcadeDisable (t : Nat) (ctrl : Word) (s : State) : Result := s.run t fun d => d.arcCtrl ctrl

end Sys2Proof.Machine
end

