-- ==== Sys2Proof/Machine/RingOps.lean ====
section
/-! DEFINITION. The host rings (R128 to R133), doorbells, halts and their resume (R145), interrupts (R157), and the PCIe link (R60, R127,
R147, R631). -/

namespace Sys2Proof.Machine

/-- Whether a job ring is enabled: an ENABLE written while BUSY reads 1 has not taken effect (R51). -/
def Device.ringEnabled (d : Device) (r : Nat) : Bool :=
  d.flag (HIF_RING_CFG r) HIF_RING_CFG_ENABLE && !d.flag (HIF_RING_CFG r) HIF_RING_CFG_BUSY

/-- V − CONS modulo 2^32 for a job ring. -/
def Device.ringAhead (d : Device) (r v : Nat) : Nat := (v + 2 ^ 32 - d.nat (HIF_RING_CONS r)) % 2 ^ 32

/-- A job-ring doorbell (R131, R133): it replaces PROD, or halts the ring. A ring that is halted already keeps its cause. -/
def Device.doorbell (d : Device) (r v : Nat) : Device :=
  if !d.ringEnabled r then d
  else
    let d := d.modHost (fun v => { v with l1 := false })
    let n := d.ringAhead r v
    if 0 < n ∧ n ≤ 2 ^ (d.force r).log2 then d.setNat (HIF_RING_PROD r) v
    else if d.ringHalted r then d
    else d.haltRing r hcBadDoorbell

def execJobDoorbell (t : Nat) (r : Fin 3) (v : Word) (s : State) : Result := s.run t fun d => d.doorbell r v.toNat

/-- The event ring's consumer doorbell (R633). -/
def Device.evtDoorbell (d : Device) (v : Nat) : Device :=
  if d.evtOn ∧ (v + 2 ^ 32 - d.nat HIF_EVT_CONS) % 2 ^ 32 ≤ d.evtUsed then d.setNat HIF_EVT_CONS v else d

def execEventDoorbell (t : Nat) (v : Word) (s : State) : Result := s.run t fun d => d.evtDoorbell v.toNat

/-- Whether a base and a size allow an enable (R128). -/
def ringArgsOk (base log2 : Nat) : Bool := decide (4 ≤ log2) && decide (log2 ≤ 16) && base % 4096 == 0 && decide (base < 2 ^ 63)

/-- Enable a job ring (R128, R133): its size, base and write-back address are latched and its indices are 0. A halt is left to the ring's
command (R145), which finds no slot to pass any more. HIF_RING0_WSN keeps what SKIP has retired (R119, R141). -/
def Device.ringOn (d : Device) (r : Nat) : Device :=
  let base := d.nat64 (HIF_RING_BASE_LO r)
  let wb := d.nat64 (HIF_RING_WB_LO r)
  let log2 := d.fld (HIF_RING_CFG r) HIF_RING_CFG_LOG2_SIZE
  if !ringArgsOk base log2 || wb % 8 != 0 || decide (2 ^ 63 ≤ wb) then d.setFlag (HIF_RING_CFG r) HIF_RING_CFG_ENABLE false
  else
    let d := d.setFlag (HIF_RING_CFG r) HIF_RING_CFG_ENABLE true
    let d := (d.setReg (HIF_RING_PROD r) 0).setReg (HIF_RING_CONS r) 0
    d.modHost (fun v => { v with
      rings := sput (fun _ => {}) v.rings r { base, log2, wb }
      wsnFloor := if r = 0 then v.retired else v.wsnFloor
      haltSlots := if r = 0 then 0 else v.haltSlots })

/-- Clear ENABLE of a job ring: the fetched descriptors are processed, and no more are fetched (R50, R133). A first side whose second one
has not been fetched is discarded without an event (DEDUCED, log entry 109). -/
def Device.ringOff (d : Device) (r : Nat) : Device :=
  let d := d.setFlag (HIF_RING_CFG r) HIF_RING_CFG_ENABLE false
  let d := if r = 0 then d.setIngest (d.host.ingest.filter (fun x => !x.awaits)) else d
  if d.ringIdle r then d else d.setFlag (HIF_RING_CFG r) HIF_RING_CFG_BUSY true

/-- A write of HIF_RINGn_CFG (R128, R51): LOG2_SIZE stays while ENABLE or BUSY is 1; an enable while BUSY waits for its end. -/
def Device.ringCfg (d : Device) (r : Nat) (v : Word) : Device :=
  let on := d.ringEnabled r
  let busy := d.flag (HIF_RING_CFG r) HIF_RING_CFG_BUSY
  let want := HIF_RING_CFG_ENABLE.get v = 1
  let d := (d.setFld (HIF_RING_CFG r) HIF_RING_CFG_RO_READ (HIF_RING_CFG_RO_READ.get v)).setFld (HIF_RING_CFG r) HIF_RING_CFG_NS
    (HIF_RING_CFG_NS.get v)
  let d := if on || busy then d else d.setFld (HIF_RING_CFG r) HIF_RING_CFG_LOG2_SIZE (HIF_RING_CFG_LOG2_SIZE.get v)
  if busy then d.setFlag (HIF_RING_CFG r) HIF_RING_CFG_ENABLE want
  else if want && !on then d.ringOn r
  else if !want && on then d.ringOff r
  else d

/-- A write of HIF_RINGn_CFG that sets ENABLE. -/
def execRingEnable (t : Nat) (r : Fin 3) (cfg : Word) (s : State) : Result := s.run t fun d => d.ringCfg r (cfg ||| 0x80000000)

/-- A write of HIF_RINGn_CFG that clears ENABLE. -/
def execRingDisable (t : Nat) (r : Fin 3) (cfg : Word) (s : State) : Result := s.run t fun d => d.ringCfg r (cfg &&& 0x7FFFFFFF)

/-- A ring's wind-down completes; an enable written meanwhile takes effect (R51). -/
def Device.ringStopped (d : Device) (r : Nat) : Device :=
  if d.ringIdle r then
    let want := d.flag (HIF_RING_CFG r) HIF_RING_CFG_ENABLE
    let d := (d.setFlag (HIF_RING_CFG r) HIF_RING_CFG_BUSY false).setFlag (HIF_RING_CFG r) HIF_RING_CFG_ENABLE false
    if want then d.ringOn r else d
  else d

/-- A write of HIF_EVT_CFG: enabling sets the indices to 0 and PHASE to 1; LOG2_SIZE stays while ENABLE is 1 (R128). -/
def Device.evtCfg (d : Device) (v : Word) : Device :=
  let want := HIF_EVT_CFG_ENABLE.get v = 1
  if d.evtOn then d.setFlag HIF_EVT_CFG HIF_EVT_CFG_ENABLE want
  else
    let d := d.setFld HIF_EVT_CFG HIF_EVT_CFG_LOG2_SIZE (HIF_EVT_CFG_LOG2_SIZE.get v)
    let base := d.nat64 HIF_EVT_BASE_LO
    let log2 := d.fld HIF_EVT_CFG HIF_EVT_CFG_LOG2_SIZE
    if want && ringArgsOk base log2 then
      (((d.setFlag HIF_EVT_CFG HIF_EVT_CFG_ENABLE true).setReg HIF_EVT_PROD 0).setReg HIF_EVT_CONS 0).modHost (fun v => { v with evtRing := { base, log2, wb := 0 } })
    else d

def execEventRingEnable (t : Nat) (cfg : Word) (s : State) : Result := s.run t fun d => d.evtCfg (cfg ||| 0x80000000)

/-- HIF_RINGn_CMD (R145): RETRY fetches the halted slot again; SKIP of a page status moves CONS past the slot, or both slots of a pair,
and retires its WSN. A BAD_DOORBELL halt clears on either. -/
def Device.ringCmd (d : Device) (r op : Nat) : Device :=
  if !d.ringHalted r ∨ (op ≠ 1 ∧ op ≠ 2) then d
  else
    let cause := d.fld (HIF_RING_STATUS r) HIF_RING_STATUS_HALT_CAUSE
    let d := d.setReg (HIF_RING_STATUS r) 0
    if op = 2 ∧ r = 0 ∧ cause ≠ hcBadDoorbell then
      let d := d.modHost (fun v => { v with wsnFloor := max v.wsnFloor v.haltWsn, retired := max v.retired v.haltWsn })
      (d.setNat (HIF_RING_CONS 0) (d.nat (HIF_RING_CONS 0) + d.host.haltSlots)).writeBack 0
    else d

def execRetry (t : Nat) (r : Fin 3) (s : State) : Result := s.run t fun d => d.ringCmd r 1

def execSkip (t : Nat) (r : Fin 3) (s : State) : Result := s.run t fun d => d.ringCmd r 2

/-- A read of host memory ends with an error (R144, R228, R631). -/
def execHostReadError (t : Nat) (r : HostReader) (s : State) : Result :=
  s.run t fun d =>
    match r with
    | .page i => d.ingestFail i psHostRead
    | .inspection =>
      match d.arc.imgs with
      | x :: _ => d.imageFail x jeDst
      | [] => d
    | .update => d.updateHostError
    | .job => d.jobHostError
    | .channel e c => if d.dmaBusy e c then d.dmaEnd e c deHost else d

/-- Events of the backlog are posted as slots of the ring become free (R155). -/
def execBacklogDrain (t : Nat) (s : State) : Result := s.run t Device.drainAll

/-- TIME µs after the first unsignalled event of a vector its interrupt is sent (R157). -/
def execInterruptModerationTimeout (t : Nat) (vector : Fin 64) (s : State) : Result :=
  s.run t fun d =>
    if d.fld HIF_EVT_MOD HIF_EVT_MOD_TIME = 0 ∨ sget (fun _ => 0) d.host.unsignalled vector = 0 then d
    else (d.modHost (fun v => { v with unsignalled := sput (fun _ => 0) v.unsignalled vector 0 })).sendIrq vector

/-! The link. -/

/-- Whether host traffic is in progress or waits to be fetched (R127). -/
def Device.hostBusy (d : Device) : Bool :=
  (List.range 3).any (fun r =>
      (d.flag (HIF_RING_CFG r) HIF_RING_CFG_ENABLE || d.flag (HIF_RING_CFG r) HIF_RING_CFG_BUSY) &&
        d.reg (HIF_RING_PROD r) != d.reg (HIF_RING_CONS r)) ||
    !d.host.ingest.isEmpty || !d.arc.imgs.isEmpty || d.boot.update.isSome ||
    (match d.arc.run with
      | some r => decide (2 ^ 63 ≤ r.job.src) || (r.job.kind == 1 && decide (2 ^ 63 ≤ r.job.dst))
      | none => false) ||
    !d.dmaHost.isEmpty

/-- The link enters L1 where the host has enabled it, nothing is unfetched and no transfer is in flight (R127). -/
def execAspmL1Entry (t : Nat) (s : State) : Result :=
  s.run t fun d => if d.host.linkUp && d.pcie.aspmL1 && !d.hostBusy then d.modHost (fun v => { v with l1 := true }) else d

/-- The registers of the rings return to their reset values (R60, R147); HIF_EVT_LOST counts on since the start. -/
def Device.ringReset (d : Device) : Device :=
  let keep := fun (x : Nat × Word) => !(decide (HIF_RING_BASE_LO 0 ≤ x.1) && decide (x.1 < 0x10071000)) || x.1 == HIF_EVT_LOST
  (d.withRegs (d.regs.filter keep)).modHost (fun v => { v with
      rings := [], evtRing := {}, ingest := [], wsnFloor := 0, haltSlots := 1, haltWsn := 0, bufs := [], unsignalled := [], msix := [],
      pba := [], l1 := false, pcie := {}, posted := [], rdAttr := {}, wrAttr := {} })

/-- The newest `n` posted writes are discarded unsent (R631); the event entries among them count as lost. -/
def Device.dropPosted (d : Device) (n : Nat) : Device :=
  let lost := ((d.host.posted.take n).filter (fun x => x.event)).length
  (d.unsend d.host.posted n).loseEvents lost

/-- The endpoint and its ring logic are reset (R60, R147, R631): posted writes not yet sent are discarded, pages in ingest too and without an
event, reads of host memory end with an error, and events wait in the backlog. -/
def Device.endpointReset (d : Device) (unsent : Nat) : Device :=
  let d := d.dropPosted unsent
  let pages := d.host.ingest.map (fun x => x.page)
  let d := d.ringReset.dropChains
  let d := (d.each pages (fun p d => d.freePage p)).ingestWait false
  (((d.overflow.imagesFail jeDst).updateHostError).dmaHostError).jobHostError

/-- The link is down. -/
def Device.linkGoesDown (d : Device) (unsent : Nat) : Device :=
  ((d.modHost (fun v => { v with linkUp := false })).setReg HIF_LINK 0).endpointReset unsent

/-- A fundamental reset, a hot reset, or a Function Level Reset, which leaves the link up (R60, R124). `unsent` counts the newest posted writes
that had not been sent (R631). -/
def execPcieReset (t : Nat) (kind : PcieResetKind) (unsent : Nat) (s : State) : Result :=
  s.run t fun d =>
    match kind with
    | .perst => (d.modHost (fun v => { v with perstN := false })).linkGoesDown unsent
    | .hot => d.linkGoesDown unsent
    | .functionLevel => d.endpointReset unsent

def execLinkDown (t : Nat) (unsent : Nat) (s : State) : Result := s.run t fun d => d.linkGoesDown unsent

/-- The link comes up (R68, R124, R126), for which D7 must run and PERST_N be high: `rate` as HIF_LINK codes it, `width` its lanes, `cfg` what
the host then configures. -/
def execPcieLinkUp (t rate width : Nat) (cfg : PcieCfg) (s : State) : Result :=
  s.run t fun d =>
    if !d.domainIsOn 7 then d
    else
      let d := ((d.setFld HIF_LINK HIF_LINK_RATE rate).setFld HIF_LINK HIF_LINK_WIDTH width).setFlag HIF_LINK HIF_LINK_SLOW (decide (rate < 3))
      d.modHost (fun v => { v with linkUp := true, l1 := false, pcie := cfg, perstN := true })

end Sys2Proof.Machine
end

