-- ==== Sys2Proof/Machine/Delivery.lean ====
section
/-! DEFINITION. Acceptance, delivery, diversion and the commit register (R88 to R112, R119), with the bytes of Timeline entries. -/

namespace Sys2Proof.Machine

/-- The input GPIO of a template's acceptance window (R401, R402). -/
def Device.acceptGpio (d : Device) (t : Nat) : Option Nat :=
  ((d.templateEntries t).find? (fun e => e.2.action == 4)).map (fun e => e.2.arg)

/-! Acceptance. -/

/-- The page at the head of ingest is accepted: it is held, HORIZON rises, the ACCEPTED entry comes before the status (R89, R102, R185). -/
def Device.acceptPage (d : Device) (p : Page) (rest : List IngestS) : Device :=
  let d := d.setIngest rest
  let d := (d.modDlv (fun v => { v with pages := v.pages ++ [p], horizon := p.top, lastPlan := some (p.first.speed, p.first.lpi1200) })).modHost (fun v => { v with wsnFloor := max v.wsnFloor p.top })
  let d := d.sheetJournal skAccepted p.first.wsn 0 p.first.stations false p.second.isSome p.handle
  ((d.dropChains.post evPageStatus false psAccepted p.first.wsn 0).paceRaise).ingestBegin 0

/-- The Tollgate checks the page at the head of ingest, once all its bands are stored (R113, R118, R119). -/
def Device.tollgate (d : Device) : Device :=
  match d.host.ingest with
  | [] => d
  | x :: rest =>
    if !x.live || x.awaits || !x.page.ready then d
    else
      let g := d.gateCheck x.page
      if g.kind = 0 then (d.acceptPage x.page rest).settleIngest 3
      else (d.setReject x.page g).ingestFail 0 psRejected

def execTollgateCheck (t : Nat) (s : State) : Result := s.run t Device.tollgate

/-! Delivery. -/

/-- A sheet is out of the engine: its instance is no longer in flight. -/
def Device.outOfFlight (d : Device) (n : Nat) : Device :=
  match d.inst n with
  | some i => d.setInst n (some { i with inFlight := false, imaging := 0 })
  | none => d

/-- A sheet has left: the last one ends Draining, and a planned transfer that waits takes place in Ready (R4, R386). -/
def Device.settleSheets (d : Device) : Device :=
  let d := d.settle
  if d.st = .ready then d.plannedNow else d

/-- A page is delivered: it is held no more. -/
def Device.dropPage (d : Device) (w : Nat) : Device :=
  let gone := d.dlv.pages.filter (fun p => p.first.wsn == w)
  let d := d.each gone (fun p d => d.freePage p)
  let d := d.modDlv (fun v => { v with pages := v.pages.filter (fun p => p.first.wsn != w) })
  d.fixHorizon

/-- The sheet of instance `n` is committed, in the order of R96: commit register, journal, blocks, event. Of a duplex pair the second side's WSN
is recorded (R91). -/
def Device.deliver (d : Device) (n : Nat) : Device :=
  match d.inst n with
  | none => d
  | some i =>
    let d := d.modDlv (fun v => v.commit i.top)
    let d := d.sheetJournal skDelivered i.top i.cause i.stations i.reprint (i.wsn2 != 0) i.handle
    let d := d.dropPage i.wsn
    let d := (d.post evDelivered false i.cause i.top (d.sheetData i)).setInst n (some { i with detected := true })
    ((d.outOfFlight n).countSheet i.stations).settleSheets

/-- The sheet of instance `n` is diverted at the reject gate or the waste mark (R107, R123); its blocks stay (R186). -/
def Device.divertSheet (d : Device) (n : Nat) : Device :=
  match d.inst n with
  | none => d
  | some i =>
    let d := d.sheetJournal skDiverted i.top i.cause i.stations i.reprint (i.wsn2 != 0) i.handle
    let d := d.post evDiverted false i.cause i.top (d.sheetData i)
    ((d.outOfFlight n).countSheet i.stations).settleSheets

/-- Whether a sheet has still to be delivered or diverted. -/
def Instance.onItsWay (i : Instance) : Bool := !i.clearout && !i.detected && !(i.divert && i.gateFired)

/-- Whether a stacker detection on a GPIO falls into an instance's open window (R96, R406). -/
def Device.takesDetect (d : Device) (g : Nat) (i : Instance) : Bool :=
  i.windowOpen && i.onItsWay && d.acceptGpio i.template == some g

/-- The stacker sensor sees a leading edge: the sheet whose window is open is committed (R96); else SHEET_UNEXPECTED (R100). -/
def Device.stackerEdge (d : Device) (g : Nat) : Device :=
  match leastBy (fun (x y : Nat × Instance) => decide (x.2.wsn < y.2.wsn)) (d.openInsts.filter (fun x => d.takesDetect g x.2)) with
  | some x => d.deliver x.1
  | none => (d.ledgerEvent lbSheetUnexpected shared 0 0).post evSheetUnexpected false 0 0 d.usec

def execStackerDetect (t : Nat) (gpio : Fin 64) (s : State) : Result := s.run t fun d => d.stackerEdge gpio

/-- PGS_COMMIT_CLR (R99): with the key, in Held with no page held, both slots, HORIZON and the sheet journal are cleared. -/
def Device.commitClear (d : Device) (key : Nat) : Device :=
  if key ≠ 0xC0DE then d.reply .ok
  else if d.st = .held ∧ d.dlv.pages.isEmpty then
    (d.reply .ok).modDlv (fun v => { v with slot0 := {}, slot1 := {}, horizon := 0, cursor := 0, journal := [] })
  else d.reply .errState

def execCommitClear (t : Nat) (key : BitVec 16) (s : State) : Result := s.run t fun d => d.commitClear key.toNat

end Sys2Proof.Machine
end

