-- ==== Sys2Proof/Machine/Timeline.lean ====
section
/-! DEFINITION. The Timeline (R391 to R412): pitches, instances, entries but for RELEASE, clear-out, watchdog and disabling. -/

namespace Sys2Proof.Machine

/-! The actions of R401. -/

def taEnd : Nat := 0
def taRelease : Nat := 1
def taGap : Nat := 2
def taGate : Nat := 3
def taAcceptOpen : Nat := 4
def taAcceptClose : Nat := 5
def taInspectOpen : Nat := 6
def taInspectClose : Nat := 7
def taCommit : Nat := 8
def taWasteMark : Nat := 9
def taGpio : Nat := 10
def taPulse : Nat := 11
def taSetpoint : Nat := 12
def taAxisMove : Nat := 13

/-- Whether the Timeline of the Quarter that owns the outputs fires entries (R412). -/
def Device.tmlOn (d : Device) : Bool := d.flag (TML_CTRL d.owner) TML_CTRL_ENABLE && !d.flag (TML_CTRL d.owner) TML_CTRL_BUSY

/-- Whether the Timeline of a Quarter runs (R365, R412): enabled, in a Quarter that is neither Yielded nor Testing. -/
def Device.tmlRuns (d : Device) (q : Side) : Bool :=
  d.flag (TML_CTRL q) TML_CTRL_ENABLE && !d.flag (TML_CTRL q) TML_CTRL_BUSY && d.role q != .yielded && d.role q != .testing

/-- The Quarters whose Timelines run. -/
def Device.tmlSides (d : Device) : List Side := bothSides.filter d.tmlRuns

/-- The pitch source. -/
def Device.pitchSrc (d : Device) : Nat := d.fld (TML_CTRL .north) TML_CTRL_PITCH_SRC

/-- The position of the pitch source. -/
def Device.pitchPos (d : Device) : Int := d.position d.owner d.pitchSrc

/-- Whether a clear-out run is in progress (R408). -/
def Device.clearingOut (d : Device) : Bool := d.tml.clearoutLeft != 0 || d.openInsts.any (fun x => x.2.clearout)

/-- Counts of a blank pitch (R395): none in sheet mode where TML_PITCH is 0. -/
def Device.blankPitch (d : Device) : Nat :=
  let n := d.nat (TML_PITCH .north)
  if n = 0 ∧ d.web then d.grid / 65536 else n

/-- The first pitch of a stay runs from the position latched now (R395). -/
def Device.latchPitch (d : Device) : Device :=
  d.modTml (fun v => { v with pitchAt := d.pitchPos, pitchTime := d.now, pitchLen := d.blankPitch })

/-- Held or Booting goes to Ready (R4). -/
def Device.enterReady (d : Device) : Device := ((d.setSt .ready).domainsReady).latchPitch

/-- The cursor entry of an instance. -/
def Device.cursorEntry (d : Device) (i : Instance) : Option (Nat × TmlEntry) :=
  let x := d.templateDir i.template
  if i.cursor < x.2.1 then some (x.1 + i.cursor, d.tmlEntry (x.1 + i.cursor)) else none

/-- Whether a clear-out run passes over an entry (R404, R408). -/
def skippedInClearout (e : TmlEntry) : Bool := e.imagedOnly || e.action == taRelease

/-- The next entry that an instance fires; `n` bounds the entries passed over. -/
def Device.skipEntries (d : Device) (i : Instance) : Nat → Instance
  | 0 => i
  | n + 1 =>
    match d.cursorEntry i with
    | some e => if i.clearout && skippedInClearout e.2 && e.2.action != taEnd then d.skipEntries { i with cursor := i.cursor + 1 } n else i
    | none => i

/-- Where a POSITION entry or a RELEASE fires, from the origin (R393, R404); none for the other triggers. -/
def Device.triggerAt (d : Device) (e : TmlEntry) : Option Int :=
  if e.action = taRelease then some (d.int (TML_OFFSET .north e.arg)) else if e.trig = 0 then some e.trigger else none

/-- Whether the position is beyond the cursor entry's trigger already (R394). -/
def Device.passedTrigger (d : Device) (i : Instance) : Bool :=
  match d.cursorEntry i with
  | some e =>
    match d.triggerAt e.2 with
    | some p => decide (0 < wrap32 (d.pitchPos - (i.origin + p)))
    | none => false
  | none => false

/-- Whether the cursor entry of an instance is due (R393, R404): the position has reached its trigger, or TRIGGER timebase cycles have passed since the
entry before. -/
def Device.entryDue (d : Device) (q : Side) (i : Instance) (e : TmlEntry) : Bool :=
  match d.triggerAt e with
  | some p => decide (0 ≤ wrap32 (d.position q d.pitchSrc - (i.origin + p)))
  | none => e.trig != 1 || decide (i.fired / 80 + ofSigned 32 e.trigger ≤ d.timeTick)

/-- An instance whose cursor has moved: entries of a clear-out are passed over, and it is seen whether the new one is late. -/
def Device.settleCursor (d : Device) (i : Instance) : Instance :=
  let i := d.skipEntries i 1024
  { i with late := d.passedTrigger i }

/-- An entry fires: the action log, which the Quarters share, LATE in the Quarters whose Timelines run, and the cursor (R378, R394,
R410). -/
def Device.fired (d : Device) (n : Nat) (i : Instance) (index : Nat) : Device :=
  let d := d.each bothSides (fun q d => d.setReg (TML_LOG q) (d.reg (TML_LOG q) + 1))
  let d := d.each d.tmlSides (fun q d =>
    if i.late then (d.setFlag (TML_STATUS q) TML_STATUS_LATE true).count (TML_CNT q) TML_CNT_LATE_ENTRIES else d)
  let d := d.modTml (fun v => { v with log := (ActionEntry.mk i.wsn index d.now :: v.log).take 4096 })
  d.setInst n (some (d.settleCursor { i with cursor := i.cursor + 1, fired := d.now }))

/-- The cursor entry of instance `n` fires where it has the given action and is due: `f` is what it does once the cursor has moved on. -/
def Device.fire (d : Device) (n action : Nat) (f : TmlEntry → Instance → Device → Device) : Device :=
  match d.inst n with
  | none => d
  | some i =>
    match d.cursorEntry i with
    | some e => if d.tmlOn && e.2.action == action && d.entryDue d.owner i e.2 then f e.2 i (d.fired n i e.1) else d
    | none => d

/-- Change instance `n`. -/
def Device.onInst (d : Device) (n : Nat) (f : Instance → Instance) : Device :=
  match d.inst n with
  | some i => d.setInst n (some (f i))
  | none => d

/-- Whether the Kerb forces a GPIO now (R600). -/
def Device.gpioForced (d : Device) (g : Nat) : Bool :=
  d.flag KRB_STATUS KRB_STATUS_FORCING && natBit (d.nat64 KRB_GPIO_MASK_LO) g

/-- The level of a GPIO output: the Kerb's while it forces the pin, else the one driven last; in Parked and Off the pull-down's (R540). -/
def Device.gpioPin (d : Device) (g : Nat) : Bool :=
  if d.st = .parked ∨ d.st = .off then false
  else if d.gpioForced g then natBit (d.nat64 KRB_GPIO_LEVEL_LO) g
  else sget (fun _ => false) d.tml.gpioOut g

/-- Drive a GPIO output; one that the Kerb forces is not driven (R602), and in Booting every output keeps its reset level (R63). -/
def Device.driveGpio (d : Device) (g : Nat) (b : Bool) : Device :=
  if d.gpioForced g ∨ d.st = .booting then d
  else d.modTml (fun v => { v with gpioOut := sput (fun _ => false) v.gpioOut g b })

/-! Pitches. -/

/-- The page that is due (R396): the one at the reprint cursor where it is set, else the lowest accepted page not started. -/
def Device.duePage (d : Device) : Option Page :=
  d.dlv.pages.find? (fun p => !p.started && (d.dlv.cursor == 0 || p.first.wsn == d.dlv.cursor))

/-- A free instance number (R396). -/
def Device.freeInst (d : Device) : Option Nat := (List.range 16).find? (fun n => (d.inst n).isNone)

/-- The stations of a page that are safe, may not be released, or take no further page. -/
def Device.stationsOk (d : Device) (mask : Nat) : Bool :=
  (maskList 8 mask).all (fun s => d.releasable s && !d.isSafe s && !natBit d.cns.eolStop s)

/-- Whether a page may be taken at this pitch start, but for thermal enforcement (R117, R396). -/
def Device.mayTake (d : Device) (p : Page) : Bool :=
  (d.st == .ready || d.st == .printing) && d.templateOk p.first.template && d.stationsOk p.first.stations && d.dlv.stranded == 0 &&
    !d.flag THM_STATUS THM_STATUS_STOPPED &&
    d.openInsts.all (fun x => !x.2.onItsWay || (x.2.speed == p.first.speed && x.2.lpi1200 == p.first.lpi1200))

/-- Counts from the pitch start of a page to the next (R395). -/
def Device.pagePitch (d : Device) (p : Page) : Nat := if d.web then p.first.bands * d.grid / 65536 else d.nat (TML_PITCH .north)

/-- Start a pitch `len` counts long. -/
def Device.nextPitchIs (d : Device) (len : Nat) : Device :=
  d.modTml (fun v => { v with pitchAt := v.pitchAt + v.pitchLen, pitchTime := d.now, pitchLen := len })

/-- Open instance `n` at the present pitch start. -/
def Device.openInst (d : Device) (n : Nat) (i : Instance) : Device := (d.setInst n (some (d.settleCursor i))).gridOpen

/-- Take a page into instance `n` (R397): in Ready the device goes to Printing. A reprint moves the cursor on (R108). -/
def Device.takePage (d : Device) (n : Nat) (p : Page) : Device :=
  let d := d.nextPitchIs (d.pagePitch p)
  let w := p.first.wsn
  let d := d.mapPages (fun x => if x.first.wsn = w then { x with started := true } else x)
  let d := (d.modDlv (fun v => { v with cursor := lowestReprint v.pages })).modThm (fun v => { v with lastSpeed := p.first.speed })
  let d := d.each bothSides (fun q d => d.each (maskList 8 p.first.stations) (fun s d =>
    d.setSynth q s { d.synthS q s with res1200 := p.first.lpi1200 }))
  let d := d.openInst n {
    wsn := w, wsn2 := (p.second.map (fun x => x.wsn)).getD 0, template := p.first.template, origin := d.tml.pitchAt, startAt := d.now,
    fired := d.now, reprint := p.reprint, handle := p.handle, stations := p.first.stations, speed := p.first.speed,
    lpi1200 := p.first.lpi1200 }
  let d := d.paceRaise
  if d.st = .ready then d.setSt .printing else d

/-- A pitch that carries no page (R396). -/
def Device.blank (d : Device) : Device :=
  (d.nextPitchIs d.blankPitch).each d.tmlSides (fun q d => d.count (TML_CNT q) TML_CNT_BLANK)

/-- The CLEAROUT template (R402). -/
def Device.clearoutTemplate (d : Device) : Option Nat :=
  (List.range 32).find? (fun t => (d.templateDir t).2.1 != 0 && (d.templateDir t).2.2 == 3)

/-- A pitch start of a clear-out run (R408). -/
def Device.clearoutPitch (d : Device) : Device :=
  match d.freeInst, d.clearoutTemplate with
  | some n, some t =>
    let d := d.nextPitchIs d.blankPitch
    let d := d.modTml (fun v => { v with clearoutLeft := v.clearoutLeft - 1 })
    d.openInst n { wsn := 0, wsn2 := 0, template := t, clearout := true, divert := true, origin := d.tml.pitchAt, startAt := d.now, fired := d.now }
  | _, _ => d.blank

/-- Whether the pitch source has advanced by the present pitch (R395). -/
def Device.pitchReached (d : Device) (q : Side) : Bool :=
  d.tml.pitchLen != 0 && decide (0 ≤ wrap32 (d.position q d.pitchSrc - (d.tml.pitchAt + (d.tml.pitchLen : Int))))

/-- A pitch start (R395 to R397). Printing with no page due has reached the end of the accepted work (R4). -/
def Device.pitchStart (d : Device) : Device :=
  if !d.tmlOn || !d.pitchReached d.owner then d
  else if d.st = .held then (if d.tml.clearoutLeft ≠ 0 then d.clearoutPitch else d)
  else if d.st = .ready ∨ d.st = .printing ∨ d.st = .draining then
    match d.duePage, d.freeInst with
    | none, _ => if d.st = .printing then d.blank.enterDraining else d.blank
    | some p, some n =>
      if d.mayTake p then
        let x := d.enforce p.first.speed
        if x.2 then x.1.takePage n p else x.1.blank
      else d.blank
    | some _, none => d.blank
  else d

def execPitchStart (t : Nat) (s : State) : Result := s.run t Device.pitchStart

/-! Entries. -/

/-- The first imaging station: the lowest that an open instance images (R386). -/
def Device.firstStation (d : Device) : Option Nat :=
  (maskList 8 ((d.openInsts.filter (fun x => !x.2.clearout)).foldl (fun m x => m ||| x.2.stations) 0)).head?

/-- The end of an instance; with the last one of a clear-out run no sheet counts as stranded any more (R397, R408). -/
def Device.closeInst (d : Device) (n : Nat) (i : Instance) : Device :=
  let d := d.setInst n none
  if i.clearout && !d.clearingOut then d.modDlv (fun v => { v with stranded := 0 }) else d

/-- The image of an inspection window ends with it (R355). -/
def Device.inspectEnd (d : Device) (n : Nat) : Device :=
  let d := d.onInst n (fun i => { i with inspect := false })
  match d.openImage with
  | some x => if x.inst = n then d.closeImage.setArc (fun a => { a with skip := false }) else d
  | none => if d.inspWindow.isNone then d.setArc (fun a => { a with skip := false }) else d

def execTmlEnd (t : Nat) (i : Fin 16) (s : State) : Result :=
  s.run t fun d => d.fire i taEnd (fun _ x d => (d.inspectEnd i).closeInst i x)

/-- GAP of a station (R407). -/
def execTmlGap (t : Nat) (i : Fin 16) (s : State) : Result :=
  s.run t fun d => d.fire i taGap (fun e _ d => if d.firstStation = some e.arg ∨ d.firstStation = none then d.plannedNow else d)

/-- GATE: the divert flag is read, the gate is driven, and a diverted sheet is journaled (R107, R405). -/
def execTmlGate (t : Nat) (i : Fin 16) (s : State) : Result :=
  s.run t fun d => d.fire i taGate (fun e x d =>
    let d := d.drives e.arg (x.wsn + 1) (fun d => d.driveGpio e.arg (natBit (if x.divert then e.value else e.value2) 0))
    let d := d.onInst i (fun y => { y with gateFired := true })
    if x.divert && !x.clearout then d.divertSheet i else d)

/-- ACCEPT_OPEN. -/
def execTmlAcceptOpen (t : Nat) (i : Fin 16) (s : State) : Result :=
  s.run t fun d => d.fire i taAcceptOpen (fun _ _ d => d.onInst i (fun y => { y with windowOpen := true }))

/-- ACCEPT_CLOSE: a sheet that was to come and did not is missing, and the engine jams (R406). -/
def execTmlAcceptClose (t : Nat) (i : Fin 16) (s : State) : Result :=
  s.run t fun d => d.fire i taAcceptClose (fun _ x d =>
    let d := d.onInst i (fun y => { y with windowOpen := false })
    if x.onItsWay then (d.ledgerEvent lbSheetMissing shared 0 0).kerbTrigger ktJam shared 0 else d)

/-- INSPECT_OPEN. -/
def execTmlInspectOpen (t : Nat) (i : Fin 16) (s : State) : Result :=
  s.run t fun d => d.fire i taInspectOpen (fun _ _ d => d.onInst i (fun y => { y with inspect := true }))

/-- INSPECT_CLOSE. -/
def execTmlInspectClose (t : Nat) (i : Fin 16) (s : State) : Result :=
  s.run t fun d => d.fire i taInspectClose (fun _ _ d => d.inspectEnd i)

/-- COMMIT: a virtual sheet that is not diverted is delivered (R122). -/
def execTmlCommit (t : Nat) (i : Fin 16) (s : State) : Result :=
  s.run t fun d => d.fire i taCommit (fun _ x d => if x.onItsWay && !x.divert then d.deliver i else d)

/-- A pulse begins at a level; it replaces one in progress on the same output. -/
def Device.pulse (d : Device) (p : Pulse) (b : Bool) : Device :=
  d.drives p.gpio p.rank (fun d =>
    (d.driveGpio p.gpio b).modTml (fun v => { v with pulses := p :: v.pulses.filter (fun y => y.gpio != p.gpio) }))

/-- WASTE_MARK: a virtual sheet whose divert flag is set is marked over VALUE counts and journaled (R123). -/
def execTmlWasteMark (t : Nat) (i : Fin 16) (s : State) : Result :=
  s.run t fun d => d.fire i taWasteMark (fun e x d =>
    let d := d.onInst i (fun y => { y with gateFired := true })
    if x.divert then
      let d := d.pulse { gpio := e.arg, level := false, rank := x.wsn + 1, byCounts := true, due := d.pitchPos + (e.value : Int) } true
      if x.clearout then d else d.divertSheet i
    else d)

/-- GPIO. -/
def execTmlGpio (t : Nat) (i : Fin 16) (s : State) : Result :=
  s.run t fun d => d.fire i taGpio (fun e x d => d.drives e.arg (x.wsn + 1) (fun d => d.driveGpio e.arg (natBit e.value 0)))

/-- PULSE. -/
def execTmlPulse (t : Nat) (i : Fin 16) (s : State) : Result :=
  s.run t fun d => d.fire i taPulse (fun e x d =>
    let b := natBit e.value 0
    d.pulse { gpio := e.arg, level := !b, rank := x.wsn + 1, due := ((d.timeTick + e.value2 : Nat) : Int) } b)

/-- Whether the end of a pulse has come. -/
def Device.pulseOver (d : Device) (p : Pulse) : Bool :=
  if p.byCounts then decide (0 ≤ wrap32 (d.pitchPos - p.due)) else decide (p.due ≤ (d.timeTick : Int))

/-- A pulse or waste mark ends; with the last one a disabled Timeline has wound down (R51, R412). -/
def execPulseEnd (t : Nat) (gpio : Fin 64) (s : State) : Result :=
  s.run t fun d =>
    match d.tml.pulses.find? (fun x => x.gpio == gpio.val && d.pulseOver x) with
    | none => d
    | some x =>
      let d := d.drives gpio x.rank (fun d => d.driveGpio gpio x.level)
      let d := d.modTml (fun v => { v with pulses := v.pulses.filter (fun y => y.gpio != gpio.val) })
      if d.tml.pulses.isEmpty then d.each bothSides (fun q d => d.setFlag (TML_CTRL q) TML_CTRL_BUSY false) else d

/-- SETPOINT: each Quarter's Timeline writes its own Regulator (R22, R365). -/
def execTmlSetpoint (t : Nat) (i : Fin 16) (s : State) : Result :=
  s.run t fun d => d.fire i taSetpoint (fun e x d =>
    d.drives (64 + e.arg) (x.wsn + 1) (fun d => d.each d.tmlSides (fun q d => d.setNat (REG_SLOT_SP q e.arg) e.value)))

/-- AXIS_MOVE: each Quarter's Timeline moves the axis in its own planner (R22, R365). -/
def execTmlAxisMove (t : Nat) (i : Fin 16) (s : State) : Result :=
  s.run t fun d => d.fire i taAxisMove (fun e x d =>
    d.drives (1024 + e.arg) (x.wsn + 1) (fun d => d.each d.tmlSides (fun q d => d.axisMove q e.arg (toSigned 32 e.value2) (e.value % 64))))

/-! Clear-out, watchdog, disabling. -/

/-- TML_CMD.OP = CLEAROUT (R408): STRANDED pitches of the CLEAROUT template. -/
def Device.startClearout (d : Device) : Device :=
  if d.st ≠ .held then d.reply .errState
  else if d.clearingOut ∨ d.clearoutTemplate = none then d.reply .ok
  else
    let d := (d.reply .ok).latchPitch
    d.modTml (fun v => { v with clearoutLeft := d.dlv.stranded })

def execClearout (t : Nat) (s : State) : Result := s.run t Device.startClearout

/-- TML_CMD.OP = ACK_CLEARED (R408). -/
def Device.ackClear (d : Device) : Device :=
  if d.st ≠ .held then d.reply .errState
  else ((d.reply .ok).modTml (fun v => { v with clearoutLeft := 0 })).modDlv (fun v => { v with stranded := 0 })

def execAckCleared (t : Nat) (s : State) : Result := s.run t Device.ackClear

/-- The watchdog of a Quarter that runs its Timeline sees a stall (R411). -/
def execTimelineWatchdog (t : Nat) (q : Side) (kind : StallKind) (s : State) : Result :=
  s.run t fun d =>
    let due := match kind with
      | .cursor => d.openInsts.any (fun x => (d.cursorEntry x.2).any (fun e => d.entryDue q x.2 e.2))
      | .pitch => (d.st == .ready || d.st == .printing || d.st == .draining) && d.pitchReached q
    if d.flag (TML_CTRL q) TML_CTRL_ENABLE && due then
      (d.setFlag (TML_STATUS q) TML_STATUS_WD true).checkEvent q ckTimelineWd false
    else d

/-- TML_CTRL.ENABLE is cleared (R412): the sheets in flight become defective with cause 4. -/
def Device.timelineOff (d : Device) (q : Side) : Device :=
  if !d.flag (TML_CTRL q) TML_CTRL_ENABLE then d
  else
    let d := d.setFlag (TML_CTRL q) TML_CTRL_ENABLE false
    if d.owner ≠ q then d
    else (d.stationsDefective 256 4).setFlag (TML_CTRL q) TML_CTRL_BUSY (!d.tml.pulses.isEmpty)

def execTimelineDisable (t : Nat) (q : Side) (s : State) : Result := s.run t fun d => d.timelineOff q

end Sys2Proof.Machine
end

