-- ==== Sys2Proof/Machine/Supervisor.lean ====
section
/-! DEFINITION. The Supervisor (R413 to R423). -/

namespace Sys2Proof.Machine

/-- A Supervisor rule (R413). -/
structure SupRule where
  inputA : Nat
  opA : Nat
  enabled : Bool
  threshA : Int
  inputB : Nat
  opB : Nat
  combine : Nat
  threshB : Int
  action : Nat
  persist : Nat
  stations : Nat
  arg : Nat
  arg2 : Nat
  deriving DecidableEq, Repr

/-- Read a rule. -/
def parseRule (b : List Byte) : SupRule :=
  { inputA := bytesAt b 0 2, opA := bytesAt b 2 1, enabled := natBit (bytesAt b 3 1) 0, threshA := toSigned 32 (bytesAt b 4 4),
    inputB := bytesAt b 8 2, opB := bytesAt b 10 1, combine := bytesAt b 11 1 / 64, threshB := toSigned 32 (bytesAt b 12 4),
    action := bytesAt b 16 1, persist := max 1 (bytesAt b 17 1), stations := bytesAt b 18 1, arg := bytesAt b 20 2, arg2 := bytesAt b 22 2 }

/-- Station flag f of R414. -/
def Device.stationFlag (d : Device) (q : Side) (f s : Nat) : Bool :=
  match f with
  | 1 => d.pxState q s == pxCoast
  | 2 => d.flag (PXS_STATUS q s) PXS_STATUS_PHASE_FAULT
  | 3 => d.flag (BMO_STATUS q s) BMO_STATUS_DUTY_ELEM
  | 4 => d.flag (BMO_STATUS q s) BMO_STATUS_DUTY_HEAD
  | 5 => d.flag (BMO_STATUS q s) BMO_STATUS_CLASS_LOST
  | 6 => d.flag (BMO_STATUS q s) BMO_STATUS_DEAD_UNMAPPED
  | 7 => d.flag (ENW_STATUS q s) ENW_STATUS_HOLE
  | 8 => d.enState q s == enDown
  | 9 => d.flag (BMO_STATUS q s) BMO_STATUS_LATE_LINE
  | 10 => d.flag (BMO_STATUS q s) BMO_STATUS_TEMP_WARN
  | 11 => d.fld (PXS_STATUS q s) PXS_STATUS_MISS != 0
  | 12 => d.pxState q s == pxSlew
  | _ => false

/-- The value of an input of R414. An analog input in mV is its 12-bit code over the 1.8 V range; a head temperature is known in whole °C
(R341). -/
def Device.supInput (d : Device) (q : Side) (src : Nat) : Int :=
  let i := src % 4096
  match src / 4096 with
  | 0 => if i = 0 then b01 (d.flag CLK_STATUS CLK_STATUS_NMI) else b01 (d.stationFlag q (i / 8) (i % 8))
  | 1 => b01 (d.sticky i)
  | 2 => (sget (fun _ => 0) d.rgl.adc i * 1800 / 4095 : Nat)
  | 3 => d.int (REG_SLOT_OUT q i)
  | 4 => d.int (REG_SLOT_FB q i)
  | 5 => d.followError q i
  | 6 => b01 (natBit d.tml.gpioIn i)
  | 7 => toSigned 8 (d.fld (BMO_STATUS q i) BMO_STATUS_HEAD_TEMP) * 8
  | 8 => (sget (fun _ => 0) d.params i).toInt
  | _ => 0

/-- A comparison of R415; `last` is the value of the previous sweep, none at the first. -/
def supCompare (op : Nat) (v th : Int) (last : Option Int) : Bool :=
  match op with
  | 0 => decide (th < v)
  | 1 => decide (v < th)
  | 2 => v == th
  | 3 => v != th
  | 4 => decide (th < (v.natAbs : Int))
  | 5 => last.any (fun x => decide (th < ((v - x).natAbs : Int)))
  | _ => false

/-- Whether a rule names CLK_NMI (R420). -/
def SupRule.clkNmi (r : SupRule) : Bool := r.inputA == 0 || (r.combine != 0 && r.inputB == 0)

/-- The condition of a rule on the values of its inputs. -/
def SupRule.holds (r : SupRule) (a b : Int) (x : RuleS) : Bool :=
  let ca := supCompare r.opA a r.threshA x.lastA
  let cb := supCompare r.opB b r.threshB x.lastB
  match r.combine with
  | 0 => ca
  | 1 => ca && cb
  | 2 => ca || cb
  | _ => false

/-- A rule's counters after a sweep in which its condition was `c`, and whether it fires (R417). -/
def RuleS.next (x : RuleS) (c : Bool) (persist : Nat) (a b : Int) : RuleS × Bool :=
  let held := if c then min 255 (x.held + 1) else 0
  let failed := if c then 0 else min 255 (x.failed + 1)
  let fires := c && !x.spent && decide (persist ≤ held)
  let spent := if fires then true else if decide (persist ≤ failed) then false else x.spent
  ({ held, failed, spent, lastA := some a, lastB := some b }, fires)

/-- A STATION_SAFE takes back a release of the station in the same timebase cycle (R422): nothing of the sheet is sent there. -/
def Device.unrelease (d : Device) (s : Nat) : Device :=
  match d.print s with
  | some p =>
    if p.tick = d.timeTick then
      let d := (d.stationsDefective (2 ^ s) 4).endPrint s
      d.each bothSides (fun q d => d.setLine q s { d.lineS q s with image := false, codes := [] })
    else d
  | none => d

/-- What a rule's action does in the Quarter that holds the token (R418, R419); `flight` lists the sheets in flight at the sweep's start. -/
def Device.supAct (d : Device) (q : Side) (r : SupRule) (flight : List (Nat × Instance)) : Device :=
  match r.action with
  | 1 => d.ledgerEvent r.arg q.code 0 0
  | 2 =>
    d.each (flight.filter (fun x => r.stations == 0 || (x.2.imaging &&& r.stations) != 0)) (fun x d => d.sheetDefective x.1 8)
  | 3 => d.checkEvent q ckLoopPlaus false
  | 4 => d.kerbTrigger ktSupervisor q.code 0
  | 5 => d.enterDraining
  | 6 => d.each (maskList 8 r.stations) (fun s d => (d.unrelease s).goSafe s 4 false)
  | 7 => d.slotFallback q r.arg 4
  | 8 => d.drives (1024 + r.arg) supRank (fun d => d.axisStop q r.arg)
  | 9 => d.drives r.arg supRank (fun d => d.driveGpio r.arg (natBit r.arg2 0))
  | _ => d

/-- Evaluate rule `k` with the values sampled at the sweep's start (R417, R420, R421). -/
def Device.supRule (d : Device) (q : Side) (k : Nat) (a b : Int) (flight : List (Nat × Instance)) : Device :=
  let r := parseRule (d.entry 0x02 0 k)
  let key := 256 * q.code + k
  let x := sget (fun _ => {}) d.sup key
  let c := r.holds a b x
  let y := x.next c r.persist a b
  let d := d.withSup (sput (fun _ => {}) d.sup key y.1)
  let d := d.setFld (SUP_TRUE q (k / 32)) ⟨k % 32, k % 32⟩ (b01 c)
  if y.2 then
    let d := d.setFld (SUP_FIRED q (k / 32)) ⟨k % 32, k % 32⟩ 1
    let d := (d.addSat (SUP_CNT q) wholeWord 1).setFld (SUP_STATUS q) SUP_STATUS_LAST_RULE k
    if d.token == some q || r.action == 3 then d.supAct q r flight else d
  else d

/-- The rules that a sweep evaluates. -/
def Device.supRules (d : Device) (q : Side) : List Nat :=
  (List.range 256).filter (fun k =>
    let b := d.entry 0x02 0 k
    !b.isEmpty && (let r := parseRule b; r.clkNmi || (r.enabled && d.flag (SUP_CTRL q) SUP_CTRL_ENABLE)))

/-- A sweep of a Quarter's Supervisor (R416): every input is sampled first, then the rules are evaluated in order. -/
def Device.sweep (d : Device) (q : Side) (took : Nat) : Device :=
  if d.role q = .yielded ∨ d.role q = .testing then d
  else
    let d := d.maxFld (SUP_STATUS q) SUP_STATUS_SWEEP_US_MAX (min 65535 took)
    let samples := (d.supRules q).map (fun k =>
      let r := parseRule (d.entry 0x02 0 k)
      (k, d.supInput q r.inputA, d.supInput q r.inputB))
    let flight := d.flight
    let d := d.each samples (fun x d => d.supRule q x.1 x.2.1 x.2.2 flight)
    if d.flag (SUP_CTRL q) SUP_CTRL_BUSY then d.setFlag (SUP_CTRL q) SUP_CTRL_BUSY false else d

/-- A sweep, which took `took` hundredths of a microsecond; `gpio` holds the levels at the GPIO inputs. -/
def execSupervisorSweep (t : Nat) (q : Side) (took : Nat) (gpio : BitVec 64) (s : State) : Result :=
  s.run t fun d => (d.modTml (fun v => { v with gpioIn := gpio.toNat })).sweep q took

/-- SUP_CTRL.ENABLE is cleared (R423). A sweep is one command here, so none is in progress. -/
def Device.supervisorOff (d : Device) (q : Side) : Device := d.setFlag (SUP_CTRL q) SUP_CTRL_ENABLE false

def execSupervisorDisable (t : Nat) (q : Side) (s : State) : Result := s.run t fun d => d.supervisorOff q

end Sys2Proof.Machine
end

