-- ==== Sys2Proof/Machine/Disable.lean ====
section
/-! DEFINITION. Disabling a block with work in flight (R50, R51): what a domain's power-down asks of its blocks, and the end of a
wind-down. -/

namespace Sys2Proof.Machine

/-- Every block of a Quarter is disabled (R50, R53): its DMA channels, Timeline, Supervisor, Regulator, commutation, axes and stations. -/
def Device.quarterOff (d : Device) (q : Side) : Device :=
  let d := d.each (List.range 16) (fun c d => d.dmaOff (.quarter q) c)
  let d := (((d.timelineOff q).supervisorOff q).regulatorOff q).motorsOff q
  let d := d.driveOff q
  d.each (List.range 8) (fun s d => (d.synthOff q s).stationOff q s)

/-- The lanes of a Quarter wind down: each port finishes its segment, and an inspection line in progress ends first (R50, R53). What their
ENABLE asks for stays, so that they start again with the lanes (R543). -/
def Device.lanesWind (d : Device) (q : Side) : Device :=
  (d.each ((List.range 8).filter (fun s => d.sends q s)) (fun s d => d.setFlag (ENW_CTRL q s) ENW_CTRL_BUSY true)).lanesOff q |>.setFlag
    (ENW_INSP_STATUS q) ENW_INSP_STATUS_ALIGNED false

/-- The blocks of a domain wind down before it loses power (R50, R53, R541): codec work is aborted, the link goes down, a Quarter's blocks
are disabled, lanes go off. -/
def Device.windDownDomain (d : Device) (n : Nat) : Device :=
  match n with
  | 5 =>
    let d := d.jobAbort
    let d := d.each ((List.range 4).filter (fun c => (d.arcChain c).isSome)) (fun c d => d.chainFail c jeAborted)
    d.imagesFail jeAborted
  | 7 => d.linkGoesDown 0
  | 8 => d.quarterOff .north
  | 9 => d.quarterOff .south
  | 10 => d.lanesWind .north
  | 11 => d.lanesWind .south
  | _ => d

/-- Whether BUSY of a control register reads 1. -/
def Device.busyAt (d : Device) (a : Nat) : Bool := (d.reg a).getLsbD 30

/-- Whether no block of a Quarter winds down. -/
def Device.quarterIdle (d : Device) (q : Side) : Bool :=
  [TML_CTRL q, SUP_CTRL q, REG_CTRL q, MOT_CTRL q, AXS_CTRL q].all (fun a => !d.busyAt a) &&
    (List.range 8).all (fun s => !d.busyAt (PXS_CTRL q s) && !d.busyAt (BMO_CTRL q s)) &&
    (List.range 32).all (fun a => !d.busyAt (AXS_ACTL q a))

/-- Whether the blocks of a domain have wound down, so that its fabric may close (R541). -/
def Device.blocksIdle (d : Device) (n : Nat) : Bool :=
  match n with
  | 5 => !d.busyAt ARC_CTRL
  | 8 => d.quarterIdle .north
  | 9 => d.quarterIdle .south
  | 10 => (List.range 8).all (fun s => !d.busyAt (ENW_CTRL .north s)) && !d.busyAt (ENW_INSP_CTRL .north)
  | 11 => (List.range 8).all (fun s => !d.busyAt (ENW_CTRL .south s)) && !d.busyAt (ENW_INSP_CTRL .south)
  | _ => true

/-- The last steps of a domain's power-down: gates close, outputs clamp, the switch opens (R541). -/
def Device.domainOff (d : Device) (n : Nat) : Device :=
  let d := (d.domOn n false).domBusy n false
  match n with
  | 8 => d.quarterReset .north
  | 9 => d.quarterReset .south
  | _ => d

/-- Whether a domain's switch may open: its blocks have wound down and no DMA channel works in it (R541). -/
def Device.mayOpen (d : Device) (n : Nat) : Bool := d.blocksIdle n && (d.dmaIn n).isEmpty

/-- A domain that powers down is off once its switch may open (R541). -/
def Device.domainSettle (d : Device) (n : Nat) : Device :=
  if natBit (d.fld PWR_DOM_STATUS PWR_DOM_STATUS_BUSY) n && d.mayOpen n then d.domainOff n else d

/-- Every domain that powers down goes on where what it waited for has ended. -/
def Device.domainsSettle (d : Device) : Device :=
  if d.fld PWR_DOM_STATUS PWR_DOM_STATUS_BUSY = 0 then d else d.each (List.range 14) (fun n d => d.domainSettle n)

/-- A control register's BUSY falls where it was 1, and `f` is what its block then does. -/
def Device.ifBusy (d : Device) (a : Nat) (f : Device → Device) : Device := if (d.reg a).getLsbD 30 then f d else d

/-- Clear BUSY. -/
def Device.notBusy (d : Device) (a : Nat) : Device := d.setReg a (d.reg a &&& 0xBFFFFFFF)

/-- A wind-down completes (R50, R51). A block whose BUSY does not read 1 is left as it is. -/
def Device.windDownEnds (d : Device) (b : BlockId) : Device :=
  match b with
  | .ring r => d.ifBusy (HIF_RING_CFG r) (fun d => d.ringStopped r)
  | .channel e c => d.ifBusy (aly e c + alyCtrl) (fun d => d.dmaStopped e c)
  | .arcade => d.ifBusy ARC_CTRL (fun d => d.notBusy ARC_CTRL)
  | .synth q s => d.ifBusy (PXS_CTRL q s) (fun d => d.synthStopped q s)
  | .beam q s => d.ifBusy (BMO_CTRL q s) (fun d => d.beamStopped q s)
  | .port q s => d.ifBusy (ENW_CTRL q s) (fun d => d.portStopped q s)
  | .inspection q => d.ifBusy (ENW_INSP_CTRL q) (fun d => d.notBusy (ENW_INSP_CTRL q))
  | .timeline q => d.ifBusy (TML_CTRL q) (fun d => d.notBusy (TML_CTRL q))
  | .supervisor q => d.ifBusy (SUP_CTRL q) (fun d => d.notBusy (SUP_CTRL q))
  | .regulator q => d.ifBusy (REG_CTRL q) (fun d => d.notBusy (REG_CTRL q))
  | .slot q n => d.ifBusy (REG_SLOT_CTRL q n) (fun d => (d.putOut q n (hIdle (d.slotEntry n))).slotStopped q n)
  | .commutation q => d.ifBusy (MOT_CTRL q) (fun d => (d.notBusy (MOT_CTRL q)).motorsStart q)
  | .polygon q p => d.ifBusy (MOT_POLY_CTRL q p) (fun d => d.polyStopped q p)
  | .pmsm q n => d.ifBusy (MOT_PMSM_CTRL q n) (fun d => d.pmsmStopped q n)
  | .axes q => d.ifBusy (AXS_CTRL q) (fun d => d.driveStopped q)
  | .axis q a => d.ifBusy (AXS_ACTL q a) (fun d => d.axisStopped q a)
  | .consumables => d.ifBusy CNS_CTRL (fun d => d.notBusy CNS_CTRL)

/-- WIND_DOWN_COMPLETE; a domain that waited for the block goes on powering down (R541). -/
def execWindDownComplete (t : Nat) (b : BlockId) (s : State) : Result := s.run t fun d => (d.windDownEnds b).domainsSettle

end Sys2Proof.Machine
end

