-- ==== Sys2Proof/Machine/Clocks.lean ====
section
/-! DEFINITION. Clocks and clock monitoring (R513 to R534). -/

namespace Sys2Proof.Machine

/-- The nominal frequency of a source in kHz (R513): the lane PLLs by their lane logic clock, the page store PLL by the trained rate. -/
def Device.nominalKhz (d : Device) (k : Nat) : Nat :=
  match k with
  | 1 => 32000
  | 4 => 402832
  | 5 => 402832
  | 6 =>
    match d.fld RDB_STATUS RDB_STATUS_RATE_ACT with
    | 0 => 1066625
    | 1 => 937500
    | 2 => 800000
    | _ => 533250
  | 7 => 200000
  | _ => 100000

/-- CLK_MON_CFG.TOL in 0.1 %; a value outside 10 to 100 is taken as 30. -/
def Device.monTol (d : Device) : Nat :=
  let t := d.fld CLK_MON_CFG CLK_MON_CFG_TOL
  if 10 ≤ t ∧ t ≤ 100 then t else 30

/-- The frequency in kHz of a source from its edges in 64 cycles of its comparison clock: REFCLK for IOSC, IOSC for the others (R515). -/
def windowKhz (k edges : Nat) : Nat := edges * (if k = 1 then 100000 else 32000) / 64

/-- Whether a window's count is outside tolerance (R515). -/
def Device.outOfTol (d : Device) (k edges : Nat) : Bool :=
  let khz := windowKhz k edges
  edges == 0 || decide (d.monTol * d.nominalKhz k < ((khz : Int) - (d.nominalKhz k : Int)).natAbs * 1000)

/-- Whether source `k` is monitored; REFCLK always is (R515, R518). -/
def Device.monitored (d : Device) (k : Nat) : Bool := k == 0 || natBit (d.fld CLK_MON_EN CLK_MON_EN_EN) k

/-- The multiplexers whose primary is source `k` (R525). -/
def muxesOf : Nat → List Nat
  | 4 => [2]
  | 5 => [3]
  | 6 => [4]
  | 7 => [0, 1, 5]
  | _ => []

/-- The source that multiplexer `n` takes as primary (R525). -/
def muxPrimary : Nat → Nat
  | 2 => 4
  | 3 => 5
  | 4 => 6
  | _ => 7

/-- The source a multiplexer passes now. -/
def Device.muxSource (d : Device) (n : Nat) : Nat := if natBit d.clk.passing n then 1 else muxPrimary n

/-- Set what a multiplexer passes. -/
def Device.setPassing (d : Device) (n : Nat) (iosc : Bool) : Device :=
  d.modClk (fun v => { v with passing := setNatBit v.passing n iosc })

/-- The forced path of a multiplexer passes the selection in SEL and ends a switch or a hang (R529). -/
def Device.forcePath (d : Device) (n : Nat) : Device :=
  let iosc := d.flag (CLK_MUX n) CLK_MUX_SEL
  let d := (d.setPassing n iosc).setFlag (CLK_MUX n) CLK_MUX_PENDING false
  if iosc then d else d.setFlag (CLK_MUX n) CLK_MUX_ON_FALLBACK false

/-- Class A failure because of the sources in a mask (R519); the rail of a sequence holds its voltage (R534). -/
def Device.classA (d : Device) (m : Nat) : Device :=
  let d := d.modClk (fun v => { v with classA := v.classA ||| m, held := v.held || v.seq.isSome })
  let d := ((d.setFlag CLK_STATUS CLK_STATUS_CLASS_A_WAIT true).setLive ktClock true).ledgerBase lbClkAFail shared m 0
  d.kerbTrigger ktClock shared m

/-- Class B failure of source `k`: its domains move to IOSC through the forced path, and the interface they serve behaves as R523
gives (R522). -/
def Device.classB (d : Device) (k : Nat) : Device :=
  let d := d.each (muxesOf k) (fun n d =>
    ((d.setFlag (CLK_MUX n) CLK_MUX_SEL true).setFlag (CLK_MUX n) CLK_MUX_ON_FALLBACK true).forcePath n)
  let d := d.modClk (fun v => { v with abandoned := v.abandoned || v.seq.isSome })
  let d := d.ledgerBase lbClkBFail shared k 0
  match k with
  | 4 => d.lanesStop .north
  | 5 => d.lanesStop .south
  | 8 => d.linkGoesDown 0
  | _ => d

/-- Source `k` is declared failed (R515 to R522). -/
def Device.declareFailed (d : Device) (k : Nat) : Device :=
  if natBit d.clk.failed k then d
  else
    let d := d.modClk (fun v => { v with failed := setNatBit v.failed k true })
    let d := d.setFld CLK_FAIL CLK_FAIL_FAIL (setNatBit (d.fld CLK_FAIL CLK_FAIL_FAIL) k true)
    let d := d.each (List.range 6) (fun n d =>
      if d.flag (CLK_MUX n) CLK_MUX_PENDING && d.muxSource n == k then d.forcePath n else d)
    match k with
    | 0 => d.classA 1
    | 1 => (d.setFlag CLK_STATUS CLK_STATUS_IOSC_READY false).ledgerBase lbIoscFail shared 0 0
    | 2 => if natBit d.clk.failed 3 then d.classA 12 else d.refLost .north
    | 3 => if natBit d.clk.failed 2 then d.classA 12 else d.refLost .south
    | k => if d.flag CLK_STATUS CLK_STATUS_IOSC_READY then d.classB k else d.classA (2 ^ k)

/-- A source is within tolerance in a window; the time of the first such window is kept (R520, R524). -/
def Device.withinTol (d : Device) (k : Nat) : Device :=
  let since := sget (fun _ => 0) d.clk.goodAt k
  d.modClk (fun v => { v with
    failed := setNatBit v.failed k false, goodAt := sput (fun _ => 0) v.goodAt k (if since = 0 then d.now else since)
    tbOther := if k = 2 ∨ k = 3 then setNatBit v.tbOther (k - 2) false else v.tbOther })

/-- Whether a source has stayed within tolerance for 10 ms. -/
def Device.steadyFor10 (d : Device) (k : Nat) : Bool :=
  !natBit d.clk.failed k && decide (sget (fun _ => 0) d.clk.goodAt k + 10 * tuPerMs ≤ d.now)

/-- A monitor window ends. A REFCLK count is attributed to IOSC unless REFCLK also deviates from the D0 oscillator (R516). Before
the monitors are armed nothing is declared (R517). -/
def execClockMonitorWindow (t : Nat) (k : Fin 9) (edges : Nat) (d0Deviates : Bool) (s : State) : Result :=
  s.run t fun d =>
    let d := d.setNat (CLK_FREQ k) (windowKhz k edges)
    if !d.flag CLK_STATUS CLK_STATUS_ARMED || !d.monitored k then d
    else if d.outOfTol k edges then
      let d := d.modClk (fun v => { v with goodAt := sput (fun _ => 0) v.goodAt k 0 })
      if k.val = 0 ∧ !d0Deviates then d.declareFailed 1 else d.declareFailed k
    else d.withinTol k

/-- The missing-edge detector declares REFCLK failed (R516); before IOSC is ready that holds boot step 2 (R517). -/
def execRefclkMissingEdge (t : Nat) (s : State) : Result := s.run t fun d => d.declareFailed 0

/-- IOSC reports ready and the monitors arm (R517, R518). -/
def execIoscReady (t : Nat) (s : State) : Result :=
  s.run t fun d =>
    let d := d.modClk (fun v => { v with failed := setNatBit v.failed 1 false })
    (d.setFlag CLK_STATUS CLK_STATUS_IOSC_READY true).setFlag CLK_STATUS CLK_STATUS_ARMED true

/-- A failed IOSC is restarted (R518): it is not ready until it reports so. -/
def execIoscRestart (t : Nat) (s : State) : Result :=
  s.run t fun d => if natBit d.clk.failed 1 then d.setFlag CLK_STATUS CLK_STATUS_IOSC_READY false else d

/-- The Class A wait ends once its sources are within tolerance and both reference PLLs have declared lock (R520). -/
def execClassAWaitEnd (t : Nat) (s : State) : Result :=
  s.run t fun d =>
    if d.flag CLK_STATUS CLK_STATUS_CLASS_A_WAIT && (maskList 9 d.clk.classA).all d.steadyFor10 &&
        d.flag (PXS_REF_STATUS .north) PXS_REF_STATUS_LOCKED && d.flag (PXS_REF_STATUS .south) PXS_REF_STATUS_LOCKED then
      ((d.setFlag CLK_STATUS CLK_STATUS_CLASS_A_WAIT false).setLive ktClock false).modClk (fun v => { v with classA := 0 })
    else d

/-- A primary source that has been within tolerance for 10 ms takes its domain back through the glitch-free path (R524). -/
def execClockReturn (t : Nat) (n : Fin 6) (s : State) : Result :=
  s.run t fun d =>
    if d.flag (CLK_MUX n) CLK_MUX_RETURN_EN && d.flag (CLK_MUX n) CLK_MUX_ON_FALLBACK && !d.flag (CLK_MUX n) CLK_MUX_PENDING &&
        d.steadyFor10 (muxPrimary n) then
      ((d.setFlag (CLK_MUX n) CLK_MUX_SEL false).setFlag (CLK_MUX n) CLK_MUX_ON_FALLBACK false).setFlag (CLK_MUX n) CLK_MUX_PENDING true
    else d

/-- A write of SEL that differs from the present selection starts a glitch-free switch; one while a switch runs is ignored (R526,
R527). -/
def Device.muxSelect (d : Device) (n : Nat) (sel : Bool) : Device :=
  if d.flag (CLK_MUX n) CLK_MUX_PENDING then d
  else
    let d := d.setFlag (CLK_MUX n) CLK_MUX_SEL sel
    if sel = natBit d.clk.passing n then d
    else
      let d := d.setFlag (CLK_MUX n) CLK_MUX_PENDING true
      if sel then d else d.setFlag (CLK_MUX n) CLK_MUX_ON_FALLBACK false

/-- FORCE switches through the forced path when the domain's gate is closed or the old source has been declared failed, and is
refused otherwise (R528). -/
def Device.muxForce (d : Device) (n : Nat) (sel : Bool) : Device :=
  if (decide (2 ≤ n) && natBit (d.fld CLK_GATE_STATUS CLK_GATE_STATUS_CLOSED) (n - 2)) || natBit d.clk.failed (d.muxSource n) then
    ((if d.flag (CLK_MUX n) CLK_MUX_PENDING then d else d.setFlag (CLK_MUX n) CLK_MUX_SEL sel)).forcePath n
  else d.setFlag (CLK_MUX n) CLK_MUX_FORCE_ERR true

/-- A write of CLK_MUXn that selects a source. -/
def execMuxSelect (t : Nat) (n : Fin 6) (value : Word) (s : State) : Result :=
  s.run t fun d => d.muxSelect n (CLK_MUX_SEL.get value == 1)

/-- The switch passes the new clock (R526). -/
def execMuxSwitchDone (t : Nat) (n : Fin 6) (s : State) : Result :=
  s.run t fun d => if d.flag (CLK_MUX n) CLK_MUX_PENDING then d.forcePath n else d

/-- PENDING for 4 096 REFCLK cycles: the multiplexer hangs (R527). -/
def execMuxStallTimeout (t : Nat) (n : Fin 6) (s : State) : Result :=
  s.run t fun d =>
    if d.flag (CLK_MUX n) CLK_MUX_PENDING then (d.setFlag (CLK_MUX n) CLK_MUX_MUX_STALL true).ledgerEvent lbClkMuxStall shared n 0 else d

/-- A write of CLK_MUXn with FORCE = 1. -/
def execMuxForce (t : Nat) (n : Fin 6) (value : Word) (s : State) : Result :=
  s.run t fun d => d.muxForce n (CLK_MUX_SEL.get value == 1)

/-- A gate is asked to close: it closes once the handshake in progress has finished; on a domain whose multiplexer switches or
hangs it waits (R530, R534). Bit `g` of the fields is gate `g`, counted from the field's lowest bit, which is gate 2. -/
def Device.gateClose (d : Device) (g : Nat) : Device :=
  if g < 2 then d
  else
    let d := d.setFld CLK_GATE CLK_GATE_CLOSE (setNatBit (d.fld CLK_GATE CLK_GATE_CLOSE) (g - 2) true)
    if d.flag (CLK_MUX g) CLK_MUX_PENDING then d
    else d.setFld CLK_GATE_STATUS CLK_GATE_STATUS_CLOSED (setNatBit (d.fld CLK_GATE_STATUS CLK_GATE_STATUS_CLOSED) (g - 2) true)

/-- A gate opens. The interface of a block whose gate was closed at the limit is reset (R530): a Quarter's ports go down, accesses that wait at the
page store are gone. -/
def Device.gateOpen (d : Device) (g : Nat) : Device :=
  if !natBit (d.fld CLK_GATE_STATUS CLK_GATE_STATUS_CLOSED) (g - 2) then d
  else
    let d := d.setFld CLK_GATE_STATUS CLK_GATE_STATUS_CLOSED (setNatBit (d.fld CLK_GATE_STATUS CLK_GATE_STATUS_CLOSED) (g - 2) false)
    if !natBit d.clk.overrun g then d
    else
      let d := d.modClk (fun v => { v with overrun := setNatBit v.overrun g false })
      match g with
      | 2 => d.lanesStop .north
      | 3 => d.lanesStop .south
      | 4 => d.modPs (fun v => { v with waiting := [] })
      | _ => d

/-- A gate-close request whose handshake finishes. -/
def execGateClose (t : Nat) (g : Fin 6) (s : State) : Result := s.run t fun d => d.gateClose g

/-- The handshake has not finished after 4 096 REFCLK cycles: the gate closes and the access ends with ERR_GATED (R530). -/
def execGateCloseTimeout (t : Nat) (g : Fin 6) (s : State) : Result :=
  s.run t fun d =>
    if decide (2 ≤ g.val) && natBit (d.fld CLK_GATE CLK_GATE_CLOSE) (g - 2) &&
        !natBit (d.fld CLK_GATE_STATUS CLK_GATE_STATUS_CLOSED) (g - 2) then
      let d := d.setFld CLK_GATE_STATUS CLK_GATE_STATUS_CLOSED (setNatBit (d.fld CLK_GATE_STATUS CLK_GATE_STATUS_CLOSED) (g - 2) true)
      let d := d.setFld CLK_GATE_STATUS CLK_GATE_STATUS_FORCED (setNatBit (d.fld CLK_GATE_STATUS CLK_GATE_STATUS_FORCED) (g - 2) true)
      let d := d.modClk (fun v => { v with overrun := setNatBit v.overrun g true })
      (d.ledgerEvent lbClkGateForced shared g 0).reply .errGated
    else d

/-- The bit of an operating point's rail. -/
def opRail : OpDomain → Nat
  | .pixel .north => 0
  | .pixel .south => 1
  | .pcie => 2

/-- The status bit of an operating point. -/
def opPointFld : OpDomain → Fld
  | .pixel .north => CLK_STATUS_PIX_N_HIGH
  | .pixel .south => CLK_STATUS_PIX_S_HIGH
  | .pcie => CLK_STATUS_PCIE_HIGH

/-- Start a sequence: a fall lowers the frequency first; a rise waits for its voltage step (R532). A pixel fall starts only when no
synthesizer of the Quarter needs the high point (R533). -/
def Device.opStart (d : Device) (x : OpDomain) (high : Bool) : Device :=
  let keep := match x with
    | .pixel q => !high && d.pixNeedsHigh q
    | .pcie => !high && d.fld HIF_LINK HIF_LINK_RATE == 5
  if keep then d
  else
    let d := d.modClk (fun v => { v with seq := some (x, high), abandoned := false, held := false })
    let d := d.setFlag CLK_SEQ CLK_SEQ_BUSY true
    if high then d else d.setFlag CLK_STATUS (opPointFld x) false

/-- A change of an operating point is asked for; while a sequence runs only the latest request waits (R534). -/
def execOpPointChange (t : Nat) (x : OpDomain) (high : Bool) (s : State) : Result :=
  s.run t fun d =>
    if d.clk.seq.isSome then
      (d.setFlag CLK_SEQ CLK_SEQ_QUEUED true).modClk (fun v => { v with queued := some (x, high) })
    else d.opStart x high

/-- The voltage step of the sequence, or of a pace-level change, completes after `took` hundredths of a microsecond; a rise now raises the
frequency unless it was abandoned, and the queued request follows (R532, R533, R534). -/
def execVoltageStepDone (t took : Nat) (s : State) : Result :=
  s.run t fun d =>
    match d.clk.seq with
    | none => d
    | some (x, high) =>
      let d := d.maxFld CLK_SEQ CLK_SEQ_STEP_US_MAX (min took 65535)
      let d := if high && !d.clk.abandoned && !d.clk.held then d.setFlag CLK_STATUS (opPointFld x) true else d
      let next := d.clk.queued
      let d := d.modClk (fun v => { v with
        seq := none, queued := none, abandoned := false, held := false
        volts := if v.held then v.volts else setNatBit v.volts (opRail x) (high || v.abandoned) })
      let d := (d.setFlag CLK_SEQ CLK_SEQ_BUSY false).setFlag CLK_SEQ CLK_SEQ_QUEUED false
      match next with
      | some (y, h) => d.opStart y h
      | none => d

end Sys2Proof.Machine
end

