-- ==== Sys2Proof/Machine/Power.lean ====
section
/-! DEFINITION. Power, domains and rail sequencing (R535 to R562), the ways to start and to stop the device (R58, R59). -/

namespace Sys2Proof.Machine

/-- An entry of the sequencer table (R544). -/
structure RailEntry where
  used : Bool
  rail : Nat
  pec : Bool
  marginPmb : Bool
  marginInj : Bool
  retain : Bool
  injStep : Nat
  deriving DecidableEq, Repr

/-- Read an entry of the sequencer table. -/
def parseRail (b : List Byte) : RailEntry :=
  let f := bytesAt b 0 1
  let g := bytesAt b 1 1
  { used := natBit f 7, rail := f % 32, pec := natBit g 4, marginPmb := natBit g 3, marginInj := natBit g 2, retain := natBit g 0,
    injStep := bytesAt b 12 2 }

/-- The used entries of the sequencer table, in order. -/
def Device.railEntries (d : Device) : List RailEntry :=
  ((List.range 24).map (fun i => parseRail (d.entry 0x10 0 i))).filter (fun e => e.used)

/-- Set the enable of a rail. -/
def Device.setRen (d : Device) (r : Nat) (b : Bool) : Device :=
  d.setFld PWR_RAIL_EN PWR_RAIL_EN_EN (setNatBit (d.fld PWR_RAIL_EN PWR_RAIL_EN_EN) r b)

/-- Set whether a rail is good. -/
def Device.setGood (d : Device) (r : Nat) (b : Bool) : Device :=
  d.setFld PWR_RAIL_PG PWR_RAIL_PG_PG (setNatBit (d.fld PWR_RAIL_PG PWR_RAIL_PG_PG) r b)

/-- Whether a rail's enable is high. -/
def Device.renHigh (d : Device) (r : Nat) : Bool := natBit (d.fld PWR_RAIL_EN PWR_RAIL_EN_EN) r

/-- OPERATION is written to a rail's regulator on the PMBus (R546, R556). -/
def Device.writeOper (d : Device) (r code : Nat) : Device := d.modPwr (fun v => { v with oper := sput (fun _ => 0) v.oper r code })

/-- OPERATION = 0x80: nominal (R556). -/
def operNominal : Nat := 0x80

/-- Every margin returns to nominal (R557, R558): no pin injects, and each margined PMBus rail is written OPERATION = 0x80. -/
def Device.marginsOff (d : Device) : Device :=
  let active := d.fld PWR_MGN_ACTIVE PWR_MGN_ACTIVE_ACTIVE
  let d := d.each (d.railEntries.filter (fun e => e.marginPmb && natBit active e.rail)) (fun e d => d.writeOper e.rail operNominal)
  ((d.setFld PWR_MGN_ACTIVE PWR_MGN_ACTIVE_ACTIVE 0).setFlag PWR_STATUS PWR_STATUS_MARGIN_ACTIVE false).modPwr (fun v => { v with inj := [] })

/-- The current that a rail's MGN pin sinks in nA, negative where it sources; none while it is high-impedance (R555). -/
def Device.mgnPin (d : Device) (r : Nat) : Option Int :=
  match d.railEntries.find? (fun e => e.rail == r) with
  | some e =>
    if e.marginInj && natBit (d.fld PWR_MGN_ACTIVE PWR_MGN_ACTIVE_ACTIVE) r then some (sget (fun _ => 0) d.pwr.inj r * (e.injStep : Int)) else none
  | none => none

/-- The internal rails of R535. -/
inductive IntRail where
  | vaon
  | vcore
  | vpix (q : Side)
  | vlane
  | vpcie
  | vphyPs
  | vddqPs
  | vio18
  | vio33
  deriving DecidableEq, Repr

/-- The set point of an internal rail in mV (R535): VCORE by the pace level, the pixel and PCIe rails by their operating points (R532); 0 while the
bucks are off. -/
def Device.intRailMv (d : Device) (r : IntRail) : Nat :=
  match r with
  | .vaon => if d.st = .off then 0 else 900
  | r =>
    if !d.pwr.bucks then 0
    else match r with
      | .vcore => [650, 720, 800, 880].getD (d.fld PWR_PACE PWR_PACE_LEVEL) 880
      | .vpix .north => if natBit d.clk.volts 0 then 800 else 720
      | .vpix .south => if natBit d.clk.volts 1 then 800 else 720
      | .vpcie => if natBit d.clk.volts 2 then 850 else 750
      | .vphyPs => 750
      | .vddqPs => 500
      | .vio18 => 1800
      | .vio33 => 3300
      | _ => 900

/-- The Kerb forces its outputs for a power-down (R550, R560, R561). -/
def Device.forceOutputs (d : Device) : Device := d.setFlag KRB_STATUS KRB_STATUS_FORCING true

/-- Start the shutdown of the rails that are on, in reverse order of the entries, but for those of a mask held on (R548). Where a shutdown
runs already, the rail that falls now comes first. -/
def Device.railsDown (d : Device) (k : DownKind) (hold : Nat) : Device :=
  let l := ((d.railEntries.map (fun e => e.rail)).reverse).filter (fun r => d.renHigh r && !natBit hold r)
  let now := d.pwr.falling.take 1
  let d := d.modPwr (fun v => { v with down := some k, falling := now ++ l, seq := .idle })
  let d := (d.setFlag PWR_STATUS PWR_STATUS_SHUTDOWN true).setFlag PWR_STATUS PWR_STATUS_SEQ_BUSY false
  match now, l with
  | [], r :: _ => d.setRen r false
  | _, _ => d

/-- Rails that the image marks RETAIN. -/
def Device.retainMask (d : Device) : Nat := (d.railEntries.filter (fun e => e.retain)).foldl (fun m e => setNatBit m e.rail true) 0

/-- What a start keeps (R58, R205): kind 0 cold, 1 wake, 2 warm. Host memory, the flash and the input pins are outside the device; the sticky
bits and the commit register survive a wake and a warm start; page store and sheet journal a warm start. -/
def Device.startBase (d : Device) (kind : Nat) : Device :=
  let retained := kind == 2
  { Device.reset with
    now := d.now, startAt := d.now, tokenAt := d.now, st := d.st, flash := { d.flash with rstN := false }
    regs := d.regs.filter (fun x => kind ≠ 0 && decide (LDG_STICKY 0 ≤ x.1) && decide (x.1 ≤ LDG_STICKY 7))
    mem := d.mem.filter (fun x => decide (2 ^ 63 ≤ x.1) || (retained && decide (0x1000000000 ≤ x.1)))
    boot := { ref := d.now, d0Ready := kind ≠ 0, retained }
    host := { perstN := d.host.perstN }
    kerb := { pinsLow := d.kerb.pinsLow, latched := if kind = 0 then 0 else d.kerb.latched }
    pwr := { vinValid := d.pwr.vinValid }
    tml := { gpioIn := d.tml.gpioIn }
    dlv := { slot0 := if kind = 0 then {} else d.dlv.slot0, slot1 := if kind = 0 then {} else d.dlv.slot1,
             journal := if retained then d.dlv.journal else [], nextNo := if retained then d.dlv.nextNo else 0,
             pages := if retained then d.dlv.pages else [] }
    ps := { slotCount := if retained then d.ps.slotCount else [] } }

/-- A start of a kind begins (R58, R600). The sheet journal takes its START entry once LAST_DELIVERED is set (R102, R103). -/
def Device.start (d : Device) (kind : Nat) : Device :=
  let retained := kind == 2
  let rails := if retained then d.fld PWR_RAIL_EN PWR_RAIL_EN_EN else 0
  let n := d.startBase kind
  let n := n.setFld PWR_RAIL_EN PWR_RAIL_EN_EN rails
  let n := n.setFlag PGS_DLV_STATUS PGS_DLV_STATUS_RETENTION_LOST (!(n.dlv.slot0.valid || n.dlv.slot1.valid))
  let n := n.modDlv (fun v => { v with horizon := v.last })
  let n := n.each (maskList 3 n.kerb.pinsLow) (fun p d => d.setLive p true)
  let n := if retained then (n.setFlag RDB_STATUS RDB_STATUS_SR true).storeClock true else n
  let n := n.sheetJournal skStart n.dlv.last kind 0 false false 0
  let n := n.setSt .booting
  let n := n.each (maskList 11 n.kerb.latched) (fun t d => (d.latchCause t).setFlag KRB_STATUS KRB_STATUS_FORCING true)
  (n.setFld CFG_STATUS CFG_STATUS_START_KIND kind).setFld CFG_STATUS CFG_STATUS_STEP (if kind = 0 then 0 else 1)

/-- A start from Parked: warm where the page store was retained, else a wake (R58). -/
def Device.wake (d : Device) : Device := d.start (if d.boot.retained then 2 else 1)

/-- A power-down sequence reaches its end (R548, R553): Parked rests, and a start that waited follows; a failed boot goes on. -/
def Device.downEnds (d : Device) : Device :=
  let d := d.setFlag PWR_STATUS PWR_STATUS_SHUTDOWN false
  match d.pwr.down with
  | some .park =>
    let d := d.modPwr (fun v => { v with down := none, bucks := false })
    if d.pwr.startWaits && !d.pwr.mrstLow then d.wake else d
  | some .bootFail => d.modPwr (fun v => { v with down := none })
  | _ => d

/-- The device goes to Parked (R540, R561): sheets in flight are stranded, counts written back, the blocks of every domain but D0 wind down
(R53), margins off, rails down but for those held on. The state change is posted before the link goes down. -/
def Device.goParked (d : Device) (retain : Bool) : Device :=
  let d := (d.forceOutputs.strand).stopTransmitting.writebackAll
  let d := d.each [5, 8, 9, 10, 11] (fun n d => d.windDownDomain n)
  let d := d.marginsOff
  let hold := if retain then d.retainMask else 0
  let d := d.modBoot (fun v => { v with retained := retain })
  let d := d.railsDown .park hold
  let d := (d.setSt .parked).windDownDomain 7
  let d := (d.setFld PWR_DOM_STATUS PWR_DOM_STATUS_ON 1).setFld PWR_DOM_STATUS PWR_DOM_STATUS_BUSY 0
  let d := (d.modPwr (fun v => { v with startWaits := false })).withToken none
  if d.pwr.falling.isEmpty then d.downEnds else d

/-- The rails of a shutdown that leaves the device powered are all down: a failed boot goes on, parked where MRST_N has come low
meanwhile (R562). -/
def Device.fallEnds (d : Device) : Device :=
  let failed := d.pwr.down == some .bootFail
  let d := d.downEnds
  if failed && d.pwr.mrstLow && d.st == .booting then d.goParked false else d

/-- The rail at the head of a shutdown is off or stuck: the next enable goes low (R548). -/
def Device.nextFall (d : Device) : Device :=
  match d.pwr.falling with
  | [] => d
  | r :: l =>
    let d := (d.setGood r false).modPwr (fun v => { v with falling := l })
    match l with
    | n :: _ => d.setRen n false
    | [] => if d.pwr.down = some .park ∨ d.pwr.down = some .bootFail then d.fallEnds else d

/-- VIN rises above its valid threshold: from Off, once fully off for 100 ms and not after a forced power-down with VIN kept, the
device begins a cold start (R58, R550, R553, R560). -/
def execVinRise (t : Nat) (s : State) : Result :=
  s.run t fun d =>
    let was := d.pwr.vinValid
    let d := d.modPwr (fun v => { v with vinValid := true })
    if d.st = .off ∧ d.pwr.down = none ∧ !was ∧ 100 * tuPerMs ≤ d.now - d.pwr.offAt then d.start 0 else d

/-- VIN stays below VIN_FAIL for 10 µs: the outputs are forced, injections go to 0 and the rails shut down (R550). A sequence that has
started runs to its end (R553). -/
def execVinFail (t : Nat) (s : State) : Result :=
  s.run t fun d =>
    let d := d.modPwr (fun v => { v with vinValid := false, needPress := false })
    if d.st = .off then d
    else if d.pwr.down.isSome ∧ d.pwr.down ≠ some .bootFail then d.modPwr (fun v => { v with down := some .vinFail })
    else (d.forceOutputs.modPwr (fun v => { v with inj := [] })).railsDown .vinFail 0

/-- VIN falls below 8.0 V before the sequence ends: every output is released to its pull-down, which reads inactive, and the rails'
order is no longer kept (R552). -/
def execVinCollapse (t : Nat) (s : State) : Result :=
  s.run t fun d =>
    if d.pwr.down.isSome then
      (((((d.setFld PWR_RAIL_EN PWR_RAIL_EN_EN 0).setFld PWR_RAIL_PG PWR_RAIL_PG_PG 0).modPwr (fun v => { v with falling := [] })).modKerb (fun v => { v with request := 0 })).modTml (fun v => { v with gpioOut := [] })).modMot (fun v => { v with pins := [] })
    else d

/-- The device is Off: no domain is powered, and it is seen whether the next start needs a press (R560). -/
def Device.goOff (d : Device) (needPress : Bool) : Device :=
  let d := (d.setSt .off).setFlag PWR_STATUS PWR_STATUS_SHUTDOWN false
  ((d.setFld PWR_DOM_STATUS PWR_DOM_STATUS_ON 0).withToken none).modPwr (fun v => { v with down := none, falling := [], offAt := d.now, needPress, bucks := false })

/-- The power-down sequence ends and the device is Off (R550, R560). D0 is reset after a forced power-down; after a VIN failure the next
start is cold, so nothing it held counts. -/
def execPowerDownComplete (t : Nat) (s : State) : Result :=
  s.run t fun d =>
    match d.pwr.down with
    | some .vinFail =>
      d.goOff false
    | some .forced =>
      d.goOff true
    | _ => d

/-- The device has been fully off for 100 ms with VIN back above VIN_ON: it begins a cold start (R553), but not after a forced
power-down, which waits for a press (R560). -/
def execFullyOffTimeElapsed (t : Nat) (vinValid : Bool) (s : State) : Result :=
  s.run t fun d =>
    let d := d.modPwr (fun v => { v with vinValid })
    if d.st = .off ∧ d.pwr.down = none ∧ vinValid ∧ !d.pwr.needPress then d.start 0 else d

/-- A PBTN_N press shorter than 8 s (R559, R560). A power-down that runs goes to its end (R553): in Held the press adds nothing, in Parked
the start waits for it. With MRST_N low the device rests in Parked (R561). -/
def execPbtnPress (t : Nat) (s : State) : Result :=
  s.run t fun d =>
    match d.st with
    | .held => if d.pwr.down.isSome then d else d.goParked false
    | .parked =>
      if d.pwr.mrstLow then d
      else if d.pwr.down.isSome then d.modPwr (fun v => { v with startWaits := true })
      else d.wake
    | .off => if d.pwr.needPress ∧ d.pwr.vinValid ∧ d.pwr.down = none then d.start 0 else d
    | _ => (d.setFlag PWR_STATUS PWR_STATUS_PBTN_REQ true).ledgerEvent lbPwrButton shared 0 0

/-- PBTN_N held low for 8 s forces a power-down (R560); a shutdown in progress goes on to its end and ends Off (R562). -/
def execPbtnHold8s (t : Nat) (s : State) : Result :=
  s.run t fun d =>
    if d.st = .off then d
    else if d.pwr.down.isSome then d.modPwr (fun v => { v with down := some .forced })
    else ((d.forceOutputs.stopTransmitting.writebackAll).marginsOff).railsDown .forced 0

/-- MRST_N held low parks the device in any state but Off and Parked (R561); during a shutdown it is ignored until that ends (R562), and a
device whose internal rails failed leaves that condition only on VIN or PBTN_N (R67). -/
def execMrstLow (t : Nat) (s : State) : Result :=
  s.run t fun d =>
    let d := d.modPwr (fun v => { v with mrstLow := true })
    if d.st = .off ∨ d.st = .parked ∨ d.pwr.down.isSome ∨ d.boot.intFail then d
    else
      let retain := d.st == .held && d.flag RDB_STATUS RDB_STATUS_SR && d.flag PWR_CFG PWR_CFG_MRST_RETAIN
      d.goParked retain

/-- MRST_N is released in Parked: a wake or a warm start (R58, R561), after the end of a shutdown in progress (R562). -/
def execMrstRelease (t : Nat) (s : State) : Result :=
  s.run t fun d =>
    let d := d.modPwr (fun v => { v with mrstLow := false })
    if d.st ≠ .parked then d
    else if d.pwr.down.isSome then d.modPwr (fun v => { v with startWaits := true })
    else d.wake

/-- Die sensor 0's comparator trips (R575): the device parks as MRST_N parks it, with no rail retained, and the bit is set in D0. While a
power-down that ends in Off runs, that goes on (R553); with the internal rails off the comparator is not powered (R67). -/
def execThermTrip (t : Nat) (s : State) : Result :=
  s.run t fun d =>
    if d.st = .off ∨ d.st = .parked ∨ d.boot.intFail then d
    else if d.pwr.down.isSome ∧ d.pwr.down ≠ some .bootFail then d.setSticky lbThermTrip
    else (d.goParked false).setSticky lbThermTrip

/-- PWR_CMD PARK in Held (R4); refused with ERR_STATE in another state, and while a power-down runs to its end (R553). -/
def Device.park (d : Device) : Device :=
  if d.st = .held ∧ d.pwr.down = none then (d.reply .ok).goParked false else d.reply .errState

/-- PWR_CMD PARK with retention (R59): the page store enters self-refresh as part of it (R202). -/
def Device.parkRetain (d : Device) : Device :=
  if d.st = .held ∧ d.pwr.down = none then ((d.reply .ok).srFinish).goParked true else d.reply .errState

def execPark (t : Nat) (s : State) : Result := s.run t Device.park

def execParkRetain (t : Nat) (s : State) : Result := s.run t Device.parkRetain

/-- Step 1 of a cold start completes (R61). -/
def execD0PowerOnResetReleased (t : Nat) (s : State) : Result :=
  s.run t fun d =>
    if d.st = .booting ∧ d.fld CFG_STATUS CFG_STATUS_STEP = 0 then
      (d.setFld CFG_STATUS CFG_STATUS_STEP 1).modBoot (fun v => { v with d0Ready := true })
    else d

/-- The device requests the pace level of R34; the voltage step starts unless one runs (R35). -/
def execPaceChangeRequest (t : Nat) (s : State) : Result := s.run t Device.paceRequest

/-- The pace-level step completes (R35, R538); where another level has been requested meanwhile, its step starts. -/
def execPaceChangeDone (t : Nat) (s : State) : Result := s.run t Device.paceDone

/-- Whether the power controller may cut domain `n` now (R40): the codec and the lanes outside Ready, Printing and Draining, and the
logic and lanes of a Quarter in Testing. Every other domain stays on from Booting to Safe. -/
def Device.domainMayFall (d : Device) (n : Nat) : Bool :=
  let prints := d.st == .ready || d.st == .printing || d.st == .draining
  match n with
  | 5 => !prints
  | 8 => d.role .north == .testing
  | 9 => d.role .south == .testing
  | 10 => (!prints && d.st != .safe) || d.role .north == .testing
  | 11 => (!prints && d.st != .safe) || d.role .south == .testing
  | _ => false

/-- A domain begins to power down: it switches, and its blocks wind down (R541). -/
def Device.windingDown (d : Device) (n : Nat) : Device := (d.domBusy n true).windDownDomain n

/-- A domain powers down: its blocks wind down, and then it waits for the DMA channels that work in it (R541). A domain that its device
state keeps powered is left on. -/
def Device.domainDown (d : Device) (n : Nat) : Device :=
  if !natBit (d.fld PWR_DOM_STATUS PWR_DOM_STATUS_ON) n ∨ !d.domainMayFall n then d
  else
    (d.windingDown n).domainSettle n

/-- DOMAIN_POWER_DOWN; a pace-level change in progress completes first (R562). -/
def execDomainPowerDown (t : Nat) (n : Fin 14) (s : State) : Result := s.run t fun d => (d.paceDone).domainDown n

/-- 100 µs into a power-down the channels that have not stopped are aborted, and the switch opens (R541, R542). -/
def execDomainDmaAbort (t : Nat) (n : Fin 14) (s : State) : Result :=
  s.run t fun d =>
    if natBit (d.fld PWR_DOM_STATUS PWR_DOM_STATUS_BUSY) n && d.blocksIdle n then
      (d.each (d.dmaIn n) (fun c d => (d.dmaAbort c.1 c.2).count PWR_DOM_ABORT PWR_DOM_ABORT_COUNT)).domainOff n
    else d

/-- Whether the power controller may switch domain `n` on now (R40): the codec from Ready on and on demand in Held; the lanes from Ready on
and for link bring-up; both also for a Quarter in Testing (R41); every other domain from Booting to Safe once its rails are up. -/
def Device.domainMayRise (d : Device) (n : Nat) : Bool :=
  let on := d.st != .off && d.st != .parked && (d.st != .booting || decide (2 ≤ d.fld CFG_STATUS CFG_STATUS_STEP))
  on && (match n with
    | 5 => d.lanesRun || d.st == .held
    | 10 => d.lanesRun || d.role .north == .testing || (d.st != .booting && d.bringsUp .north)
    | 11 => d.lanesRun || d.role .south == .testing || (d.st != .booting && d.bringsUp .south)
    | _ => true)

/-- A domain powers up and its blocks leave reset with their RWL registers as the image set them (R543). -/
def execDomainPowerUp (t : Nat) (n : Fin 14) (s : State) : Result :=
  s.run t fun d =>
    if natBit (d.fld PWR_DOM_STATUS PWR_DOM_STATUS_BUSY) n || d.domainIsOn n || !d.domainMayRise n then d
    else
      match n.val with
      | 10 => d.lanesUp .north
      | 11 => d.lanesUp .south
      | k => d.domOn k true

/-- D5 powers down after D5_IDLE_MS in Held with no codec work (R543). -/
def execD5IdleTimeout (t : Nat) (s : State) : Result :=
  s.run t fun d =>
    if d.st = .held ∧ d.fld PWR_CFG PWR_CFG_D5_IDLE_MS ≠ 0 ∧ d.codecIdle then d.domainDown 5 else d

/-- The sequencer waits for the delay of entry `i`, or is complete; rails held on count as good (R546). -/
def Device.seqFrom (d : Device) (i : Nat) : Nat → Device
  | 0 => d
  | n + 1 =>
    match d.railEntries[i]? with
    | none => (d.setFlag PWR_STATUS PWR_STATUS_SEQ_BUSY false).modPwr (fun v => { v with seq := .done })
    | some e =>
      if d.renHigh e.rail then
        ((d.setGood e.rail true).setFld PWR_STATUS PWR_STATUS_SEQ_POS (i + 1)).seqFrom (i + 1) n
      else (d.setFlag PWR_STATUS PWR_STATUS_SEQ_BUSY true).modPwr (fun v => { v with seq := .delay i })

/-- The sequence starts (R546): OPERATION = 0x80 goes to each PMBus rail, and then the entries follow in order. -/
def Device.seqStart (d : Device) : Device :=
  (d.each (d.railEntries.filter (fun e => e.marginPmb)) (fun e d => d.writeOper e.rail operNominal)).seqFrom 0 25

/-- DELAY_US of an entry elapses: its enable goes high (R546). -/
def execRailDelayExpiry (t : Nat) (s : State) : Result :=
  s.run t fun d =>
    match d.pwr.seq with
    | .delay i =>
      match d.railEntries[i]? with
      | some e => (d.setRen e.rail true).modPwr (fun v => { v with seq := .waitGood i })
      | none => d
    | _ => d

/-- A rail becomes good (R545): the sequencer goes on to the next entry; after the sequence a lost rail is back (R549). -/
def execRailGood (t : Nat) (r : Fin 24) (s : State) : Result :=
  s.run t fun d =>
    if !d.renHigh r then d
    else
      let d := d.setGood r true
      match d.pwr.seq with
      | .waitGood i =>
        match d.railEntries[i]? with
        | some e => if e.rail = r.val then (d.setFld PWR_STATUS PWR_STATUS_SEQ_POS (i + 1)).seqFrom (i + 1) 25 else d
        | none => d
      | .done =>
        if d.railEntries.all (fun e => natBit (d.fld PWR_RAIL_PG PWR_RAIL_PG_PG) e.rail) then d.setLive ktRail false else d
      | _ => d

/-- A sequence fault: recorded, the rails already on shut down, and boot step 6 fails (R547, R66). Cause 1 is PG_TIMEOUT, 2 CHATTER. -/
def Device.seqFault (d : Device) (rail cause : Nat) : Device :=
  let d := (d.setFld PWR_STATUS PWR_STATUS_FAULT_CAUSE cause).setFld PWR_STATUS PWR_STATUS_FAULT_RAIL rail
  (d.ledgerEvent lbRailSeqFault shared rail 0).bootFail 6

/-- The boot step fails (R66): recorded, RWL locked, the rails that are on shut down. Step 8 then ends in Held or Safe. -/
def Device.bootFailRails (d : Device) (step : Nat) : Device :=
  let d := (d.bootFail step).railsDown .bootFail 0
  if d.pwr.falling.isEmpty then d.downEnds else d

/-- A rail is not good within PG_TIMEOUT_MS (R546). -/
def execRailPgTimeout (t : Nat) (s : State) : Result :=
  s.run t fun d =>
    match d.pwr.seq with
    | .waitGood i =>
      match d.railEntries[i]? with
      | some e => (d.seqFault e.rail 1).railsDown .bootFail 0
      | none => d
    | _ => d

/-- A rail's power-good drops. During the sequence the rails after it and the rail itself are turned off and it is tried again, with a
CHATTER fault at the fourth drop within 10 ms of the first counted one (R547); afterwards the rail is lost (R549). -/
def execRailDrop (t : Nat) (r : Fin 24) (s : State) : Result :=
  s.run t fun d =>
    if !natBit (d.fld PWR_RAIL_PG PWR_RAIL_PG_PG) r ∨ d.pwr.down.isSome then d
    else
      let d := d.setGood r false
      match d.pwr.seq with
      | .idle => d
      | .done =>
        let d := (d.setFld PWR_STATUS PWR_STATUS_FAULT_CAUSE 4).setFld PWR_STATUS PWR_STATUS_FAULT_RAIL r
        ((d.ledgerEvent lbRailLost shared r 0).setLive ktRail true).kerbTrigger ktRail shared r
      | _ =>
        let old := (sget (fun _ => []) d.pwr.drops r).filter (fun x => decide (d.now - x ≤ 10 * tuPerMs))
        if 3 ≤ old.length then (d.seqFault r 2).railsDown .bootFail 0
        else
          let d := (d.count PWR_PG_DROPS PWR_PG_DROPS_DROPS).modPwr (fun v => { v with drops := sput (fun _ => []) v.drops r (d.now :: old) })
          match d.railEntries.findIdx? (fun e => e.rail == r.val) with
          | none => d
          | some i =>
            let l := ((d.railEntries.drop i).map (fun e => e.rail)).reverse.filter (fun x => d.renHigh x)
            let d := (d.setFld PWR_STATUS PWR_STATUS_SEQ_POS i).modPwr (fun v => { v with seq := .falling l i })
            match l with
            | x :: _ => d.setRen x false
            | [] => d

/-- A rail is below V_OFF: the next one falls (R548), or after a drop the rail is enabled again after its delay (R547). -/
def Device.railIsOff (d : Device) (r : Nat) : Device :=
  match d.pwr.seq with
  | .falling (x :: l) i =>
    if x = r then
      let d := d.setGood r false
      match l with
      | y :: _ => (d.setRen y false).modPwr (fun v => { v with seq := .falling l i })
      | [] => d.modPwr (fun v => { v with seq := .delay i })
    else d
  | _ =>
    match d.pwr.falling with
    | x :: _ => if x = r then d.nextFall else d
    | [] => d

def execRailOff (t : Nat) (r : Fin 24) (s : State) : Result := s.run t fun d => d.railIsOff r

/-- A rail has not fallen within OFF_TIMEOUT_MS: RAIL_STUCK, and the shutdown goes on with the next rail (R548). -/
def execRailOffTimeout (t : Nat) (s : State) : Result :=
  s.run t fun d =>
    let stuck := fun (d : Device) (x : Nat) =>
      ((d.setFld PWR_STATUS PWR_STATUS_FAULT_CAUSE 3).setFld PWR_STATUS PWR_STATUS_FAULT_RAIL x).ledgerEvent lbRailStuck shared x 0
    match d.pwr.seq, d.pwr.falling with
    | .falling (x :: _) _, _ => (stuck d x).railIsOff x
    | _, x :: _ => (stuck d x).nextFall
    | _, [] => d

/-- A signed count of margin steps, clamped to ±50 (R555). -/
def marginSteps (v : Nat) : Int := max (-50) (min 50 (toSigned 8 v))

/-- A PMBus rail is margined (R556): VALUE goes to VOUT_MARGIN_HIGH or VOUT_MARGIN_LOW, and then the OPERATION of the mode follows; mode 0
is nominal. -/
def Device.pmbMargin (d : Device) (r mode : Nat) : Device :=
  let v := d.fld PWR_MGN_PMB PWR_MGN_PMB_VALUE
  match mode with
  | 2 => (d.modPwr (fun w => { w with vmargin := sput (fun _ => 0) w.vmargin (2 * r) v })).writeOper r 0xA8
  | 3 => (d.modPwr (fun w => { w with vmargin := sput (fun _ => 0) w.vmargin (2 * r + 1) v })).writeOper r 0x98
  | _ => d.writeOper r operNominal

/-- A write of PWR_MGN_CTRL (R555 to R557): applied only in Held and to a rail with the margin flag of its mode, else REFUSED. `nack`
says whether a PMBus command was not acknowledged. -/
def Device.marginRequest (d : Device) (value : Word) (nack : Bool) : Device :=
  let d := d.setReg PWR_MGN_CTRL (value &&& 0xC01F00FF)
  let rail := PWR_MGN_CTRL_RAIL.get value
  let mode := PWR_MGN_CTRL_MODE.get value
  let refuse := d.setFlag PWR_MGN_ACTIVE PWR_MGN_ACTIVE_REFUSED true
  match d.railEntries.find? (fun e => e.rail == rail) with
  | none => refuse
  | some e =>
    if d.st ≠ .held ∨ (!e.marginInj ∧ !e.marginPmb) ∨ (mode = 1 ∧ !e.marginInj) ∨ (2 ≤ mode ∧ !e.marginPmb) then refuse
    else
      let active := setNatBit (d.fld PWR_MGN_ACTIVE PWR_MGN_ACTIVE_ACTIVE) rail (mode ≠ 0)
      let d := d.setFld PWR_MGN_ACTIVE PWR_MGN_ACTIVE_ACTIVE active
      let d := d.setFlag PWR_STATUS PWR_STATUS_MARGIN_ACTIVE (active != 0)
      let d := d.modPwr (fun v => { v with
        inj := sput (fun _ => 0) v.inj rail (if mode = 1 then marginSteps (PWR_MGN_CTRL_STEPS.get value) else 0) })
      let d := if e.marginPmb then d.pmbMargin rail mode else d
      if nack ∧ e.marginPmb then d.setFlag PWR_MGN_ACTIVE PWR_MGN_ACTIVE_PMB_NACK true else d

def execMarginRequest (t : Nat) (value : Word) (nack : Bool) (s : State) : Result := s.run t fun d => d.marginRequest value nack

/-- STATUS_WORD of a margined PMBus rail is read: any bit but POWER_GOOD# is a fault (R556). -/
def execPmbusStatusPoll (t : Nat) (r : Fin 24) (status : BitVec 16) (nack : Bool) (s : State) : Result :=
  s.run t fun d =>
    if !natBit (d.fld PWR_MGN_ACTIVE PWR_MGN_ACTIVE_ACTIVE) r then d
    else if nack then d.setFlag PWR_MGN_ACTIVE PWR_MGN_ACTIVE_PMB_NACK true
    else if (status &&& 0xF7FF) = 0 then d
    else
      let d := (d.setFld PWR_PMB_STATUS PWR_PMB_STATUS_RAIL r).setFld PWR_PMB_STATUS PWR_PMB_STATUS_STATUS_WORD status.toNat
      d.ledgerEvent lbPmbusFault shared r 0

end Sys2Proof.Machine
end

