-- ==== Sys2Proof/Machine/Quarters.lean ====
section
/-! DEFINITION. Quarters and failover (R358 to R388) but for the self-test's end: the mirror, the overlap of a transfer, returns and
planned handovers. -/

namespace Sys2Proof.Machine

/-! The mirror (R366 to R368). -/

/-- Copy a register of one Quarter to the other. -/
def Device.mirrorReg (d : Device) (q : Side) (f : Side → Nat) : Device := d.setReg (f q) (d.reg (f q.other))

/-- A slot of Quarter `q` enters and leaves its fallback and changes its mode with the other Quarter's (R449). -/
def Device.mirrorFallback (d : Device) (q : Side) (n : Nat) : Device :=
  let d := d.setFlag (REG_SLOT_CTRL q n) REG_SLOT_CTRL_MODE (d.flag (REG_SLOT_CTRL q.other n) REG_SLOT_CTRL_MODE)
  match d.inFallback q.other n, d.inFallback q n with
  | true, false => d.slotFallback q n (d.fld (REG_SLOT_STATUS q.other n) REG_SLOT_STATUS_CAUSE)
  | false, true => (d.leaveFallback q n).setSlot q n { d.slotS q n with again := true, hist := [], safe := false }
  | _, _ => d

/-- The integrator that the other Quarter's slot shares overwrites that of Quarter `q` (R366, R450). -/
def Device.mirrorInt (d : Device) (q : Side) (n : Nat) : Device :=
  match (d.slotS q.other n).share with
  | some i => (d.setReg (REG_SLOT_INT q n) (BitVec.ofInt 32 i)).setSlot q.other n { d.slotS q.other n with share := none }
  | none => d

/-- What a good frame overwrites in Quarter `q` (R366): line positions, encoder positions (DEDUCED, log entry 73), planner states, setpoints, the integrators of mirrored loops. The
Timeline's cursors and the emitter classes are held once for both Quarters. -/
def Device.mirrorCopy (d : Device) (q : Side) : Device :=
  let d := d.each (List.range 8) (fun s d => d.setLine q s { d.lineS q s with n := (d.lineS q.other s).n })
  let d := d.each (List.range 9) (fun e d => (d.mirrorReg q (fun q => AXS_ENC_RAW q e)).mirrorReg q (fun q => AXS_ENC_POS q e))
  let d := d.each ((List.range 32).filter (fun a => (d.axisS q a).bound)) (fun a d =>
    let d := ((d.mirrorReg q (fun q => AXS_POS q a)).mirrorReg q (fun q => AXS_VEL q a)).mirrorReg q (fun q => AXS_TARGET q a)
    let d := d.setFlag (AXS_STATUS q a) AXS_STATUS_MOVING (d.flag (AXS_STATUS q.other a) AXS_STATUS_MOVING)
    d.setAxis q a { d.axisS q a with plan := (d.axisS q.other a).plan, limits := (d.axisS q.other a).limits })
  d.each ((List.range 512).filter (fun n => !(d.slotEntry n).isEmpty)) (fun n d =>
    ((d.mirrorReg q (fun q => REG_SLOT_SP q n)).mirrorFallback q n).mirrorInt q n)

/-- Whether a Quarter follows the mirror. -/
def Device.follows (d : Device) (q : Side) : Bool := d.role q == .standby || d.role q == .returning

/-- A frame is missing or bad (R368). -/
def Device.badMirror (d : Device) (q : Side) : Device := (d.count (QTR_MIRROR q) QTR_MIRROR_BAD).checkEvent q ckMirror false

/-- A mirror frame of the Active Quarter arrives at the other. -/
def execMirrorFrame (t : Nat) (good : Bool) (s : State) : Result :=
  s.run t fun d =>
    let q := d.owner.other
    if d.token = none ∨ !d.follows q then d
    else if good then (d.mirrorCopy q).setQ q { (d.mirrorCopy q).q q with mirrorAt := some d.now }
    else d.badMirror q

/-- No frame has arrived 12 µs after its predecessor. -/
def execMirrorTimeout (t : Nat) (s : State) : Result :=
  s.run t fun d => if d.token = none ∨ !d.follows d.owner.other then d else d.badMirror d.owner.other

/-! The overlap (R370 to R374). -/

/-- The real-time ports of a Quarter leave PANIC1 (R372). -/
def Device.endPanic (d : Device) (q : Side) : Device :=
  let m := d.fld RDB_PANIC RDB_PANIC_PANIC1
  d.setFld RDB_PANIC RDB_PANIC_PANIC1 (match q with
    | .north => m / 256 * 256
    | .south => m % 256)

/-- A station of the new Quarter has caught up: a LINE block goes before its first segment. After a hard yield the last one ends the transfer (R370, R372). -/
def Device.caughtUp (d : Device) (s : Nat) : Device :=
  match d.transfer with
  | none => d
  | some x =>
    if !natBit x.waiting s then d
    else
      let new := x.old.other
      let w := setNatBit x.waiting s false
      let d := d.maxFld (QTR_CATCHUP new) QTR_CATCHUP_CATCHUP (min 65535 ((d.now - x.at_) * 10 / tuPerUs))
      let d := (d.withTransfer (some { x with waiting := w })).sendLine new s (d.lineS new s).n
      if w = 0 then
        let d := d.endPanic new
        if x.overlap then d else d.endOverlap
      else d

def execStationCatchUp (t : Nat) (st : Station) (s : State) : Result := s.run t fun d => d.caughtUp st

/-- 16 µs after the last station has caught up the old Quarter stops (R374). -/
def execOverlapEnd (t : Nat) (s : State) : Result :=
  s.run t fun d =>
    match d.transfer with
    | some x => if x.overlap ∧ x.waiting = 0 then d.endOverlap else d
    | none => d

/-- The overlap bound is reached (R372, R374): an overlap that still waits for a station is cut. -/
def execOverlapBound (t : Nat) (s : State) : Result :=
  s.run t fun d =>
    match d.transfer with
    | none => d
    | some x =>
      let new := x.old.other
      let d := d.endPanic new
      let d := if x.overlap ∧ x.waiting ≠ 0 then
          (d.setFld (QTR_CATCHUP new) QTR_CATCHUP_CUT x.waiting).ledgerEvent lbHandoverCut new.code x.waiting 0
        else d
      d.endOverlap

/-! Testing, return and planned handover (R384 to R387). -/

/-- Whether a Quarter is the preferred one (R385). -/
def Device.preferred (d : Device) (q : Side) : Bool := d.flag (QTR_CFG q) QTR_CFG_PREFERRED_SOUTH == (q == .south)

/-- 10 s after a failed self-test a Quarter with retries left enters Testing again (R384). -/
def execRetestTimer (t : Nat) (q : Side) (s : State) : Result :=
  s.run t fun d =>
    let n := d.fld (QTR_TEST q) QTR_TEST_RETRIES_LEFT
    let busy := match d.transfer with
      | some x => x.old == q
      | none => false
    if d.role q = .yielded ∧ !(d.q q).stuck ∧ d.token ≠ none ∧ !busy ∧ n ≠ 0 then
      (d.setFld (QTR_TEST q) QTR_TEST_RETRIES_LEFT (n - 1)).enterTesting q
    else d

/-- QTR_CMD.OP = RETEST (R384): a Yielded Quarter enters Testing; in a double failure neither does (R388). -/
def Device.retest (d : Device) (q : Side) : Device :=
  if d.role q = .yielded ∧ !(d.q q).transmits then (d.setQ q { d.q q with stuck := false, yields := [] }).testIfYielded q else d

def execRetest (t : Nat) (q : Side) (s : State) : Result := s.run t fun d => d.retest q

/-- A planned transfer arises: in Held and Ready at once, else at the next gap (R386). -/
def Device.planTransfer (d : Device) (q : Side) (handover : Bool) : Device :=
  let d := d.withPlanned (some { newQ := q, handover })
  if d.st = .held ∨ d.st = .ready then d.plannedNow else d

/-- Whether the work of R385 is done: enabled synthesizers LOCKED, enabled ports UP, a mirror snapshot, and at every station that prints a line begun,
with its shadow decoders and its duty sums. -/
def Device.returnDone (d : Device) (q : Side) : Bool :=
  (List.range 8).all (fun s =>
    (!d.flag (PXS_CTRL q s) PXS_CTRL_ENABLE || d.pxState q s == pxLocked) && (!d.flag (ENW_CTRL q s) ENW_CTRL_ENABLE || d.enState q s == enUp) &&
    ((d.imageSide s).isNone || !d.flag (BMO_CTRL q s) BMO_CTRL_ENABLE || (d.lineS q s).image)) &&
    (d.q q).mirrorAt.isSome

/-- A Returning Quarter has caught up: the preferred one waits for a planned transfer, the other becomes Standby (R385). -/
def execReturnCaughtUp (t : Nat) (q : Side) (s : State) : Result :=
  s.run t fun d =>
    if d.role q ≠ .returning ∨ !d.returnDone q then d
    else
      let d := d.setQ q { d.q q with caughtUp := true }
      if d.preferred q && d.flag (QTR_CFG q) QTR_CFG_RETURN_EN then d.planTransfer q false else d.setRole q .standby

/-- HANDOVER_H hours have passed without a transfer and the other Quarter is Standby (R387). The preferred Quarter takes the token back at
the next gap. -/
def execHandoverTimer (t : Nat) (s : State) : Result :=
  s.run t fun d =>
    let h := d.fld (QTR_CFG d.owner) QTR_CFG_HANDOVER_H
    let old := d.owner
    let new := old.other
    if d.token = none ∨ h = 0 ∨ d.now - d.tokenAt < h * 3600000 * tuPerMs ∨ d.role new ≠ .standby ∨ d.planned.isSome then d
    else
      let d := d.planTransfer new true
      if d.token = some new ∧ d.preferred old ∧ d.flag (QTR_CFG old) QTR_CFG_RETURN_EN then d.withPlanned (some { newQ := old, handover := false })
      else d

end Sys2Proof.Machine
end

