-- ==== Sys2Proof/Machine/SafeCmds.lean ====
section
/-! DEFINITION. The host commands of R4, the ledger's clears (R591, R606), and the Kerb's pins and command (R599 to R604). -/

namespace Sys2Proof.Machine

/-- Entry into Held, with what waits for it: deferred write-backs (R586), stations at their end of life (R589) and safe stations (R323,
R418), a page-store retraining (R169), and a planned transfer (R386). -/
def Device.enterHeld (d : Device) : Device :=
  (((((d.setSt .held).domainsHeld).writebackHeld).eolHeld).stationsHeld.retrainHeld).plannedNow

/-- Whether the host start command is refused in Held: the page store in or on its way into or out of self-refresh (R203), sheets
stranded (R408), a margin active (R557), or a start whose boot failed (R66). -/
def Device.startRefused (d : Device) : Bool :=
  d.storeGated || d.ps.exiting || d.dlv.stranded != 0 || d.fld PWR_MGN_ACTIVE PWR_MGN_ACTIVE_ACTIVE != 0 || d.bootFailed

/-- The host start command (R4). -/
def execHostStart (t : Nat) (s : State) : Result :=
  s.run t fun d =>
    if d.st ≠ .held then d.reply .ok
    else if d.startRefused then d.reply .errState
    else ((d.reply .ok).enterReady).plannedNow

/-- The host hold command (R4). -/
def execHostHold (t : Nat) (s : State) : Result :=
  s.run t fun d => if d.st = .ready then (d.reply .ok).enterHeld else d.reply .ok

/-- The host stop command (R4). -/
def execHostStop (t : Nat) (s : State) : Result :=
  s.run t fun d => if d.st = .printing ∨ d.st = .ready then (d.reply .ok).enterDraining else d.reply .ok

/-- Every sticky bit and every LDG_CNT is cleared (R591). -/
def Device.ledgerClear (d : Device) : Device :=
  let d := d.each (List.range 8) (fun m d => d.setReg (LDG_STICKY m) 0)
  d.each (List.range 256) (fun b d => d.setReg (LDG_CNT b) 0)

/-- A write of LDG_CLEAR: only the key acts. -/
def execLedgerClearAll (t : Nat) (key : BitVec 16) (s : State) : Result :=
  s.run t fun d => if key = 0xC1EA then d.ledgerClear else d

/-- Ones written to LDG_NMI clear its flags; the CLOCK flag is CLK_STATUS.NMI too (R606). -/
def Device.nmiClear (d : Device) (mask : Word) : Device :=
  let d := d.setReg LDG_NMI (d.reg LDG_NMI &&& ~~~ (mask &&& 0x1F))
  if mask.getLsbD 0 then d.setFlag CLK_STATUS CLK_STATUS_NMI false else d

def execNmiFlagClear (t : Nat) (mask : Word) (s : State) : Result := s.run t fun d => d.nmiClear mask

/-- An interlock or HESTOP_N pin falls: its trigger is live and fires (R599, R600). A pin that falls again while its trigger is still live
adds none: the trigger it raised has not been removed (R599). -/
def execInterlockOpen (t : Nat) (pin : Fin 3) (s : State) : Result :=
  s.run t fun d =>
    let d := d.modKerb (fun v => { v with pinsLow := setNatBit v.pinsLow pin true })
    if d.st = .off ∨ d.st = .parked then d.kerbTrigger pin shared 0
    else if natBit (d.fld KRB_STATUS KRB_STATUS_LIVE) pin then d
    else (d.setLive pin true).kerbTrigger pin shared 0

/-- A pin has been high for 10 ms: its trigger is live no more (R599). -/
def execInterlockRelease (t : Nat) (pin : Fin 3) (s : State) : Result :=
  s.run t fun d =>
    (d.modKerb (fun v => { v with pinsLow := setNatBit v.pinsLow pin false })).setLive pin false

/-- KRB_CMD ESTOP (R599). -/
def Device.estop (d : Device) : Device := d.kerbTrigger ktEstopCmd shared 0

def execEstop (t : Nat) (s : State) : Result := s.run t Device.estop

/-- Whether a trigger fires in this cycle of the timebase (R608). -/
def Device.firesNow (d : Device) : Bool := d.kerb.firedAt.any (fun t => t / 80 == d.timeTick)

/-- KRB_CMD CLEAR (R604): with its key and in Safe it is refused while a trigger is live and in the cycle in which one fires (R608); else the
forcing ends and the device enters Held, where each enable waits for its owner's next request. -/
def Device.krbClear (d : Device) (key : Nat) : Device :=
  if key ≠ 0x5AFE ∨ d.st ≠ .safe then d
  else if d.fld KRB_STATUS KRB_STATUS_LIVE ≠ 0 ∨ d.flag CLK_STATUS CLK_STATUS_CLASS_A_WAIT ∨ d.firesNow then
    d.setFlag KRB_STATUS KRB_STATUS_CLEAR_REFUSED true
  else
    let d := ((d.setReg KRB_CAUSE 0).setFlag KRB_STATUS KRB_STATUS_FORCING false).modKerb (fun v => { v with request := 0, latched := 0 })
    let d := match d.token with
      | some q => d.setTransmits q true
      | none => d
    d.enterHeld

def execKrbClear (t : Nat) (key : BitVec 16) (s : State) : Result := s.run t fun d => d.krbClear key.toNat

end Sys2Proof.Machine
end

