-- ==== Sys2Proof/Machine/ImageCheck.lean ====
section
/-! DEFINITION. The configuration flash and the image (R69 to R79, R632): the layout of header and records, and the checking pass with
every rule for the contents of records. It writes nothing. -/

namespace Sys2Proof.Machine

/-! The result codes of R86. -/

def rcApplied : Nat := 1
def rcValid : Nat := 2
def rcNoImage : Nat := 3
def rcHeaderCrc : Nat := 4
def rcWrongDevice : Nat := 5
def rcLength : Nat := 6
def rcRecordCrc : Nat := 7
def rcBadRecord : Nat := 8
def rcSignature : Nat := 9
def rcApply : Nat := 10
def rcFlash : Nat := 11

/-- RECORD where no record is named (R632). -/
def noRecord : Nat := 0xFFFFFF

/-! The flash (R69 to R71). -/

/-- A byte of the flash; one never programmed reads 0xFF. -/
def Device.flashByte (d : Device) (a : Nat) : Byte := sget (fun _ => 0xFF) d.flash.data a

/-- `n` bytes of the flash. -/
def Device.flashBytes (d : Device) (a n : Nat) : List Byte := (List.range n).map (fun i => d.flashByte (a + i))

/-- log2 of the density: that of the SFDP tables, or 16 MiB (R70). -/
def Device.flashLog2 (d : Device) : Nat := if d.flash.sfdp then d.flash.densityLog2 else 24

/-- Where a copy starts (R71). -/
def Device.copyBase (d : Device) (c : Copy) : Nat := c.code * 2 ^ (d.flashLog2 - 1)

/-- How long a copy may be (R71). -/
def Device.copyMax (d : Device) : Nat := min (2 ^ (d.flashLog2 - 1)) 0x2000000

/-! The header (R72). -/

/-- GENERATION of a header whose MAGIC and GENERATION are valid. -/
def headerGen (h : List Byte) : Option Nat :=
  let g := bytesAt h 8 4
  if bytesAt h 0 4 = 0x49434254 ∧ 1 ≤ g ∧ g ≤ 0xFFFFFFFE then some g else none

def headerLength (h : List Byte) : Nat := bytesAt h 12 4
def headerSigned (h : List Byte) : Bool := natBit (bytesAt h 19 1) 0

/-- The first header check that fails, in the order of R632. -/
def headerFault (stepping maxLen : Nat) (h : List Byte) : Option Nat :=
  let n := headerLength h
  if headerGen h = none then some rcNoImage
  else if !crcGood h 60 then some rcHeaderCrc
  else if bytesAt h 4 2 ≠ 1 ∨ bytesAt h 6 2 ≠ 64 ∨ bytesAt h 16 2 ≠ 0x9140 ∨ stepping < bytesAt h 18 1 ∨ 2 ≤ bytesAt h 19 1 ∨
      4 ≤ bytesAt h 24 1 ∨ bytesAt h 25 3 ≠ 0 then some rcWrongDevice
  else if n % 4 ≠ 0 ∨ n < 96 ∨ 0x2000000 < n ∨ maxLen < n then some rcLength
  else none

/-! Records (R73 to R76). -/

def rtRegBlock : Nat := 1
def rtRegFields : Nat := 2
def rtTable : Nat := 3
def rtPlaza : Nat := 4
def rtEnd : Nat := 0x7FFF

/-- A record whose layout is read. -/
structure ImgRecord where
  typ : Nat
  rsv : Nat
  target : Nat
  payload : List Byte
  crcOk : Bool
  deriving DecidableEq, Repr

/-- PLEN of the record at a place. -/
def recordLen (img : List Byte) (pos : Nat) : Nat := bytesAt img (pos + 8) 4

/-- Read the record at a place. -/
def readRecord (img : List Byte) (pos : Nat) : ImgRecord :=
  let p := (img.drop (pos + 16)).take (recordLen img pos)
  { typ := bytesAt img pos 2, rsv := bytesAt img (pos + 2) 2, target := bytesAt img (pos + 4) 4, payload := p,
    crcOk := decide (bytesAt img (pos + 12) 4 = (crc32c ((img.drop pos).take 12 ++ p)).toNat) }

/-- The block of R42 that holds a quarter offset. -/
def quarterBlock (o : Nat) : Nat :=
  let k := o / 0x10000
  if k = 3 ∨ k = 9 ∨ k = 11 then k - 1 else if 4 ≤ k ∧ k ≤ 7 then 4 else k

/-- Whether `n` words (one, for none) from an address form a register target (R76). -/
def targetOk (a n : Nat) : Bool :=
  let z := a + 4 * max n 1 - 4
  a % 4 == 0 &&
    ((decide (0x10020000 ≤ a) && decide (z < 0x100E0000) && a / 0x10000 == z / 0x10000) ||
      (decide (z < 0x100000) && quarterBlock a == quarterBlock z))

/-- The entry size and the number of entries of a table (R75). -/
def tableGeom (code inst : Nat) : Option (Nat × Nat) :=
  match code, inst with
  | 0x01, 0 => some (16, 1024)
  | 0x01, 1 => some (8, 32)
  | 0x02, 0 => some (24, 256)
  | 0x03, 0 => some (160, 512)
  | 0x04, 0 => some (64, 12)
  | 0x05, 0 => some (32, 64)
  | 0x06, 0 => some (528, 16)
  | 0x10, 0 => some (16, 24)
  | 0x11, 0 => some (16, 16)
  | 0x11, 1 => some (24, 16)
  | 0x12, 0 => some (192, 8)
  | 0x13, 0 => some (4, 256)
  | 0x14, 0 => some (8, 8)
  | 0x07, s => if s < 8 then some (64, 9) else none
  | _, _ => none

/-! What an entry shows by itself (R632 step 5). -/

/-- Whether an input is one of R414. -/
def supInputOk (v : Nat) : Bool :=
  let i := v % 4096
  match v / 4096 with
  | 0 => i == 0 || (decide (8 ≤ i) && decide (i < 104))
  | 1 => decide (i ≤ 255)
  | 2 => decide (i ≤ 95)
  | 3 => decide (i ≤ 511)
  | 4 => decide (i ≤ 511)
  | 5 => decide (i ≤ 31)
  | 6 => decide (i ≤ 63)
  | 7 => decide (i ≤ 7)
  | 8 => decide (i ≤ 255)
  | _ => false

/-- Whether a slot's target is one of R430. -/
def outDstOk (v : Nat) : Bool :=
  let i := v % 4096
  match v / 4096 with
  | 0 => i == 0
  | 1 => decide (i ≤ 127)
  | 3 => decide (i ≤ 511)
  | 6 => decide (i ≤ 3)
  | 7 => decide (i ≤ 7)
  | _ => false

/-- Whether `n` bytes at an offset are 0, as a table of the spec asks of reserved ones. -/
def zeroAt (b : List Byte) (off n : Nat) : Bool := bytesAt b off n == 0

/-- The rules for a Timeline entry that it shows by itself: its reserved bits (R400), VALUE2 among them where its action takes none. -/
def timelineOk (b : List Byte) : Bool :=
  bytesAt b 1 1 % 16 == 0 && ([3, 11, 13].contains (bytesAt b 0 1) || zeroAt b 12 4)

/-- The rules for a Supervisor rule (R413, R414). -/
def ruleOk (b : List Byte) : Bool :=
  supInputOk (bytesAt b 0 2) && (bytesAt b 11 1 / 64 == 0 || supInputOk (bytesAt b 8 2)) && decide (bytesAt b 3 1 ≤ 1) &&
    bytesAt b 11 1 % 64 == 0 && zeroAt b 19 1 && (bytesAt b 16 1 == 9 || zeroAt b 22 2)

/-- The C1 of a primitive, in its entry. -/
def hC1 (h : List Byte) (p : Nat) : Int := toSigned 32 (bytesAt h (44 + 20 * p) 4)

/-- Whether a mode holds at most one PI or PID, and only operations that can follow it after it (R434). -/
def modeOk (h : List Byte) (ps : List Nat) : Bool :=
  match ps.dropWhile (fun p => hOp h p != 5 && hOp h p != 6) with
  | [] => true
  | _ :: r => r.all (fun p => [3, 4, 8, 9, 10, 11].contains (hOp h p))

/-- The rules for one Regulator slot (R430, R431, R434). -/
def slotOk (h : List Byte) : Bool :=
  decide (hPhase h ≤ hDiv h) && decide (1 ≤ hNprim h) && decide (hNprim h ≤ 6) && decide (hSplit h < hNprim h) &&
    hFallback h != 3 && decide (hMin h ≤ hIdle h) && decide (hIdle h ≤ hMax h) && (!hBit h 2 || hFb h / 4096 == 1) && outDstOk (hDst h) &&
    (List.range (hNprim h)).all (fun p =>
      decide (1 ≤ hOp h p) && decide (hOp h p ≤ 11) && (hOp h p != 8 || hC1 h p == 1 || hC1 h p == 2) &&
        (hOp h p != 9 || (decide (0 ≤ hC1 h p) && decide (hC1 h p ≤ 15)))) &&
    modeOk h (modePrims h 0) && (hSplit h == 0 || modeOk h (modePrims h 1)) && !hBit h 0 && zeroAt h 27 1 && zeroAt h 152 8 &&
    (!hBit h 3 || decide (2 ≤ bytesAt h 26 1)) &&
    (List.range 6).all (fun p => zeroAt h (33 + 20 * p) 1 && decide (bytesAt h (36 + 20 * p) 2 < 32768) && zeroAt h (38 + 20 * p) 2)

/-- The rules for a commutation entry (R458). -/
def motorOk (i : Nat) (b : List Byte) : Bool :=
  let poly := decide (i < 8)
  if mKind b = 0 then zeroAt b 53 1 && zeroAt b 56 8
  else
    zeroAt b 53 1 && zeroAt b 56 8 && mKind b == (if poly then 1 else 2) && decide (1 ≤ bytesAt b 1 1) && decide (bytesAt b 1 1 ≤ 16) && decide (mBus b ≤ 1) &&
      (if poly then decide (1 ≤ mConfTh b) && decide (mConfTh b ≤ 254) && decide (mRetries b ≤ 3) && mShunt b == 0
       else decide (mEncoder b ≤ 8) && decide (mShunt b ≤ 1))

/-- The rules for a motion profile (R485). -/
def profileOk (b : List Byte) : Bool :=
  decide (bytesAt b 0 4 ≤ 1048575) && bytesAt b 4 4 != 0 && bytesAt b 8 4 != 0 && bytesAt b 12 4 != 0 && zeroAt b 19 1 && zeroAt b 22 10

/-- The rules for a ramp profile (R266). -/
def rampOk (b : List Byte) : Bool :=
  let n := bytesAt b 0 2
  decide (1 ≤ n) && decide (n ≤ 1023) && zeroAt b 2 14 && (List.range 256).all (fun k => decide ((toSigned 16 (bytesAt b (16 + 2 * k) 2)).natAbs ≤ 31457))

/-- The rules for a station's code table (R309). -/
def codeTableOk (b : List Byte) : Bool :=
  (List.range 16).all (fun c => decide (bytesAt b (4 * c) 1 ≤ 64) && zeroAt b (4 * c + 2) 2) && bytesAt b 0 1 == 0 && bytesAt b 1 1 == 0

/-- The rules for one sequencer entry (R544). -/
def railOk (b : List Byte) : Bool :=
  let e := parseRail b
  let ms := fun v => decide (1 ≤ v) && decide (v ≤ 1000)
  (!e.used || (decide (e.rail ≤ 23) && ms (bytesAt b 4 2) && ms (bytesAt b 8 2))) && !(e.marginInj && e.marginPmb) &&
    decide (bytesAt b 12 2 ≤ 1000) && bytesAt b 0 1 / 32 % 4 == 0 && decide (bytesAt b 1 1 < 32) && decide (bytesAt b 10 1 < 128) &&
    zeroAt b 11 1 && zeroAt b 14 2

/-- The rules for one zone (R568); zone 0 is always in use. -/
def zoneOk (i : Nat) (b : List Byte) : Bool :=
  let e := parseZone b
  let rsv := zeroAt b 5 3 && decide (bytesAt b 18 1 < 8) && zeroAt b 19 5
  if i ≠ 0 ∧ !e.used then rsv
  else
    rsv && decide (bytesAt b 16 1 ≤ 100) && decide (e.warn < e.throttle) && decide (e.throttle < e.shutdown) && decide (1 ≤ e.hyst) && decide (e.hyst ≤ 20) &&
      (i != 0 || (decide (e.warn ≤ 760) && decide (e.throttle ≤ 840) && decide (e.shutdown ≤ 904) && decide (1 ≤ e.rise) && decide (e.rise ≤ 40)))

/-- The rules for a directory entry that it shows by itself (R399). -/
def directoryOk (b : List Byte) : Bool :=
  let n := bytesAt b 2 2
  let k := bytesAt b 4 1
  zeroAt b 5 3 && (n == 0 || (decide (1 ≤ k) && decide (k ≤ 3) && decide (bytesAt b 0 2 + n ≤ 1024)))

/-- The rules for a station's consumable entry (R588). -/
def consumableOk (b : List Byte) : Bool :=
  decide (50 ≤ bytesAt b 1 1) && decide (bytesAt b 1 1 ≤ 100) && decide (bytesAt b 2 1 ≤ 2) && zeroAt b 3 5

/-- The rules for an entry of its table. -/
def entryOk (code inst i : Nat) (b : List Byte) : Bool :=
  match code, inst with
  | 0x01, 1 => directoryOk b
  | 0x01, _ => timelineOk b
  | 0x02, _ => ruleOk b
  | 0x03, _ => slotOk b
  | 0x04, _ => motorOk i b
  | 0x05, _ => profileOk b
  | 0x06, _ => rampOk b
  | 0x07, _ => i != 8 || codeTableOk b
  | 0x10, _ => railOk b
  | 0x11, 0 => zeroAt b 12 4
  | 0x11, 1 => zoneOk i b
  | 0x12, _ => presetOk b && zeroAt b 3 1 && zeroAt b 165 3 && zeroAt b 168 24
  | 0x13, _ => bytesAt b 1 1 % 64 == 0
  | 0x14, _ => consumableOk b
  | _, _ => true

/-! The checking pass over the records (R632 steps 5 and 6). What they would leave is built up in a device of its own: shared
registers and the North alias of the quarter range, and the tables; `axes` lists the axes whose AXS_CFG a record writes. -/

structure ImgShadow where
  dev : Device := {}
  axes : List Nat := []
  deriving DecidableEq, Repr

/-- An address of a record in the view that the pass builds up. -/
def northOf (a : Nat) : Nat := if a < 0x100000 then 0x01000000 + a else a

/-- The axis whose AXS_CFG lies at a quarter offset. -/
def axisOfCfg (a : Nat) : Option Nat :=
  if 0xA1000 ≤ a ∧ a < 0xA2000 ∧ (a - 0xA1000) % 0x80 = 0 then some ((a - 0xA1000) / 0x80) else none

/-- A word that a record would write. -/
def ImgShadow.put (x : ImgShadow) (a : Nat) (mask v : Word) : ImgShadow :=
  let g := northOf a
  let axes := match axisOfCfg a with
    | some n => if x.axes.contains n then x.axes else n :: x.axes
    | none => x.axes
  match regRow g with
  | some r =>
    let m := mask &&& (r.rw ||| r.rwl)
    { dev := x.dev.setReg g ((x.dev.reg g &&& ~~~m) ||| (v &&& m)), axes }
  | none => { x with axes }

/-- Word `k` of a payload. -/
def wordAt (p : List Byte) (k : Nat) : Word := BitVec.ofNat 32 (bytesAt p (4 * k) 4)

/-- A record by itself: what it would write, or none where R73 to R76 or the rules of its table refuse it. -/
def ImgShadow.record (x : ImgShadow) (r : ImgRecord) : Option ImgShadow :=
  let n := r.payload.length / 4
  if r.rsv ≠ 0 ∨ r.payload.length % 4 ≠ 0 then none
  else if r.typ = rtRegBlock then
    if targetOk r.target n then some ((List.range n).foldl (fun x k => x.put (r.target + 4 * k) 0xFFFFFFFF (wordAt r.payload k)) x) else none
  else if r.typ = rtRegFields then
    if r.target = 0 ∧ n % 3 = 0 ∧ (List.range (n / 3)).all (fun k => targetOk (wordAt r.payload (3 * k)).toNat 1) then
      some ((List.range (n / 3)).foldl (fun x k =>
        x.put (wordAt r.payload (3 * k)).toNat (wordAt r.payload (3 * k + 1)) (wordAt r.payload (3 * k + 2))) x)
    else none
  else if r.typ = rtTable then
    let code := r.target / 2 ^ 24
    let inst := r.target / 2 ^ 16 % 256
    let i := r.target % 2 ^ 16
    match tableGeom code inst with
    | none => none
    | some (size, count) =>
      let m := r.payload.length / size
      let e := fun k => (r.payload.drop (k * size)).take size
      if r.payload.length % size = 0 ∧ i + m ≤ count ∧ (List.range m).all (fun k => entryOk code inst (i + k) (e k)) then
        some { x with dev := (List.range m).foldl (fun d k => d.setEntry code inst (i + k) (e k)) x.dev }
      else none
  else if r.typ = rtPlaza then
    if r.target % 4 = 0 ∧ 0x20D00000 ≤ r.target ∧ r.target ≤ 0x20FFFFFF ∧ r.target + r.payload.length ≤ 0x21000000 then some x else none
  else if r.typ = rtEnd then if r.target = 0 ∧ r.payload.isEmpty then some x else none
  else if natBit r.typ 15 then some x
  else none

/-- The records in image order: the shadow they leave, with the index and the end of the END record where there is one; or the first
fault, with the record it names. `n` bounds the records. -/
def checkRecords (img : List Byte) (len : Nat) : Nat → Nat → Nat → ImgShadow → Except (Nat × Nat) (ImgShadow × Option (Nat × Nat))
  | 0, _, _, x => .ok (x, none)
  | n + 1, i, pos, x =>
    if len ≤ pos then .ok (x, none)
    else if len < pos + 16 ∨ len < pos + 16 + recordLen img pos then .error (rcLength, i)
    else
      let r := readRecord img pos
      let z := pos + 16 + recordLen img pos
      if !r.crcOk then .error (rcRecordCrc, i)
      else
        match x.record r with
        | none => .error (rcBadRecord, i)
        | some y => if r.typ = rtEnd then .ok (y, some (i, z)) else checkRecords img len n (i + 1) z y

/-! Rules over more than one record (R632 step 9). -/

/-- Whether ARG and VALUE of a Timeline entry lie in the range of its action (R400). -/
def TmlEntry.argsOk (e : TmlEntry) : Bool :=
  match e.action with
  | 1 => decide (e.arg ≤ 7)
  | 2 => decide (e.arg ≤ 7)
  | 3 => decide (e.arg ≤ 63)
  | 4 => decide (e.arg ≤ 63)
  | 5 => decide (e.arg ≤ 63)
  | 9 => decide (e.arg ≤ 63)
  | 10 => decide (e.arg ≤ 63)
  | 11 => decide (e.arg ≤ 63)
  | 12 => decide (e.arg ≤ 511)
  | 13 => decide (e.arg ≤ 31) && decide (e.value ≤ 63)
  | _ => true

/-- Whether a list of positions does not decrease. -/
def risesInts : List Int → Bool
  | a :: b :: r => decide (a ≤ b) && risesInts (b :: r)
  | _ => true

/-- How many entries have an action. -/
def countAction (l : List TmlEntry) (a : Nat) : Nat := (l.filter (fun e => e.action == a)).length

/-- The rules for one template (R399, R400, R402); `kind` is 1 SHEET, 2 WEB, 3 CLEAROUT. -/
def Device.templateRules (d : Device) (t : Nat) : Bool :=
  let x := d.templateDir t
  let first := x.1
  let n := x.2.1
  let kind := x.2.2
  let l := (d.templateEntries t).map (fun e => e.2)
  let offs := (List.range 8).map (fun s => d.int (TML_OFFSET .north s))
  let low : Int := (offs.max?.getD 0) * 65536 + 1108 * (d.nat (TML_GRID .north) : Int)
  let at_ := l.filterMap (fun e =>
    if e.action = 1 then some (d.int (TML_OFFSET .north e.arg)) else if e.trig = 0 then some e.trigger else none)
  let gates := countAction l 3
  let gate := b01 d.rejectGate
  (List.range n).all (fun k => !(d.entry 0x01 0 (first + k)).isEmpty) &&
    l.all (fun e => decide (e.action ≤ 13) && e.trig != 3 && e.argsOk) && (l.getLast?.map (fun e => e.action)) == some 0 && countAction l 0 == 1 &&
    risesInts at_ && l.all (fun e => e.action != 3 || (e.trig == 0 && decide (low ≤ e.trigger * 65536))) &&
    (match kind with
     | 1 => !d.web && countAction l 4 == 1 && countAction l 5 == 1 && gates == gate &&
         decide (l.findIdx (fun e => e.action == 4) < l.findIdx (fun e => e.action == 5))
     | 2 => d.web && countAction l 8 == 1 && gates == 0 && countAction l 4 == 0 && countAction l 5 == 0 && countAction l 9 == gate
     | _ => (if d.rejectGate then decide (1 ≤ gates) else gates == 0))

/-- The templates that the directory defines. -/
def Device.templates (d : Device) : List Nat := (List.range 32).filter (fun t => (d.templateDir t).2.1 != 0)

/-- The rules for the templates together (R402). -/
def Device.templatesOk (d : Device) : Bool :=
  let l := d.templates
  l.isEmpty || (l.all d.templateRules && (l.filter (fun t => (d.templateDir t).2.2 == 3)).length == 1)

/-- The primitives of the longer mode of a slot (R427). -/
def slotEvals (h : List Byte) : Nat := if hSplit h = 0 then hNprim h else max (hSplit h) (hNprim h - hSplit h)

/-- No value occurs twice. -/
def noRepeat (l : List Nat) : Bool := l.eraseDups.length == l.length

/-- The rules for the Regulator slots together (R427, R430, R453). -/
def Device.slotsOk (d : Device) : Bool :=
  let l := d.loadedSlots.map d.slotEntry
  let base := d.baseCyc .north
  noRepeat ((l.filter (fun h => hBit h 7 && hDst h / 4096 != 0)).map hDst) &&
    l.all (fun h => hDst h / 4096 != 1 || decide (72 ≤ hDst h % 4096) || mKind (d.motorEntry (hDst h % 4096 / 6)) == 0) &&
    (List.range 256).all (fun k =>
      let e := ((l.filter (fun h => dueAt h k)).map slotEvals).sum
      decide (96000 + 1600 * ((e + 15) / 16 + 6) ≤ 45 * base))

/-- The axis bindings (R483). -/
def ImgShadow.axesOk (x : ImgShadow) : Bool :=
  let d := x.dev
  noRepeat (x.axes.map (fun a => 8 * d.fld (AXS_CFG .north a) AXS_CFG_CHAIN + d.fld (AXS_CFG .north a) AXS_CFG_SLOT)) &&
    x.axes.all (fun a =>
      decide (d.fld (AXS_CFG .north a) AXS_CFG_SLOT < d.fld (AXS_CHAIN_CFG .north (d.fld (AXS_CFG .north a) AXS_CFG_CHAIN)) AXS_CHAIN_CFG_DRIVERS))

/-- The sequencer entries together (R544). -/
def Device.railsOk (d : Device) : Bool :=
  let used := (List.range 24).filter (fun i => (parseRail (d.entry 0x10 0 i)).used)
  used == List.range used.length && noRepeat (d.railEntries.map (fun e => e.rail))

/-- At most one zone in use gives the board temperature (R568). -/
def Device.zonesOk (d : Device) : Bool :=
  decide (((List.range 16).filter (fun z => (d.zone z).used && (d.zone z).board)).length ≤ 1)

/-- A preset that a register chooses is loaded and of its format (R226). -/
def Device.presetChosen (d : Device) (tables tableId format : Nat) : Bool :=
  tables != 0 || tableId == 0 ||
    (let b := d.entry 0x12 0 (tableId - 1)
     !b.isEmpty && presetFormat b == format)

/-- The number of a position source (R391). -/
def sourceOk (n : Nat) : Bool := decide (n ≤ 8) || (decide (16 ≤ n) && decide (n ≤ 47))

/-- Every rule of step 9. The values that R391 refuses are checked here and name the END record (DEDUCED, log entry 111). -/
def ImgShadow.crossOk (x : ImgShadow) : Bool :=
  let d := x.dev
  sourceOk (d.fld (TML_CTRL .north) TML_CTRL_PITCH_SRC) && (List.range 32).all (fun a => sourceOk (d.fld (AXS_FE_CFG .north a) AXS_FE_CFG_SRC)) && d.templatesOk && d.slotsOk && x.axesOk && d.railsOk && d.zonesOk &&
    d.presetChosen (d.fld ARC_CMP_CFG ARC_CMP_CFG_TABLES) (d.fld ARC_CMP_CFG ARC_CMP_CFG_TABLE_ID) 1 &&
    d.presetChosen (d.fld ARC_INSP_CFG ARC_INSP_CFG_TABLES) (d.fld ARC_INSP_CFG ARC_INSP_CFG_TABLE_ID) 2

/-- The signature (R77, R578). -/
def signatureOk (f : Fuses) (img : List Byte) (body : Nat) : Bool :=
  if headerSigned img then
    let k := f.keys.getD (bytesAt img 24 1 % 4) []
    keySet k && hmac k (img.take body) == (img.drop body).take 32
  else !f.requireSigned

/-- The checking pass of a copy (R79, R632): its result code and the record it names. -/
def Device.checkCopy (d : Device) (f : Fuses) (c : Copy) : Nat × Nat :=
  if !d.flash.present then (rcFlash, noRecord)
  else
    let h := d.flashBytes (d.copyBase c) 64
    match headerFault f.stepping.toNat d.copyMax h with
    | some code => (code, noRecord)
    | none =>
      let len := headerLength h
      let img := d.flashBytes (d.copyBase c) len
      match checkRecords img len (len / 16 + 1) 0 64 {} with
      | .error e => e
      | .ok (x, z) =>
        let last := (bytesAt h 20 4 + 2 ^ 32 - 1) % 2 ^ 32
        match z with
        | none => (rcBadRecord, min last noRecord)
        | some (i, stop) =>
          if i ≠ last then (rcBadRecord, min i last)
          else if stop + (if headerSigned h then 32 else 0) ≠ len then (rcLength, noRecord)
          else if !signatureOk f img stop then (rcSignature, noRecord)
          else if !x.crossOk then (rcBadRecord, i)
          else (rcValid, noRecord)

end Sys2Proof.Machine
end

