-- ==== Sys2Proof/Machine/Update.lean ====
section
/-! DEFINITION. The image update (R83 to R87): ERASE, PROGRAM, VERIFY and VALIDATE with their refusals, deferral, abort and end. -/

namespace Sys2Proof.Machine

/-! The operations of CFG_UPD_CMD.OP. -/

def uoErase : Nat := 1
def uoProgram : Nat := 2
def uoVerify : Nat := 3
def uoValidate : Nat := 4

/-- Write bytes of the flash at rising addresses. -/
def Device.setFlash (d : Device) (a : Nat) (l : List Byte) : Device :=
  d.modFlash (fun v => { v with data :=
      (l.zip (List.range l.length)).foldl (fun m x => sput (fun _ => 0xFF) m (a + x.2) x.1) v.data })

/-- Where an update command's region starts in the flash. -/
def Device.updateAt (d : Device) (u : Update) : Nat := d.copyBase u.copy + u.offset

/-- Whether the region of ERASE, PROGRAM or VERIFY keeps to R71 and the registers' rules; ERASE takes whole erase units (R85). -/
def Device.updateRange (d : Device) (u : Update) : Bool :=
  u.op == uoValidate ||
    (u.offset % 4 == 0 && u.len % 4 == 0 && decide (u.offset + u.len ≤ d.copyMax) &&
      (u.op != uoErase || (u.offset % 2 ^ d.fld CFG_FLASH_INFO CFG_FLASH_INFO_ERASE_LOG2 == 0 &&
        u.len % 2 ^ d.fld CFG_FLASH_INFO CFG_FLASH_INFO_ERASE_LOG2 == 0)))

/-- An update command starts to run. While ERASE or PROGRAM runs, how far it is stays open, so its region holds free values. -/
def Device.updateRun (d : Device) (u : Update) : Device :=
  let d := d.setFld CFG_UPD_STATUS CFG_UPD_STATUS_STATE 1
  if u.op = uoErase ∨ u.op = uoProgram then
    let d' := d.setFlash (d.updateAt u) ((List.range u.len).map (fun i => Config.freeByte d.frees (d.updateAt u + i)))
    (d').withFrees (d.frees + 1)
  else d

/-- An update command is issued (R83, R84, R87). -/
def Device.updateIssue (d : Device) (op : Nat) (c : Copy) (data : List Byte) : Device :=
  if d.boot.update.isSome then d.setFld CFG_UPD_STATUS CFG_UPD_STATUS_ERR ueBusy
  else
    let u : Update := { op, copy := c, offset := d.nat CFG_UPD_OFFSET, len := d.nat CFG_UPD_LEN, data }
    let d := d.setFld CFG_UPD_STATUS CFG_UPD_STATUS_ERR 0
    if (op = uoErase ∨ op = uoProgram) ∧ d.fld CFG_STATUS CFG_STATUS_BOOT_COPY = c.code then d.updateEnd ueBootCopy
    else if !d.updateRange u then d.updateEnd ueRange
    else
      let d := d.modBoot (fun v => { v with update := some u })
      if d.writesOut then d.setFld CFG_UPD_STATUS CFG_UPD_STATUS_STATE 2 else d.updateRun u

/-- What host memory gave for the region; bytes beyond those given read 0. -/
def Update.source (u : Update) : List Byte := (List.range u.len).map (fun i => u.data.getD i 0)

/-- A running update command comes to its end (R85, R87). A VALIDATE without a response of the flash judges no copy: RESULT stays (DEDUCED,
log entry 49). -/
def Device.updateDone (d : Device) (f : Fuses) (u : Update) (flashOk : Bool) : Device :=
  if !flashOk || !d.flash.present then d.updateEnd ueFlash
  else if (u.op = uoProgram ∨ u.op = uoVerify) ∧ !d.host.linkUp then d.updateEnd ueHost
  else if u.op = uoErase then (d.setFlash (d.updateAt u) (List.replicate u.len 0xFF)).updateEnd 0
  else if u.op = uoProgram then (d.setFlash (d.updateAt u) u.source).updateEnd 0
  else if u.op = uoVerify then d.updateEnd (if d.flashBytes (d.updateAt u) u.len = u.source then 0 else ueMismatch)
  else (d.setFld CFG_UPD_STATUS CFG_UPD_STATUS_RESULT (d.checkCopy f u.copy).1).updateEnd 0

/-- ABORT (R87): the command in progress or held ends with ABORTED. -/
def Device.updateAbort (d : Device) : Device := if d.boot.update.isSome then d.updateEnd ueAborted else d

/-- A held command runs once the temperature allows it (R84, R574). -/
def Device.updateResume (d : Device) : Device :=
  match d.boot.update with
  | some u =>
    if d.fld CFG_UPD_STATUS CFG_UPD_STATUS_STATE = 2 ∧ !d.flag THM_STATUS THM_STATUS_WRITE_HOLD then d.updateRun u else d
  | none => d

/-- ERASE (R83). -/
def execErase (t : Nat) (c : Copy) (s : State) : Result := s.run t fun d => d.updateIssue uoErase c []

/-- PROGRAM (R83). -/
def execProgram (t : Nat) (c : Copy) (data : List Byte) (s : State) : Result := s.run t fun d => d.updateIssue uoProgram c data

/-- VERIFY (R85). -/
def execVerify (t : Nat) (c : Copy) (data : List Byte) (s : State) : Result := s.run t fun d => d.updateIssue uoVerify c data

/-- VALIDATE (R85). -/
def execValidate (t : Nat) (c : Copy) (s : State) : Result := s.run t fun d => d.updateIssue uoValidate c []

/-- UPDATE_ABORT (R87). -/
def execUpdateAbort (t : Nat) (s : State) : Result := s.run t fun d => d.updateAbort

/-- UPDATE_COMPLETE (R87): the command that runs ends; `flashOk` is false where the flash gives no response. -/
def execUpdateComplete (t : Nat) (flashOk : Bool) (s : State) : Result := s.runF t fun f d =>
  match d.boot.update with
  | some u => if d.fld CFG_UPD_STATUS CFG_UPD_STATUS_STATE = 1 then d.updateDone f u flashOk else d
  | none => d

/-- UPDATE_DEFER_RESUME (R84). -/
def execUpdateDeferResume (t : Nat) (s : State) : Result := s.run t fun d => d.updateResume

end Sys2Proof.Machine
end

