-- ==== Sys2Proof/Machine/Views.lean ====
section
/-! DEFINITION. What a register reads as where its fields have another home than the register map: identity, roles, delivery, the Kerb,
the journal window and the read-only tables of the beam output. -/

namespace Sys2Proof.Machine

/-- One 32-bit half of a 64-bit value (R16). -/
def half (v : Nat) (hi : Bool) : Word := BitVec.ofNat 32 (if hi then v / 2 ^ 32 else v)

/-- Four bytes as a word (R11). -/
def wordOf (l : List Byte) : Word := BitVec.ofNat 32 (leNat (l.take 4))

/-- QTR_ROLE (R8, R43, R385): TOKEN, PREFERRED, IN_OVERLAP, CAUGHT_UP, the other Quarter's role, the strap and the role. -/
def Device.roleWord (d : Device) (q : Side) : Word :=
  let overlap := match d.transfer with
    | some x => x.overlap
    | none => false
  let caught := match d.role q, d.transfer with
    | .returning, _ => (d.q q).caughtUp
    | .active, some x => x.waiting == 0
    | .active, none => d.tokenAt != d.startAt
    | _, _ => false
  BitVec.ofNat 32 (b01 (d.token == some q) * 2 ^ 31 + b01 (d.preferred q) * 2 ^ 30 + b01 overlap * 2 ^ 29 + b01 caught * 2 ^ 28 +
    (d.role q.other).code * 256 + q.code * 8 + (d.role q).code)

/-- PENDING of QTR_CHK_STATUS: the checks with events within their window. -/
def Device.checksPending (d : Device) (q : Side) : Nat :=
  (List.range 8).foldl (fun m n =>
    let w := d.fld (QTR_CHK q n) QTR_CHK_WINDOW * tuPerUs
    setNatBit m n ((sget (fun _ => []) (d.q q).times n).any (fun t => decide (d.now - t ≤ w)))) 0

/-- AGE of QTR_MIRROR: 0xFFFF in the Active role. -/
def Device.mirrorAge (d : Device) (q : Side) : Nat :=
  match d.role q, (d.q q).mirrorAt with
  | .active, _ => 65535
  | _, none => 65535
  | _, some t => min 65535 ((d.now - t) / tuPerUs)

/-- KRB_ENABLES: the enables at the pins, which forcing and every state before the end of the boot hold inactive (R63, R600, R603, R613). -/
def Device.enablesWord (d : Device) : Word :=
  let w := d.reg KRB_ENABLES
  let forced := d.flag KRB_STATUS KRB_STATUS_FORCING
  let dark := d.st == .off || d.st == .parked || d.st == .booting
  let on := if forced || dark then 0 else d.kerb.request
  let len := (List.range 8).foldl (fun m s => setNatBit m s (natBit on s && !natBit (KRB_ENABLES_STATION_FORCED.get w) s)) 0
  KRB_ENABLES_HTEN.put (KRB_ENABLES_HVEN.put (KRB_ENABLES_LEN.put w len) (b01 (natBit on 8))) (b01 (natBit on 9))

/-- PGS_DLV_STATUS. -/
def Device.deliveryWord (d : Device) : Word :=
  let w := d.reg PGS_DLV_STATUS
  let w := PGS_DLV_STATUS_STRANDED.put w (min 255 d.dlv.stranded)
  let w := PGS_DLV_STATUS_IN_FLIGHT.put w (min 255 d.flight.length)
  let w := PGS_DLV_STATUS_WEB.put w (b01 d.web)
  let w := PGS_DLV_STATUS_REJECT_GATE.put w (b01 d.rejectGate)
  PGS_DLV_STATUS_PURGE.put w (b01 (d.openInsts.any (fun y => y.2.divert && !y.2.gateFired && !y.2.clearout)))

/-- The pacing of the channels that belong to the device (R158): fill level at the destination or the source side, or request line. -/
def deviceChannelPacing (c : Nat) : Word :=
  let mode := if c ≤ 7 then 1 else 2
  ALYS_CTRL_PACE_SIDE.put (ALYS_CTRL_PACE_MODE.put 0 mode) (b01 (c == 0 || c == 1 || c == 7))

/-- Whether the function that a channel of the device serves is at work (R158). -/
def Device.channelServes (d : Device) (c : Nat) : Bool :=
  match c with
  | 0 => d.evtOn
  | 1 => (List.range 3).any (fun r => d.ringEnabled r && (d.force r).wb != 0)
  | 2 => d.ringEnabled 0
  | 3 => d.ringEnabled 1
  | 4 => d.ringEnabled 2
  | 5 => d.host.ingest.any (fun x => x.page.recs.any (fun r => r.format != 0 && !r.stored))
  | 6 => d.host.ingest.any (fun x => x.page.recs.any (fun r => r.format == 0 && !r.stored))
  | 7 => !d.arc.imgs.isEmpty
  | 8 => d.boot.update.any (fun u => u.op == uoProgram || u.op == uoVerify)
  | 9 => d.boot.update.any (fun u => u.op == uoVerify || u.op == uoValidate) || (d.st == .booting && d.fld CFG_STATUS CFG_STATUS_STEP == 3)
  | _ => d.flag CNS_CTRL CNS_CTRL_ENABLE

/-- Where a channel of the device reads host memory next: the slot of a ring at CONS, or the source of an update. -/
def Device.channelSrc (d : Device) (c : Nat) : Nat :=
  match c with
  | 2 => hostAddr ((d.force 0).base + 64 * (d.nat (HIF_RING_CONS 0) % 2 ^ (d.force 0).log2))
  | 3 => hostAddr ((d.force 1).base + 64 * (d.nat (HIF_RING_CONS 1) % 2 ^ (d.force 1).log2))
  | 4 => hostAddr ((d.force 2).base + 64 * (d.nat (HIF_RING_CONS 2) % 2 ^ (d.force 2).log2))
  | 8 => d.nat64 CFG_UPD_SRC_LO
  | _ => 0

/-- Where a channel of the device writes host memory next: the event slot at PROD, or the buffer of the oldest inspection image. -/
def Device.channelDst (d : Device) (c : Nat) : Nat :=
  match c with
  | 0 => hostAddr (d.host.evtRing.base + 32 * (d.nat HIF_EVT_PROD % 2 ^ d.host.evtRing.log2))
  | 7 => (d.arc.imgs.head?.map (fun x => hostAddr x.buf.addr)).getD 0
  | _ => 0

/-- A register of a channel of the device at an offset: while its function is at work, ENABLE with its pacing, and where it reads or writes
host memory next (R158; DESIGN CHOICE, log entry 113: what the function keeps inside the device shows 0, and COUNT is 0 between units). -/
def Device.channelWord (d : Device) (c o : Nat) : Word :=
  let a := ALYS_SRC_LO c + o
  if !d.channelServes c then d.reg a
  else if o = alyCtrl then ALYS_CTRL_ENABLE.put (deviceChannelPacing c) 1
  else if o = alySrc ∨ o = alySrc + 4 then half (d.channelSrc c) (o == alySrc + 4)
  else if o = alyDst ∨ o = alyDst + 4 then half (d.channelDst c) (o == alyDst + 4)
  else d.reg a

/-- A register of a shared block as it reads. -/
def Device.viewShared (d : Device) (f : Fuses) (a : Nat) : Word :=
  if a = DEV_ID then BitVec.ofNat 32 (Config.vendorId.toNat * 65536 + f.stepping.toNat * 256)
  else if DEV_SERIAL 0 ≤ a ∧ a ≤ DEV_SERIAL 3 then BitVec.ofNat 32 (f.serial.toNat / 2 ^ (8 * (a - DEV_SERIAL 0)))
  else if a = DEV_STATUS then BitVec.ofNat 32 d.st.code
  else if a = DEV_KEYS then
    BitVec.ofNat 32 (16 * b01 f.requireSigned + (List.range 4).foldl (fun m k => setNatBit m k (keySet (f.keys.getD k []))) 0)
  else if a = PWR_RAIL_RETAIN then BitVec.ofNat 32 d.retainMask
  else if a = CFG_STATUS then CFG_STATUS_REQUIRE_SIGNED.put (d.reg a) (b01 f.requireSigned)
  else if a = PGS_LAST_DLV_LO ∨ a = PGS_LAST_DLV_HI then half d.dlv.last (a == PGS_LAST_DLV_HI)
  else if a = PGS_HORIZON_LO ∨ a = PGS_HORIZON_HI then half d.dlv.horizon (a == PGS_HORIZON_HI)
  else if a = PGS_REPRINT_LO ∨ a = PGS_REPRINT_HI then half d.dlv.cursor (a == PGS_REPRINT_HI)
  else if a = PGS_DLV_STATUS then d.deliveryWord
  else if a = PGS_ALLOC_PAGES then
    PGS_ALLOC_PAGES_WAIT.put (PGS_ALLOC_PAGES_HELD.put (d.reg a) d.dlv.pages.length) (b01 (d.paused || decide (4096 ≤ d.slotsUsed.length)))
  else if a = HIF_RING0_WSN_LO ∨ a = HIF_RING0_WSN_HI then half d.ring0Wsn (a == HIF_RING0_WSN_HI)
  else if a = LDG_NMI then LDG_NMI_ASSERTED.put (d.reg a) (b01 ((d.reg a &&& 0x1F) != 0))
  else if a = LDG_JNL_HEAD then BitVec.ofNat 32 (d.ledger.nextNo + 2 ^ 32 - 1)
  else if 0x10091000 ≤ a ∧ a < 0x10091800 then wordOf ((List.range 4).map (fun k => d.journalByte (a - 0x10091000 + k)))
  else if a = KRB_STATUS then KRB_STATUS_SAFE.put (d.reg a) (b01 (d.st == .safe))
  else if a = KRB_ENABLES then d.enablesWord
  else if ARC_JOB_D 0 ≤ a ∧ a ≤ ARC_JOB_D 7 then 0
  else if ALYS_SRC_LO 0 ≤ a ∧ a < ALYS_SRC_LO 11 then d.channelWord ((a - ALYS_SRC_LO 0) / 0x40) ((a - ALYS_SRC_LO 0) % 0x40)
  else d.reg a

/-- A word of the read-only tables of the beam output (R298, R309, R318): masks, code table, emitter records. -/
def Device.beamTable (d : Device) (o : Nat) : Option Word :=
  if 0xD2000 ≤ o ∧ o < 0xD3000 then
    let r := (o - 0xD2000) % 0x200
    some (BitVec.ofNat 32 (bytesAt (d.entry 0x07 ((o - 0xD2000) / 0x200) (r / 64)) (r % 64) 4))
  else if 0xD3000 ≤ o ∧ o < 0xD3200 then
    some (BitVec.ofNat 32 (bytesAt (d.entry 0x07 ((o - 0xD3000) / 0x40) 8) ((o - 0xD3000) % 0x40) 4))
  else if 0xD4000 ≤ o ∧ o < 0xD5000 then
    some (BitVec.ofNat 32 (d.emitterRecord ((o - 0xD4000) / 0x200) ((o - 0xD4000) % 0x200 / 4)))
  else none

/-- A register of a Quarter as it reads, at its offset. -/
def Device.viewQuarter (d : Device) (q : Side) (o : Nat) : Word :=
  let a := q.base + o
  if a = QTR_ROLE q then d.roleWord q
  else if a = QTR_CHK_STATUS q then QTR_CHK_STATUS_PENDING.put (d.reg a) (d.checksPending q)
  else if a = QTR_MIRROR q then QTR_MIRROR_AGE.put (d.reg a) (d.mirrorAge q)
  else if a = QTR_HANDOVER_AGE q then BitVec.ofNat 32 (min 65535 ((d.now - d.tokenAt) / (3600000 * tuPerMs)))
  else if a = TML_STATUS q then
    TML_STATUS_CLEAROUT.put (TML_STATUS_INSTANCES.put (d.reg a) d.openInsts.length) (b01 d.clearingOut)
  else if a = TML_POS_LO q ∨ a = TML_POS_HI q then half (ofSigned 64 (d.position q d.pitchSrc)) (a == TML_POS_HI q)
  else if a = ENW_INSP_STATUS q then ENW_INSP_STATUS_ROUTED.put (d.reg a) (b01 (d.inspRouted == q))
  else (d.beamTable o).getD (d.reg a)

/-- The Quarter that an address of the two aliases belongs to, with its offset (R43). -/
def aliasOf (a : Nat) : Option (Side × Nat) :=
  if 0x01000000 ≤ a ∧ a < 0x01100000 then some (.north, a - 0x01000000)
  else if 0x02000000 ≤ a ∧ a < 0x02100000 then some (.south, a - 0x02000000)
  else none

/-- What the register at an address of the 32-bit map reads as. -/
def Device.viewWord (d : Device) (f : Fuses) (a : Nat) : Word :=
  match aliasOf a with
  | some x => d.viewQuarter x.1 x.2
  | none => d.viewShared f a

/-! 64-bit values (R16). -/

/-- Lower words of the shared 64-bit registers. -/
def sharedLows : List Nat :=
  [CFG_UPD_SRC_LO, PGS_LAST_DLV_LO, PGS_HORIZON_LO, PGS_REPRINT_LO, HIF_RING0_WSN_LO, HIF_EVT_BASE_LO, RDB_ECC_ADDR_LO,
    THM_SENSOR_FAIL_LO, KRB_GPIO_MASK_LO, KRB_GPIO_LEVEL_LO, KRB_TIME_LO] ++
  (List.range 3).flatMap (fun r => [HIF_RING_BASE_LO r, HIF_RING_WB_LO r]) ++
  (List.range 16).flatMap (fun c => [ALYS_SRC_LO c, ALYS_DST_LO c]) ++
  (List.range 8).flatMap (fun s => [CNS_UNIT_LO s, CNS_BANDS_LO s])

/-- Whether the register at an address is the lower word of a 64-bit value. -/
def isLow (a : Nat) : Bool :=
  match aliasOf a with
  | some (q, _) => a == QTR_YIELD_TIME_LO q || a == TML_POS_LO q || (List.range 16).any (fun c => a == ALYQ_SRC_LO q c || a == ALYQ_DST_LO q c)
  | none => sharedLows.contains a

/-- A read of a register: of a lower word it latches the upper word; the next read of an upper word gives what was latched (R16). -/
def Device.readReg (d : Device) (f : Fuses) (a : Nat) : Device :=
  if isLow a then
    (d.withHiLatch (sput (fun _ => none) d.hiLatch a (some (d.viewWord f (a + 4))))).answer .ok (d.viewWord f a)
  else
    match sget (fun _ => none) d.hiLatch (a - 4) with
    | some v => (d.withHiLatch (sput (fun _ => none) d.hiLatch (a - 4) none)).answer .ok v
    | none => d.answer .ok (d.viewWord f a)

end Sys2Proof.Machine
end

