-- ==== Sys2Proof/Machine/Writes.lean ====
section
/-! DEFINITION. What a whole-word write of a register does (R12, R16, R82), with the command that each control and command register
carries, and read-modify-writes (R634). -/

namespace Sys2Proof.Machine

/-- Whether the RWL registers are locked (R82). -/
def Device.locked (d : Device) : Bool := d.flag CFG_STATUS CFG_STATUS_LOCKED

/-- ORIGIN of a write's ledger events: the Quarter whose register it is, or the shared core. -/
def originOf (a : Nat) : Nat :=
  match aliasOf a with
  | some x => x.1.code
  | none => shared

/-- The word that a register of a row holds after a write: RW and unlocked RWL bits take the value, ones clear W1C bits, every other bit
stays (R12). -/
def RegRow.written (r : RegRow) (locked : Bool) (old v : Word) : Word :=
  let m := if locked then r.rw else r.rw ||| r.rwl
  ((old &&& ~~~ m) ||| (v &&& m)) &&& ~~~ (v &&& r.w1c)

/-- A write by the access codes alone. A locked RWL field whose bits the write would change sets LOCKED_WRITE (R82). An offset of a
block without a register ignores it. -/
def Device.writePlain (d : Device) (a : Nat) (v : Word) : Device :=
  match regRow a with
  | none => d
  | some r =>
    let old := d.reg a
    let d' := d.setReg a (r.written d.locked old v)
    if d.locked ∧ (v ^^^ old) &&& r.rwl ≠ 0 then d'.ledgerEvent lbLockedWrite (originOf a) a 0 else d'

/-- A write of a control register: its fields but ENABLE take the value; then ENABLE acts where the write changes it. -/
def Device.writeCtrl (d : Device) (a : Nat) (v : Word) (on off : Device → Device) : Device :=
  let was := d.reg a &&& 0x80000000
  let d := d.writePlain a ((v &&& 0x7FFFFFFF) ||| was)
  if (v &&& 0x80000000) = was then d else if was = 0 then on d else off d

/-- A DMA channel's register at an offset (R158): the device's own channels take no write. -/
def Device.writeChannel (d : Device) (e : Engine) (c o : Nat) (v : Word) : Device :=
  let a := aly e c + o
  if deviceChannel e c then d
  else if o = alyCtrl then
    if v.getLsbD 31 then d.dmaOn e c v
    else (d.writePlain a (v ||| (d.reg a &&& 0x80000000))).dmaOff e c
  else if o = alyCount then (d.writePlain a v).setChan e c { d.chan e c with checked := false }
  else d.writePlain a v

/-- A write of REG registers, by quarter offset. -/
def Device.writeRegulator (d : Device) (q : Side) (o : Nat) (v : Word) : Device :=
  let a := q.base + o
  if a = REG_CTRL q then d.writeCtrl a v (fun d => d.regulatorOn q) (fun d => d.regulatorOff q)
  else if 0x50000 ≤ o ∧ o < 0x60000 then
    if o % 0x80 < 0x60 then d.coefWrite q ((o - 0x50000) / 0x80) (o % 0x80 / 0x10) (o % 0x10 / 4) v else d
  else if 0x41000 ≤ o ∧ o < 0x49000 then
    let n := (o - 0x41000) / 0x40
    match o % 0x40 with
    | 0x00 => d.writeCtrl a v (fun d => d.slotOn q n) (fun d => d.slotOff q n)
    | 0x14 =>
      match REG_SLOT_CMD_OP.get v with
      | 1 => d.slotResume q n
      | 2 => d.slotFallback q n 4
      | _ => d
    | _ => d.writePlain a v
  else d.writePlain a v

/-- A write of MOT registers. -/
def Device.writeMotor (d : Device) (q : Side) (o : Nat) (v : Word) : Device :=
  let a := q.base + o
  if a = MOT_CTRL q then d.writeCtrl a v (fun d => d.motorsOn q) (fun d => d.motorsOff q)
  else if a = MOT_CMD q then (if MOT_CMD_OP.get v = 1 then d.clearChop else d)
  else if 0x81000 ≤ o ∧ o < 0x81200 ∧ o % 0x40 = 0 then
    let p := (o - 0x81000) / 0x40
    d.writeCtrl a v (fun d => d.polyOn q p) (fun d => d.polyOff q p)
  else if 0x82000 ≤ o ∧ o < 0x82100 ∧ o % 0x40 = 0 then
    let n := (o - 0x82000) / 0x40
    d.writeCtrl a v (fun d => d.pmsmOn q n) (fun d => d.pmsmOff q n)
  else d.writePlain a v

/-- A write of AXS registers. -/
def Device.writeAxes (d : Device) (q : Side) (o : Nat) (v : Word) : Device :=
  let a := q.base + o
  if a = AXS_CTRL q then d.writeCtrl a v (fun d => d.driveOn q) (fun d => d.driveOff q)
  else if 0xA1000 ≤ o ∧ o < 0xA2000 then
    let n := (o - 0xA1000) / 0x80
    match o % 0x80 with
    | 0x04 => d.axisControl q n v
    | 0x08 => d.axisMove q n v.toInt (d.fld (AXS_ACTL q n) AXS_ACTL_PROFILE)
    | 0x38 =>
      match AXS_CMD_OP.get v with
      | 1 => d.axisHome q n
      | 2 => d.axisStop q n
      | 3 => d.axisClear q n
      | _ => d
    | _ => d.writePlain a v
  else d.writePlain a v

/-- A write of BMO registers; a spare map is checked and waits for the next sheet, but for the image's, which takes effect at once
(R305). -/
def Device.writeBeam (d : Device) (q : Side) (o wsn : Nat) (v : Word) : Device :=
  let a := q.base + o
  let s := (o - 0xD0000) / 0x100
  if o < 0xD0800 ∧ o % 0x100 = 0 then d.writeCtrl a v (fun d => d.stationOn q s) (fun d => d.stationOff q s)
  else if o < 0xD0800 ∧ (o % 0x100 = 0x28 ∨ o % 0x100 = 0x2C) then
    let d' := d.mapWrite s ((o % 0x100 - 0x28) / 4) v wsn
    if d.st = .booting then d'.takeMaps s 0 else d'
  else d.writePlain a v

/-- A write of ENW registers. -/
def Device.writeEnwell (d : Device) (q : Side) (o : Nat) (v : Word) : Device :=
  let a := q.base + o
  let s := (o - 0xE0000) / 0x100
  if o < 0xE0800 ∧ o % 0x100 = 0 then
    let d := d.writeCtrl a v (fun d => d.portOn q s) (fun d => d.portOff q s)
    if ENW_CTRL_RETRAIN.get v = 1 then d.portRetrain q s else d
  else if a = ENW_INSP_CTRL q then
    d.writeCtrl a v (fun d => d.setFlag a ENW_INSP_CTRL_ENABLE true) (fun d => d.inspPortOff q)
  else d.writePlain a v

/-- A write of a Quarter's register at an offset; `wsn` is the page that a spare map is bound to, 0 for none. -/
def Device.writeQuarter (d : Device) (q : Side) (o wsn : Nat) (v : Word) : Device :=
  let a := q.base + o
  match o / 0x10000 with
  | 0x0 => if a = QTR_CMD q then (if QTR_CMD_OP.get v = 1 then d.retest q else d) else d.writePlain a v
  | 0x1 =>
    if a = TML_CTRL q then d.writeCtrl a v (fun d => d.setFlag a TML_CTRL_ENABLE true) (fun d => d.timelineOff q)
    else if a = TML_CMD q then
      match TML_CMD_OP.get v with
      | 1 => d.startClearout
      | 2 => d.ackClear
      | _ => d
    else d.writePlain a v
  | 0x2 =>
    if a = SUP_CTRL q then d.writeCtrl a v (fun d => d.setFlag a SUP_CTRL_ENABLE true) (fun d => d.supervisorOff q) else d.writePlain a v
  | 0x4 => d.writeRegulator q o v
  | 0x5 => d.writeRegulator q o v
  | 0x8 => d.writeMotor q o v
  | 0xA => d.writeAxes q o v
  | 0xC =>
    if o < 0xC0800 ∧ o % 0x100 = 0 then
      d.writeCtrl a v (fun d => d.synthOn q ((o - 0xC0000) / 0x100)) (fun d => d.synthOff q ((o - 0xC0000) / 0x100))
    else d.writePlain a v
  | 0xD => d.writeBeam q o wsn v
  | 0xE => d.writeEnwell q o v
  | 0xF => if o < 0xF0400 then d.writeChannel (.quarter q) ((o - 0xF0000) / 0x40) (o % 0x40) v else d
  | _ => d.writePlain a v

/-- A write of CFG_UPD_CMD; PROGRAM and VERIFY read the host buffer at CFG_UPD_SRC. -/
def Device.writeUpdCmd (d : Device) (v : Word) : Device :=
  let op := CFG_UPD_CMD_OP.get v
  let c := if CFG_UPD_CMD_COPY.get v = 1 then Copy.b else Copy.a
  if op = 5 then d.updateAbort
  else if op = uoProgram ∨ op = uoVerify then
    d.updateIssue op c (if d.nat CFG_UPD_LEN ≤ d.copyMax then d.bytes (d.nat64 CFG_UPD_SRC_LO) (d.nat CFG_UPD_LEN) else [])
  else if op = uoErase ∨ op = uoValidate then d.updateIssue op c []
  else d

/-- A write of a CLK_MUX register: RETURN_EN and the W1C bits, then the forced or the glitch-free switch (R526 to R528). -/
def Device.writeMux (d : Device) (n : Nat) (v : Word) : Device :=
  let a := CLK_MUX n
  let d := d.writePlain a ((v &&& ~~~ 1) ||| (d.reg a &&& 1))
  let sel := CLK_MUX_SEL.get v == 1
  if CLK_MUX_FORCE.get v = 1 then d.muxForce n sel
  else if sel = (CLK_MUX_SEL.get (d.reg a) == 1) then d
  else d.muxSelect n sel

/-- A write of CLK_GATE: ones ask gates to close, zeros open them (R530). -/
def Device.writeGates (d : Device) (v : Word) : Device :=
  d.each [2, 3, 4, 5] (fun g d =>
    let was := natBit (d.fld CLK_GATE CLK_GATE_CLOSE) (g - 2)
    if v.getLsbD g then (if was then d else d.gateClose g)
    else
      let d := d.setFld CLK_GATE CLK_GATE_CLOSE (setNatBit (d.fld CLK_GATE CLK_GATE_CLOSE) (g - 2) false)
      if g = 4 ∧ d.flag RDB_STATUS RDB_STATUS_SR then d else d.gateOpen g)

/-- A write of ARC registers. -/
def Device.writeArcade (d : Device) (a : Nat) (v : Word) : Device :=
  if a = ARC_CTRL then d.arcCtrl v
  else if a = ARC_JOB_D 7 then d.jobEnqueue v
  else if ARC_JOB_D 0 ≤ a ∧ a < ARC_JOB_D 7 then d.setReg a v
  else if a = ARC_JOB_CMD then
    match ARC_JOB_CMD_OP.get v with
    | 1 => d.jobFlush
    | 2 => d.jobAbort
    | 3 => d.jobAbortAll
    | _ => d
  else d.writePlain a v

/-- A write of HIF registers. -/
def Device.writeRings (d : Device) (a : Nat) (v : Word) : Device :=
  let r := (a - 0x10070100) / 0x40
  if 0x10070100 ≤ a ∧ r < 3 ∧ (a - 0x10070100) % 0x40 = 0x08 then d.ringCfg r v
  else if 0x10070100 ≤ a ∧ r < 3 ∧ (a - 0x10070100) % 0x40 = 0x20 then d.ringCmd r (HIF_RING_CMD_OP.get v)
  else if a = HIF_EVT_CFG then d.evtCfg v
  else d.writePlain a v

/-- A write of a shared register. -/
def Device.writeShared (d : Device) (a : Nat) (v : Word) : Device :=
  match a / 0x10000 - 0x1000 with
  | 0x1 => if a = CFG_UPD_CMD then d.writeUpdCmd v else d.writePlain a v
  | 0x2 =>
    if CLK_MUX 0 ≤ a ∧ a ≤ CLK_MUX 5 then d.writeMux ((a - CLK_MUX 0) / 4) v
    else if a = CLK_GATE then d.writeGates v
    else if a = CLK_STATUS then (if CLK_STATUS_NMI.get v = 1 then d.nmiClear 1 else d)
    else d.writePlain a v
  | 0x3 =>
    if a = PWR_CMD then
      match PWR_CMD_OP.get v with
      | 1 => d.park
      | 2 => d.parkRetain
      | _ => d
    else if a = PWR_MGN_CTRL then d.marginRequest v false
    else d.writePlain a v
  | 0x4 => d.writeArcade a v
  | 0x5 =>
    if a = RDB_SR_CTRL then
      let d := d.writePlain a v
      match RDB_SR_CTRL_OP.get v with
      | 1 => d.srEnter
      | 2 => d.srExit
      | _ => d
    else d.writePlain a v
  | 0x6 => if a = PGS_COMMIT_CLR then d.commitClear (PGS_COMMIT_CLR_KEY.get v) else d.writePlain a v
  | 0x7 => d.writeRings a v
  | 0x8 =>
    if a = THM_STATUS then (if THM_STATUS_STOPPED.get v = 1 then d.stoppedClear else d) else d.writePlain a v
  | 0x9 =>
    if a = LDG_NMI then d.nmiClear v
    else if a = LDG_CLEAR then (if LDG_CLEAR_KEY.get v = 0xC1EA then d.ledgerClear else d)
    else d.writePlain a v
  | 0xB => if a < 0x100B0400 then d.writeChannel .shared ((a - 0x100B0000) / 0x40) (a % 0x40) v else d
  | 0xD =>
    if a = KRB_CMD then
      match KRB_CMD_OP.get v with
      | 1 => d.estop
      | 2 => d.krbClear (KRB_CMD_KEY.get v)
      | _ => d
    else d.writePlain a v
  | _ => d.writePlain a v

/-- A write acts on the register at an address of the 32-bit map. -/
def Device.writeNow (d : Device) (a wsn : Nat) (v : Word) : Device :=
  match aliasOf a with
  | some x => d.writeQuarter x.1 x.2 wsn v
  | none => d.writeShared a v

/-- A whole-word write. That of a lower word waits for its upper word, with which it takes effect (R16). -/
def Device.writeReg (d : Device) (a wsn : Nat) (v : Word) : Device :=
  if isLow a then d.withLoHold (sput (fun _ => none) d.loHold a (some v))
  else
    match sget (fun _ => none) d.loHold (a - 4) with
    | some lo => ((d.withLoHold (sput (fun _ => none) d.loHold (a - 4) none)).writeNow (a - 4) wsn lo).writeNow a wsn v
    | none => d.writeNow a wsn v

/-- The word that a read-modify-write writes back (R634): the masked bits as given, every W1C and WO bit outside them 0, every other bit
as read. WO bits read 0. -/
def rmwWord (r : RegRow) (read mask v : Word) : Word := (read &&& ~~~ mask &&& ~~~ r.w1c) ||| (v &&& mask)

/-- A read-modify-write of one register. -/
def Device.rmw (d : Device) (f : Fuses) (a wsn : Nat) (mask v : Word) : Device :=
  match regRow a with
  | none => d
  | some r => d.writeReg a wsn (rmwWord r (d.viewWord f a) mask v)

/-- Whether a quarter offset is that of a spare map, which is written once for both Quarters. -/
def isMap (o : Nat) : Bool := decide (0xD0000 ≤ o) && decide (o < 0xD0800) && (o % 0x100 == 0x28 || o % 0x100 == 0x2C)

/-- A read-modify-write of a register that the image or a parameter slot names: in the quarter range through both aliases, North first
(R80, R148). -/
def Device.rmwBoth (d : Device) (f : Fuses) (a wsn : Nat) (mask v : Word) : Device :=
  if a < 0x100000 then
    let d := d.rmw f (0x01000000 + a) wsn mask v
    if isMap a then d else d.rmw f (0x02000000 + a) wsn mask v
  else d.rmw f a wsn mask v

end Sys2Proof.Machine
end

