-- ==== Sys2Proof/Machine/Access.lean ====
section
/-! DEFINITION. Accesses of registers and of on-chip memory (R12 to R17, R37 to R39, R43 to R49): who reaches what, and how an access that
reaches nothing ends. -/

namespace Sys2Proof.Machine

/-- Where an access leads. -/
inductive Place where
  | reg (a : Nat)
  | ram (a : Nat)
  | window (a : Nat)
  | noBase
  | foreign
  | deviceOnly
  | fenced
  | nothing
  deriving DecidableEq, Repr

/-- Whether a shared block or a Quarter's alias holds the address (R42 to R44). -/
def blockHolds (a : Nat) : Bool := (decide (0x10000000 ≤ a) && decide (a < 0x100E0000)) || (aliasOf a).isSome

/-- On-chip SRAM (R36). -/
def inSram (a : Nat) : Bool := decide (0x20000000 ≤ a) && decide (a < 0x21800000)

/-- SRAM that only the device's own engines reach: elastic FIFOs, history windows, the codec's other working storage, the allocator's
tables, Regulator state (R39, R187, R207). -/
def sramDeviceOnly (a : Nat) : Bool :=
  (decide (0x20000000 ≤ a) && decide (a < 0x20C00000)) || (decide (0x21600000 ≤ a) && decide (a < 0x21800000))

/-- The doorbell windows, MSI-X table and pending bits that the host sees (R46, R130, R157). -/
def hostWindow (a : Nat) : Bool :=
  a == 0x03000000 || a == 0x03001000 || a == 0x03002000 || a == 0x03003000 || (decide (0x03F00000 ≤ a) && decide (a < 0x03F00400)) ||
    a == 0x03F08000 || a == 0x03F08004

/-- Whether the domain of an address is off, or is being powered down, in a device past boot step 2 (R541). The codec's registers stay. -/
def Device.fenced (d : Device) (a : Nat) : Bool :=
  decide (2 ≤ d.fld CFG_STATUS CFG_STATUS_STEP) &&
    (match d.addrDomain a with
     | some n =>
       n != 5 && (natBit (d.fld PWR_DOM_STATUS PWR_DOM_STATUS_BUSY) n || !natBit (d.fld PWR_DOM_STATUS PWR_DOM_STATUS_ON) n)
     | none => false)

/-- The Quarter whose local memory or Regulator state holds an address (R36, R38). -/
def localOf (a : Nat) : Option Side :=
  if (0x21000000 ≤ a ∧ a < 0x21300000) ∨ (0x21700000 ≤ a ∧ a < 0x21780000) then some .north
  else if (0x21300000 ≤ a ∧ a < 0x21600000) ∨ (0x21780000 ≤ a ∧ a < 0x21800000) then some .south
  else none

/-- Whether an address is in the local memory of the Quarter opposite to a master: none of its channels leads there (R23). -/
def foreignLocal (m : Master) (a : Nat) : Bool :=
  match m with
  | .quarter q => localOf a == some q.other
  | _ => false

/-- Whether an address is in the quarter base of a shared-core master (R47). -/
def quarterBase (m : Master) (a : Nat) : Bool :=
  match m with
  | .quarter _ => false
  | _ => decide (a < 0x100000)

/-- Where an access of a master leads (R23, R39, R43, R46, R47, R49). -/
def Device.reach (d : Device) (m : Master) (addr : Nat) : Place :=
  let a := ownView m addr
  let isHost := m == .host
  if quarterBase m addr then .noBase
  else if blockHolds a then (if d.fenced a then .fenced else .reg (a - a % 4))
  else if isHost && hostWindow a then .window a
  else if inSram a then
    (if sramDeviceOnly a then .deviceOnly else if isHost then .nothing else if foreignLocal m a then .foreign
     else if d.fenced a then .fenced else .ram a)
  else .nothing

/-- ORIGIN of a master's ledger events. -/
def masterOrigin : Master → Nat
  | .quarter q => q.code
  | _ => shared

/-- An access that nothing occupies (R49): the host's ends well and reads 0, a device-internal one with ERR_DECODE; both set
DECODE_MISS. -/
def Device.miss (d : Device) (m : Master) (addr : Nat) : Device :=
  (d.ledgerEvent lbDecodeMiss (masterOrigin m) (addr % 2 ^ 32) (addr / 2 ^ 32)).reply (if m = .host then .ok else .errDecode)

/-- A byte of on-chip SRAM as it reads: the fault journal stands at the start of the device area (R597). -/
def Device.sramByte (d : Device) (a : Nat) : Byte :=
  if 0x20C00000 ≤ a ∧ a < 0x20C00800 then d.journalByte (a - 0x20C00000) else d.byte a

/-- A word of the host's windows as it reads: doorbells 0, the MSI-X table, pending bits (R157). -/
def Device.windowWord (d : Device) (a : Nat) : Word :=
  if 0x03F00000 ≤ a ∧ a < 0x03F00400 then sget msixDefault d.host.msix ((a - 0x03F00000) / 4)
  else if a = 0x03F08000 ∨ a = 0x03F08004 then
    BitVec.ofNat 32 ((List.range 32).foldl (fun m k => setNatBit m k (sget (fun _ => false) d.host.pba ((a - 0x03F08000) * 8 + k))) 0)
  else 0

/-- A word of the MSI-X table is written; unmasking a vector sends the interrupt that is pending. -/
def Device.writeMsix (d : Device) (i : Nat) (v : Word) : Device :=
  let d := d.modHost (fun v' => { v' with msix := sput msixDefault v'.msix i v })
  if i % 4 = 3 ∧ !v.getLsbD 0 ∧ sget (fun _ => false) d.host.pba (i / 4) then
    (d.modHost (fun v => { v with pba := sput (fun _ => false) v.pba (i / 4) false })).sendIrq (i / 4)
  else d

/-- A write of the host's windows: doorbells and the MSI-X table (R130, R131, R633). -/
def Device.writeWindow (d : Device) (a : Nat) (v : Word) : Device :=
  if a = 0x03000000 then d.doorbell 0 v.toNat
  else if a = 0x03001000 then d.doorbell 1 v.toNat
  else if a = 0x03002000 then d.doorbell 2 v.toNat
  else if a = 0x03003000 then d.evtDoorbell v.toNat
  else if a < 0x03F00400 then d.writeMsix ((a - 0x03F00000) / 4) v
  else d

/-- A read of a whole aligned word by a master. -/
def Device.readAny (d : Device) (f : Fuses) (m : Master) (addr : Nat) : Device :=
  match d.reach m addr with
  | .reg a => d.readReg f a
  | .ram a => d.answer .ok (wordOf ((List.range 4).map (fun k => d.sramByte (a + k))))
  | .window a => d.answer .ok (d.windowWord a)
  | .noBase => d.reply .errDecode
  | .foreign => d.reply .errDecode
  | .deviceOnly => d.reply .errDecode
  | .fenced => d.reply .errDomainOff
  | .nothing => d.miss m addr

/-- A whole-word write by a master to an address that is not a Quarter's alias the master may only read. -/
def Device.writePlace (d : Device) (m : Master) (addr : Nat) (v : Word) : Device :=
  match d.reach m addr with
  | .reg a => (d.reply .ok).writeReg a 0 v
  | .ram a => (d.reply .ok).setBytes a (leBytes 4 v.toNat)
  | .window a => (d.reply .ok).writeWindow a v
  | .noBase => d.reply .errDecode
  | .foreign => d.reply .errDecode
  | .deviceOnly => d.reply .errDecode
  | .fenced => d.reply .errDomainOff
  | .nothing => d.miss m addr

/-- A Quarter's write to the other Quarter's alias (R48) or local memory (R23). -/
def Device.crossWrite (d : Device) (q : Side) (addr : Nat) : Device := (d.ledgerEvent lbCrossWrite q.code addr 0).reply .errXq

/-- Whether a write of a master would cross to the other Quarter (R23, R48). -/
def crossing (m : Master) (a : Nat) : Bool :=
  foreignLocal m a || (match m, aliasOf a with
    | .quarter q, some x => x.1 != q
    | _, _ => false)

/-- Whether an address is in a Quarter view of BAR0 (R46). -/
def quarterView (a : Nat) : Bool := decide (0x01000000 ≤ a) && decide (a < 0x03000000)

/-- A whole-word write by a master: the host's to a Quarter view is discarded (R17), a Quarter's to the other Quarter ends with ERR_XQ (R23,
R48). -/
def Device.writeAny (d : Device) (m : Master) (addr : Nat) (v : Word) : Device :=
  match m with
  | .host => if quarterView addr then d.reply .ok else d.writePlace .host addr v
  | .quarter q => if crossing m addr then d.crossWrite q addr else d.writePlace m addr v
  | _ => d.writePlace m addr v

/-- Read `n` aligned words from `a` on, as the register map answers a master (R14, R15): their bytes, and the first answer that is an
error. -/
def Device.readWords (d : Device) (f : Fuses) (m : Master) (a : Nat) : Nat → List Byte × Resp × Device
  | 0 => ([], .ok, d)
  | n + 1 =>
    let d := d.readAny f m a
    let x := d.readWords f m (a + 4) n
    (leBytes 4 d.data.toNat ++ x.1, if d.resp = .ok then x.2.1 else d.resp, x.2.2)

/-- A read of `len` bytes from an address: a whole aligned word, or exactly the bytes it addresses of the words it touches, each read as
that word is (R14 to R16). -/
def Device.readSpan (d : Device) (f : Fuses) (m : Master) (addr len : Nat) : Device :=
  if len = 4 ∧ addr % 4 = 0 then
    let d := d.readAny f m addr
    d.withRdata (leBytes 4 d.data.toNat)
  else
    let x := d.readWords f m (addr - addr % 4) ((addr % 4 + len + 3) / 4)
    let b := (x.1.drop (addr % 4)).take len
    (x.2.2.answer x.2.1 (wordOf b)).withRdata b

/-- A write that is not one whole aligned word: BAD_WIDTH once, and nothing else, wherever it is addressed (R15). -/
def Device.narrow (d : Device) (m : Master) (addr len : Nat) : Device :=
  if len = 4 ∧ addr % 4 = 0 then d.reply .ok else (d.ledgerEvent lbBadWidth (masterOrigin m) (addr % 2 ^ 32) 0).reply .ok

/-- An access of an address where it reaches nothing; one that reaches a register or memory is another command's. -/
def Device.deadAccess (d : Device) (m : Master) (addr : Nat) : Device :=
  match d.reach m addr with
  | .noBase => d.reply .errDecode
  | .foreign => d.reply .errDecode
  | .deviceOnly => d.reply .errDecode
  | .fenced => d.reply .errDomainOff
  | .nothing => d.miss m addr
  | _ => d.reply .ok

/-- NARROW_WRITE (R15). -/
def execNarrowWrite (t : Nat) (m : Master) (addr len : Nat) (s : State) : Result := s.run t fun d => d.narrow m addr len

/-- LOW_WORD_READ (R16), and a read of any other width and address (R15). -/
def execLowWordRead (t : Nat) (m : Master) (addr len : Nat) (s : State) : Result := s.runF t fun f d => d.readSpan f m addr len

/-- REGISTER_WRITE (R12). -/
def execRegisterWrite (t : Nat) (m : Master) (addr : Nat) (value : Word) (s : State) : Result :=
  s.run t fun d => d.writeAny m addr value

/-- QUARTER_VIEW_HOST_WRITE (R17). -/
def execQuarterViewHostWrite (t addr : Nat) (value : Word) (s : State) : Result := s.run t fun d => d.writeAny .host addr value

/-- CROSS_WRITE (R48). -/
def execCrossWrite (t : Nat) (q : Side) (addr : Nat) (value : Word) (s : State) : Result :=
  s.run t fun d => d.writeAny (.quarter q) addr value

/-- QUARTER_BASE_SHARED_ACCESS (R47). -/
def execQuarterBaseSharedAccess (t : Nat) (m : Master) (addr : Nat) (_write : Bool) (s : State) : Result :=
  s.run t fun d => d.deadAccess m addr

/-- DECODE_MISS (R49); a host write to a Quarter view is discarded before (R17). -/
def execDecodeMiss (t : Nat) (m : Master) (addr : Nat) (write : Bool) (s : State) : Result :=
  s.run t fun d => if write ∧ m = .host ∧ quarterView addr then d.reply .ok else d.deadAccess m addr

/-- DEVICE_ONLY_ACCESS (R39). -/
def execDeviceOnlyAccess (t : Nat) (m : Master) (addr : Nat) (_write : Bool) (s : State) : Result :=
  s.run t fun d => d.deadAccess m addr

/-- The state of compressor `c` is lost: its chain's page, or the general job that it runs, ends with INTERNAL (R228). -/
def Device.compressorUe (d : Device) (c : Nat) : Device :=
  if (d.arcChain c).isSome then d.chainFail c jeInternal
  else
    match d.arc.run with
    | some r => if r.unit = c then d.jobEnd r.job 3 jeInternal 0 else d
    | none => d

/-- The oldest inspection image fails. -/
def Device.oldestImageFail (d : Device) (code : Nat) : Device :=
  match d.arc.imgs with
  | x :: _ => d.imageFail x code
  | [] => d

/-- The codec's work of which an address's SRAM is the state (R207) ends with INTERNAL (R228, R245): that of its compressor, an inspection
image, or a VERIFY job. -/
def Device.codecUe (d : Device) (a : Nat) : Device :=
  if 0x20700000 ≤ a ∧ a < 0x207C0000 then d.compressorUe ((a - 0x20700000) / 0x30000)
  else if 0x207C0000 ≤ a ∧ a < 0x209C0000 then d.oldestImageFail jeInternal
  else if 0x209C0000 ≤ a ∧ a < 0x20A00000 then
    match d.arc.run with
    | some r => if r.unit < 4 then d.oldestImageFail jeInternal else d.jobEnd r.job 3 jeInternal 0
    | none => d.oldestImageFail jeInternal
  else if 0x20A00000 ≤ a ∧ a < 0x20C00000 then d.oldestImageFail jeInternal
  else d

/-- A dual-rail code violation (R25): in the shared core its transfer ends with ERR_FABRIC; inside a Quarter it is check 0, hard in the
output path. Both set FABRIC_CODE (R593). -/
def execFabricCodeViolation (t : Nat) (place : FabricPlace) (s : State) : Result :=
  s.run t fun d =>
    match place with
    | .sharedCore => (d.ledgerEvent lbFabricCode shared 0 0).reply .errFabric
    | .compressor c => ((d.ledgerEvent lbFabricCode shared 0 0).compressorUe c).reply .errFabric
    | .inspection _ => ((d.ledgerEvent lbFabricCode shared 0 0).oldestImageFail jeInternal).reply .errFabric
    | .outputPath q => (d.ledgerEvent lbFabricCode q.code 0 0).checkEvent q ckFabric true
    | .quarterOther q => (d.ledgerEvent lbFabricCode q.code 0 0).checkEvent q ckFabric false

/-- An uncorrectable SRAM error (R37, R38): ERR_ECC, SRAM_UE, and what it ends. In the fault journal it drops the entry being
written (R598). -/
def Device.sramUe (d : Device) (a : Nat) : Device :=
  let d := if 0x20C00000 ≤ a ∧ a < 0x20C00800 then d.modLedger (fun v => { v with dropNext := true }) else d
  let origin := match localOf a with
    | some q => q.code
    | none => shared
  let d := ((d.ledgerEvent lbSramUe origin (a % 2 ^ 32) 0).codecUe a).reply .errEcc
  match localOf a with
  | some q => d.checkEvent q ckLocalUe false
  | none => d

/-- SRAM_ECC_ERROR (R37): a single-bit error is corrected and counted. -/
def execSramEccError (t addr : Nat) (double : Bool) (s : State) : Result :=
  s.run t fun d => if double then d.sramUe addr else (d.withSramCe (d.sramCe + 1)).reply .ok

end Sys2Proof.Machine
end

