-- ==== Sys2Proof/Machine/StoreView.lean ====
section
/-! DEFINITION. What stands in the page store (R171 to R188): the place of an offset, the bytes of page records, block tags, band
directories, the sheet journal and the check areas, which the allocator's own state gives, and the recovery check that reads them. -/

namespace Sys2Proof.Machine

/-! The reserved columns of a sub-channel row (R174). -/

/-- Check symbols of the 64 B data block at a physical offset, in eight bytes (R175). -/
def Device.checkBytes (d : Device) (p : Nat) : List Byte := leBytes 8 (Config.checkSymbols p (d.bytes (storeBase + p) 64)).toNat

/-- The physical offset of column `col` in the row and sub-channel that hold a physical offset. -/
def columnOffset (p col : Nat) : Nat := p / 16384 * 16384 + col / 2 * 1024 + p / 256 % 4 * 256 + col % 2 * 128 + p / 64 % 2 * 64

/-- The place of a physical offset in its row's reserved bytes: columns 28 to 31, in column order. -/
def reservedAt (p : Nat) : Nat := 64 * ((storePlace p).col - 28) + p % 64

/-! Records of the allocator. -/

/-- A page record (R184); STATE is 1 stored or 2 accepted. -/
def Page.record (p : Page) (state : Nat) : List Byte :=
  let f := p.first
  let head := fun s => if natBit f.stations s then (p.chains.getD s []).headD 0xFFFFFFFF else 0xFFFFFFFF
  withCrc (leBytes 8 f.wsn ++ leBytes 4 p.handle ++ leBytes 1 f.stations ++ leBytes 1 (4 * f.pace + 2 * b01 f.lpi1200 + b01 p.second.isSome) ++
    leBytes 2 f.speed ++ leBytes 4 f.dots ++ leBytes 2 f.bands ++ leBytes 1 f.template ++ leBytes 1 state ++
    (List.range 8).flatMap (fun s => leBytes 4 (head s)) ++ leBytes 4 p.blockCount)

/-- A band directory entry (R182). -/
def directoryEntry (x : BandRec × Nat) : List Byte :=
  let r := x.1
  withCrc (leBytes 8 x.2 ++ leBytes 1 r.format ++ leBytes 1 r.rawPass ++ leBytes 2 r.band ++ leBytes 1 r.station ++ leBytes 3 0 ++
    r.lens.flatMap (fun n => leBytes 4 n) ++ leBytes 12 0)

/-- The directory of a page's chain (R181). -/
def Page.directory (p : Page) (s : Nat) : List Byte := (p.chainBands s).flatMap directoryEntry

/-- A block tag (R183). -/
def tagBytes (handle kind station index wsn next used : Nat) : List Byte :=
  withCrc (leBytes 4 handle ++ leBytes 1 kind ++ leBytes 1 station ++ leBytes 2 index ++ leBytes 8 wsn ++ leBytes 4 next ++ leBytes 4 used ++
    leBytes 4 0)

/-- Every page that has blocks, with the STATE of its record: 2 held, 1 stored and not yet accepted, 0 in ingest (R185). -/
def Device.pagesStored (d : Device) : List (Page × Nat) :=
  d.dlv.pages.map (fun p => (p, 2)) ++ (d.host.ingest.filter IngestS.live).map (fun x => (x.page, if x.page.ready then 1 else 0))

/-- The chain that a block is in: its page, its station and its index there. -/
def Device.blockOwner (d : Device) (b : Nat) : Option (Page × Nat × Nat) :=
  ((d.pagesStored.flatMap (fun x => (List.range 8).map (fun s => (x.1, s)))).find? (fun x => (x.1.chains.getD x.2 []).contains b)).map
    (fun x => (x.1, x.2, (x.1.chains.getD x.2 []).idxOf b))

/-- The tag of a block (R183, R186): KIND is 0 for a free block of the page area. -/
def Device.blockTag (d : Device) (b : Nat) : List Byte :=
  match d.blockOwner b with
  | some (p, s, i) =>
    let chain := p.chains.getD s []
    tagBytes p.handle 1 s i p.first.wsn (chain.getD (i + 1) 0xFFFFFFFF) (min blockBytes (p.chainBytes s - blockBytes * i))
  | none =>
    let kind := match d.areaOf b with
      | .page => 0
      | .inspection => 2
      | .general => 3
      | .system => 4
    tagBytes 0 kind 0xFF 0 0 0xFFFFFFFF 0

/-- The record of slot `i` (R184); zero where it is free (R186). -/
def Device.recordSlot (d : Device) (i : Nat) : List Byte :=
  match d.pagesStored.find? (fun x => x.1.handle % 4096 == i && x.1.handle != 0 && x.2 != 0) with
  | some x => x.1.record x.2
  | none => List.replicate 64 0

/-- Entry `i` of the sheet journal's ring (R101, R102); zero where none has been written. -/
def Device.journalSlot (d : Device) (i : Nat) : List Byte :=
  match d.dlv.journal.find? (fun e => e.no % sheetJournalSize == i) with
  | some e => e.bytes
  | none => List.replicate 32 0

/-- The byte at a physical offset of the page store (R171 to R185). Rows that only training writes hold free values. -/
def Device.storeByte (d : Device) (p : Nat) : Byte :=
  let b := p / 2 ^ 20
  let a := addressable p
  if inCheckArea p then
    let r := reservedAt p
    if r < 224 then (d.checkBytes (columnOffset p (r / 8))).getD (r % 8) 0
    else if p % 2 ^ 20 < 16384 ∧ p / 64 % 2 = 0 ∧ p / 256 % 4 = 0 then (d.blockTag b).getD (r - 224) 0
    else 0
  else if b = 2 ∨ d.rank1Block = some b then Config.freeByte d.ps.trainings (storeBase + p)
  else if a < 0x100000 then (d.journalSlot (a / 32)).getD (a % 32) 0
  else if a < 0x140000 then (d.recordSlot ((a - 0x100000) / 64)).getD (a % 64) 0
  else
    match d.blockOwner b with
    | some (q, s, i) =>
      let c := blockBytes * i + (a - blockBytes * b)
      if c < q.dirBytes then (q.directory s).getD c 0 else d.byte (storeBase + p)
    | none => d.byte (storeBase + p)

/-- `n` bytes from an addressable offset. -/
def Device.storeBytes (d : Device) (a n : Nat) : List Byte := (List.range n).map (fun i => d.storeByte (physical (a + i)))

/-! The recovery check (R188). -/

/-- The physical offset of a block's tag. -/
def tagOffset (b : Nat) : Nat := 2 ^ 20 * b + 0x3CA0

/-- The tag of a block, as it stands in the store. -/
def Device.tagOf (d : Device) (b : Nat) : List Byte := (List.range 32).map (fun i => d.storeByte (tagOffset b + i))

/-- The blocks of a chain from block `b`, which is to be number `i` of it; none where a tag on the way is wrong. `n` bounds the walk. -/
def Device.walkChain (d : Device) (p : Page) (s : Nat) : Nat → Nat → Nat → Option (List Nat)
  | 0, _, _ => none
  | n + 1, i, b =>
    let t := d.tagOf b
    if crcGood t 28 ∧ bytesAt t 4 1 = 1 ∧ bytesAt t 0 4 = p.handle ∧ bytesAt t 8 8 = p.first.wsn ∧ bytesAt t 5 1 = s ∧ bytesAt t 6 2 = i % 65536 then
      if bytesAt t 16 4 = 0xFFFFFFFF then some [b] else (d.walkChain p s n (i + 1) (bytesAt t 16 4)).map (fun l => b :: l)
    else none

/-- The record of a page, as it stands in the store. -/
def Device.recordOf (d : Device) (p : Page) : List Byte := d.storeBytes (0x100000 + 64 * (p.handle % 4096)) 64

/-- The chains of a page as the walk finds them: by station, none where one fails. -/
def Device.walkPage (d : Device) (p : Page) : Option (List (Nat × List Nat)) :=
  let r := d.recordOf p
  (maskList 8 p.first.stations).foldr (fun s l =>
    match d.walkChain p s (d.storeBlocks + 1) 0 (bytesAt r (24 + 4 * s) 4), l with
    | some c, some l => some ((s, c) :: l)
    | _, _ => none) (some [])

/-- Entry `i` of the directory of a chain. -/
def Device.directoryAt (d : Device) (chain : List Nat) (i : Nat) : List Byte :=
  (List.range 64).map (fun k => d.storeByte (chainAddr chain (64 * i + k) - storeBase))

/-- The 64 B data blocks that the check of a page reads, as physical offsets. -/
def Page.checkReads (p : Page) (chains : List (Nat × List Nat)) : List Nat :=
  physical (0x100000 + 64 * (p.handle % 4096)) ::
    chains.flatMap (fun x => x.2.map (fun b => tagOffset b / 64 * 64) ++
      (List.range (p.dirBytes / 64)).map (fun i => (chainAddr x.2 (64 * i) - storeBase) / 64 * 64))

/-- Whether a page passes the recovery check; `ecc` lists the data blocks whose read ends with ERR_ECC. -/
def Device.recovers (d : Device) (ecc : List Nat) (p : Page) : Bool :=
  let r := d.recordOf p
  crcGood r 60 && bytesAt r 23 1 == 2 && bytesAt r 8 4 == p.handle && bytesAt r 0 8 == p.first.wsn &&
    d.dlv.journal.any (fun e => e.kind == skAccepted && e.wsn == p.first.wsn && e.pageId == p.handle) &&
    (match d.walkPage p with
     | none => false
     | some chains =>
       chains.all (fun x => (List.range (p.dirBytes / 64)).all (fun i =>
         let e := d.directoryAt x.2 i
         crcGood e 60 && bytesAt e 10 2 == i % 65536)) && (p.checkReads chains).all (fun a => !ecc.contains a))

/-- The blocks that a page claims: those its chains lead through. -/
def Device.claims (d : Device) (p : Page) : List Nat :=
  match d.walkPage p with
  | some l => l.flatMap (fun x => x.2)
  | none => []

/-- The pages that fail the recovery check: those that do not recover, and those that share a block with a chain of their own or another
page (R188). -/
def Device.badPages (d : Device) (ecc : List Nat) : List Nat :=
  let all := d.dlv.pages.flatMap d.claims
  (d.dlv.pages.filter (fun p => !d.recovers ecc p || (d.claims p).any (fun b => decide (1 < all.count b)))).map (fun p => p.first.wsn)

end Sys2Proof.Machine
end

