-- ==== Sys2Proof/Machine/Boot.lean ====
section
/-! DEFINITION. The boot steps (R58 to R68): internal rails, fuses, the choice and the applying pass of an image copy (R78 to R82), the
memory self-test, external rails, page-store training with its recovery check (R103, R104, R165 to R167, R188), and the end. -/

namespace Sys2Proof.Machine

/-- Whether the boot has completed step `n` and goes on. -/
def Device.bootAt (d : Device) (n : Nat) : Bool :=
  d.st == .booting && d.fld CFG_STATUS CFG_STATUS_STEP == n && !d.bootFailed && !d.boot.intFail && d.pwr.down.isNone

/-- A boot step completes. -/
def Device.bootStep (d : Device) (n : Nat) : Device := d.setFld CFG_STATUS CFG_STATUS_STEP n

/-! Steps 2 and 3. -/

/-- The domains that the power controller has on from Booting to Safe (R40): D0 to D4, D6 to D9, D12 and D13. -/
def bootDomains : Nat := 0x33DF

/-- The internal rails are in regulation (R61, R64): the domains run, North takes the token, and pins that are low trip the Kerb
(R600). -/
def Device.railsInRegulation (d : Device) : Device :=
  let d := ((d.bootStep 2).modPwr (fun v => { v with bucks := true })).setFld PWR_DOM_STATUS PWR_DOM_STATUS_ON bootDomains
  let d := ((d.withToken (some .north)).modNorth (fun w => { w with role := .active, transmits := true })).modSouth (fun w => { w with role := .standby })
  d.each (maskList 3 d.kerb.pinsLow) (fun p d => d.kerbTrigger p shared 0)

/-- INT_RAILS_IN_REGULATION: boot step 2 completes. A REFCLK failure holds it (R517). While THERM_TRIP is set and die sensor 0 reads above
90 °C, the device goes back to Parked; at or below, the bit's flag is set (R575, R596). `dieTemp` is in 1/8 °C. -/
def execIntRailsInRegulation (t : Nat) (dieTemp : Int) (s : State) : Result :=
  s.run t fun d =>
    if !d.bootAt 1 || !d.boot.d0Ready || natBit d.clk.failed 0 || (d.flag CLK_STATUS CLK_STATUS_CLASS_A_WAIT && !d.flag CLK_STATUS CLK_STATUS_IOSC_READY) then d
    else if d.sticky lbThermTrip then
      if 90 * 8 < dieTemp then d.withSt .parked
      else (d.railsInRegulation).ledgerBase lbThermTrip shared 0 0
    else d.railsInRegulation

/-- INT_RAIL_FAIL (R67): the internal rails are off again, and the device stays in Booting. -/
def execIntRailFail (t : Nat) (s : State) : Result :=
  s.run t fun d =>
    if d.bootAt 1 then (d.ledgerEvent lbIntRailFail shared 0 0).modBoot (fun v => { v with intFail := true }) else d

/-- FUSES_READ: boot step 3 (R577). -/
def execFusesRead (t : Nat) (ok : Bool) (s : State) : Result :=
  s.run t fun d => if !d.bootAt 2 then d else if ok then d.bootStep 3 else d.bootFailRails 3

/-! Step 4. -/

/-- The first transfer mode of R69 that the flash supports; without a valid SFDP signature single (R70). -/
def Flash.chosen (f : Flash) : Nat := if !f.sfdp then 0 else if f.octal then 2 else if f.quad then 1 else 0

/-- FLASH_RST_N has gone low and high again, and what the flash then showed of itself (R69, R70). -/
def Device.flashInfo (d : Device) : Device :=
  let d := d.modFlash (fun v => { v with rstN := true })
  if !d.flash.present then d
  else
    let d := d.setFlag CFG_FLASH_INFO CFG_FLASH_INFO_ADDR4 (24 < d.flashLog2)
    let d := d.setFld CFG_FLASH_INFO CFG_FLASH_INFO_MODE d.flash.chosen
    let d := d.setFld CFG_FLASH_INFO CFG_FLASH_INFO_ERASE_LOG2 (if d.flash.sfdp then d.flash.eraseLog2 else 0)
    d.setFld CFG_FLASH_INFO CFG_FLASH_INFO_DENSITY_LOG2 d.flashLog2

/-- The result field of a copy. -/
def resultFld : Copy → Fld
  | .a => CFG_STATUS_RESULT_A
  | .b => CFG_STATUS_RESULT_B

/-- A copy is rejected: its result, and CFG_FAIL_INFO where it is the first. -/
def Device.rejectCopy (d : Device) (c : Copy) (code record : Nat) : Device :=
  let d := d.setFld CFG_STATUS (resultFld c) code
  if d.fld CFG_FAIL_INFO CFG_FAIL_INFO_REASON ≠ 0 then d
  else
    ((d.setFld CFG_FAIL_INFO CFG_FAIL_INFO_COPY c.code).setFld CFG_FAIL_INFO CFG_FAIL_INFO_REASON code).setFld CFG_FAIL_INFO
      CFG_FAIL_INFO_RECORD record

/-- A word that a REG_BLOCK record writes (R80). -/
def Device.imageWord (d : Device) (a : Nat) (v : Word) : Device :=
  if a < 0x100000 then
    let d := d.writeReg (0x01000000 + a) 0 v
    if isMap a then d else d.writeReg (0x02000000 + a) 0 v
  else d.writeReg a 0 v

/-- A word of the image written to AXS_CFG binds its axis (R483). -/
def Device.bindAxis (d : Device) (a : Nat) : Device :=
  match axisOfCfg a with
  | some n => d.each bothSides (fun q d => d.setAxis q n { d.axisS q n with bound := true })
  | none => d

/-- The image sets a register of the Quarters (R383). -/
def Device.noteReg (d : Device) (a : Nat) : Device :=
  if a < 0x100000 then d.modBoot (fun v => { v with qregs := a :: v.qregs }) else d

/-- A record is applied (R74, R79). -/
def Device.applyRecord (d : Device) (f : Fuses) (r : ImgRecord) : Device :=
  let n := r.payload.length / 4
  if r.typ = rtRegBlock then
    d.each (List.range n) (fun k d =>
      let a := r.target + 4 * k
      ((d.imageWord a (wordAt r.payload k)).bindAxis a).noteReg a)
  else if r.typ = rtRegFields then
    d.each (List.range (n / 3)) (fun k d =>
      let a := (wordAt r.payload (3 * k)).toNat
      ((d.rmwBoth f a 0 (wordAt r.payload (3 * k + 1)) (wordAt r.payload (3 * k + 2))).bindAxis a).noteReg a)
  else if r.typ = rtTable then
    let code := r.target / 2 ^ 24
    let inst := r.target / 2 ^ 16 % 256
    let i := r.target % 2 ^ 16
    match tableGeom code inst with
    | none => d
    | some (size, _) =>
      d.each (List.range (r.payload.length / size)) (fun k d =>
        let d := d.setEntry code inst (i + k) ((r.payload.drop (k * size)).take size)
        if code = 0x03 then d.loadSlot (i + k) else d)
  else if r.typ = rtPlaza then d.setBytes r.target r.payload
  else d

/-- The records in image order up to END, or to the record `stop`; `n` bounds them. -/
def Device.applyRecords (d : Device) (f : Fuses) (img : List Byte) (stop : Option Nat) : Nat → Nat → Nat → Device
  | 0, _, _ => d
  | n + 1, i, pos =>
    let r := readRecord img pos
    if stop = some i ∨ r.typ = rtEnd then d
    else (d.applyRecord f r).applyRecords f img stop n (i + 1) (pos + 16 + recordLen img pos)

/-- Whether a quarter offset holds a register with an RWL field. -/
def rwlAt (o : Nat) : Word :=
  match (quarterRows o).find? (·.hit o) with
  | some r => r.rwl
  | none => 0

/-- The offsets of every register of a row. -/
def rowOffs : List (Nat × Nat) → Nat → List Nat
  | [], o => [o]
  | (st, n) :: ds, o => (List.range n).flatMap (fun k => rowOffs ds (o + st * k))

/-- The quarter offsets of the registers that hold an RWL field, ascending (R81). -/
def rwlOffs : List Nat :=
  ([regTableQtr, regTableTml, regTableSup, regTableReg, regTableMot, regTableAxs, regTablePxs, regTableBmo, regTableEnw, regTableAlyqQ].flatMap
    (fun t => (t.filter (fun r => r.rwl != 0)).flatMap (fun r => rowOffs r.dims r.off))).mergeSort (fun a b => decide (a ≤ b))

/-- The configuration digest of a Quarter (R81). -/
def Device.digest (d : Device) (q : Side) : Word :=
  crc32c (rwlOffs.flatMap (fun o => leBytes 4 (d.reg (q.base + o) &&& rwlAt o).toNat))

/-- The token passes to the preferred Quarter (R64). -/
def Device.preferToken (d : Device) : Device :=
  if d.preferred .south then
    ((d.withToken (some .south)).modNorth (fun w => { w with role := .standby, transmits := false, strobes := 0 })).modSouth
      (fun w => { w with role := .active, transmits := true })
  else d

/-- The applying pass of a valid copy (R79 to R82). `reread` names the record whose REC_CRC fails as it is read again. -/
def Device.applyCopy (d : Device) (f : Fuses) (c : Copy) (reread : Option Nat) : Device :=
  let h := d.flashBytes (d.copyBase c) 64
  let img := d.flashBytes (d.copyBase c) (headerLength h)
  let d := d.modBoot (fun v => { v with qregs := [] })
  let d := d.applyRecords f img reread (bytesAt h 20 4) 0 64
  match reread with
  | some i => (d.rejectCopy c rcApply i).bootFailRails 4
  | none =>
    let n := d.digest .north
    let s := d.digest .south
    let d := (d.setReg CFG_DIGEST_N n).setReg CFG_DIGEST_S s
    if n ≠ s then (d.rejectCopy c rcApply noRecord).bootFailRails 4
    else
      let d := (d.setFld CFG_STATUS (resultFld c) rcApplied).setFld CFG_STATUS CFG_STATUS_BOOT_COPY c.code
      let d := (d.setFlag CFG_STATUS CFG_STATUS_SIGNED (headerSigned h)).setNat CFG_GENERATION (bytesAt h 8 4)
      (d.lock.preferToken).bootStep 4

/-- The copy that is tried first: the one with the larger valid generation, A on a tie (R78). -/
def Device.firstCopy (d : Device) : Copy :=
  let g := fun c => (headerGen (d.flashBytes (d.copyBase c) 64)).getD 0
  if d.flash.present ∧ g .a < g .b then .b else .a

/-- The other copy. -/
def otherCopy : Copy → Copy
  | .a => .b
  | .b => .a

/-- The choice of a copy (R78): the second is tried only when the first is rejected in its checking pass. -/
def Device.chooseCopy (d : Device) (f : Fuses) (reread : Option Nat) : Device :=
  let c := d.firstCopy
  let x := d.checkCopy f c
  if x.1 = rcValid then d.applyCopy f c reread
  else
    let d := d.rejectCopy c x.1 x.2
    let y := d.checkCopy f (otherCopy c)
    if y.1 = rcValid then d.applyCopy f (otherCopy c) reread else (d.rejectCopy (otherCopy c) y.1 y.2).bootFailRails 4

/-- IMAGE_CHECK_AND_APPLY: boot step 4. With the image applied, the identity memories are read (R586). -/
def execImageCheckAndApply (t : Nat) (reread : Option Nat) (units : List (Option UnitAnswer)) (challenge : List Byte) (s : State) : Result :=
  s.runF t fun f d =>
    if !d.bootAt 3 then d
    else
      let d := d.flashInfo.chooseCopy f reread
      if d.bootFailed then d else d.pollUnits units challenge

/-! Step 5. -/

/-- A Quarter whose local memory fails goes Yielded; the other takes the token where it held it (R65). -/
def Device.quarterBootFail (d : Device) (q : Side) : Device :=
  let d := (d.setQ q { d.q q with role := .yielded, transmits := false, strobes := 0 }).ledgerEvent lbQtrBootFail q.code 0 0
  if d.token = some q then
    if d.role q.other = .standby then (d.setQ q.other { d.q q.other with role := .active, transmits := true }).withToken (some q.other)
    else d.withToken none
  else d

/-- MEMORY_SELF_TEST: boot step 5. Then the sequencer starts (R546). -/
def execMemorySelfTest (t : Nat) (plazaOk northOk southOk : Bool) (s : State) : Result :=
  s.run t fun d =>
    if !d.bootAt 4 then d
    else
      let d := if northOk then d else d.quarterBootFail .north
      let d := if southOk then d else d.quarterBootFail .south
      if !plazaOk || (!northOk && !southOk) then d.bootFailRails 5 else (d.bootStep 5).seqStart

/-! Step 6. -/

/-- RAIL_SEQUENCE_COMPLETE: boot step 6. -/
def execRailSequenceComplete (t : Nat) (s : State) : Result :=
  s.run t fun d => if d.bootAt 5 && d.pwr.seq == .done then d.bootStep 6 else d

/-! Step 7. -/

/-- Whether a capacity per sub-channel and rank count is one of R172. -/
def geometryListed (gib ranks : Nat) : Bool := [(1, 1), (2, 1), (2, 2), (4, 2), (8, 2)].contains (gib, ranks)

/-- The training attempts from a rate on (R165): the rate that trains, or none; and the channels that fail the last attempt. `n` bounds
the attempts. -/
def trainFrom (fallback : Bool) : List TrainingAttempt → Nat → Nat → Option Nat × Nat
  | [], rate, _ => (some rate, 0)
  | a :: l, rate, n =>
    if a.failed = 0 then (some rate, 0)
    else
      match n with
      | 0 => (none, a.failed)
      | k + 1 => if fallback then trainFrom fallback l (rate + 1) k else (none, a.failed)

/-- The attempts that training makes (R165): up to the first that succeeds, and one for each rate at most. -/
def attemptsMade (fallback : Bool) : List TrainingAttempt → Nat → List TrainingAttempt
  | [], _ => [{}]
  | a :: l, n =>
    if a.failed = 0 then [a]
    else
      match n with
      | 0 => [a]
      | k + 1 => if fallback then a :: attemptsMade fallback l k else [a]

/-- The recovery of held pages after a warm start (R103, R104, R188), with no reprint cursor (R108, example); `bad` lists those that fail the check. -/
def Device.recover (d : Device) (bad : List Nat) : Device :=
  let held := d.dlv.pages.filter (fun p => decide (d.dlv.last < p.first.wsn))
  let failed := held.filter (fun p => bad.contains p.first.wsn)
  let cut := (failed.map (fun p => p.first.wsn)).min?
  let keep := held.filter (fun p => match cut with
    | some w => decide (p.first.wsn < w)
    | none => true)
  let gone := held.filter (fun p => !bad.contains p.first.wsn && (match cut with
    | some w => decide (w < p.first.wsn)
    | none => false))
  let keep := keep.map (fun p => { p with started := false, reprint := false })
  let horizon := match cut, keep.getLast? with
    | some w, _ => w - 1
    | none, some p => p.top
    | none, none => d.dlv.last
  let d := d.modDlv (fun v => { v with
    pages := keep, horizon, cursor := 0, lastPlan := keep.getLast?.map (fun p => (p.first.speed, p.first.lpi1200)) })
  let d := d.each failed (fun p d => d.ledgerEvent lbPsRecoveryFail shared (p.first.wsn % 2 ^ 32) 0)
  let d := d.each gone (fun p d => d.sheetJournal skWithdrawn p.first.wsn 0 p.first.stations p.reprint p.second.isSome p.handle)
  let d := (d.setFld PGS_RECOVERY PGS_RECOVERY_FAILED failed.length).setFld PGS_RECOVERY PGS_RECOVERY_RECOVERED keep.length
  d.setFlag PGS_DLV_STATUS PGS_DLV_STATUS_RECOVERED (!keep.isEmpty)

/-- The store is trained: rate, page area and the limit U (R115, R165, R179); after a warm start, the recovery, in which the reads of the data
blocks `ecc` end with ERR_ECC (R188). -/
def Device.storeTrained (d : Device) (rate gib ranks : Nat) (ecc : List Nat) : Device :=
  let d := (d.setFld RDB_STATUS RDB_STATUS_CAP_GIB (8 * gib)).setFlag RDB_STATUS RDB_STATUS_RANKS2 (ranks == 2)
  let d := ((d.setFld RDB_STATUS RDB_STATUS_RATE_ACT rate).setFlag RDB_STATUS RDB_STATUS_TRAINED true).setFlag RDB_STATUS RDB_STATUS_SR false
  let d := d.storeClock false
  let d := d.setFld PGS_TG_USABLE PGS_TG_USABLE_U (usableTenths (rateMts rate))
  let d := if d.boot.retained then d.recover (d.badPages ecc) else d
  let d := d.setFld PGS_ALLOC_BLOCKS PGS_ALLOC_BLOCKS_PAGE_BLOCKS d.pageBlocks
  d.setFld PGS_ALLOC_BLOCKS PGS_ALLOC_BLOCKS_FREE (d.pageBlocks - (d.dlv.pages.map (fun p => p.blockCount)).sum)

/-- PAGE_STORE_TRAINED: boot step 7. `attempts` holds the channels that fail each training attempt, `gib` and `ranks` what each
sub-channel reports, judged once training has succeeded (R166; DEDUCED, log entry 116), `ecc` the physical offsets of the data blocks whose read in the recovery check ends with ERR_ECC. -/
def execPageStoreTrained (t : Nat) (attempts : List TrainingAttempt) (gib ranks ecc : List Nat) (s : State) : Result :=
  s.run t fun d =>
    if !d.bootAt 6 then d
    else
      let rate := d.fld RDB_CFG RDB_CFG_RATE
      let fallback := d.flag RDB_CFG RDB_CFG_FALLBACK_EN
      let x := trainFrom fallback attempts rate (3 - rate)
      let wrote := ((attemptsMade fallback attempts (3 - rate)).filter TrainingAttempt.wrote).length
      let d := d.modPs (fun v => { v with trainings := v.trainings + wrote })
      let d := d.setFld RDB_STATUS RDB_STATUS_CH_FAIL_FIRST ((attempts.head?.map TrainingAttempt.failed).getD 0)
      let d := d.setFld RDB_STATUS RDB_STATUS_CH_FAIL x.2
      let g := gib.headD 0
      let r := ranks.headD 0
      match x.1 with
      | none => d.bootFailRails 7
      | some trained =>
        let d := d.setFlag RDB_STATUS RDB_STATUS_FALLBACK (trained != rate)
        let d := if trained = rate then d else d.ledgerEvent lbPsRateFallback shared 0 0
        if gib.all (· == g) && ranks.all (· == r) && geometryListed g r then (d.storeTrained trained g r ecc).bootStep 7
        else (d.setFlag RDB_STATUS RDB_STATUS_GEOMETRY_ERR true).bootFailRails 7

/-! Step 8. -/

/-- The end of a boot in Safe because of a latched trigger (R600). -/
def Device.bootSafe (d : Device) : Device :=
  let t := (maskList 11 d.kerb.latched).headD 0
  (d.enterSafe t).modKerb (fun v => { v with latched := 0 })

/-- BOOT_COMPLETE: boot step 8 (R61, R66, R600): configuration retry ends, and the device enters Ready; Held where a step has failed; Safe
where both Quarters are Yielded or a Kerb trigger is latched. -/
def execBootComplete (t : Nat) (s : State) : Result :=
  s.run t fun d =>
    if d.st ≠ .booting ∨ d.pwr.down.isSome ∨ !(d.bootFailed || d.bootAt 7) then d
    else
      let d := ((d.bootStep 8).setNat CFG_BOOT_TIME ((d.now - d.boot.ref) / tuPerUs)).modHost (fun v => { v with cfgRetry := false })
      let d := if d.token = none then (d.setLive ktDouble true).kerbTrigger ktDouble shared 0 else d
      if d.kerb.latched ≠ 0 then d.bootSafe
      else if d.bootFailed then d.enterHeld
      else d.enterReady

end Sys2Proof.Machine
end

