-- ==== Sys2Proof/Machine/DmaRun.lean ====
section
/-! DEFINITION. A run of a DMA channel (R45, R159 to R162, R173, R187, R203): when it starts, how much it moves, and what it reads and
writes. -/

namespace Sys2Proof.Machine

/-- Whether `n` bytes of the page store from an address lie in the general area, off the check areas (R173, R187). -/
def Device.generalSpan (d : Device) (a n : Nat) : Bool :=
  let p := a - storeBase
  decide (p + n ≤ d.storeBlocks * 2 ^ 20) && decide (p % 16384 + n ≤ 0x3800) && decide (d.areaOf (p / 2 ^ 20) = .general)

/-- How an access of the 32-bit map ends: none where it reaches a register or SRAM. -/
def Device.mapErr (d : Device) (m : Master) (a : Nat) : Option Nat :=
  match d.reach m a with
  | .reg _ => none
  | .ram _ => none
  | .fenced => some deDomain
  | _ => some deDecode

/-- The error with which a channel's access of `n` bytes ends (R45, R541, R631); none where it completes. -/
def Device.spanErr (d : Device) (m : Master) (a n : Nat) : Option Nat :=
  if 2 ^ 63 ≤ a then (if d.host.linkUp then none else some deHost)
  else if a < 2 ^ 32 then
    match d.mapErr m a with
    | some x => some x
    | none => d.mapErr m (a + n - 1)
  else if storeBase ≤ a then
    if !d.generalSpan a n then some deDecode else if d.storeOff then some deGated else if d.fenced a then some deDomain else none
  else some deDecode

/-- The ledger events of an access that fails (R49): DECODE_MISS where nothing occupies the address, in the 32-bit map or beyond it. -/
def Device.spanLedger (d : Device) (m : Master) (a n : Nat) : Device :=
  if 2 ^ 32 ≤ a then (if a < 2 ^ 63 ∧ !(decide (storeBase ≤ a) && decide (a < storeBase + d.storeBlocks * 2 ^ 20)) then d.miss m a else d)
  else if d.reach m a = .nothing then d.miss m a
  else if (d.mapErr m a).isNone ∧ d.reach m (a + n - 1) = .nothing then d.miss m (a + n - 1)
  else d

/-- Whether an address is that of a register. -/
def isReg (a : Nat) : Bool := decide (a < 2 ^ 32) && blockHolds a

/-- The bytes that a run reads: what host memory answers is an operand. -/
def Device.dmaRead (d : Device) (f : Fuses) (m : Master) (a0 n : Nat) (data : List Byte) : List Byte × Device :=
  let a := ownView m a0
  if 2 ^ 63 ≤ a then ((List.range n).map (fun k => data.getD k 0), d)
  else if isReg a then
    let x := d.readWords f m (a - a % 4) ((a % 4 + n + 3) / 4)
    ((x.1.drop (a % 4)).take n, x.2.2)
  else if a < 2 ^ 32 then ((List.range n).map (fun k => d.sramByte (a + k)), d)
  else (d.bytes a n, d)

/-- Write whole words to registers; what is left of a word at the end is a narrow write (R15). -/
def Device.writeWords (d : Device) (m : Master) (a : Nat) : Nat → List Byte → Device
  | 0, _ => d
  | n + 1, l =>
    if l.isEmpty then d
    else if l.length < 4 then d.narrow m a l.length
    else (d.writeAny m a (wordOf l)).writeWords m (a + 4) n (l.drop 4)

/-- Write the bytes of a run. -/
def Device.dmaWrite (d : Device) (m : Master) (a0 : Nat) (l : List Byte) : Device :=
  let a := ownView m a0
  if isReg a then (if a % 4 = 0 then d.writeWords m a l.length l else d.narrow m a l.length) else d.setBytes a l

/-- Bytes that a run moves (R159, R160): all of COUNT when free-running, at most 64 KiB between the levels of a fill-paced channel, one
burst of a request line. `level` is what its queue holds in bytes, `mark` an end-of-unit mark. 0 where no run starts. -/
def Device.runLength (d : Device) (e : Engine) (c level : Nat) (mark : Bool) : Nat :=
  let count := d.nat (aly e c + alyCount)
  let lo := d.fld (aly e c + alyPace) ALYS_PACE_PACE_LO
  let hi := d.fld (aly e c + alyPace) ALYS_PACE_PACE_HI
  match d.fld (aly e c + alyCtrl) ALYS_CTRL_PACE_MODE with
  | 0 => count
  | 1 =>
    if d.flag (aly e c + alyCtrl) ALYS_CTRL_PACE_SIDE then
      if 64 * hi ≤ level ∨ mark then min count (min 65536 (level - 64 * lo)) else 0
    else if level ≤ 64 * lo then min count (min 65536 (64 * hi - level))
    else 0
  | 2 => min count lo
  | _ => 0

/-- Whether a channel may start a run: enabled, with no error and no run in progress, its engine powered (R163). -/
def Device.mayRun (d : Device) (e : Engine) (c : Nat) : Bool :=
  let a := aly e c
  d.flag (a + alyCtrl) ALYS_CTRL_ENABLE && !d.dmaBusy e c && d.fld (a + alyStatus) ALYS_STATUS_ERR == 0 && !d.fenced a

/-- Whether a channel below `c` is ready to start a run and goes first (R159): `ready` has a bit for each channel that its pacing lets start. -/
def Device.readyBelow (d : Device) (e : Engine) (c ready : Nat) : Bool :=
  (List.range c).any (fun k =>
    d.mayRun e k && d.nat (aly e k + alyCount) != 0 && (d.fld (aly e k + alyCtrl) ALYS_CTRL_PACE_MODE == 0 || natBit ready k))

/-- Whether a run's source or destination lies in the page store. -/
def Device.runInStore (d : Device) (e : Engine) (c : Nat) : Bool :=
  d.inStore (d.nat64 (aly e c + alySrc)) || d.inStore (d.nat64 (aly e c + alyDst))

/-- A run's accesses of the general area are charged (R194). -/
def Device.chargeRun (d : Device) (e : Engine) (c n : Nat) : Device :=
  let one := fun (d : Device) (a : Nat) => if d.inStore a then d.chargeIngest (chargeOf n) else d
  one (one d (d.nat64 (aly e c + alySrc))) (d.nat64 (aly e c + alyDst))

/-- The run moves `n` bytes: addresses advance, COUNT falls, and at its end the channel waits for its read-back (R162). -/
def Device.moveBytes (d : Device) (f : Fuses) (e : Engine) (c n : Nat) (data : List Byte) : Device :=
  let a := aly e c
  let m := engineMaster e
  let src := d.nat64 (a + alySrc)
  let dst := d.nat64 (a + alyDst)
  let x := d.dmaRead f m src n data
  let d := (x.2.setNat64 (a + alySrc) ((src + n) % 2 ^ 64)).setNat64 (a + alyDst) ((dst + n) % 2 ^ 64)
  let left := d.nat (a + alyCount) - n
  let d := d.setNat (a + alyCount) left
  let d := if left = 0 then
      (d.setFlag (a + alyCtrl) ALYS_CTRL_BUSY true).setChan e c { checked := true, run := some (ownView m src, ownView m dst) }
    else d
  d.dmaWrite m dst x.1

/-- A run meets an uncorrectable error at an address (R37, R176): it is recorded where it is, and the channel ends with ERR_ECC. -/
def Device.runUe (d : Device) (e : Engine) (c a : Nat) : Device :=
  let d := if 2 ^ 63 ≤ a then d else if storeBase ≤ a then d.storeUe a else d.sramUe a
  d.dmaEnd e c deEcc

/-- A run of `n` bytes: it ends at its first access that fails, or moves them. -/
def Device.dmaRun (d : Device) (f : Fuses) (e : Engine) (c n : Nat) (data : List Byte) (fault : RunFault) : Device :=
  let m := engineMaster e
  let src := d.nat64 (aly e c + alySrc)
  let dst := d.nat64 (aly e c + alyDst)
  match d.spanErr m src n with
  | some x => (d.spanLedger m src n).dmaEnd e c x
  | none =>
    if crossing m dst then (d.crossWrite (match e with
      | .quarter q => q
      | .shared => .north) dst).dmaEnd e c deDecode
    else
      match d.spanErr m dst n with
      | some x => (d.spanLedger m dst n).dmaEnd e c x
      | none =>
        match fault with
        | .ecc off => d.runUe e c (ownView m src + min off (n - 1))
        | .host => d.dmaEnd e c deHost
        | .gated => d.dmaEnd e c deGated
        | .none => d.moveBytes f e c n data

/-- DMA_RUN_START (R159 to R161). A run of the page store waits while no such request is granted (R193, R194). The domains that wait for the channel go on where it ends (R541). -/
def execDmaRunStart (t : Nat) (e : Engine) (c : Fin 16) (ready : BitVec 16) (level : Nat) (mark : Bool) (data : List Byte)
    (fault : RunFault) (s : State) : Result :=
  s.runF t fun f d =>
    let n := d.runLength e c level mark
    if !d.mayRun e c || d.readyBelow e c ready.toNat || n == 0 || (d.runInStore e c && (channelPort e c).any d.portWaits) then d
    else if !(d.chan e c).checked && !d.countFits e c then d.dmaHalt e c deDecode
    else (d.chargeRun e c n).dmaRun f e c n data fault

/-- The read-back of a channel's last write completes (R162): end of count where COUNT has run out. Channels 5 and 6 of the shared engine
carry bands of the pages in ingest. -/
def execDmaReadbackDone (t : Nat) (e : Engine) (c : Fin 16) (band : Option BandStored) (s : State) : Result :=
  s.run t fun d =>
    let d := match band with
      | some x =>
        if e = .shared ∧ (c.val = 5 ∨ c.val = 6) then
          (d.bandRead x (c.val == 6)).setFlag (aly e c + alyStatus) ALYS_STATUS_DONE true
        else d
      | none => d
    if d.dmaBusy e c ∧ d.nat (aly e c + alyCount) = 0 then (d.dmaEnd e c 0).domainsSettle else d

end Sys2Proof.Machine
end

