-- ==== Sys2Proof/Machine/Fetch.lean ====
section
/-! DEFINITION. The fetch of descriptors from the job rings (R132, R133): page descriptors (R137), parameter descriptors (R148, R149)
and inspection buffers (R151). -/

namespace Sys2Proof.Machine

/-- Descriptors that one read fetches at most (R133). -/
def fetchBatch : Nat := 16

/-! Parameter descriptors. -/

/-- APPLY_WSN of a parameter descriptor (R148). -/
def applyWsn (b : List Byte) : Nat := bytesAt b 0 8

/-- COUNT of a parameter descriptor. -/
def paramCount (b : List Byte) : Nat := bytesAt b 9 1 % 8

/-- The entries of a parameter descriptor: slot and value. -/
def paramEntries (b : List Byte) : List (Nat × Nat) :=
  (List.range (paramCount b)).map (fun k => (bytesAt b (16 + 8 * k) 1, bytesAt b (20 + 8 * k) 4))

/-- Whether a parameter descriptor has its TYPE, a legal COUNT, and zeros where R148 reserves them. -/
def paramFormOk (b : List Byte) : Bool :=
  b.length == 64 && bytesAt b 8 1 == 2 && bytesAt b 9 1 / 8 == 0 && decide (1 ≤ paramCount b) && decide (paramCount b ≤ 4) &&
    bytesAt b 10 6 == 0 && (List.range (paramCount b)).all (fun k => bytesAt b (17 + 8 * k) 3 == 0) && bytesAt b 48 16 == 0

/-- Whether a parameter slot is defined and a value lies within its MIN and MAX (R149). -/
def Device.paramOk (d : Device) (slot v : Nat) : Bool :=
  d.nat (HIF_PARAM_ADDR slot) != 0 &&
    (if d.flag (HIF_PARAM_FIELD slot) HIF_PARAM_FIELD_SIGNED then
       decide (d.int (HIF_PARAM_MIN slot) ≤ toSigned 32 v) && decide (toSigned 32 v ≤ d.int (HIF_PARAM_MAX slot))
     else decide (d.nat (HIF_PARAM_MIN slot) ≤ v) && decide (v ≤ d.nat (HIF_PARAM_MAX slot)))

/-- The field of a parameter slot as a mask of its target register; a field ends with the register. -/
def Device.paramMask (d : Device) (slot : Nat) : Word :=
  let lsb := d.fld (HIF_PARAM_FIELD slot) HIF_PARAM_FIELD_LSB
  let width := d.fld (HIF_PARAM_FIELD slot) HIF_PARAM_FIELD_WIDTH_M1 + 1
  BitVec.ofNat 32 ((2 ^ width - 1) * 2 ^ lsb)

/-- A parameter slot writes its field (R80, R634); `wsn` is the page that a spare map waits for. -/
def Device.paramWrite (d : Device) (f : Fuses) (wsn : Nat) (e : Nat × Nat) : Device :=
  let a := d.nat (HIF_PARAM_ADDR e.1)
  let lsb := d.fld (HIF_PARAM_FIELD e.1) HIF_PARAM_FIELD_LSB
  let d := d.withParams (sput (fun _ => 0) d.params e.1 (BitVec.ofNat 32 e.2))
  let write := fun d : Device => d.rmwBoth f a wsn (d.paramMask e.1) (BitVec.ofNat 32 (e.2 * 2 ^ lsb))
  match (List.range 512).find? (fun n => REG_SLOT_SP .north n == a || REG_SLOT_SP .south n == a) with
  | some n => d.drives (64 + n) 0 write
  | none => write d

/-- A parameter descriptor is applied, and reported (R149, R153). -/
def Device.applyParams (d : Device) (f : Fuses) (x : BoundParam) : Device :=
  (d.each x.entries (fun e d => d.paramWrite f x.wsn e)).post evParamStatus false 0 x.wsn x.slot

/-- The bound descriptors of a page are applied in ring order (R150). -/
def Device.applyBound (d : Device) (f : Fuses) (wsn : Nat) : Device :=
  d.each (d.host.bound.filter (fun x => x.wsn == wsn)) (fun x d => d.applyParams f x)

/-- A slot of the parameter ring is read (R148 to R150). -/
def Device.fetchParam (d : Device) (f : Fuses) (slot : Nat) (x : FetchedSlot) : Device :=
  let w := applyWsn x.desc
  let y : BoundParam := { wsn := w, slot, entries := paramEntries x.desc }
  if !x.descOk then d.post evParamStatus false 1 0 slot
  else if !paramFormOk x.desc || !y.entries.all (fun e => d.paramOk e.1 e.2) then d.post evParamStatus false 1 w slot
  else if w = 0 then d.applyParams f y
  else if w ≤ d.dlv.last then d.post evParamStatus false 2 w slot
  else d.modHost (fun v => { v with bound := v.bound ++ [y] })

/-! Inspection descriptors. -/

/-- A slot of the inspection ring is read (R151): a buffer that the device can fill waits, any other is returned at once. One
may end at 2^63 exactly (DEDUCED, log entry 115). -/
def Device.fetchBuffer (d : Device) (x : FetchedSlot) : Device :=
  let b : InspBuf := { addr := bytesAt x.desc 0 8, len := bytesAt x.desc 16 4, tag := bytesAt x.desc 24 4 }
  if !x.descOk then d.post evInspectDone false 2 0 0
  else if bytesAt x.desc 8 1 ≠ 3 ∨ 2 ^ 63 < b.addr + b.len ∨ 2 ^ 63 ≤ b.addr then d.post evInspectDone false 2 0 (inspData b 0)
  else d.modHost (fun v => { v with bufs := v.bufs ++ [b] })

/-! The batch. -/

/-- Whether ring `r` may fetch its next slot: it is enabled, not halted, the link is up, and PROD lies ahead (R50, R133, R145). -/
def Device.mayFetch (d : Device) (r : Nat) : Bool :=
  d.host.linkUp && d.ringEnabled r && !d.ringHalted r &&
    d.reg (HIF_RING_PROD r) != d.reg (HIF_RING_CONS r) && (decide (r ≠ 0) || d.ingestRoom)

/-- The slots of a batch in ring order: CONS passes each before it is processed, since a halt puts it back (R132, R143). -/
def Device.fetchSlots (d : Device) (f : Fuses) (r : Nat) : List FetchedSlot → Device
  | [] => d
  | x :: rest =>
    if !d.mayFetch r then d
    else
      let c := d.nat (HIF_RING_CONS r)
      let slot := c % 2 ^ (d.force r).log2
      let d := d.setNat (HIF_RING_CONS r) (c + 1)
      let d := match r with
        | 0 => d.fetchPage c x
        | 1 => d.fetchParam f slot x
        | _ => d.fetchBuffer x
      d.fetchSlots f r rest

/-- A batch of descriptors is read and processed; CONS is then written back (R132). The link leaves L1 for the read. -/
def Device.fetchRing (d : Device) (f : Fuses) (r : Nat) (slots : List FetchedSlot) : Device :=
  if slots.isEmpty || !d.mayFetch r then d
  else
    let d := (d.modHost (fun v => { v with l1 := false })).hostRead r
    (d.fetchSlots f r (slots.take fetchBatch)).writeBack r

/-- DESCRIPTOR_FETCH (R132). -/
def execDescriptorFetch (t : Nat) (r : Fin 3) (slots : List FetchedSlot) (s : State) : Result :=
  s.runF t fun f d => d.fetchRing f r slots

end Sys2Proof.Machine
end

