-- ==== Sys2Proof/Machine/Release.lean ====
section
/-! DEFINITION. The Timeline's RELEASE of a station (R92, R107, R150, R259, R290, R296, R346, R404). -/

namespace Sys2Proof.Machine

/-- Bands of a page that carry the tail of the preceding page (R296): ⌈72 × P ÷ A⌉. -/
def Device.tailBands (d : Device) (s : Nat) : Nat :=
  (72 * d.pitchP d.owner s + d.advance d.owner - 1) / d.advance d.owner

/-- Whether the start of the line in progress is the line start nearest to now, at a station whose lines have the resolution of its page (R290). -/
def Device.nearLine (d : Device) (q : Side) (s : Nat) : Bool :=
  let v := d.synthS q s
  clockForwarded (d.pxState q s) && d.flag (BMO_CTRL q s) BMO_CTRL_ENABLE && ((d.printSide s).map PageSide.lpi1200) == some v.res1200 &&
    decide (2 * (d.now - v.lastStart) < d.nat (PXS_PERIOD q s))

/-- The line in progress of a Quarter carries the first band of a print that has just begun. -/
def Device.joinFirst (d : Device) (q : Side) (s : Nat) : Device :=
  match d.imageSide s with
  | some side =>
    if d.nearLine q s then
      let d := d.setSynth q s { d.synthS q s with dots := side.dots }
      (d.sendLine q s (d.lineS q s).n).dutyLine q s side
    else d
  | none => d

/-- A print begins with the line in progress where its start is the nearest to the release; else it waits for the next line start (R290). -/
def Device.startNear (d : Device) (s : Nat) : Device :=
  if d.nearLine d.owner s then
    let d := (d.phaseAtRelease d.owner s).nextBand s
    d.each bothSides (fun q d => d.joinFirst q s)
  else d

/-- A station starts to print bands of instance `n` at the line start nearest to now. -/
def Device.startPrint (d : Device) (n s side total : Nat) (tail : Bool) : Device :=
  let d := d.endPrint s
  let d := d.onInst n (fun i =>
    { i with
      imaging := setNatBit i.imaging s true
      released := if tail then i.released else setNatBit i.released s true
      side2 := setNatBit i.side2 s (side == 1) })
  (d.setPrint s (some { inst := n, total, tail, tick := d.timeTick })).startNear s

/-- A release that is suppressed (R107): in web mode the station still prints the tail of the page before (R296). -/
def Device.suppressed (d : Device) (n s side : Nat) : Device :=
  if d.web && d.releasable s then d.startPrint n s side (d.tailBands s) true else d

/-- Station `s` is released for a side of the page of instance `n`; bound parameters apply at the page's first station (R150). -/
def Device.released (d : Device) (f : Fuses) (n s side : Nat) (i : Instance) : Device :=
  let first := (maskList 8 i.stations).head? == some s
  let d := if first then d.applyBound f (if side = 1 then i.wsn2 else i.wsn) else d
  let page := d.dlv.pages.find? (fun p => p.first.wsn == i.wsn)
  let bands := match page with
    | some p => if side = 1 then ((p.second.map (fun x => x.bands)).getD 0) else p.first.bands
    | none => 0
  d.startPrint n s side bands false

/-- A RELEASE of station `s` fires for instance `n`. A station that the page does not image, and the second side of a simplex page,
have none. The sheet is in flight from its first RELEASE on (R92); what becomes of a page taken before and
released in Draining, Held or Ready is the model's reading (DEDUCED, log entry 110). -/
def Device.releaseStation (d : Device) (f : Fuses) (n s side : Nat) : Device :=
  match d.inst n with
  | none => d
  | some i =>
    if i.clearout || !natBit i.stations s || (side == 1 && i.wsn2 == 0) then d
    else
      let d := if d.web && d.firstStation == some s then d.plannedNow else d
      let d := d.paceSettle.onInst n (fun i => { i with inFlight := true })
      let d := if (sget (fun _ => none) d.bmo.meas s).isSome then d.measStop s else d
      if i.cause ≠ 0 then d.suppressed n s side
      else if !d.releasable s then d.sheetDefective n 4
      else d.released f n s side i

/-- TML_RELEASE (R404). -/
def execTmlRelease (t : Nat) (i : Fin 16) (s : State) : Result :=
  s.runF t fun f d => d.fire i taRelease (fun e _ d => d.releaseStation f i e.arg e.side)

end Sys2Proof.Machine
end

