-- ==== Sys2Proof/Machine/SelfTest.lean ====
section
/-! DEFINITION. The end of a Quarter's self-test (R382 to R385) with the restoration of its configuration (R383). -/

namespace Sys2Proof.Machine

/-- A register of the Quarter under test takes what the other Quarter's alias reads as; a spare map is copied as it stands. -/
def Device.restoreReg (d : Device) (f : Fuses) (q : Side) (o : Nat) : Device :=
  let v := d.viewWord f (q.other.base + o)
  if isMap o then d.setReg (q.base + o) v else d.writeQuarter q o 0 v

/-- A loaded Regulator slot takes the other Quarter's enable and coefficients, with its output at IDLE. -/
def Device.restoreSlot (d : Device) (q : Side) (n : Nat) : Device :=
  let d := d.setFlag (REG_SLOT_CTRL q n) REG_SLOT_CTRL_ENABLE (d.flag (REG_SLOT_CTRL q.other n) REG_SLOT_CTRL_ENABLE)
  let d := d.setReg (REG_SLOT_OUT q n) (BitVec.ofInt 32 (hIdle (d.slotEntry n)))
  d.each (List.range 24) (fun k d =>
    let o := 0x50000 + 0x80 * n + 0x10 * (k / 4) + 4 * (k % 4)
    d.setReg (q.base + o) (d.reg (q.other.base + o)))

/-- The configuration loader restores a Quarter from the other one: what the image sets, in the image's order, and then the lock. -/
def Device.restore (d : Device) (f : Fuses) (q : Side) : Device :=
  let d := d.setFlag CFG_STATUS CFG_STATUS_LOCKED false
  let d := d.each ((List.range 512).filter (fun n => !(d.slotEntry n).isEmpty)) (fun n d => d.restoreSlot q n)
  let d := d.each d.boot.qregs.dedup.reverse (fun o d => d.restoreReg f q o)
  d.lock

/-- The digest that the boot recorded for a Quarter. -/
def digestReg : Side → Nat
  | .north => CFG_DIGEST_N
  | .south => CFG_DIGEST_S

/-- The self-test is passed: the Quarter goes Returning (R385). -/
def Device.testPassed (d : Device) (q : Side) : Device :=
  let d := (d.setFld (QTR_TEST q) QTR_TEST_FAIL_STEP 0).setFlag (QTR_TEST q) QTR_TEST_PASSED true
  d.setRole q .returning

/-- Steps 4 to 7 of the self-test: a digest that differs fails step 4; `failStep` names a later step that fails. -/
def Device.finishTest (d : Device) (f : Fuses) (q : Side) (failStep : Nat) : Device :=
  let d := d.restore f q
  if d.digest q ≠ d.reg (digestReg q) then d.testFailed q 4
  else if failStep ≠ 0 then d.testFailed q failStep
  else d.testPassed q

/-- Step 1 of the self-test: the logic and the lanes of the Quarter are powered on again where they are still off (R41, R382). -/
def Device.testPower (d : Device) (q : Side) : Device :=
  let d := if d.domainIsOn (logicDomain q) then d else d.domOn (logicDomain q) true
  if d.domainIsOn (laneDomain q) then d else d.lanesUp q

/-- SELF_TEST_DONE (R382): `failStep` is the step that fails, 0 for none. -/
def execSelfTestDone (t : Nat) (q : Side) (failStep : Nat) (s : State) : Result :=
  s.runF t fun f d =>
    if d.role q ≠ .testing then d
    else if failStep = 1 then d.testFailed q 1
    else if failStep ≤ 4 ∧ failStep ≠ 0 then (d.testPower q).testFailed q failStep
    else (d.testPower q).finishTest f q failStep

end Sys2Proof.Machine
end

