-- ==== Sys2Proof/Machine/Dispatch.lean ====
section
/-! DEFINITION. One direct call of a meaning for every command. -/

namespace Sys2Proof.Machine

def exec (i : Instr) (s : State) : Host.Outcome State Fault Refusal :=
  match i with
  | .vinRise t => Sys2Proof.Machine.execVinRise t s
  | .vinFail t => Sys2Proof.Machine.execVinFail t s
  | .vinCollapse t => Sys2Proof.Machine.execVinCollapse t s
  | .powerDownComplete t => Sys2Proof.Machine.execPowerDownComplete t s
  | .pbtnPress t => Sys2Proof.Machine.execPbtnPress t s
  | .pbtnHold8s t => Sys2Proof.Machine.execPbtnHold8s t s
  | .mrstLow t => Sys2Proof.Machine.execMrstLow t s
  | .mrstRelease t => Sys2Proof.Machine.execMrstRelease t s
  | .intRailsInRegulation t dieTemp => Sys2Proof.Machine.execIntRailsInRegulation t dieTemp s
  | .intRailFail t => Sys2Proof.Machine.execIntRailFail t s
  | .fusesRead t ok => Sys2Proof.Machine.execFusesRead t ok s
  | .imageCheckAndApply t reread units challenge => Sys2Proof.Machine.execImageCheckAndApply t reread units challenge s
  | .memorySelfTest t plazaOk northOk southOk => Sys2Proof.Machine.execMemorySelfTest t plazaOk northOk southOk s
  | .railSequenceComplete t => Sys2Proof.Machine.execRailSequenceComplete t s
  | .pageStoreTrained t attempts gib ranks ecc => Sys2Proof.Machine.execPageStoreTrained t attempts gib ranks ecc s
  | .bootComplete t => Sys2Proof.Machine.execBootComplete t s
  | .hostStart t => Sys2Proof.Machine.execHostStart t s
  | .hostHold t => Sys2Proof.Machine.execHostHold t s
  | .hostStop t => Sys2Proof.Machine.execHostStop t s
  | .park t => Sys2Proof.Machine.execPark t s
  | .parkRetain t => Sys2Proof.Machine.execParkRetain t s
  | .narrowWrite t m addr len => Sys2Proof.Machine.execNarrowWrite t m addr len s
  | .lowWordRead t m addr len => Sys2Proof.Machine.execLowWordRead t m addr len s
  | .registerWrite t m addr value => Sys2Proof.Machine.execRegisterWrite t m addr value s
  | .quarterViewHostWrite t addr value => Sys2Proof.Machine.execQuarterViewHostWrite t addr value s
  | .crossWrite t q addr value => Sys2Proof.Machine.execCrossWrite t q addr value s
  | .quarterBaseSharedAccess t m addr write => Sys2Proof.Machine.execQuarterBaseSharedAccess t m addr write s
  | .decodeMiss t m addr write => Sys2Proof.Machine.execDecodeMiss t m addr write s
  | .deviceOnlyAccess t m addr write => Sys2Proof.Machine.execDeviceOnlyAccess t m addr write s
  | .fabricCodeViolation t place => Sys2Proof.Machine.execFabricCodeViolation t place s
  | .sramEccError t addr double => Sys2Proof.Machine.execSramEccError t addr double s
  | .paceChangeRequest t => Sys2Proof.Machine.execPaceChangeRequest t s
  | .paceChangeDone t => Sys2Proof.Machine.execPaceChangeDone t s
  | .windDownComplete t b => Sys2Proof.Machine.execWindDownComplete t b s
  | .domainPowerDown t d => Sys2Proof.Machine.execDomainPowerDown t d s
  | .domainDmaAbort t d => Sys2Proof.Machine.execDomainDmaAbort t d s
  | .domainPowerUp t d => Sys2Proof.Machine.execDomainPowerUp t d s
  | .d5IdleTimeout t => Sys2Proof.Machine.execD5IdleTimeout t s
  | .erase t c => Sys2Proof.Machine.execErase t c s
  | .program t c data => Sys2Proof.Machine.execProgram t c data s
  | .verify t c data => Sys2Proof.Machine.execVerify t c data s
  | .validate t c => Sys2Proof.Machine.execValidate t c s
  | .updateAbort t => Sys2Proof.Machine.execUpdateAbort t s
  | .updateComplete t flashOk => Sys2Proof.Machine.execUpdateComplete t flashOk s
  | .updateDeferResume t => Sys2Proof.Machine.execUpdateDeferResume t s
  | .stackerDetect t gpio => Sys2Proof.Machine.execStackerDetect t gpio s
  | .commitClear t key => Sys2Proof.Machine.execCommitClear t key s
  | .tollgateCheck t => Sys2Proof.Machine.execTollgateCheck t s
  | .jobDoorbell t r v => Sys2Proof.Machine.execJobDoorbell t r v s
  | .eventDoorbell t v => Sys2Proof.Machine.execEventDoorbell t v s
  | .ringEnable t r cfg => Sys2Proof.Machine.execRingEnable t r cfg s
  | .ringDisable t r cfg => Sys2Proof.Machine.execRingDisable t r cfg s
  | .eventRingEnable t cfg => Sys2Proof.Machine.execEventRingEnable t cfg s
  | .descriptorFetch t r slots => Sys2Proof.Machine.execDescriptorFetch t r slots s
  | .ingestResume t => Sys2Proof.Machine.execIngestResume t s
  | .hostReadError t r => Sys2Proof.Machine.execHostReadError t r s
  | .retry t r => Sys2Proof.Machine.execRetry t r s
  | .skip t r => Sys2Proof.Machine.execSkip t r s
  | .pcieReset t kind unsent => Sys2Proof.Machine.execPcieReset t kind unsent s
  | .linkDown t unsent => Sys2Proof.Machine.execLinkDown t unsent s
  | .backlogDrain t => Sys2Proof.Machine.execBacklogDrain t s
  | .interruptModerationTimeout t vector => Sys2Proof.Machine.execInterruptModerationTimeout t vector s
  | .aspmL1Entry t => Sys2Proof.Machine.execAspmL1Entry t s
  | .dmaChannelEnable t e c ctrl => Sys2Proof.Machine.execDmaChannelEnable t e c ctrl s
  | .dmaChannelDisable t e c => Sys2Proof.Machine.execDmaChannelDisable t e c s
  | .dmaRunStart t e c ready level mark data fault => Sys2Proof.Machine.execDmaRunStart t e c ready level mark data fault s
  | .dmaReadbackDone t e c band => Sys2Proof.Machine.execDmaReadbackDone t e c band s
  | .driftTrackTick t ch drift mr4 => Sys2Proof.Machine.execDriftTrackTick t ch drift mr4 s
  | .psEccUe t addr e r => Sys2Proof.Machine.execPsEccUe t addr e r s
  | .psEccCe t addr e => Sys2Proof.Machine.execPsEccCe t addr e s
  | .patrolScrub t => Sys2Proof.Machine.execPatrolScrub t s
  | .refreshDue t bank granted => Sys2Proof.Machine.execRefreshDue t bank granted s
  | .activate t addr => Sys2Proof.Machine.execActivate t addr s
  | .rhTableClear t bank => Sys2Proof.Machine.execRhTableClear t bank s
  | .actIntervalStart t bank => Sys2Proof.Machine.execActIntervalStart t bank s
  | .srEnter t => Sys2Proof.Machine.execSrEnter t s
  | .srExit t => Sys2Proof.Machine.execSrExit t s
  | .srIdleTimeout t => Sys2Proof.Machine.execSrIdleTimeout t s
  | .srEntryComplete t => Sys2Proof.Machine.execSrEntryComplete t s
  | .srExitComplete t => Sys2Proof.Machine.execSrExitComplete t s
  | .streamCheckDone t page st band sub bytes => Sys2Proof.Machine.execStreamCheckDone t page st band sub bytes s
  | .chainCompressStart t c => Sys2Proof.Machine.execChainCompressStart t c s
  | .chainCompressDone t c bands times => Sys2Proof.Machine.execChainCompressDone t c bands times s
  | .jobEnqueue t word7 => Sys2Proof.Machine.execJobEnqueue t word7 s
  | .jobStart t input => Sys2Proof.Machine.execJobStart t input s
  | .jobDone t enc srcOk dstOk => Sys2Proof.Machine.execJobDone t enc srcOk dstOk s
  | .flush t => Sys2Proof.Machine.execFlush t s
  | .abort t => Sys2Proof.Machine.execAbort t s
  | .abortAll t => Sys2Proof.Machine.execAbortAll t s
  | .arcadeDisable t ctrl => Sys2Proof.Machine.execArcadeDisable t ctrl s
  | .decodeStreamError t q st sub => Sys2Proof.Machine.execDecodeStreamError t q st sub s
  | .inspectionLine t q line => Sys2Proof.Machine.execInspectionLine t q line s
  | .inspectImageDone t choices times => Sys2Proof.Machine.execInspectImageDone t choices times s
  | .inspAlignLoss t q => Sys2Proof.Machine.execInspAlignLoss t q s
  | .beamDetectEdge t q st line => Sys2Proof.Machine.execBeamDetectEdge t q st line s
  | .acquireTimeout t q st => Sys2Proof.Machine.execAcquireTimeout t q st s
  | .freqComplete t q st => Sys2Proof.Machine.execFreqComplete t q st s
  | .windowClose t q st line => Sys2Proof.Machine.execWindowClose t q st line s
  | .synthEnable t q st => Sys2Proof.Machine.execSynthEnable t q st s
  | .synthDisable t q st => Sys2Proof.Machine.execSynthDisable t q st s
  | .indexEdge t gpio => Sys2Proof.Machine.execIndexEdge t gpio s
  | .linePhaseWord t st stamp line => Sys2Proof.Machine.execLinePhaseWord t st stamp line s
  | .linePhaseTimeout t st line => Sys2Proof.Machine.execLinePhaseTimeout t st line s
  | .refPllEnable t q mv50 mv300 => Sys2Proof.Machine.execRefPllEnable t q mv50 mv300 s
  | .lockPinSample t q mv => Sys2Proof.Machine.execLockPinSample t q mv s
  | .refLockTimeout t q => Sys2Proof.Machine.execRefLockTimeout t q s
  | .coastEntry t q st cause => Sys2Proof.Machine.execCoastEntry t q st cause s
  | .coastTimeout t q st => Sys2Proof.Machine.execCoastTimeout t q st s
  | .relock t q st delta => Sys2Proof.Machine.execRelock t q st delta s
  | .emitterMeasure t st => Sys2Proof.Machine.execEmitterMeasure t st s
  | .spareMapWrite t st m value => Sys2Proof.Machine.execSpareMapWrite t st m value s
  | .stationDisable t q st => Sys2Proof.Machine.execStationDisable t q st s
  | .stationEnable t q st => Sys2Proof.Machine.execStationEnable t q st s
  | .headTempTimeout t st => Sys2Proof.Machine.execHeadTempTimeout t st s
  | .stationSafeExit t st => Sys2Proof.Machine.execStationSafeExit t st s
  | .segmentSendWindow t q st chunk written => Sys2Proof.Machine.execSegmentSendWindow t q st chunk written s
  | .segmentDeadline t q st chunk written => Sys2Proof.Machine.execSegmentDeadline t q st chunk written s
  | .telemetryFrame t q st frame => Sys2Proof.Machine.execTelemetryFrame t q st frame s
  | .telemetryTimeout t q st => Sys2Proof.Machine.execTelemetryTimeout t q st s
  | .tlmSyncLoss t q st => Sys2Proof.Machine.execTlmSyncLoss t q st s
  | .loopTick t q st => Sys2Proof.Machine.execLoopTick t q st s
  | .portEnable t q st => Sys2Proof.Machine.execPortEnable t q st s
  | .portDisable t q st => Sys2Proof.Machine.execPortDisable t q st s
  | .retrain t q st => Sys2Proof.Machine.execRetrain t q st s
  | .bringupTimeout t q st => Sys2Proof.Machine.execBringupTimeout t q st s
  | .bringupRetry t q st => Sys2Proof.Machine.execBringupRetry t q st s
  | .mirrorFrame t good => Sys2Proof.Machine.execMirrorFrame t good s
  | .mirrorTimeout t => Sys2Proof.Machine.execMirrorTimeout t s
  | .stationCatchUp t st => Sys2Proof.Machine.execStationCatchUp t st s
  | .overlapEnd t => Sys2Proof.Machine.execOverlapEnd t s
  | .overlapBound t => Sys2Proof.Machine.execOverlapBound t s
  | .selfTestDone t q failStep => Sys2Proof.Machine.execSelfTestDone t q failStep s
  | .retestTimer t q => Sys2Proof.Machine.execRetestTimer t q s
  | .retest t q => Sys2Proof.Machine.execRetest t q s
  | .returnCaughtUp t q => Sys2Proof.Machine.execReturnCaughtUp t q s
  | .handoverTimer t => Sys2Proof.Machine.execHandoverTimer t s
  | .pitchStart t => Sys2Proof.Machine.execPitchStart t s
  | .tmlEnd t n => Sys2Proof.Machine.execTmlEnd t n s
  | .tmlRelease t n => Sys2Proof.Machine.execTmlRelease t n s
  | .tmlGap t n => Sys2Proof.Machine.execTmlGap t n s
  | .tmlGate t n => Sys2Proof.Machine.execTmlGate t n s
  | .tmlAcceptOpen t n => Sys2Proof.Machine.execTmlAcceptOpen t n s
  | .tmlAcceptClose t n => Sys2Proof.Machine.execTmlAcceptClose t n s
  | .tmlInspectOpen t n => Sys2Proof.Machine.execTmlInspectOpen t n s
  | .tmlInspectClose t n => Sys2Proof.Machine.execTmlInspectClose t n s
  | .tmlCommit t n => Sys2Proof.Machine.execTmlCommit t n s
  | .tmlWasteMark t n => Sys2Proof.Machine.execTmlWasteMark t n s
  | .tmlGpio t n => Sys2Proof.Machine.execTmlGpio t n s
  | .tmlPulse t n => Sys2Proof.Machine.execTmlPulse t n s
  | .pulseEnd t gpio => Sys2Proof.Machine.execPulseEnd t gpio s
  | .tmlSetpoint t n => Sys2Proof.Machine.execTmlSetpoint t n s
  | .tmlAxisMove t n => Sys2Proof.Machine.execTmlAxisMove t n s
  | .clearout t => Sys2Proof.Machine.execClearout t s
  | .ackCleared t => Sys2Proof.Machine.execAckCleared t s
  | .timelineWatchdog t q kind => Sys2Proof.Machine.execTimelineWatchdog t q kind s
  | .timelineDisable t q => Sys2Proof.Machine.execTimelineDisable t q s
  | .supervisorSweep t q took gpio => Sys2Proof.Machine.execSupervisorSweep t q took gpio s
  | .supervisorDisable t q => Sys2Proof.Machine.execSupervisorDisable t q s
  | .regulatorTick t q codes ssi vin => Sys2Proof.Machine.execRegulatorTick t q codes ssi vin s
  | .modeWrite t q n value => Sys2Proof.Machine.execModeWrite t q n value s
  | .coefficientWrite t q n p which value => Sys2Proof.Machine.execCoefficientWrite t q n p which value s
  | .setpointWrite t q n value => Sys2Proof.Machine.execSetpointWrite t q n value s
  | .resume t q n => Sys2Proof.Machine.execResume t q n s
  | .fallback t q n => Sys2Proof.Machine.execFallback t q n s
  | .slotDisable t q n => Sys2Proof.Machine.execSlotDisable t q n s
  | .pwmPeriodBoundary t q g samples => Sys2Proof.Machine.execPwmPeriodBoundary t q g samples s
  | .pwmDisable t q ch => Sys2Proof.Machine.execPwmDisable t q ch s
  | .polyEnable t q p => Sys2Proof.Machine.execPolyEnable t q p s
  | .polyDisable t q p => Sys2Proof.Machine.execPolyDisable t q p s
  | .phaseComparatorEdge t q p phase => Sys2Proof.Machine.execPhaseComparatorEdge t q p phase s
  | .senseTimeout t q p => Sys2Proof.Machine.execSenseTimeout t q p s
  | .standstill t q p => Sys2Proof.Machine.execStandstill t q p s
  | .brakeTimeout t q p => Sys2Proof.Machine.execBrakeTimeout t q p s
  | .alignTimeout t q p => Sys2Proof.Machine.execAlignTimeout t q p s
  | .handoffTimeout t q p => Sys2Proof.Machine.execHandoffTimeout t q p s
  | .startRetry t q p => Sys2Proof.Machine.execStartRetry t q p s
  | .resyncReleaseEnd t q p => Sys2Proof.Machine.execResyncReleaseEnd t q p s
  | .resyncTimeout t q p => Sys2Proof.Machine.execResyncTimeout t q p s
  | .pmsmEnable t q d => Sys2Proof.Machine.execPmsmEnable t q d s
  | .pmsmDisable t q d => Sys2Proof.Machine.execPmsmDisable t q d s
  | .encoderIndex t q e => Sys2Proof.Machine.execEncoderIndex t q e s
  | .dcbusSample t b dv => Sys2Proof.Machine.execDcbusSample t b dv s
  | .dcbusAverage t b dv => Sys2Proof.Machine.execDcbusAverage t b dv s
  | .dcbusHardLimit t b => Sys2Proof.Machine.execDcbusHardLimit t b s
  | .busHardRecovery t b => Sys2Proof.Machine.execBusHardRecovery t b s
  | .clearChop t => Sys2Proof.Machine.execClearChop t s
  | .encoderEdge t q e a b => Sys2Proof.Machine.execEncoderEdge t q e a b s
  | .axisTargetWrite t q a value => Sys2Proof.Machine.execAxisTargetWrite t q a value s
  | .axisControlWrite t q a value => Sys2Proof.Machine.execAxisControlWrite t q a value s
  | .home t q a => Sys2Proof.Machine.execHome t q a s
  | .stop t q a => Sys2Proof.Machine.execStop t q a s
  | .clearFault t q a => Sys2Proof.Machine.execClearFault t q a s
  | .homeSettleTimeout t q a => Sys2Proof.Machine.execHomeSettleTimeout t q a s
  | .driveFrameSlot t q => Sys2Proof.Machine.execDriveFrameSlot t q s
  | .driveFrameReturn t q c body => Sys2Proof.Machine.execDriveFrameReturn t q c body s
  | .limitSwitchSample t q a positive level => Sys2Proof.Machine.execLimitSwitchSample t q a positive level s
  | .driveBusEnable t q => Sys2Proof.Machine.execDriveBusEnable t q s
  | .driveBusDisable t q => Sys2Proof.Machine.execDriveBusDisable t q s
  | .chainBringupTimeout t q c => Sys2Proof.Machine.execChainBringupTimeout t q c s
  | .chainBringupRetry t q c => Sys2Proof.Machine.execChainBringupRetry t q c s
  | .clockMonitorWindow t k edges d0Deviates => Sys2Proof.Machine.execClockMonitorWindow t k edges d0Deviates s
  | .refclkMissingEdge t => Sys2Proof.Machine.execRefclkMissingEdge t s
  | .ioscReady t => Sys2Proof.Machine.execIoscReady t s
  | .ioscRestart t => Sys2Proof.Machine.execIoscRestart t s
  | .classAWaitEnd t => Sys2Proof.Machine.execClassAWaitEnd t s
  | .clockReturn t n => Sys2Proof.Machine.execClockReturn t n s
  | .muxSelect t n value => Sys2Proof.Machine.execMuxSelect t n value s
  | .muxSwitchDone t n => Sys2Proof.Machine.execMuxSwitchDone t n s
  | .muxStallTimeout t n => Sys2Proof.Machine.execMuxStallTimeout t n s
  | .muxForce t n value => Sys2Proof.Machine.execMuxForce t n value s
  | .gateClose t g => Sys2Proof.Machine.execGateClose t g s
  | .gateCloseTimeout t g => Sys2Proof.Machine.execGateCloseTimeout t g s
  | .opPointChange t d high => Sys2Proof.Machine.execOpPointChange t d high s
  | .voltageStepDone t took => Sys2Proof.Machine.execVoltageStepDone t took s
  | .railDelayExpiry t => Sys2Proof.Machine.execRailDelayExpiry t s
  | .railGood t r => Sys2Proof.Machine.execRailGood t r s
  | .railPgTimeout t => Sys2Proof.Machine.execRailPgTimeout t s
  | .railDrop t r => Sys2Proof.Machine.execRailDrop t r s
  | .railOff t r => Sys2Proof.Machine.execRailOff t r s
  | .railOffTimeout t => Sys2Proof.Machine.execRailOffTimeout t s
  | .marginRequest t value nack => Sys2Proof.Machine.execMarginRequest t value nack s
  | .pmbusStatusPoll t r status nack => Sys2Proof.Machine.execPmbusStatusPoll t r status nack s
  | .sensorSample t k reading valid => Sys2Proof.Machine.execSensorSample t k reading valid s
  | .riseEvaluation t => Sys2Proof.Machine.execRiseEvaluation t s
  | .graceEnd t => Sys2Proof.Machine.execGraceEnd t s
  | .enforcementStop t => Sys2Proof.Machine.execEnforcementStop t s
  | .stoppedClear t => Sys2Proof.Machine.execStoppedClear t s
  | .thermTrip t => Sys2Proof.Machine.execThermTrip t s
  | .unitPoll t units challenge => Sys2Proof.Machine.execUnitPoll t units challenge s
  | .authResponseRead t st response => Sys2Proof.Machine.execAuthResponseRead t st response s
  | .writebackResume t => Sys2Proof.Machine.execWritebackResume t s
  | .ledgerClearAll t key => Sys2Proof.Machine.execLedgerClearAll t key s
  | .nmiFlagClear t mask => Sys2Proof.Machine.execNmiFlagClear t mask s
  | .interlockOpen t pin => Sys2Proof.Machine.execInterlockOpen t pin s
  | .interlockRelease t pin => Sys2Proof.Machine.execInterlockRelease t pin s
  | .estop t => Sys2Proof.Machine.execEstop t s
  | .krbClear t key => Sys2Proof.Machine.execKrbClear t key s
  | .pcieLinkUp t rate width cfg => Sys2Proof.Machine.execPcieLinkUp t rate width cfg s
  | .telemetryBlockLock t q st => Sys2Proof.Machine.execTelemetryBlockLock t q st s
  | .inspectionPortAligned t q => Sys2Proof.Machine.execInspectionPortAligned t q s
  | .fullyOffTimeElapsed t vinValid => Sys2Proof.Machine.execFullyOffTimeElapsed t vinValid s
  | .d0PowerOnResetReleased t => Sys2Proof.Machine.execD0PowerOnResetReleased t s

end Sys2Proof.Machine
end

