-- ==== Sys2Proof/Safety.lean ====
section
/-! DEFINITION. What claims speak of beside the machine: canonical data, keys that cannot be read, enables that are off, the outcome of a
step. -/

namespace Sys2Proof.Machine

/-- The device's sparse data are in their one canonical form. -/
def Device.canonical (d : Device) : Bool := swf resetWord d.regs && swf memDefault d.mem && swf (fun _ => []) d.tables

/-- Memory is in its canonical form. -/
def Memory.wf (m : List (Nat × Byte)) : Bool := swf memDefault m

/-- Two sets of fuses that differ in nothing but the bits of keys that are set (R578). -/
def Fuses.alike (f g : Fuses) : Prop :=
  f.serial = g.serial ∧ f.stepping = g.stepping ∧ f.requireSigned = g.requireSigned ∧
    ∀ k < 4, keySet (f.keys.getD k []) = keySet (g.keys.getD k [])

/-- The device of an outcome. -/
def devOf : Result → Option Device
  | .next t => some t.dev
  | .fault _ => none
  | .refused _ => none

/-- A command completes: it answers a next state with the same fuses and the same queue, whose device satisfies `P`. -/
def Completes (i : Instr) (s : State) (P : Device → Prop) : Prop :=
  ∃ u, exec i s = .next u ∧ u.fuses = s.fuses ∧ u.pending = s.pending ∧ P u.dev

/-- `e` is `d` but for the registers at the listed addresses. -/
def OnlyRegs (d e : Device) (l : List Nat) : Prop := (∃ r, e = { d with regs := r }) ∧ ∀ a, a ∉ l → e.reg a = d.reg a

/-- Every laser enable and both power enables are off at the pins (R600). -/
def Device.enablesOff (d : Device) : Prop :=
  d.fld KRB_ENABLES KRB_ENABLES_LEN = 0 ∧ d.fld KRB_ENABLES KRB_ENABLES_HVEN = 0 ∧ d.fld KRB_ENABLES KRB_ENABLES_HTEN = 0

/-- A check of a Quarter has had no event, and needs more than one to last (R362). -/
def Device.checkFresh (d : Device) (q : Side) (n : Nat) : Prop :=
  sget (fun _ => []) (d.q q).times n = [] ∧ 2 ≤ d.fld (QTR_CHK q n) QTR_CHK_N

/-- The times of the events of a check. -/
def Device.checkTimes (d : Device) (q : Side) (n : Nat) : List Nat := sget (fun _ => []) (d.q q).times n

/-- The cursor of instance `n`, which is `x`, stands at an entry `e` of index `k` with the given action that is due at time `t`, and the Timeline runs
(R394). -/
def Device.canFire (d : Device) (t n action : Nat) (x : Instance) (k : Nat) (e : TmlEntry) : Prop :=
  d.tmlOn = true ∧ d.inst n = some x ∧ d.cursorEntry x = some (k, e) ∧ e.action = action ∧ (d.tick t).entryDue d.owner x e = true

/-- At time `t` no action of a higher rank has driven an output in the same cycle of the timebase (R398). -/
def Device.unranked (d : Device) (t key rank : Nat) : Prop :=
  (sget (fun _ => {}) d.tml.driven key).tick ≠ (d.tick t).timeTick ∨ (sget (fun _ => {}) d.tml.driven key).rank ≤ rank

/-- At time `t` an action of a rank drives a GPIO pin: the Kerb does not force it, the outputs are past Booting, and nothing outranks it (R63, R398,
R540, R600). -/
def Device.drivesPin (d : Device) (t g rank : Nat) : Prop :=
  d.gpioForced g = false ∧ d.st ≠ .booting ∧ d.st ≠ .parked ∧ d.st ≠ .off ∧ d.unranked t g rank

/-- Entry `k` has just fired for the sheet of WSN `w`: it is the newest one of the action log (R410). -/
def Device.logged (d : Device) (w k : Nat) : Prop := ∃ rest, d.tml.log = ActionEntry.mk w k d.now :: rest

/-- The address of a register of a Quarter's Regulator, commutation or axis block (R42). -/
def inControlLoops (a : Nat) : Bool :=
  (decide (0x01040000 ≤ a) && decide (a < 0x010B0000)) || (decide (0x02040000 ≤ a) && decide (a < 0x020B0000))

/-- The address of a register that shows events: of the ledger, of the Kerb, and the two of the event ring that a posted event changes
(R154, R591, R599). -/
def showsEvents (a : Nat) : Bool :=
  (decide (0x10090000 ≤ a) && decide (a < 0x100A0000)) || (decide (0x100D0000 ≤ a) && decide (a < 0x100E0000)) || a == HIF_EVT_PROD ||
    a == HIF_EVT_LOST

/-- The command that senses the supply voltage: a base tick (R429). -/
def sensesVin : Instr → Bool
  | .regulatorTick .. => true
  | _ => false

/-- The commands of the Regulator and of the axes with their encoders and drive bus. -/
def ofLoopsAndAxes : Instr → Bool
  | .regulatorTick .. => true
  | .modeWrite .. => true
  | .coefficientWrite .. => true
  | .setpointWrite .. => true
  | .resume .. => true
  | .fallback .. => true
  | .slotDisable .. => true
  | .encoderEdge .. => true
  | .axisTargetWrite .. => true
  | .axisControlWrite .. => true
  | .home .. => true
  | .stop .. => true
  | .clearFault .. => true
  | .homeSettleTimeout .. => true
  | .driveFrameSlot .. => true
  | .driveFrameReturn .. => true
  | .limitSwitchSample .. => true
  | .driveBusEnable .. => true
  | .driveBusDisable .. => true
  | .chainBringupTimeout .. => true
  | .chainBringupRetry .. => true
  | _ => false

/-- The commands of clock control, thermal management and the imaging units that act on no block of a Quarter and on no interface. -/
def ofSharedUpkeep : Instr → Bool
  | .refclkMissingEdge .. => true
  | .ioscReady .. => true
  | .ioscRestart .. => true
  | .classAWaitEnd .. => true
  | .clockReturn .. => true
  | .muxSelect .. => true
  | .muxSwitchDone .. => true
  | .muxStallTimeout .. => true
  | .muxForce .. => true
  | .gateClose .. => true
  | .gateCloseTimeout .. => true
  | .opPointChange .. => true
  | .voltageStepDone .. => true
  | .sensorSample .. => true
  | .riseEvaluation .. => true
  | .graceEnd .. => true
  | .enforcementStop .. => true
  | .stoppedClear .. => true
  | .authResponseRead .. => true
  | .writebackResume .. => true
  | _ => false

/-- The commands whose effect the fuses' keys enter: they check a signature or authenticate a unit (R77, R583). -/
def ofKeys : Instr → Bool
  | .imageCheckAndApply .. => true
  | .updateComplete .. => true
  | .authResponseRead .. => true
  | _ => false

end Sys2Proof.Machine
end

