-- ==== Sys2Proof/Certificates/Slice0/Obligations.lean ====
section
/-! DEFINITION. What the provers are asked: statements from the spec's rules, chapter by chapter. -/

open Sys2Proof Sys2Proof.Machine

/-- For every state: where command c stands at the front of the queue, the step is exec of c on the state with the queue's rest. With an empty
queue the step leaves the state as it is; that the block idles then is the model's choice (log entry 1). -/
def Obligations.StepTakesTheFrontCommand : Prop :=
  ∀ s : State, (∀ c rest, s.pending = c :: rest → step s = exec c { s with pending := rest }) ∧ (s.pending = [] → step s = .next s)

/-- At reset the device is in Booting with no step complete (that reset is the begin of a start, and not the Off state, is the model's choice, log
entry 2), no command waits, nothing is held, printed or committed, no trigger and no ledger bit is set, RETENTION_LOST
reads 1, the sheet journal holds the START entry alone, and the registers named here read the reset values that their tables give. -/
def Obligations.ResetIsAsTheSpecGives : Prop :=
  let d := State.reset.dev
  State.reset.pending = [] ∧ d.st = .booting ∧ d.fld CFG_STATUS CFG_STATUS_STEP = 0 ∧ d.token = none ∧ d.dlv.pages = [] ∧ d.dlv.last = 0 ∧ d.host.ingest = [] ∧ d.flight = [] ∧
    d.fld CFG_STATUS CFG_STATUS_BOOT_COPY = 3 ∧ d.fld PGS_TG_CTRL PGS_TG_CTRL_MAX_PACE = 2 ∧ d.fld PGS_TG_CTRL PGS_TG_CTRL_ALLOW_INGEST = 200 ∧
    d.fld (HIF_RING_CFG 2) HIF_RING_CFG_LOG2_SIZE = 4 ∧ d.fld RDB_RH_CFG RDB_RH_CFG_THRESHOLD = 2048 ∧
    d.fld PGS_ALLOC_CFG PGS_ALLOC_CFG_INSP_BLOCKS = 64 ∧ d.fld ARC_CMP_CFG ARC_CMP_CFG_NICE_LEN = 128 ∧
    (∀ q : Side, d.fld (PXS_FACET_CFG q 7) PXS_FACET_CFG_FACETS = 8 ∧ d.fld (PXS_REF_CFG q) PXS_REF_CFG_V_LOCK = 120 ∧
      d.fld (BMO_TEMP q 3) BMO_TEMP_LIMIT = 85 ∧ d.fld (BMO_MEAS_V q 0) BMO_MEAS_V_V_OPEN = 3000 ∧
      d.reg (BMO_HEALTH0 q 5) = 0xFFFFFFFF) ∧
    d.fld PGS_DLV_STATUS PGS_DLV_STATUS_RETENTION_LOST = 1 ∧ (d.dlv.journal.map (fun e => (e.kind, e.no, e.wsn, e.cause))) = [(6, 0, 0, 0)] ∧
    d.reg KRB_CAUSE = 0 ∧ (∀ b : Fin 256, d.sticky b = false)

/-- The registers, the memory and the tables of the state right after reset are in the one canonical form that every step keeps. -/
def Obligations.ResetIsCanonical : Prop := State.reset.dev.canonical = true

/-- From every state whose registers, memory and tables are in canonical form, a step with any command waiting, or with none, answers only next
states whose registers, memory and tables are in canonical form: keys rise strictly and nothing is listed that reads as its default. -/
def Obligations.StepsKeepCanonicalForm : Prop :=
  ∀ s u : State, s.dev.canonical = true → step s = .next u → u.dev.canonical = true

/-- Take two sets of fuses that differ in nothing but the bits of keys that are programmed. From the same device with the same queue, a step of any
command other than IMAGE_CHECK_AND_APPLY, VALIDATE's completion and AUTH_RESPONSE_READ ends in the same device: no register read, no DMA run, no
page and no self-test shows a bit of a key. The fuses themselves stay as they are. -/
def Obligations.KeysStaySecret : Prop :=
  ∀ (s : State) (f g : Fuses) (c : Instr) (rest : List Instr), f.alike g → ofKeys c = false →
    ∃ u v : State, step { s with fuses := f, pending := c :: rest } = .next u ∧ step { s with fuses := g, pending := c :: rest } = .next v ∧
      u.dev = v.dev ∧ u.pending = v.pending ∧ u.fuses = f ∧ v.fuses = g

/-- exec answers a next state for each event of R4 that begins a start and for the end of boot step 1. In Off with no shutdown running, VIN
becoming valid after it was not, 100 ms after the device was off; the end of the 100 ms with VIN valid where no press is needed; and a press
with VIN valid after a forced power-down: each begins a cold start (Booting, START_KIND 0, STEP 0). In Parked with no shutdown running, a press
with MRST_N high and the release of MRST_N: each begins a warm start (START_KIND 2) where the page store was retained and a wake (1) where it
was not, with step 1 done. In Booting with STEP 0, the release of D0's power-on reset completes step 1 and changes no other register. -/
def Obligations.StartsEnterBooting : Prop :=
  ∀ (t : Nat) (s : State),
    (s.dev.st = .off → s.dev.pwr.down = none → s.dev.pwr.vinValid = false → 100 * tuPerMs ≤ max s.dev.now t - s.dev.pwr.offAt →
      ∃ u, Sys2Proof.Machine.exec (.vinRise t) s = .next u ∧ u.fuses = s.fuses ∧ u.pending = s.pending ∧ u.dev.st = .booting ∧
        u.dev.fld CFG_STATUS CFG_STATUS_START_KIND = 0 ∧ u.dev.fld CFG_STATUS CFG_STATUS_STEP = 0) ∧
    (s.dev.st = .off → s.dev.pwr.down = none → s.dev.pwr.needPress = false →
      ∃ u, Sys2Proof.Machine.exec (.fullyOffTimeElapsed t true) s = .next u ∧ u.fuses = s.fuses ∧ u.pending = s.pending ∧
        u.dev.st = .booting ∧ u.dev.fld CFG_STATUS CFG_STATUS_START_KIND = 0 ∧ u.dev.fld CFG_STATUS CFG_STATUS_STEP = 0) ∧
    (s.dev.st = .off → s.dev.pwr.down = none → s.dev.pwr.needPress = true → s.dev.pwr.vinValid = true →
      ∃ u, Sys2Proof.Machine.exec (.pbtnPress t) s = .next u ∧ u.fuses = s.fuses ∧ u.pending = s.pending ∧ u.dev.st = .booting ∧
        u.dev.fld CFG_STATUS CFG_STATUS_START_KIND = 0 ∧ u.dev.fld CFG_STATUS CFG_STATUS_STEP = 0) ∧
    (s.dev.st = .parked → s.dev.pwr.down = none → s.dev.pwr.mrstLow = false →
      ∃ u, Sys2Proof.Machine.exec (.pbtnPress t) s = .next u ∧ u.fuses = s.fuses ∧ u.pending = s.pending ∧ u.dev.st = .booting ∧
        u.dev.fld CFG_STATUS CFG_STATUS_START_KIND = (if s.dev.boot.retained then 2 else 1) ∧
        u.dev.fld CFG_STATUS CFG_STATUS_STEP = 1) ∧
    (s.dev.st = .parked → s.dev.pwr.down = none →
      ∃ u, Sys2Proof.Machine.exec (.mrstRelease t) s = .next u ∧ u.fuses = s.fuses ∧ u.pending = s.pending ∧ u.dev.st = .booting ∧
        u.dev.pwr.mrstLow = false ∧ u.dev.fld CFG_STATUS CFG_STATUS_START_KIND = (if s.dev.boot.retained then 2 else 1) ∧
        u.dev.fld CFG_STATUS CFG_STATUS_STEP = 1) ∧
    (s.dev.st = .booting → s.dev.fld CFG_STATUS CFG_STATUS_STEP = 0 →
      ∃ u, Sys2Proof.Machine.exec (.d0PowerOnResetReleased t) s = .next u ∧ u.fuses = s.fuses ∧ u.pending = s.pending ∧
        u.dev.st = .booting ∧ u.dev.fld CFG_STATUS CFG_STATUS_STEP = 1 ∧ ∀ a, a ≠ CFG_STATUS → u.dev.reg a = s.dev.reg a)

/-- A supply failure and PBTN_N held for 8 s start a shutdown (SHUTDOWN set, injections gone; the supply failure forces the Kerb's outputs);
a collapse of VIN during one releases every enable and output; the end of a shutdown after either leaves the device Off with no token and
every domain off, to be started by a press only after a forced one. MRST_N low and the trip of die sensor 0 park the device in every state
but Off and Parked where no shutdown runs and the internal rails have not failed, the trip setting its sticky bit; PARK with and without
retention parks it from Held. -/
def Obligations.ShutdownsReachTheirEnd : Prop :=
  ∀ (t : Nat) (s : State),
    (s.dev.st ≠ .off → s.dev.pwr.down = none →
      (Completes (.vinFail t) s fun e => e.pwr.down = some .vinFail ∧ e.pwr.vinValid = false ∧ e.pwr.inj = [] ∧
        e.flag PWR_STATUS PWR_STATUS_SHUTDOWN = true ∧ e.flag KRB_STATUS KRB_STATUS_FORCING = true) ∧
      (Completes (.pbtnHold8s t) s fun e => e.pwr.down = some .forced ∧ e.pwr.inj = [] ∧ e.flag PWR_STATUS PWR_STATUS_SHUTDOWN = true)) ∧
    (s.dev.pwr.down.isSome = true →
      Completes (.vinCollapse t) s fun e => e.fld PWR_RAIL_EN PWR_RAIL_EN_EN = 0 ∧ e.fld PWR_RAIL_PG PWR_RAIL_PG_PG = 0 ∧
        e.kerb.request = 0 ∧ e.tml.gpioOut = []) ∧
    (s.dev.pwr.down = some .vinFail ∨ s.dev.pwr.down = some .forced →
      Completes (.powerDownComplete t) s fun e => e.st = .off ∧ e.token = none ∧ e.pwr.down = none ∧
        e.pwr.needPress = decide (s.dev.pwr.down = some .forced) ∧ e.flag PWR_STATUS PWR_STATUS_SHUTDOWN = false ∧
        e.fld PWR_DOM_STATUS PWR_DOM_STATUS_ON = 0) ∧
    (s.dev.st ≠ .off → s.dev.st ≠ .parked → s.dev.pwr.down = none → s.dev.boot.intFail = false →
      (Completes (.mrstLow t) s fun e => e.st = .parked ∧ e.token = none) ∧
      (Completes (.thermTrip t) s fun e => e.st = .parked ∧ e.token = none ∧ e.sticky lbThermTrip = true)) ∧
    (s.dev.st = .held → s.dev.pwr.down = none →
      (Completes (.park t) s fun e => e.st = .parked ∧ e.token = none ∧ e.boot.retained = false) ∧
      (Completes (.parkRetain t) s fun e => e.st = .parked ∧ e.token = none ∧ e.boot.retained = true))

/-- While entry i of the sequencer waits for its delay, its expiry raises the rail's enable and waits for the rail. A good rail completes the
sequence where entry i is the last, and starts the delay of the next entry where that one's enable is low. A timeout is fault 1 of that rail
and starts the shutdown of a failed boot. A drop of a good rail during the sequence, with fewer than three in the last 10 ms, goes back to
the entry of the rail. In a shutdown a rail that is off, or stuck (fault 3), lets the next rail's enable go low. -/
def Obligations.RailSequencerAdvances : Prop :=
  ∀ (t : Nat) (s : State) (i : Nat) (x : RailEntry),
    (s.dev.railEntries[i]? = some x → x.rail < 24 →
      (s.dev.pwr.seq = .delay i →
        Completes (.railDelayExpiry t) s fun e => natBit (e.fld PWR_RAIL_EN PWR_RAIL_EN_EN) x.rail = true ∧ e.pwr.seq = .waitGood i ∧
          ∀ a, a ≠ PWR_RAIL_EN → e.reg a = s.dev.reg a) ∧
      (s.dev.pwr.seq = .waitGood i →
        (∀ r : Fin 24, x.rail = r.val → s.dev.renHigh r = true →
          (s.dev.railEntries[i + 1]? = none →
            Completes (.railGood t r) s fun e => e.pwr.seq = .done ∧ natBit (e.fld PWR_RAIL_PG PWR_RAIL_PG_PG) r = true ∧
              e.flag PWR_STATUS PWR_STATUS_SEQ_BUSY = false) ∧
          (∀ y, s.dev.railEntries[i + 1]? = some y → s.dev.renHigh y.rail = false →
            Completes (.railGood t r) s fun e => e.pwr.seq = .delay (i + 1) ∧ natBit (e.fld PWR_RAIL_PG PWR_RAIL_PG_PG) r = true ∧
              e.flag PWR_STATUS PWR_STATUS_SEQ_BUSY = true)) ∧
        (Completes (.railPgTimeout t) s fun e => e.pwr.down = some .bootFail ∧ e.pwr.seq = .idle ∧
          e.fld PWR_STATUS PWR_STATUS_FAULT_CAUSE = 1 ∧ e.fld PWR_STATUS PWR_STATUS_FAULT_RAIL = x.rail) ∧
        (∀ (r : Fin 24) (k : Nat), s.dev.pwr.down = none → natBit (s.dev.fld PWR_RAIL_PG PWR_RAIL_PG_PG) r = true →
          (sget (fun _ => []) s.dev.pwr.drops r).length < 3 → s.dev.railEntries.findIdx? (fun e => e.rail == r.val) = some k →
          Completes (.railDrop t r) s fun e => (∃ l, e.pwr.seq = .falling l k) ∧ natBit (e.fld PWR_RAIL_PG PWR_RAIL_PG_PG) r = false))) ∧
    (∀ (r : Fin 24) (y : Nat) (l : List Nat), s.dev.pwr.seq = .idle → s.dev.pwr.falling = r.val :: y :: l → y < 24 → y ≠ r.val →
      (Completes (.railOff t r) s fun e => e.pwr.falling = y :: l ∧ natBit (e.fld PWR_RAIL_EN PWR_RAIL_EN_EN) y = false ∧
        natBit (e.fld PWR_RAIL_PG PWR_RAIL_PG_PG) r = false) ∧
      (Completes (.railOffTimeout t) s fun e => e.pwr.falling = y :: l ∧ natBit (e.fld PWR_RAIL_EN PWR_RAIL_EN_EN) y = false ∧
        e.fld PWR_STATUS PWR_STATUS_FAULT_CAUSE = 3 ∧ e.fld PWR_STATUS PWR_STATUS_FAULT_RAIL = r.val))

/-- A domain that may fall is off after its power-down where its blocks have wound down and no DMA channel works in it, and else stays on and
BUSY; 100 µs into one that still switches, its blocks at rest, its channels are aborted and it is off; a domain that is off, may rise and does
not switch is on after its power-up. D5 falls at its idle timeout in Held with an idle codec. A pace change is requested at the level that the
held pages need; its end takes the level of the step in progress, and a step to another level asked for meanwhile starts. A margin request
outside Held is refused; in Held it drives the rail of an entry that allows injection. A margined rail whose STATUS_WORD shows a fault is
recorded. -/
def Obligations.DomainsPaceAndMargins : Prop :=
  ∀ (t : Nat) (s : State),
    (∀ n : Fin 14, natBit (s.dev.fld PWR_DOM_STATUS PWR_DOM_STATUS_ON) n = true → s.dev.domainMayFall n = true →
      Completes (.domainPowerDown t n) s fun e =>
        let off := (((s.dev.tick t).paceDone).windingDown n).mayOpen n
        natBit (e.fld PWR_DOM_STATUS PWR_DOM_STATUS_ON) n = !off ∧ natBit (e.fld PWR_DOM_STATUS PWR_DOM_STATUS_BUSY) n = !off) ∧
    (∀ n : Fin 14, natBit (s.dev.fld PWR_DOM_STATUS PWR_DOM_STATUS_BUSY) n = true → s.dev.blocksIdle n = true →
      Completes (.domainDmaAbort t n) s fun e => natBit (e.fld PWR_DOM_STATUS PWR_DOM_STATUS_ON) n = false ∧
        natBit (e.fld PWR_DOM_STATUS PWR_DOM_STATUS_BUSY) n = false) ∧
    (∀ n : Fin 14, natBit (s.dev.fld PWR_DOM_STATUS PWR_DOM_STATUS_BUSY) n = false →
      natBit (s.dev.fld PWR_DOM_STATUS PWR_DOM_STATUS_ON) n = false → s.dev.domainMayRise n = true →
      Completes (.domainPowerUp t n) s fun e => natBit (e.fld PWR_DOM_STATUS PWR_DOM_STATUS_ON) n = true) ∧
    (s.dev.st = .held → s.dev.fld PWR_CFG PWR_CFG_D5_IDLE_MS ≠ 0 → s.dev.codecIdle = true →
      natBit (s.dev.fld PWR_DOM_STATUS PWR_DOM_STATUS_ON) 5 = true → ((s.dev.tick t).windingDown 5).mayOpen 5 = true →
      Completes (.d5IdleTimeout t) s fun e => natBit (e.fld PWR_DOM_STATUS PWR_DOM_STATUS_ON) 5 = false) ∧
    (s.dev.paceNeeded < 4 →
      Completes (.paceChangeRequest t) s fun e => e.fld PWR_PACE PWR_PACE_REQ = s.dev.paceNeeded ∧
        (s.dev.fld PWR_PACE PWR_PACE_LEVEL ≠ s.dev.paceNeeded → e.flag PWR_PACE PWR_PACE_CHANGING = true)) ∧
    (s.dev.flag PWR_PACE PWR_PACE_CHANGING = true → s.dev.pwr.paceTo < 4 →
      Completes (.paceChangeDone t) s fun e => e.fld PWR_PACE PWR_PACE_LEVEL = s.dev.pwr.paceTo ∧
        e.fld PWR_PACE PWR_PACE_REQ = s.dev.fld PWR_PACE PWR_PACE_REQ ∧
        e.flag PWR_PACE PWR_PACE_CHANGING = decide (s.dev.pwr.paceTo ≠ s.dev.fld PWR_PACE PWR_PACE_REQ)) ∧
    (∀ (v : Word) (x : RailEntry), s.dev.railEntries.find? (fun e => e.rail == PWR_MGN_CTRL_RAIL.get v) = some x →
      (s.dev.st ≠ .held → Completes (.marginRequest t v false) s fun e => e.flag PWR_MGN_ACTIVE PWR_MGN_ACTIVE_REFUSED = true ∧
        e.pwr.inj = s.dev.pwr.inj) ∧
      (s.dev.st = .held → x.marginInj = true → PWR_MGN_CTRL_MODE.get v = 1 → PWR_MGN_CTRL_RAIL.get v < 24 →
        Completes (.marginRequest t v false) s fun e =>
          natBit (e.fld PWR_MGN_ACTIVE PWR_MGN_ACTIVE_ACTIVE) (PWR_MGN_CTRL_RAIL.get v) = true ∧
          sget (fun _ => 0) e.pwr.inj (PWR_MGN_CTRL_RAIL.get v) = max (-50) (min 50 (toSigned 8 (PWR_MGN_CTRL_STEPS.get v))))) ∧
    (∀ (r : Fin 24) (w : BitVec 16), natBit (s.dev.fld PWR_MGN_ACTIVE PWR_MGN_ACTIVE_ACTIVE) r = true → w &&& 0xF7FF ≠ 0 →
      Completes (.pmbusStatusPoll t r w false) s fun e => e.fld PWR_PMB_STATUS PWR_PMB_STATUS_RAIL = r.val ∧
        e.fld PWR_PMB_STATUS PWR_PMB_STATUS_STATUS_WORD = w.toNat)

/-- Where the boot stands at the step before and goes on: the internal rails in regulation give North the token and turn on the domains of
R40; a failed internal rail is remembered; the fuses complete step 3, or fail it and lock the registers; the memory self-test completes step
5 and starts the rail sequencer at its first entry; a complete rail sequence completes step 6; the last step ends configuration retry and
enters Ready where a Quarter holds the token and no trigger is latched. -/
def Obligations.BootStepsComplete : Prop :=
  ∀ (t : Nat) (s : State),
    (s.dev.bootAt 1 = true →
      (∀ temp : Int, s.dev.boot.d0Ready = true → natBit s.dev.clk.failed 0 = false → s.dev.flag CLK_STATUS CLK_STATUS_CLASS_A_WAIT = false →
        s.dev.sticky lbThermTrip = false → s.dev.kerb.pinsLow = 0 →
        Completes (.intRailsInRegulation t temp) s fun e => e.fld CFG_STATUS CFG_STATUS_STEP = 2 ∧ e.token = some .north ∧
          e.role .north = .active ∧ e.role .south = .standby ∧ e.fld PWR_DOM_STATUS PWR_DOM_STATUS_ON = 0x33DF) ∧
      (Completes (.intRailFail t) s fun e => e.boot.intFail = true)) ∧
    (s.dev.bootAt 2 = true →
      (Completes (.fusesRead t true) s fun e => e.fld CFG_STATUS CFG_STATUS_STEP = 3 ∧ ∀ a, a ≠ CFG_STATUS → e.reg a = s.dev.reg a) ∧
      (Completes (.fusesRead t false) s fun e => e.fld CFG_STATUS CFG_STATUS_FAILED_STEP = 3 ∧ e.flag CFG_STATUS CFG_STATUS_LOCKED = true)) ∧
    (∀ x, s.dev.bootAt 4 = true → s.dev.railEntries[0]? = some x → s.dev.renHigh x.rail = false →
      Completes (.memorySelfTest t true true true) s fun e => e.fld CFG_STATUS CFG_STATUS_STEP = 5 ∧ e.pwr.seq = .delay 0) ∧
    (s.dev.bootAt 5 = true → s.dev.pwr.seq = .done →
      Completes (.railSequenceComplete t) s fun e => e.fld CFG_STATUS CFG_STATUS_STEP = 6 ∧ ∀ a, a ≠ CFG_STATUS → e.reg a = s.dev.reg a) ∧
    (s.dev.bootAt 7 = true → s.dev.token ≠ none → s.dev.kerb.latched = 0 →
      Completes (.bootComplete t) s fun e => e.st = .ready ∧ e.fld CFG_STATUS CFG_STATUS_STEP = 8 ∧ e.host.cfgRetry = false)

/-- Whatever the flash holds, IMAGE_CHECK_AND_APPLY leaves the registers locked and either step 4 complete or step 4 failed. A training whose
first attempt succeeds in every channel, with one listed geometry in every sub-channel, ends trained at the configured rate with that
capacity and rank count and step 7 complete. -/
def Obligations.ImageAppliesAndStoreTrains : Prop :=
  ∀ (t : Nat) (s : State),
    (∀ reread units challenge, s.dev.bootAt 3 = true →
      Completes (.imageCheckAndApply t reread units challenge) s fun e => e.flag CFG_STATUS CFG_STATUS_LOCKED = true ∧
        (e.fld CFG_STATUS CFG_STATUS_STEP = 4 ∨ e.fld CFG_STATUS CFG_STATUS_FAILED_STEP = 4)) ∧
    (∀ g r : Nat, s.dev.bootAt 6 = true → geometryListed g r = true →
      Completes (.pageStoreTrained t [] (List.replicate 8 g) (List.replicate 8 r) []) s fun e =>
        e.fld CFG_STATUS CFG_STATUS_STEP = 7 ∧ e.flag RDB_STATUS RDB_STATUS_TRAINED = true ∧
        e.fld RDB_STATUS RDB_STATUS_RATE_ACT = s.dev.fld RDB_CFG RDB_CFG_RATE ∧ e.fld RDB_STATUS RDB_STATUS_CAP_GIB = 8 * g ∧
        e.flag RDB_STATUS RDB_STATUS_RANKS2 = decide (r = 2))

/-- Start in Held, with nothing that refuses it and no planned transfer waiting, enters Ready; refused, it answers ERR_STATE and the device
stays Held. Hold in Ready enters Held. Stop in Printing enters Draining, which is Ready at once where no sheet is in flight. -/
def Obligations.HostCommandsMoveTheState : Prop :=
  ∀ (t : Nat) (s : State),
    (s.dev.st = .held → s.dev.planned = none →
      (s.dev.startRefused = false → Completes (.hostStart t) s fun e => e.st = .ready ∧ e.resp = .ok) ∧
      (s.dev.startRefused = true → Completes (.hostStart t) s fun e => e.st = .held ∧ e.resp = .errState)) ∧
    (s.dev.st = .ready → s.dev.planned = none → Completes (.hostHold t) s fun e => e.st = .held ∧ e.resp = .ok) ∧
    (s.dev.st = .printing →
      Completes (.hostStop t) s fun e => e.st = (if s.dev.flight.isEmpty then .ready else .draining) ∧ e.resp = .ok)

/-- In Held, Ready, Printing and Draining an open pin and the ESTOP command enter Safe: the outputs are forced, neither Quarter transmits,
and the cause is latched, the pin's trigger being live. A pin that falls again while its trigger is live, in these states or in Safe, changes no
register and no state (the model's reading of a live trigger, log entry 94). A released pin is live no more. In Safe the clear with its key and no live trigger,
no Class A wait and no trigger firing in the same cycle ends the forcing, clears the cause and every request and enters Held; with a live
trigger, or in the cycle in which one fires, it is refused and the device stays in Safe. -/
def Obligations.KerbTriggersAndClear : Prop :=
  ∀ (t : Nat) (s : State),
    (s.dev.st = .held ∨ s.dev.st = .ready ∨ s.dev.st = .printing ∨ s.dev.st = .draining →
      (∀ pin : Fin 3, natBit (s.dev.fld KRB_STATUS KRB_STATUS_LIVE) pin = false →
        Completes (.interlockOpen t pin) s fun e => e.st = .safe ∧ e.flag KRB_STATUS KRB_STATUS_FORCING = true ∧
        natBit (e.fld KRB_STATUS KRB_STATUS_LIVE) pin = true ∧ natBit (e.fld KRB_CAUSE KRB_CAUSE_CAUSE) pin = true ∧
        e.fld KRB_CAUSE KRB_CAUSE_FIRST = pin.val ∧ e.north.transmits = false ∧ e.south.transmits = false) ∧
      (Completes (.estop t) s fun e => e.st = .safe ∧ e.flag KRB_STATUS KRB_STATUS_FORCING = true ∧
        natBit (e.fld KRB_CAUSE KRB_CAUSE_CAUSE) 3 = true ∧ e.fld KRB_CAUSE KRB_CAUSE_FIRST = 3 ∧ e.north.transmits = false ∧
        e.south.transmits = false)) ∧
    (∀ pin : Fin 3, s.dev.st ≠ .off → s.dev.st ≠ .parked → natBit (s.dev.fld KRB_STATUS KRB_STATUS_LIVE) pin = true →
      Completes (.interlockOpen t pin) s fun e => e.st = s.dev.st ∧ natBit e.kerb.pinsLow pin = true ∧ ∀ a, e.reg a = s.dev.reg a) ∧
    (∀ pin : Fin 3, Completes (.interlockRelease t pin) s fun e => natBit (e.fld KRB_STATUS KRB_STATUS_LIVE) pin = false ∧
      natBit e.kerb.pinsLow pin = false ∧ e.st = s.dev.st ∧ ∀ a, a ≠ KRB_STATUS → e.reg a = s.dev.reg a) ∧
    (s.dev.st = .safe →
      (s.dev.fld KRB_STATUS KRB_STATUS_LIVE = 0 → s.dev.flag CLK_STATUS CLK_STATUS_CLASS_A_WAIT = false → s.dev.planned = none →
        (s.dev.tick t).firesNow = false → Completes (.krbClear t 0x5AFE) s fun e => e.st = .held ∧ e.flag KRB_STATUS KRB_STATUS_FORCING = false ∧ e.reg KRB_CAUSE = 0 ∧
          e.kerb.request = 0) ∧
      (s.dev.fld KRB_STATUS KRB_STATUS_LIVE ≠ 0 ∨ (s.dev.tick t).firesNow = true →
        Completes (.krbClear t 0x5AFE) s fun e => e.st = .safe ∧ e.flag KRB_STATUS KRB_STATUS_CLEAR_REFUSED = true ∧
          e.flag KRB_STATUS KRB_STATUS_FORCING = s.dev.flag KRB_STATUS KRB_STATUS_FORCING))

/-- LDG_CLEAR with its key clears every sticky bit and every LDG_CNT and no other register; with any other key it changes nothing but the
time. A write of LDG_NMI clears exactly the flags written 1 and, with CLOCK among them, CLK_STATUS.NMI; every other register stays. -/
def Obligations.LedgerAndFlagsClear : Prop :=
  ∀ (t : Nat) (s : State),
    (Completes (.ledgerClearAll t 0xC1EA) s fun e => (∀ b < 256, e.sticky b = false ∧ e.reg (LDG_CNT b) = 0) ∧
      ∀ a, (∀ m < 8, a ≠ LDG_STICKY m) → (∀ b < 256, a ≠ LDG_CNT b) → e.reg a = s.dev.reg a) ∧
    (∀ key : BitVec 16, key ≠ 0xC1EA → Completes (.ledgerClearAll t key) s fun e => e = s.dev.tick t) ∧
    (∀ m : Word, Completes (.nmiFlagClear t m) s fun e => e.reg LDG_NMI = s.dev.reg LDG_NMI &&& ~~~(m &&& 0x1F) ∧
      (m.getLsbD 0 = true → e.flag CLK_STATUS CLK_STATUS_NMI = false) ∧
      ∀ a, a ≠ LDG_NMI → a ≠ CLK_STATUS → e.reg a = s.dev.reg a)

/-- A write that is not one aligned word ends well and counts one BAD_WIDTH event. A host write to a Quarter view is discarded and changes
nothing but the answer. A Quarter's write to the other's alias or local memory ends with ERR_XQ and counts one CROSS_WRITE event. An access below the
Quarter bases by another master than a Quarter, and one to device-only memory, end with ERR_DECODE and change nothing but the answer; one
to an address that nothing occupies reads 0, ends well for the host alone, and counts one DECODE_MISS event. -/
def Obligations.DeadAccessesAreAnswered : Prop :=
  ∀ (t : Nat) (s : State) (m : Master) (addr : Nat) (v : Word) (w : Bool),
    (∀ len, ¬(len = 4 ∧ addr % 4 = 0) →
      Completes (.narrowWrite t m addr len) s fun e => e.resp = .ok ∧
        e.fld (LDG_CNT lbBadWidth) LDG_CNT_EVENTS = min (s.dev.fld (LDG_CNT lbBadWidth) LDG_CNT_EVENTS + 1) 65535) ∧
    (quarterView addr = true → Completes (.quarterViewHostWrite t addr v) s fun e => e = (s.dev.tick t).reply .ok) ∧
    (∀ q, crossing (.quarter q) addr = true →
      Completes (.crossWrite t q addr v) s fun e => e.resp = .errXq ∧
        e.fld (LDG_CNT lbCrossWrite) LDG_CNT_EVENTS = min (s.dev.fld (LDG_CNT lbCrossWrite) LDG_CNT_EVENTS + 1) 65535) ∧
    (addr < 0x100000 → (∀ q, m ≠ .quarter q) →
      Completes (.quarterBaseSharedAccess t m addr w) s fun e => e = (s.dev.tick t).reply .errDecode) ∧
    (s.dev.reach m addr = .deviceOnly → Completes (.deviceOnlyAccess t m addr w) s fun e => e = (s.dev.tick t).reply .errDecode) ∧
    (s.dev.reach m addr = .nothing →
      Completes (.decodeMiss t m addr false) s fun e => e.data = 0 ∧ e.resp = (if m = .host then .ok else .errDecode) ∧
        e.fld (LDG_CNT lbDecodeMiss) LDG_CNT_EVENTS = min (s.dev.fld (LDG_CNT lbDecodeMiss) LDG_CNT_EVENTS + 1) 65535)

/-- A Quarter's write of one of its own QTR registers but QTR_CMD, while the write would change no locked bit, leaves the register as its
access codes say, answers well and leaves every other register. A read of the low word of a 64-bit value answers it and latches the high
word; the read of a high word that is latched answers what was latched and releases it. A read of some bytes of a low word answers exactly them,
without an error, and latches the high word too. -/
def Obligations.RegisterWritesAndWideReads : Prop :=
  ∀ (t : Nat) (s : State),
    (∀ (q : Side) (o : Nat) (v : Word) (r : RegRow), o < 0x10000 → o % 4 = 0 → q.base + o ≠ QTR_CMD q → regRow (q.base + o) = some r →
      isLow (q.base + o) = false → sget (fun _ => none) s.dev.loHold (q.base + o - 4) = none → s.dev.fenced (q.base + o) = false →
      s.dev.locked = false ∨ (v ^^^ s.dev.reg (q.base + o)) &&& r.rwl = 0 →
      Completes (.registerWrite t (.quarter q) o v) s fun e => e.resp = .ok ∧
        e.reg (q.base + o) = r.written s.dev.locked (s.dev.reg (q.base + o)) v ∧ ∀ x, x ≠ q.base + o → e.reg x = s.dev.reg x) ∧
    (∀ (m : Master) (addr a : Nat), s.dev.reach m addr = .reg a →
      (isLow a = true → addr % 4 = 0 →
        Completes (.lowWordRead t m addr 4) s fun e => e.resp = .ok ∧ e.data = (s.dev.tick t).viewWord s.fuses a ∧
          sget (fun _ => none) e.hiLatch a = some ((s.dev.tick t).viewWord s.fuses (a + 4)) ∧ ∀ x, e.reg x = s.dev.reg x) ∧
      (∀ w, isLow a = false → sget (fun _ => none) s.dev.hiLatch (a - 4) = some w → addr % 4 = 0 →
        Completes (.lowWordRead t m addr 4) s fun e => e.resp = .ok ∧ e.data = w ∧ sget (fun _ => none) e.hiLatch (a - 4) = none ∧
          ∀ x, e.reg x = s.dev.reg x)) ∧
    (∀ (m : Master) (addr len a : Nat), s.dev.reach m (addr - addr % 4) = .reg a → isLow a = true → 1 ≤ len → addr % 4 + len ≤ 4 →
      Completes (.lowWordRead t m addr len) s fun e => e.resp = .ok ∧
        e.rdata = ((leBytes 4 ((s.dev.tick t).viewWord s.fuses a).toNat).drop (addr % 4)).take len ∧
        sget (fun _ => none) e.hiLatch a = some ((s.dev.tick t).viewWord s.fuses (a + 4)) ∧ ∀ x, e.reg x = s.dev.reg x)

/-- A dual-rail violation in the shared core ends its transfer with ERR_FABRIC and counts one FABRIC_CODE event. A corrected error of an
on-chip memory ends well and is counted; an uncorrectable one in the Plaza ends with ERR_ECC and counts one SRAM_UE event. -/
def Obligations.FabricAndMemoryErrors : Prop :=
  ∀ (t : Nat) (s : State) (addr : Nat),
    (Completes (.fabricCodeViolation t .sharedCore) s fun e => e.resp = .errFabric ∧
      e.fld (LDG_CNT lbFabricCode) LDG_CNT_EVENTS = min (s.dev.fld (LDG_CNT lbFabricCode) LDG_CNT_EVENTS + 1) 65535) ∧
    (Completes (.sramEccError t addr false) s fun e => e.resp = .ok ∧ e.sramCe = s.dev.sramCe + 1 ∧ (∀ x, e.reg x = s.dev.reg x) ∧
      ∀ x, e.byte x = s.dev.byte x) ∧
    (addr < 0x20700000 →
      Completes (.sramEccError t addr true) s fun e => e.resp = .errEcc ∧
        e.fld (LDG_CNT lbSramUe) LDG_CNT_EVENTS = min (s.dev.fld (LDG_CNT lbSramUe) LDG_CNT_EVENTS + 1) 65535)

/-- With no update command held and a region that fits, ERASE and PROGRAM of a copy other than the one in use, and VERIFY and VALIDATE of
any copy, run at once, or are held while the temperature forbids writing. ERASE and PROGRAM of the copy in use end with error 1. ABORT ends the
command in progress with ABORTED. A running command without an answer from the flash ends with error 3, and a VALIDATE with one reports
the result of the checks of its copy. A held command runs once writing is allowed. -/
def Obligations.UpdateCommandsRunAndEnd : Prop :=
  ∀ (t : Nat) (s : State) (c : Copy) (data : List Byte),
    let u := fun op data => ({ op, copy := c, offset := s.dev.nat CFG_UPD_OFFSET, len := s.dev.nat CFG_UPD_LEN, data } : Update)
    let issued := fun (op : Nat) (data : List Byte) (e : Device) => e.boot.update = some (u op data) ∧
      e.fld CFG_UPD_STATUS CFG_UPD_STATUS_STATE = (if s.dev.writesOut then 2 else 1) ∧
      e.fld CFG_UPD_STATUS CFG_UPD_STATUS_ERR = 0
    (s.dev.boot.update = none →
      (s.dev.fld CFG_STATUS CFG_STATUS_BOOT_COPY ≠ c.code →
        (s.dev.updateRange (u uoErase []) = true → Completes (.erase t c) s (issued uoErase [])) ∧
        (s.dev.updateRange (u uoProgram data) = true → Completes (.program t c data) s (issued uoProgram data))) ∧
      (s.dev.updateRange (u uoVerify data) = true → Completes (.verify t c data) s (issued uoVerify data)) ∧
      (Completes (.validate t c) s (issued uoValidate [])) ∧
      (s.dev.fld CFG_STATUS CFG_STATUS_BOOT_COPY = c.code →
        (Completes (.erase t c) s fun e => e.fld CFG_UPD_STATUS CFG_UPD_STATUS_ERR = 1 ∧ e.flash = s.dev.flash) ∧
        (Completes (.program t c data) s fun e => e.fld CFG_UPD_STATUS CFG_UPD_STATUS_ERR = 1 ∧ e.flash = s.dev.flash))) ∧
    (∀ v, s.dev.boot.update = some v →
      (Completes (.updateAbort t) s fun e => e.boot.update = none ∧ e.fld CFG_UPD_STATUS CFG_UPD_STATUS_STATE = 3 ∧
        e.fld CFG_UPD_STATUS CFG_UPD_STATUS_ERR = 7 ∧ e.flash = s.dev.flash) ∧
      (s.dev.fld CFG_UPD_STATUS CFG_UPD_STATUS_STATE = 1 →
        (Completes (.updateComplete t false) s fun e => e.boot.update = none ∧ e.fld CFG_UPD_STATUS CFG_UPD_STATUS_STATE = 3 ∧
          e.fld CFG_UPD_STATUS CFG_UPD_STATUS_ERR = 3) ∧
        (v.op = uoValidate → s.dev.flash.present = true →
          Completes (.updateComplete t true) s fun e => e.boot.update = none ∧ e.fld CFG_UPD_STATUS CFG_UPD_STATUS_STATE = 3 ∧
            e.fld CFG_UPD_STATUS CFG_UPD_STATUS_ERR = 0 ∧
            e.fld CFG_UPD_STATUS CFG_UPD_STATUS_RESULT = ((s.dev.tick t).checkCopy s.fuses v.copy).1 % 16)) ∧
      (s.dev.fld CFG_UPD_STATUS CFG_UPD_STATUS_STATE = 2 → s.dev.flag THM_STATUS THM_STATUS_WRITE_HOLD = false →
        Completes (.updateDeferResume t) s fun e => e.boot.update = some v ∧ e.fld CFG_UPD_STATUS CFG_UPD_STATUS_STATE = 1))

/-- The page at the head of ingest that is stored, checked and passes the Tollgate is held after the other pages, and HORIZON is its highest
WSN. With no planned transfer waiting, a detection in an open window commits the lowest sheet in it: LAST_DELIVERED is its WSN and the
newest entry of the sheet journal is its delivery; outside every window it is counted as unexpected. PGS_COMMIT_CLR with its key clears
the commit register, HORIZON and the journal in Held with no page held, and is refused elsewhere. -/
def Obligations.PagesAcceptedAndSheetsCommitted : Prop :=
  ∀ (t : Nat) (s : State),
    (∀ x rest, s.dev.host.ingest = x :: rest → x.live = true → x.awaits = false → x.page.ready = true →
      ((s.dev.tick t).gateCheck x.page).kind = 0 →
      Completes (.tollgateCheck t) s fun e =>
        e.dlv.pages = s.dev.dlv.pages ++ [x.page] ∧ e.dlv.horizon = x.page.top) ∧
    (∀ (g : Fin 64),
      let open_ := s.dev.openInsts.filter (fun x => s.dev.takesDetect g x.2)
      (∀ n i, leastBy (fun (x y : Nat × Instance) => decide (x.2.wsn < y.2.wsn)) open_ = some (n, i) → s.dev.inst n = some i →
        s.dev.planned = none →
        Completes (.stackerDetect t g) s fun e => e.dlv.last = i.top ∧
          (e.dlv.journal.head?.map fun x => (x.kind, x.wsn, x.cause)) = some (skDelivered, i.top, i.cause)) ∧
      (open_ = [] →
        Completes (.stackerDetect t g) s fun e => e.dlv.last = s.dev.dlv.last ∧
          e.fld (LDG_CNT lbSheetUnexpected) LDG_CNT_EVENTS = min (s.dev.fld (LDG_CNT lbSheetUnexpected) LDG_CNT_EVENTS + 1) 65535)) ∧
    (s.dev.st = .held → s.dev.dlv.pages = [] →
      Completes (.commitClear t 0xC0DE) s fun e => e.resp = .ok ∧ e.dlv.last = 0 ∧ e.dlv.horizon = 0 ∧ e.dlv.journal = []) ∧
    (s.dev.st ≠ .held → Completes (.commitClear t 0xC0DE) s fun e => e.resp = .errState ∧ e.dlv = s.dev.dlv)

/-- Enabling a job ring that is off and idle with a base, size and write-back address that R128 allows sets its indices to 0 and leaves a halt to its
command; disabling one that is empty and idle takes ENABLE and leaves BUSY 0. A doorbell within the ring's size replaces PROD; one beyond halts a
ring that runs. RETRY and SKIP of a halted ring clear the halt, and SKIP of a page status moves CONS past the slots. Enabling the event
ring sets its indices to 0, and its doorbell takes any value up to PROD. -/
def Obligations.RingsEnableAndRing : Prop :=
  ∀ (t : Nat) (s : State) (r : Fin 3) (v : Word),
    (s.dev.ringEnabled r = false → s.dev.flag (HIF_RING_CFG r) HIF_RING_CFG_BUSY = false →
      ringArgsOk (s.dev.nat64 (HIF_RING_BASE_LO r)) (HIF_RING_CFG_LOG2_SIZE.get v) = true →
      s.dev.nat64 (HIF_RING_WB_LO r) % 8 = 0 → s.dev.nat64 (HIF_RING_WB_LO r) < 2 ^ 63 →
      Completes (.ringEnable t r v) s fun e => e.ringEnabled r = true ∧ e.reg (HIF_RING_PROD r) = 0 ∧ e.reg (HIF_RING_CONS r) = 0 ∧
        e.ringHalted r = s.dev.ringHalted r) ∧
    (s.dev.ringEnabled r = true → s.dev.flag (HIF_RING_CFG r) HIF_RING_CFG_BUSY = false →
      s.dev.reg (HIF_RING_PROD r) = s.dev.reg (HIF_RING_CONS r) → s.dev.ringIdle r = true →
      Completes (.ringDisable t r v) s fun e => e.ringEnabled r = false ∧ e.flag (HIF_RING_CFG r) HIF_RING_CFG_BUSY = false) ∧
    (s.dev.ringEnabled r = true →
      (0 < s.dev.ringAhead r v.toNat → s.dev.ringAhead r v.toNat ≤ 2 ^ (s.dev.force r).log2 →
        Completes (.jobDoorbell t r v) s fun e => e.reg (HIF_RING_PROD r) = v ∧ e.host.l1 = false ∧
          ∀ a, a ≠ HIF_RING_PROD r → e.reg a = s.dev.reg a) ∧
      (2 ^ (s.dev.force r).log2 < s.dev.ringAhead r v.toNat → s.dev.ringHalted r = false →
        Completes (.jobDoorbell t r v) s fun e => e.ringHalted r = true ∧ e.fld (HIF_RING_STATUS r) HIF_RING_STATUS_HALT_CAUSE = 0xE ∧
          e.reg (HIF_RING_PROD r) = s.dev.reg (HIF_RING_PROD r))) ∧
    (s.dev.ringHalted r = true →
      (Completes (.retry t r) s fun e => e.reg (HIF_RING_STATUS r) = 0 ∧ e.reg (HIF_RING_CONS r) = s.dev.reg (HIF_RING_CONS r)) ∧
      (Completes (.skip t r) s fun e => e.reg (HIF_RING_STATUS r) = 0 ∧
        (r = 0 → s.dev.fld (HIF_RING_STATUS 0) HIF_RING_STATUS_HALT_CAUSE ≠ 0xE →
          e.nat (HIF_RING_CONS 0) = (s.dev.nat (HIF_RING_CONS 0) + s.dev.host.haltSlots) % 2 ^ 32))) ∧
    (s.dev.evtOn = false → ringArgsOk (s.dev.nat64 HIF_EVT_BASE_LO) (HIF_EVT_CFG_LOG2_SIZE.get v) = true →
      Completes (.eventRingEnable t v) s fun e => e.evtOn = true ∧ e.reg HIF_EVT_PROD = 0 ∧ e.reg HIF_EVT_CONS = 0) ∧
    (s.dev.evtOn = true → (v.toNat + 2 ^ 32 - s.dev.nat HIF_EVT_CONS) % 2 ^ 32 ≤ s.dev.evtUsed →
      Completes (.eventDoorbell t v) s fun e => e.reg HIF_EVT_CONS = v ∧ ∀ a, a ≠ HIF_EVT_CONS → e.reg a = s.dev.reg a)

/-- A slot that may be fetched moves CONS by one. A well-formed first side of a duplex pair enters the empty ingest and awaits its second
side; a well-formed parameter descriptor for a page not yet delivered is bound to it; a well-formed inspection descriptor adds its buffer.
A first side with a status that halts the ring leaves CONS at its slot and the ring halted with that cause. -/
def Obligations.DescriptorsAreFetched : Prop :=
  ∀ (t : Nat) (s : State) (x : FetchedSlot), x.descOk = true →
    (s.dev.mayFetch 0 = true → s.dev.host.ingest = [] →
      (s.dev.firstVerdict x = none → (parseSide x.desc).duplex = true →
        Completes (.descriptorFetch t 0 [x]) s fun e => ∃ y, e.host.ingest = [y] ∧ y.awaits = true ∧ y.verdict = none ∧
          y.page.first.wsn = (parseSide x.desc).wsn ∧ e.nat (HIF_RING_CONS 0) = (s.dev.nat (HIF_RING_CONS 0) + 1) % 2 ^ 32) ∧
      (∀ v, s.dev.firstVerdict x = some v → haltsRing v = true → v < 16 →
        Completes (.descriptorFetch t 0 [x]) s fun e => e.host.ingest = [] ∧ e.ringHalted 0 = true ∧
          e.fld (HIF_RING_STATUS 0) HIF_RING_STATUS_HALT_CAUSE = v ∧ e.reg (HIF_RING_CONS 0) = s.dev.reg (HIF_RING_CONS 0))) ∧
    (s.dev.mayFetch 1 = true → paramFormOk x.desc = true → (paramEntries x.desc).all (fun e => s.dev.paramOk e.1 e.2) = true →
      applyWsn x.desc ≠ 0 → s.dev.dlv.last < applyWsn x.desc →
      Completes (.descriptorFetch t 1 [x]) s fun e => e.nat (HIF_RING_CONS 1) = (s.dev.nat (HIF_RING_CONS 1) + 1) % 2 ^ 32 ∧
        e.host.bound = s.dev.host.bound ++
          [{ wsn := applyWsn x.desc, slot := s.dev.nat (HIF_RING_CONS 1) % 2 ^ (s.dev.force 1).log2, entries := paramEntries x.desc }]) ∧
    (s.dev.mayFetch 2 = true → bytesAt x.desc 8 1 = 3 → bytesAt x.desc 0 8 + bytesAt x.desc 16 4 ≤ 2 ^ 63 → bytesAt x.desc 0 8 < 2 ^ 63 →
      Completes (.descriptorFetch t 2 [x]) s fun e => e.nat (HIF_RING_CONS 2) = (s.dev.nat (HIF_RING_CONS 2) + 1) % 2 ^ 32 ∧
        e.host.bufs = s.dev.host.bufs ++ [{ addr := bytesAt x.desc 0 8, len := bytesAt x.desc 16 4, tag := bytesAt x.desc 24 4 }])

/-- Where its domain is on, a link that comes up shows its rate and width, is not in L1 and holds what the host has configured. A fundamental or hot reset and a link-down leave it down, a Function
Level Reset leaves it as it is, and each empties ingest, the buffers and the rings in force. The link enters L1 where the host allows it and
nothing of the host is in progress. With MSI-X enabled and unmasked, a vector's moderation time sends its unmasked interrupt once and leaves nothing unsignalled. -/
def Obligations.LinkAndInterrupts : Prop :=
  ∀ (t : Nat) (s : State),
    (∀ rate width cfg, rate < 16 → width < 16 → natBit (s.dev.fld PWR_DOM_STATUS PWR_DOM_STATUS_ON) 7 = true →
      Completes (.pcieLinkUp t rate width cfg) s fun e => e.host.linkUp = true ∧ e.host.pcie = cfg ∧ e.host.perstN = true ∧ e.host.l1 = false ∧ e.fld HIF_LINK HIF_LINK_RATE = rate ∧
        e.fld HIF_LINK HIF_LINK_WIDTH = width ∧ ∀ a, a ≠ HIF_LINK → e.reg a = s.dev.reg a) ∧
    (∀ (k : PcieResetKind) (unsent : Nat), Completes (.pcieReset t k unsent) s fun e => e.host.linkUp = (s.dev.host.linkUp && decide (k = .functionLevel)) ∧
      e.host.ingest = [] ∧ e.host.bufs = [] ∧ e.host.rings = []) ∧
    (∀ unsent, Completes (.linkDown t unsent) s fun e => e.host.linkUp = false ∧ e.host.ingest = [] ∧ e.host.bufs = [] ∧ e.host.rings = []) ∧
    (s.dev.host.linkUp = true → s.dev.pcie.aspmL1 = true → s.dev.hostBusy = false →
      Completes (.aspmL1Entry t) s fun e => e.host.l1 = true ∧ ∀ a, e.reg a = s.dev.reg a) ∧
    (∀ n : Fin 64, s.dev.fld HIF_EVT_MOD HIF_EVT_MOD_TIME ≠ 0 → sget (fun _ => 0) s.dev.host.unsignalled n ≠ 0 →
      s.dev.pcie.msixOn = true → s.dev.pcie.msixMask = false → (sget msixDefault s.dev.host.msix (4 * n.val + 3)).getLsbD 0 = false →
      Completes (.interruptModerationTimeout t n) s fun e => sget (fun _ => 0) e.host.unsignalled n = 0 ∧
        sget (fun _ => 0) e.host.sent n = sget (fun _ => 0) s.dev.host.sent n + 1 ∧ ∀ a, e.reg a = s.dev.reg a) ∧
    (∀ x, s.dev.evtRoom = true → s.dev.host.backlog = [x] → s.dev.host.lost = 0 →
      Completes (.backlogDrain t) s fun e => e.host.backlog = [] ∧ e.nat HIF_EVT_PROD = (s.dev.nat HIF_EVT_PROD + 1) % 2 ^ 32)

/-- A host read that ends with an error for the only page in ingest ends that page with HOST_READ and halts ring 0 at its slot. When blocks
and a handle are free again, as many as were missing, the wait ends. -/
def Obligations.IngestFailsAndResumes : Prop :=
  ∀ (t : Nat) (s : State),
    (∀ x, s.dev.host.ingest = [x] → x.live = true →
      Completes (.hostReadError t (.page 0)) s fun e => e.host.ingest = [] ∧ e.ringHalted 0 = true ∧
        e.fld (HIF_RING_STATUS 0) HIF_RING_STATUS_HALT_CAUSE = psHostRead ∧ e.nat (HIF_RING_CONS 0) = x.slot % 2 ^ 32) ∧
    (s.dev.freeBlocks ≠ 0 → s.dev.ps.short ≤ s.dev.freeBlocks → s.dev.newHandle.isSome = true → s.dev.host.ingest = [] →
      Completes (.ingestResume t) s fun e => e.flag PGS_ALLOC_PAGES PGS_ALLOC_PAGES_WAIT = false ∧
        ∀ a, a ≠ PGS_ALLOC_PAGES → e.reg a = s.dev.reg a)

/-- For every channel that is not the device's own: enabling one that is off and idle takes ENABLE and clears ERR, and with a COUNT that is
no multiple of the larger width stops it with ERR_DECODE; disabling clears ENABLE and keeps COUNT. A free-running run between the page store
and host memory whose spans are good, with no lower channel ready and no page-store request held back, moves all COUNT bytes at once, leaves
every other byte, and waits for its read-back; a bad source ends the channel with its error. The read-back ends it with DONE; on the RAW-band
channel it completes the band of the page read. -/
def Obligations.DmaChannelsRun : Prop :=
  ∀ (t : Nat) (s : State) (e : Engine) (c : Fin 16),
    let a := aly e c
    let n := s.dev.nat (a + alyCount)
    let src := s.dev.nat64 (a + alySrc)
    let dst := s.dev.nat64 (a + alyDst)
    (deviceChannel e c = false →
      (∀ ctrl : Word, s.dev.dmaBusy e c = false → s.dev.flag (a + alyCtrl) ALYS_CTRL_ENABLE = false →
        (n % max (widthBytes (ALYS_CTRL_SRC_W.get ctrl)) (widthBytes (ALYS_CTRL_DST_W.get ctrl)) = 0 →
          Completes (.dmaChannelEnable t e c ctrl) s fun d => d.flag (a + alyCtrl) ALYS_CTRL_ENABLE = true ∧ d.dmaBusy e c = false ∧
            d.fld (a + alyStatus) ALYS_STATUS_ERR = 0 ∧ OnlyRegs { s.dev.tick t with dma := d.dma } d [a + alyCtrl, a + alyStatus]) ∧
        (n % max (widthBytes (ALYS_CTRL_SRC_W.get ctrl)) (widthBytes (ALYS_CTRL_DST_W.get ctrl)) ≠ 0 →
          Completes (.dmaChannelEnable t e c ctrl) s fun d => d.fld (a + alyStatus) ALYS_STATUS_ERR = deDecode ∧ d.dmaBusy e c = false ∧
            OnlyRegs { s.dev.tick t with dma := d.dma } d [a + alyCtrl, a + alyStatus])) ∧
      (Completes (.dmaChannelDisable t e c) s fun d => d.flag (a + alyCtrl) ALYS_CTRL_ENABLE = false ∧
        d.nat (a + alyCount) = n ∧ OnlyRegs { s.dev.tick t with dma := d.dma } d [a + alyCtrl])) ∧
    (∀ (ready : BitVec 16) (data : List Byte) (level : Nat) (mark : Bool),
      s.dev.mayRun e c = true → s.dev.fld (a + alyCtrl) ALYS_CTRL_PACE_MODE = 0 → n ≠ 0 → s.dev.readyBelow e c ready.toNat = false →
      ((s.dev.tick t).runInStore e c && (channelPort e c).any (s.dev.tick t).portWaits) = false →
      (s.dev.chan e c).checked = true ∨ s.dev.countFits e c = true → (s.dev.chan e c).waits = false →
      (2 ^ 32 ≤ src → 2 ^ 32 ≤ dst → s.dev.spanErr (engineMaster e) src n = none → s.dev.spanErr (engineMaster e) dst n = none →
        Completes (.dmaRunStart t e c ready level mark data .none) s fun d => d.nat (a + alyCount) = 0 ∧ d.dmaBusy e c = true ∧
          (∀ i < n, d.byte (dst + i) = if 2 ^ 63 ≤ src then data.getD i 0 else s.dev.byte (src + i)) ∧
          ∀ x, x < dst ∨ dst + n ≤ x → d.byte x = s.dev.byte x) ∧
      (∀ err, 2 ^ 63 ≤ src ∨ s.dev.inStore src = true → s.dev.spanErr (engineMaster e) src n = some err →
        Completes (.dmaRunStart t e c ready level mark data .none) s fun d => d.fld (a + alyStatus) ALYS_STATUS_ERR = err ∧
          d.dmaBusy e c = false ∧ OnlyRegs { s.dev.tick t with dma := d.dma, ps := d.ps } d [a + alyCtrl, a + alyStatus])) ∧
    (s.dev.dmaBusy e c = true → n = 0 → (s.dev.chan e c).waits = false → s.dev.fld PWR_DOM_STATUS PWR_DOM_STATUS_BUSY = 0 →
      (Completes (.dmaReadbackDone t e c none) s fun d => d.dmaBusy e c = false ∧ d.flag (a + alyStatus) ALYS_STATUS_DONE = true ∧
        d.fld (a + alyStatus) ALYS_STATUS_ERR = 0 ∧
        OnlyRegs { s.dev.tick t with dma := d.dma } d [a + alyCtrl, a + alyStatus]) ∧
      (∀ (st : Station) (b : Nat) (subs : List (List Byte)) (y : IngestS) (r : BandRec), e = .shared → c = 6 →
        s.dev.host.ingest = [y] → y.live = true → y.page.handle ≠ 0 → (y.page.sideOf b).crcEn = false → s.dev.paused = false →
        y.page.recs.find? (fun r => r.station == st.val && r.band == b && (r.format == 0) == true) = some r → r.stored = false →
        Completes (.dmaReadbackDone t e c (some { page := 0, station := st, band := b, subs := subs })) s fun d => d.dmaBusy e c = false ∧
          ∃ z, d.host.ingest = [z] ∧ ∀ x ∈ z.page.recs, x.station = st.val → x.band = b →
            x.checked = 255 ∧ x.data = (r.fill subs).data))

/-- With the store trained and its clocks running, a drift reading sets the channel's correction to the drift limited to a quarter of a unit
interval and its MR4 code. An error that the check code corrects counts alone; one that it finds and cannot correct counts, records its data
block and ends its access with ERR_ECC, and ends the channel that read it. One symbol is corrected; two, three, and a wrong place are found.
The scrub moves to the next block. A refresh falls due, of which as many as are granted are issued and at most 8 stay postponed. An activate
within the budget updates the table and the count of the bank that its address decodes to, one beyond it waits and counts. A table clear
empties the table, and a new interval lets the waiting activates go on up to the budget. -/
def Obligations.StoreTracksAndGuards : Prop :=
  ∀ (t : Nat) (s : State),
    (s.dev.storeOff = false →
      (∀ (ch : Fin 4) (x : Int) (mr4 : BitVec 5), s.dev.flag RDB_STATUS RDB_STATUS_TRAINED = true →
        Completes (.driftTrackTick t ch x mr4) s fun e => sget (fun _ => 0) e.ps.drift ch = max (-250) (min 250 x) ∧
          e.fld RDB_MR4 (mr4Fld ch) = mr4.toNat ∧ natBit e.ps.hot ch = mr4Hot mr4.toNat) ∧
      (s.dev.scrubBlocks ≠ 0 →
        Completes (.patrolScrub t) s fun e => e.ps.scrub = (s.dev.ps.scrub + 1) % s.dev.scrubBlocks ∧ ∀ a, e.reg a = s.dev.reg a)) ∧
    (∀ addr x, blockRead addr .wrongPlace = .failed ∧ blockRead addr (.symbols [x]) = .corrected ∧
      ∀ y z, x ≠ y → x ≠ z → y ≠ z → blockRead addr (.symbols [x, y]) = .failed ∧ blockRead addr (.symbols [x, y, z]) = .failed) ∧
    (∀ addr x, storeBase ≤ addr → addr < 2 ^ 64 →
      (blockRead addr x = .corrected → Completes (.psEccCe t addr x) s fun e =>
        e.fld RDB_ECC_CE wholeWord = min (s.dev.fld RDB_ECC_CE wholeWord + 1) (2 ^ 32 - 1) ∧ OnlyRegs (s.dev.tick t) e [RDB_ECC_CE]) ∧
      (blockRead addr x = .failed →
        (∀ r : StoreReader, Completes (.psEccUe t addr x r) s fun e =>
          e.fld RDB_ECC_UE RDB_ECC_UE_COUNT = min (s.dev.fld RDB_ECC_UE RDB_ECC_UE_COUNT + 1) 65535 ∧
          e.nat64 RDB_ECC_ADDR_LO = addr - addr % 64 ∧ e.resp = .errEcc) ∧
        (∀ c : Fin 16, s.dev.dmaBusy .shared c = true → (s.dev.chan .shared c).waits = false →
          Completes (.psEccUe t addr x (.channel .shared c)) s fun e =>
            e.fld (ALYS_STATUS c) ALYS_STATUS_ERR = deEcc ∧ e.dmaBusy .shared c = false))) ∧
    (∀ (bank : Fin 256) (granted : Nat), s.dev.storeOff = false →
      Completes (.refreshDue t bank granted) s fun e =>
        sget (fun _ => 0) e.ps.postponed bank = min 8 (sget (fun _ => 0) s.dev.ps.postponed bank + 1 - granted) ∧
        ∀ a, e.reg a = s.dev.reg a) ∧
    (∀ addr, s.dev.flag RDB_STATUS RDB_STATUS_SR = false → s.dev.inStore addr = true →
      let bank := (s.dev.placeOf (addr - storeBase)).bankNo
      let row := (s.dev.placeOf (addr - storeBase)).row
      (sget (fun _ => 0) s.dev.ps.acts bank < s.dev.rhT →
        Completes (.activate t addr) s fun e =>
          sget (fun _ => 0) e.ps.acts bank = sget (fun _ => 0) s.dev.ps.acts bank + 1 ∧
          sget (fun _ => []) e.ps.rows bank = (rhUpdate s.dev.rhT (sget (fun _ => []) s.dev.ps.rows bank) row).1 ∧
          OnlyRegs { s.dev.tick t with ps := e.ps } e [RDB_RH_CNT]) ∧
      (s.dev.rhT ≤ sget (fun _ => 0) s.dev.ps.acts bank →
        Completes (.activate t addr) s fun e =>
          sget (fun _ => []) e.ps.waiting bank = sget (fun _ => []) s.dev.ps.waiting bank ++ [row] ∧
          OnlyRegs { s.dev.tick t with ps := e.ps } e [RDB_ACT_DEFER])) ∧
    (∀ bank : Fin 256,
      (Completes (.rhTableClear t bank) s fun e => sget (fun _ => []) e.ps.rows bank = [] ∧ ∀ a, e.reg a = s.dev.reg a) ∧
      (Completes (.actIntervalStart t bank) s fun e =>
        sget (fun _ => 0) e.ps.acts bank = min s.dev.rhT (sget (fun _ => []) s.dev.ps.waiting bank).length ∧
        sget (fun _ => []) e.ps.waiting bank = (sget (fun _ => []) s.dev.ps.waiting bank).drop s.dev.rhT))

/-- ENTER in Held, and the idle time, begin the entry; outside Held ENTER is refused and shown. Its completion closes the store's gate, empties
the activate tables and lets an EXIT that waited run. EXIT waits for an entry in progress, and else restarts the clocks (but for a gate that
CLK_GATE closes) and begins the exit, whose completion clears SR. -/
def Obligations.SelfRefreshGoesRound : Prop :=
  ∀ (t : Nat) (s : State),
    (s.dev.st = .held → s.dev.storeGated = false →
      (Completes (.srEnter t) s fun e => e.ps.entering = true ∧ ∀ a, e.reg a = s.dev.reg a) ∧
      (s.dev.fld RDB_SR_CTRL RDB_SR_CTRL_IDLE_MS ≠ 0 →
        Completes (.srIdleTimeout t) s fun e => e.ps.entering = true ∧ ∀ a, e.reg a = s.dev.reg a)) ∧
    (s.dev.st ≠ .held →
      Completes (.srEnter t) s fun e => e.ps = s.dev.ps ∧ e.flag RDB_STATUS RDB_STATUS_SR_REFUSED = true ∧
        OnlyRegs (s.dev.tick t) e [RDB_STATUS]) ∧
    (s.dev.ps.entering = true →
      (Completes (.srExit t) s fun e => e.ps.exitHeld = true ∧ e.ps.entering = true ∧ ∀ a, e.reg a = s.dev.reg a) ∧
      (Completes (.srEntryComplete t) s fun e => e.flag RDB_STATUS RDB_STATUS_SR = true ∧ e.ps.entering = false ∧ e.ps.rows = [] ∧
        e.ps.exiting = s.dev.ps.exitHeld ∧ e.ps.exitHeld = false ∧ natBit (e.fld CLK_GATE_STATUS CLK_GATE_STATUS_CLOSED) 2 =
          (!s.dev.ps.exitHeld || natBit (s.dev.fld CLK_GATE CLK_GATE_CLOSE) 2))) ∧
    (s.dev.ps.entering = false → s.dev.flag RDB_STATUS RDB_STATUS_SR = true →
      Completes (.srExit t) s fun e => e.ps.exiting = true ∧
        natBit (e.fld CLK_GATE_STATUS CLK_GATE_STATUS_CLOSED) 2 = natBit (s.dev.fld CLK_GATE CLK_GATE_CLOSE) 2 ∧
        ∀ a, a ≠ CLK_GATE_STATUS → e.reg a = s.dev.reg a) ∧
    (s.dev.ps.exiting = true →
      Completes (.srExitComplete t) s fun e => e.flag RDB_STATUS RDB_STATUS_SR = false ∧ e.ps.exiting = false ∧
        OnlyRegs { s.dev.tick t with ps := e.ps } e [RDB_STATUS])

/-- A substream whose bitstream is right is marked as passed in its band; one that is not ends the only page in ingest and halts the ring
with CODEC_FAIL. A free compressor takes the next chain with its reservation where the space is free, and else the wait is shown. A chain
whose last RAW band has been read, compressed within its certified time while page-store writes are granted, holds the containers of that band
(or its raw bytes where RAWPASS_EN says so), keeps the blocks it needs, and its compressor is free. -/
def Obligations.BandsAreCheckedAndCompressed : Prop :=
  ∀ (t : Nat) (s : State),
    (∀ (st : Station) (b : Nat) (sub : Fin 8) (bytes : List Byte) (y : IngestS) (r : BandRec),
      s.dev.arcOn = true → s.dev.host.ingest = [y] → y.live = true →
      y.page.recs.find? (fun r => r.station == st.val && r.band == b && r.format != 0) = some r → natBit r.checked sub = false →
      (checkContainer r.format (4 * (y.page.sideOf b).dots) (r.sub sub bytes) = jeNone →
        Completes (.streamCheckDone t 0 st b sub bytes) s fun e => ∃ z, e.host.ingest = [z] ∧
          ∀ r ∈ z.page.recs, r.station = st.val → r.band = b → natBit r.checked sub = true) ∧
      (checkContainer r.format (4 * (y.page.sideOf b).dots) (r.sub sub bytes) ≠ jeNone →
        Completes (.streamCheckDone t 0 st b sub bytes) s fun e => e.host.ingest = [] ∧ e.ringHalted 0 = true ∧
          e.fld (HIF_RING_STATUS 0) HIF_RING_STATUS_HALT_CAUSE = psCodecFail)) ∧
    (∀ (c : Fin 4) (x : IngestS) (st : Nat), s.dev.cmpOn c = true → s.dev.arcChain c = none → s.dev.jobOn c = false →
      s.dev.nextChain = some (x, st) →
      let need := s.dev.chainNeed x.page st
      (need ≤ s.dev.freeBlocks →
        Completes (.chainCompressStart t c) s fun e => e.arcChain c = some { slot := x.slot, station := st, reserved := need } ∧
          e.freeBlocks = s.dev.freeBlocks - need ∧ natBit (e.fld ARC_STATUS ARC_STATUS_CMP_BUSY) c = true) ∧
      (s.dev.freeBlocks < need →
        Completes (.chainCompressStart t c) s fun e => e.flag PGS_ALLOC_PAGES PGS_ALLOC_PAGES_WAIT = true ∧
          e.ps.short = need ∧ OnlyRegs { s.dev.tick t with ps := e.ps } e [PGS_ALLOC_PAGES])) ∧
    (∀ (c : Fin 4) (choices : List (List BlockChoice)) (times : List Nat) (r : ChainRun) (x : IngestS) (b : BandRec),
      s.dev.arcChain c = some r → r.waits = false → s.dev.host.ingest = [x] → x.slot = r.slot → r.station < 8 →
      x.page.rawBands r.station = [b] → b.checked = 255 → s.dev.storeOff = false → s.dev.storeHeld = false →
      (∀ y ∈ times, y ≤ bytesTime (32 * x.page.first.dots) (compressorRate s.dev.paceNow)) →
      let z := s.dev.compressed x.page.first.dots b choices
      let p := x.page.mapBand b.station b.band (fun _ => z)
      let need := blocksFor (p.chainBytes r.station)
      let more := need - (p.chains.getD r.station []).length
      ((p.chains.set r.station []).map (fun l => l.length)).sum + need ≤ s.dev.pageBlocks →
      more ≤ s.dev.freeBlocks + r.reserved → s.dev.freeBlocks + r.reserved < 65536 →
      Completes (.chainCompressDone t c [choices] times) s fun e => e.arcChain c = none ∧
        e.freeBlocks = s.dev.freeBlocks + r.reserved - more ∧
        ∃ y, e.host.ingest = [y] ∧ y.page.recs.map (fun r => { r with data := [] }) = p.recs.map (fun r => { r with data := [] }))

/-- A write of the last descriptor word enqueues the job, or sets OVF on a full queue. With the codec on and nothing running, the oldest job
starts on the compressor that is free, or on the stream checkers, and one that is BAD_JOB ends so. Where its regions are neither gated nor
held back nor in a check area, a finished compression ends done with its length and its stream at the destination; a verification ends with its verdict. FLUSH adds a flush point, ABORT ends the job,
ABORT_ALL empties the queue too, and a write that disables the codec aborts the job and shows BUSY. -/
def Obligations.GeneralJobsRunAndEnd : Prop :=
  ∀ (t : Nat) (s : State),
    (∀ w : Word,
      (s.dev.arc.jobs.length < 4 →
        Completes (.jobEnqueue t w) s fun e => e.arc.jobs = s.dev.arc.jobs ++ [s.dev.jobWindow w] ∧
          e.fld ARC_JOB_STATUS ARC_JOB_STATUS_QUEUED = s.dev.arc.jobs.length + 1 ∧ e.reg (ARC_JOB_D 7) = w) ∧
      (4 ≤ s.dev.arc.jobs.length →
        Completes (.jobEnqueue t w) s fun e => e.arc = s.dev.arc ∧ e.flag ARC_JOB_STATUS ARC_JOB_STATUS_OVF = true)) ∧
    (∀ (j : Job) (rest : List Job) (input : List Byte), s.dev.arc.jobs = j :: rest → s.dev.arcOn = true → s.dev.arc.run = none →
      (∀ c, s.dev.badJob j = false → j.kind ≠ 2 → s.dev.freeCompressor = some c → 2 ^ 63 ≤ j.src →
        Completes (.jobStart t input) s fun e => e.arc.run = some { job := j, unit := c, input := fitTo j.srcLen input } ∧ e.arc.jobs = rest ∧
          e.fld ARC_JOB_STATUS ARC_JOB_STATUS_STATE = 1 ∧ e.reg ARC_JOB_TAG = BitVec.ofNat 32 j.tag) ∧
      (s.dev.badJob j = false → j.kind = 2 → j.src < 2 ^ 63 →
        Completes (.jobStart t input) s fun e => e.arc.run = some { job := j, unit := 4, input := s.dev.bytes j.src j.srcLen } ∧
          e.arc.jobs = rest ∧ e.fld ARC_JOB_STATUS ARC_JOB_STATUS_STATE = 1) ∧
      (s.dev.badJob j = true →
        Completes (.jobStart t input) s fun e => e.arc.run = none ∧ e.arc.jobs = rest ∧
          e.fld ARC_JOB_STATUS ARC_JOB_STATUS_STATE = 3 ∧ e.fld ARC_JOB_STATUS ARC_JOB_STATUS_ERR = jeBadJob)) ∧
    (∀ (r : RunJob) (x : Encoding), s.dev.arc.run = some r →
      let out := s.dev.jobOutput r x
      (s.dev.jobHeld r.job = false → touchesCheck r.job.src r.job.srcLen = false → s.dev.regionGated r.job.src = false →
        (∀ dstOk, r.job.kind = 2 →
          Completes (.jobDone t x true dstOk) s fun e => e.arc.run = none ∧
            e.fld ARC_JOB_STATUS ARC_JOB_STATUS_STATE = (if r.job.verify r.input = jeNone then 2 else 3) ∧
            e.fld ARC_JOB_STATUS ARC_JOB_STATUS_ERR = r.job.verify r.input % 16) ∧
        (r.job.kind ≠ 2 → out.length ≤ r.job.dstLen → touchesCheck r.job.dst out.length = false → s.dev.regionGated r.job.dst = false →
          Completes (.jobDone t x true true) s fun e => e.arc.run = none ∧ e.fld ARC_JOB_STATUS ARC_JOB_STATUS_STATE = 2 ∧
            e.fld ARC_JOB_STATUS ARC_JOB_STATUS_ERR = jeNone ∧ e.nat ARC_JOB_OUT_LEN = out.length % 2 ^ 32 ∧
            (∀ i < out.length, e.byte (r.job.dst + i) = out.getD i 0) ∧
            ∀ a, a < r.job.dst ∨ r.job.dst + out.length ≤ a → e.byte a = s.dev.byte a)) ∧
      (r.job.kind = 1 → Completes (.flush t) s fun e => e.arc.run = some { r with flushes := r.flushes + 1 } ∧ ∀ a, e.reg a = s.dev.reg a) ∧
      (Completes (.abort t) s fun e => e.arc.run = none ∧ e.fld ARC_JOB_STATUS ARC_JOB_STATUS_STATE = 4 ∧
        e.fld ARC_JOB_STATUS ARC_JOB_STATUS_ERR = jeAborted ∧ e.arc.jobs = s.dev.arc.jobs) ∧
      (Completes (.abortAll t) s fun e => e.arc.run = none ∧ e.arc.jobs = [] ∧ e.fld ARC_JOB_STATUS ARC_JOB_STATUS_QUEUED = 0 ∧
        e.fld ARC_JOB_STATUS ARC_JOB_STATUS_STATE = 4) ∧
      (∀ w : Word, ARC_CTRL_ENABLE.get w = 0 →
        Completes (.arcadeDisable t w) s fun e => e.arc.run = none ∧ e.flag ARC_CTRL ARC_CTRL_ENABLE = false ∧
          e.flag ARC_CTRL ARC_CTRL_BUSY = true ∧ e.fld ARC_JOB_STATUS ARC_JOB_STATUS_STATE = 4))

/-- A port whose lanes are locked is aligned. While it is: a line with a bad CRC is counted; a FIRST line in an inspection window takes the
next buffer for an image of that sheet; the following line adds one line and its payload to it; a good line outside every window is counted.
Where staging requests are granted, an image whose last line has come is written to its buffer as the compressed groups of its lines and counted
done, or counted failed where the buffer is too small. Loss of alignment fails the image in progress. -/
def Obligations.InspectionImagesAreTaken : Prop :=
  ∀ (t : Nat) (s : State) (q : Side),
    (s.dev.flag (ENW_INSP_CTRL q) ENW_INSP_CTRL_ENABLE = true → s.dev.domainIsOn (laneDomain q) = true →
      Completes (.inspectionPortAligned t q) s fun e => e.inspAligned q = true ∧
        e.fld (ENW_INSP_STATUS q) ENW_INSP_STATUS_LANE_LOCK = 3 ∧ OnlyRegs (s.dev.tick t) e [ENW_INSP_STATUS q]) ∧
    (∀ line : InspectionLine, s.dev.flag (ENW_INSP_CTRL q) ENW_INSP_CTRL_ENABLE = true → s.dev.inspAligned q = true →
      (line.good = false →
        Completes (.inspectionLine t q line) s fun e => e.fld (ENW_INSP_CNT0 q) ENW_INSP_CNT0_CRC_ERR =
          min (s.dev.fld (ENW_INSP_CNT0 q) ENW_INSP_CNT0_CRC_ERR + 1) 65535 ∧ OnlyRegs (s.dev.tick t) e [ENW_INSP_CNT0 q]) ∧
      (∀ n i b rest, line.good = true → line.first = true → line.last = false → line.full = false → line.noBlock = false →
        s.dev.inspPreferred = q → s.dev.arc.imgs = [] → s.dev.inspWindow = some (n, i) → s.dev.host.bufs = b :: rest →
        s.dev.arcOn = true → s.dev.fld ARC_CTRL ARC_CTRL_INSP_EN = 3 →
        Completes (.inspectionLine t q line) s fun e => e.host.bufs = rest ∧ e.arc.port = q ∧ ∃ x, e.arc.imgs = [x] ∧ x.buf = b ∧
          x.wsn = i.wsn ∧ x.lines = 1 ∧ x.lineNo = line.lineNo ∧ x.lineBytes = line.lineBytes ∧ x.ended = false ∧
          x.data = [fitTo line.lineBytes line.payload]) ∧
      (∀ x y, line.good = true → line.first = false → line.last = false → line.full = false → line.noBlock = false →
        s.dev.arc.port = q → s.dev.arc.imgs = [x] → x.ended = false → s.dev.inspWindow = some y → line.lineNo = x.lineNo + 1 →
        line.lineBytes = x.lineBytes →
        Completes (.inspectionLine t q line) s fun e => e.arc.imgs =
          [{ x with lines := x.lines + 1, lineNo := x.lineNo + 1, data := fitTo x.lineBytes line.payload :: x.data }] ∧
          ∀ a, e.reg a = s.dev.reg a) ∧
      (line.good = true → line.first = false → s.dev.inspRouted = q → s.dev.inspWindow = none →
        Completes (.inspectionLine t q line) s fun e => e.fld (ENW_INSP_CNT1 q) ENW_INSP_CNT1_OUTSIDE =
          min (s.dev.fld (ENW_INSP_CNT1 q) ENW_INSP_CNT1_OUTSIDE + 1) 65535 ∧ e.arc = s.dev.arc)) ∧
    (∀ (x : InspImg) (choices : List (List BlockChoice)) (times : List Nat), s.dev.arc.imgs = [x] →
      let stream := (s.dev.imageGroups x choices).flatten
      let size := 64 + (stream.length + 3) / 4 * 4 + 4 * x.groups
      (x.ended = true → s.dev.storeHeld = false →
        (size ≤ x.buf.len →
          Completes (.inspectImageDone t choices times) s fun e => e.arc.imgs = [] ∧
            e.fld ARC_INSP_CNT ARC_INSP_CNT_DONE = (s.dev.fld ARC_INSP_CNT ARC_INSP_CNT_DONE + 1) % 65536 ∧
            (s.dev.evtOn = false → ∀ i < stream.length, e.byte (hostAddr x.buf.addr + 64 + i) = stream.getD i 0)) ∧
        (x.buf.len < size →
          Completes (.inspectImageDone t choices times) s fun e => e.arc.imgs = [] ∧
            e.fld ARC_INSP_CNT ARC_INSP_CNT_FAILED = min (s.dev.fld ARC_INSP_CNT ARC_INSP_CNT_FAILED + 1) 65535)) ∧
      (x.ended = false → x.port = q →
        Completes (.inspAlignLoss t q) s fun e => e.inspAligned q = false ∧ e.arc.imgs = [] ∧
          e.fld ARC_INSP_CNT ARC_INSP_CNT_FAILED = min (s.dev.fld ARC_INSP_CNT ARC_INSP_CNT_FAILED + 1) 65535))

/-- An enable written to a synthesizer that is off enters ACQUIRE where the configuration passes, and shows CFG_ERR where it does not. In
ACQUIRE an edge, timed in 1.25 ns cycles, keeps the newest intervals and the time limit sets ACQ_FAIL; in FREQ an edge is the latest line start. FREQ completes into
LOCKED where the range allows the clock, and shows RANGE where it does not. An index edge makes the next line facet 0. A disable of a
synthesizer whose station does not image ends in OFF at once; while it images, BUSY is shown until the line ends. -/
def Obligations.SynthesizersStartAndStop : Prop :=
  ∀ (t : Nat) (s : State) (q : Side) (st : Station),
    let x := s.dev.pxState q st
    (s.dev.flag (PXS_CTRL q st) PXS_CTRL_ENABLE = false → s.dev.flag (PXS_CTRL q st) PXS_CTRL_BUSY = false →
      (s.dev.pxConfigOk q st = true →
        Completes (.synthEnable t q st) s fun e => e.pxState q st = pxAcquire ∧ e.flag (PXS_CTRL q st) PXS_CTRL_ENABLE = true ∧
          (e.synthS q st).edge = none ∧ (e.synthS q st).ivals = []) ∧
      (s.dev.pxConfigOk q st = false →
        Completes (.synthEnable t q st) s fun e => e.pxState q st = pxOff ∧ e.flag (PXS_STATUS q st) PXS_STATUS_CFG_ERR = true)) ∧
    (s.dev.flag (PXS_CTRL q st) PXS_CTRL_ENABLE = true →
      (s.dev.owner ≠ q ∨ s.dev.images st = false →
        Completes (.synthDisable t q st) s fun e => e.pxState q st = pxOff ∧ e.flag (PXS_CTRL q st) PXS_CTRL_ENABLE = false ∧
          e.flag (PXS_CTRL q st) PXS_CTRL_BUSY = false ∧ OnlyRegs (s.dev.tick t) e [PXS_CTRL q st, PXS_STATUS q st]) ∧
      (s.dev.owner = q → s.dev.images st = true →
        Completes (.synthDisable t q st) s fun e => e.flag (PXS_CTRL q st) PXS_CTRL_BUSY = true)) ∧
    (x = pxAcquire →
      (Completes (.acquireTimeout t q st) s fun e => e.flag (PXS_STATUS q st) PXS_STATUS_ACQ_FAIL = true ∧ e.pxState q st = pxAcquire ∧
        OnlyRegs (s.dev.tick t) e [PXS_STATUS q st]) ∧
      (∀ line a, (s.dev.synthS q st).edge = some a → (s.dev.synthS q st).ivals.length < 15 →
        Completes (.beamDetectEdge t q st line) s fun e => e.pxState q st = pxAcquire ∧
          (e.synthS q st).edge = some (max s.dev.now t / 80 * 80) ∧
          (e.synthS q st).ivals = (max s.dev.now t / 80 * 80 - a) :: (s.dev.synthS q st).ivals ∧ ∀ a, e.reg a = s.dev.reg a)) ∧
    (x = pxFreq →
      (∀ line, Completes (.beamDetectEdge t q st line) s fun e => (e.synthS q st).lastStart = max s.dev.now t ∧
        (e.synthS q st).lastQual = true ∧ ∀ a, e.reg a = s.dev.reg a) ∧
      (let d := s.dev.enterFreq q st
       (d.rangeBad q st (d.offsetOf q st) = false → Completes (.freqComplete t q st) s fun e => e.pxState q st = pxLocked) ∧
       (d.rangeBad q st (d.offsetOf q st) = true →
        Completes (.freqComplete t q st) s fun e => e.pxState q st = pxFreq ∧
          e.fld (PXS_STATUS q st) PXS_STATUS_MULT = s.dev.multOf q st % 256))) ∧
    (∀ gpio : Fin 64, s.dev.flag (PXS_FACET_CFG q st) PXS_FACET_CFG_INDEX_EN = true →
      s.dev.fld (PXS_FACET_CFG q st) PXS_FACET_CFG_INDEX_GPIO = gpio →
      Completes (.indexEdge t gpio) s fun e => (e.synthS q st).facet0 = true ∧ ∀ a, e.reg a = s.dev.reg a)

/-- In LOCKED, at a station that does not image, with no disable in progress and no frequency step to repeat: an edge in the window starts a line at its
time, sets column 0 after the start time of its facet, walks the rotator by at most 4 steps in each of 8 periods, and clears MISS in a Quarter
that does not shadow; it is kept as the own timestamp in one that does. A window that closes without an edge starts a line at its end and counts it, and the fifth in a row leaves the synthesizer LOST. The Standby starts its line at the time of the Active
Quarter's word, and without a word at its own time, which it counts as a mismatch. -/
def Obligations.LinesStart : Prop :=
  ∀ (t : Nat) (s : State) (q : Side) (st : Station) (line : LineInfo), s.dev.pxState q st = pxLocked →
    s.dev.flag (PXS_CTRL q st) PXS_CTRL_BUSY = false → s.dev.print st = none → s.dev.images st = false → (s.dev.synthS q st).refreq = false →
    ((s.dev.synthS q st).own = none →
      ((s.dev.tick t).inWindow q st (max s.dev.now t) = true →
        (s.dev.shadows q = false →
          Completes (.beamDetectEdge t q st line) s fun e => e.fld (PXS_STATUS q st) PXS_STATUS_MISS = 0 ∧
            (e.synthS q st).lastStart = max s.dev.now t ∧ (e.synthS q st).lastQual = true ∧
            (e.synthS q st).col0 = max s.dev.now t + e.startTime q st (e.fld (PXS_STATUS q st) PXS_STATUS_FACET_ID) (e.synthS q st).res1200 ∧
            (e.synthS q st).walk.length = 8 ∧ (∀ x ∈ (e.synthS q st).walk, -4 ≤ x ∧ x ≤ 4) ∧
            e.fld (PXS_CNT0 q st) PXS_CNT0_PREDICTED = s.dev.fld (PXS_CNT0 q st) PXS_CNT0_PREDICTED) ∧
        (s.dev.shadows q = true →
          Completes (.beamDetectEdge t q st line) s fun e => (e.synthS q st).own = some (max s.dev.now t) ∧ ∀ a, e.reg a = s.dev.reg a)) ∧
      (s.dev.fld (PXS_STATUS q st) PXS_STATUS_MISS < 4 →
        Completes (.windowClose t q st line) s fun e =>
          e.fld (PXS_STATUS q st) PXS_STATUS_MISS = s.dev.fld (PXS_STATUS q st) PXS_STATUS_MISS + 1 ∧
          e.fld (PXS_CNT0 q st) PXS_CNT0_PREDICTED = min (s.dev.fld (PXS_CNT0 q st) PXS_CNT0_PREDICTED + 1) 65535 ∧
          (e.synthS q st).lastQual = false ∧ (e.synthS q st).lastStart = (s.dev.synthS q st).lastStart + s.dev.nat (PXS_PERIOD q st) +
            s.dev.pxWin q st * s.dev.nat (PXS_PERIOD q st) / 1024) ∧
      (4 ≤ s.dev.fld (PXS_STATUS q st) PXS_STATUS_MISS →
        (s.dev.owner ≠ q →
          Completes (.windowClose t q st line) s fun e => e.pxState q st = pxLost ∧ e.fld (PXS_STATUS q st) PXS_STATUS_MISS = 5 ∧
            OnlyRegs (s.dev.tick t) e [PXS_STATUS q st]) ∧
        (s.dev.owner = q → s.dev.flight = [] →
          Completes (.windowClose t q st line) s fun e => e.pxState q st = pxLost ∧ e.fld (PXS_STATUS q st) PXS_STATUS_MISS = 5 ∧
            e.isSafe st = true))) ∧
    (q = s.dev.shadowSide →
      (∀ stamp, s.dev.shadows q = true → (s.dev.synthS q st).own = none →
        Completes (.linePhaseWord t st stamp line) s fun e => e.fld (PXS_STATUS q st) PXS_STATUS_MISS = 0 ∧
          (e.synthS q st).lastStart = stamp ∧ e.fld (PXS_ALIGN q st) PXS_ALIGN_MISMATCH = s.dev.fld (PXS_ALIGN q st) PXS_ALIGN_MISMATCH) ∧
      (∀ own, (s.dev.synthS q st).own = some own →
        Completes (.linePhaseTimeout t st line) s fun e => (e.synthS q st).lastStart = own ∧ (e.synthS q st).own = none ∧
          e.fld (PXS_ALIGN q st) PXS_ALIGN_MISMATCH = min (s.dev.fld (PXS_ALIGN q st) PXS_ALIGN_MISMATCH + 1) 65535))

/-- A reference PLL whose filter answers as it should is enabled with no fault; one whose filter does not shows the fault. A sample below
V_LOCK at the end of the hold time locks it; with no lock in time the check notes an event and nothing else. A locked synthesizer coasts
where the reference is missing, and one that still acquires will start FREQ again. A coasting station that images goes safe at the end of the time. A relock
without an offset is LOCKED at once and else slews from the offset, limited to what the register holds. -/
def Obligations.ReferencesLockAndSynthesizersCoast : Prop :=
  ∀ (t : Nat) (s : State) (q : Side),
    (∀ mv50 mv300,
      (550 ≤ mv50 → mv50 ≤ 900 → 1600 < mv300 →
        Completes (.refPllEnable t q mv50 mv300) s fun e => e.refLocked q = false ∧
          e.flag (PXS_REF_STATUS q) PXS_REF_STATUS_FILTER_FAULT = false ∧ e.refS q = {} ∧ ∀ a, a ≠ PXS_REF_STATUS q → e.reg a = s.dev.reg a) ∧
      (¬(550 ≤ mv50 ∧ mv50 ≤ 900 ∧ 1600 < mv300) → s.dev.checkFresh q ckSynthLock →
        Completes (.refPllEnable t q mv50 mv300) s fun e => e.flag (PXS_REF_STATUS q) PXS_REF_STATUS_FILTER_FAULT = true ∧
          e.checkTimes q ckSynthLock = [max s.dev.now t])) ∧
    (s.dev.refLocked q = false →
      (∀ mv x, mv < s.dev.fld (PXS_REF_CFG q) PXS_REF_CFG_V_LOCK → peakToPeak ((mv :: (s.dev.refS q).samples).take 100) < 100 →
        (s.dev.refS q).since = some x →
        x + s.dev.fld (PXS_REF_CFG q) PXS_REF_CFG_HOLD_MS * tuPerMs ≤ max s.dev.now t →
        s.dev.flag (PXS_REF_STATUS q) PXS_REF_STATUS_FILTER_FAULT = false →
        Completes (.lockPinSample t q mv) s fun e => e.refLocked q = true ∧
          e.fld (PXS_REF_STATUS q) PXS_REF_STATUS_LEVEL_MV = min 1023 mv ∧ ∀ a, a ≠ PXS_REF_STATUS q → e.reg a = s.dev.reg a) ∧
      (s.dev.checkFresh q ckSynthLock →
        Completes (.refLockTimeout t q) s fun e => e.checkTimes q ckSynthLock = [max s.dev.now t] ∧ ∀ a, e.reg a = s.dev.reg a)) ∧
    (∀ (st : Station) (c : CoastCause),
      (s.dev.pxState q st = pxLocked ∨ s.dev.pxState q st = pxSlew →
        Completes (.coastEntry t q st c) s fun e => e.pxState q st = pxCoast ∧ (e.synthS q st).refreq = false) ∧
      (s.dev.pxState q st = pxAcquire ∨ s.dev.pxState q st = pxFreq →
        Completes (.coastEntry t q st c) s fun e => e.pxState q st = pxCoast ∧ (e.synthS q st).refreq = true)) ∧
    (∀ st : Station, s.dev.pxState q st = pxCoast →
      (s.dev.images st = true → s.dev.owner = q → Completes (.coastTimeout t q st) s fun e => e.isSafe st = true) ∧
      (s.dev.refLocked q = true →
        ((s.dev.synthS q st).refreq = true → ∀ x, Completes (.relock t q st x) s fun e => e.pxState q st = pxFreq) ∧
        ((s.dev.synthS q st).refreq = false →
          (Completes (.relock t q st 0) s fun e => e.pxState q st = pxLocked) ∧
          ∀ x : Int, x ≠ 0 → Completes (.relock t q st x) s fun e => e.pxState q st = pxSlew ∧
            e.fld (PXS_SLEW q st) PXS_SLEW_RESIDUAL = ofSigned 8 (max (-32) (min 31 x)) ∧
            OnlyRegs (s.dev.tick t) e [PXS_STATUS q st, PXS_SLEW q st])))

/-- An imaging station whose configuration passes is enabled with its line number at its start, and one that does not shows CFG_ERR; while it
winds down the enable is kept. A disable that the owner's print stands against shows BUSY until the line ends. In an idle interval a
MEASURE packet goes out for the emitter at the cursor where the port serves. A spare map that keeps the rule waits for the next sheet, and one that does not shows
MAP_ERR in both Quarters. Without a head temperature k_t is the derated value, and a station that has cooled leaves safe at the full one. -/
def Obligations.StationsAreEnabledAndKept : Prop :=
  ∀ (t : Nat) (s : State) (st : Station),
    (∀ q : Side, s.dev.flag (BMO_CTRL q st) BMO_CTRL_ENABLE = false →
      (s.dev.flag (BMO_CTRL q st) BMO_CTRL_BUSY = false →
        (s.dev.masksOk q st = true →
          Completes (.stationEnable t q st) s fun e => e.flag (BMO_CTRL q st) BMO_CTRL_ENABLE = true ∧ e.lineS q st = { n := 0 } ∧
            (s.dev.owner = q → natBit e.kerb.request st = true) ∧ ∀ a, a ≠ BMO_CTRL q st → e.reg a = s.dev.reg a) ∧
        (s.dev.masksOk q st = false →
          Completes (.stationEnable t q st) s fun e => e.flag (BMO_CTRL q st) BMO_CTRL_ENABLE = false ∧
            e.flag (BMO_STATUS q st) BMO_STATUS_CFG_ERR = true ∧ OnlyRegs (s.dev.tick t) e [BMO_STATUS q st])) ∧
      (s.dev.flag (BMO_CTRL q st) BMO_CTRL_BUSY = true →
        Completes (.stationEnable t q st) s fun e => e.flag (BMO_CTRL q st) BMO_CTRL_ENABLE = true ∧
          OnlyRegs (s.dev.tick t) e [BMO_CTRL q st])) ∧
    (∀ q : Side, s.dev.flag (BMO_CTRL q st) BMO_CTRL_ENABLE = true →
      (s.dev.owner ≠ q →
        Completes (.stationDisable t q st) s fun e => e.flag (BMO_CTRL q st) BMO_CTRL_ENABLE = false ∧
          OnlyRegs (s.dev.tick t) e [BMO_CTRL q st]) ∧
      (s.dev.owner = q → s.dev.print st = none →
        Completes (.stationDisable t q st) s fun e => e.flag (BMO_CTRL q st) BMO_CTRL_ENABLE = false ∧
          natBit e.kerb.request st = false ∧ ∀ a, a ≠ BMO_CTRL q st → e.reg a = s.dev.reg a) ∧
      (s.dev.owner = q → (s.dev.print st).isSome = true →
        Completes (.stationDisable t q st) s fun e => e.flag (BMO_CTRL q st) BMO_CTRL_BUSY = true)) ∧
    (s.dev.st = .ready ∨ s.dev.st = .printing ∨ s.dev.st = .draining → s.dev.print st = none → s.dev.isSafe st = false →
      s.dev.pxState s.dev.owner st = pxLocked → sget (fun _ => 0) s.dev.bmo.lastLine st + 2 * tuPerMs ≤ max s.dev.now t →
      Completes (.emitterMeasure t st) s fun e =>
        sget (fun _ => none) e.bmo.meas st = some (s.dev.fld (BMO_STATUS s.dev.owner st) BMO_STATUS_CURSOR) ∧
        (s.dev.portServes s.dev.owner st = true → ∃ tag, e.portS s.dev.owner st = (s.dev.portS s.dev.owner st).send (pk s.dev.owner st)
          (packet (controlMessage 3 tag
            (s.dev.measurePayload s.dev.owner st (s.dev.fld (BMO_STATUS s.dev.owner st) BMO_STATUS_CURSOR))))) ∧
        ∀ q, e.flag (BMO_STATUS q st) BMO_STATUS_MEAS_BUSY = true) ∧
    (∀ (m : Fin 2) (v : Word), s.dev.bmo.mapNext = [] →
      let w := v &&& 0xBFBFBFBF
      let ok := s.dev.mapOk .north st (if m = 0 then w else s.dev.reg (BMO_MAP0 .north st))
        (if m = 0 then s.dev.reg (BMO_MAP0 .north st + 4) else w)
      (ok = true →
        Completes (.spareMapWrite t st m v) s fun e => e.bmo.mapNext = [(0, 2 * st.val + m.val, w)] ∧ ∀ a, e.reg a = s.dev.reg a) ∧
      (ok = false →
        Completes (.spareMapWrite t st m v) s fun e => e.bmo.mapNext = [] ∧
          ∀ q, e.flag (BMO_STATUS q st) BMO_STATUS_MAP_ERR = true)) ∧
    (Completes (.headTempTimeout t st) s fun e => ∀ q, e.flag (BMO_STATUS q st) BMO_STATUS_TEMP_WARN = true ∧
      e.fld (BMO_KSCALE q st) BMO_KSCALE_K_T = max 1 (s.dev.fld (BMO_TEMP q st) BMO_TEMP_DERATE_K)) ∧
    (natBit s.dev.bmo.headSafe st = true → natBit s.dev.bmo.otherSafe st = false → s.dev.st = .ready ∨ s.dev.st = .held →
      toSigned 8 (s.dev.fld (BMO_STATUS s.dev.owner st) BMO_STATUS_HEAD_TEMP) <
        toSigned 8 (s.dev.fld (BMO_TEMP s.dev.owner st) BMO_TEMP_WARN) - (s.dev.fld (BMO_TEMP s.dev.owner st) BMO_TEMP_HYST : Int) →
      Completes (.stationSafeExit t st) s fun e => e.isSafe st = false ∧
        natBit (e.fld KRB_ENABLES KRB_ENABLES_STATION_FORCED) st = false ∧
        ∀ q, e.fld (BMO_KSCALE q st) BMO_KSCALE_K_T = 16 ∧ e.flag (BMO_CTRL q st) BMO_CTRL_SAFE = false)

/-- At the start of a chunk's window a port that sends gives the groups whose data is there, counts them and moves on to the first that lacks data;
the FIFO levels change the panic registers alone, and beyond the last chunk, or where no line is imaged, nothing else happens. At its deadline the rest
of the chunk goes. Where nothing is missing, only the panic registers and the count of segments change. Where substreams are missing, outside an
overlap and for a line not yet late, the BLANK segments are counted, those substreams stay blank, and the line counts once. Where only
substreams with an uncorrectable error are blank, the line counts the same and is not late. A stream error counts, and blanks its
substream for the rest of the band. -/
def Obligations.SegmentsAreSentOrBlank : Prop :=
  ∀ (t : Nat) (s : State) (q : Side) (st : Station),
    (∀ (chunk : Nat) (written : List Nat),
      let l := (s.dev.lineS q st).decodeTo written
      let d := (s.dev.tick t).decodedTo q st written
      let rest := (s.dev.groups q st).drop l.group
      let panics := [RDB_PANIC, RDB_PANIC_CNT]
      ((s.dev.lineS q st).image = false →
        (Completes (.segmentSendWindow t q st chunk written) s fun e => OnlyRegs (s.dev.tick t) e panics) ∧
        Completes (.segmentDeadline t q st chunk written) s fun e => e = s.dev.tick t) ∧
      (l.image = true → chunksOf l.dots ≤ chunk →
        (Completes (.segmentSendWindow t q st chunk written) s fun e => OnlyRegs d e panics) ∧
        Completes (.segmentDeadline t q st chunk written) s fun e => OnlyRegs d e panics) ∧
      (l.image = true → chunk < chunksOf l.dots → chunk = l.chunk → s.dev.sends q st = true →
        (l.group = 0 → s.dev.chunkStart q st chunk ≤ max s.dev.now t →
          let gs := d.readyGroups q st chunk
          Completes (.segmentSendWindow t q st chunk written) s fun e =>
            e.nat (ENW_CNT0 q st) = (s.dev.nat (ENW_CNT0 q st) + gs.length) % 2 ^ 32 ∧
            (e.lineS q st).chunk = chunk ∧ (e.lineS q st).group = gs.length ∧
            (gs ≠ [] → e.portS q st = (s.dev.portS q st).send (pk q st) (gs.flatMap fun g => packet (s.dev.segment q st l g chunk 0))) ∧
            ∀ a, a ∉ ENW_CNT0 q st :: panics → e.reg a = s.dev.reg a) ∧
        (s.dev.chunkDeadline q st chunk ≤ max s.dev.now t → l.dead = 0 →
          (l.missing chunk = 0 → l.blank = 0 → l.ue = 0 →
            Completes (.segmentDeadline t q st chunk written) s fun e =>
              e.nat (ENW_CNT0 q st) = (s.dev.nat (ENW_CNT0 q st) + rest.length) % 2 ^ 32 ∧
              (e.lineS q st).chunk = chunk + 1 ∧ (e.lineS q st).group = 0 ∧ (e.lineS q st).late = l.late ∧
              ∀ a, a ∉ ENW_CNT0 q st :: panics → e.reg a = s.dev.reg a) ∧
          (l.missing chunk ≠ 0 → l.cut = [] → l.ue = 0 → s.dev.inOverlap = false → l.late = false →
            s.dev.owner ≠ q ∨ s.dev.flag (BMO_CTRL q st) BMO_CTRL_LATE_DEFECT = false → s.dev.checkFresh q ckLateSeg →
            Completes (.segmentDeadline t q st chunk written) s fun e =>
              e.fld (ENW_CNT1 q st) ENW_CNT1_BLANK = min (s.dev.fld (ENW_CNT1 q st) ENW_CNT1_BLANK +
                (rest.filter fun g => s.dev.blankRows q st g (l.missing chunk) != 0).length) 65535 ∧
              e.flag (BMO_STATUS q st) BMO_STATUS_LATE_LINE = true ∧ (e.lineS q st).late = true ∧
              (e.lineS q st).blank = l.missing chunk ∧ e.fld (BMO_CNT0 q st) BMO_CNT0_LATE =
                (if l.blanked then s.dev.fld (BMO_CNT0 q st) BMO_CNT0_LATE
                  else min (s.dev.fld (BMO_CNT0 q st) BMO_CNT0_LATE + 1) 65535)) ∧
          (l.missing chunk &&& (255 - l.ue % 256) = 0 → l.cut = [] → l.ue ≠ 0 → s.dev.inOverlap = false →
            Completes (.segmentDeadline t q st chunk written) s fun e => (e.lineS q st).blanked = true ∧ (e.lineS q st).late = l.late ∧
              e.fld (BMO_CNT0 q st) BMO_CNT0_LATE =
                (if l.blanked then s.dev.fld (BMO_CNT0 q st) BMO_CNT0_LATE
                  else min (s.dev.fld (BMO_CNT0 q st) BMO_CNT0_LATE + 1) 65535) ∧
              ∀ a, a ∉ [RDB_PANIC, RDB_PANIC_CNT, ENW_CNT0 q st, ENW_CNT1 q st, BMO_CNT0 q st] → e.reg a = s.dev.reg a)))) ∧
    (∀ sub : Fin 8,
      (s.dev.print st = none →
        Completes (.decodeStreamError t q st sub) s fun e => e.fld (LDG_CNT lbDecodeErr) LDG_CNT_EVENTS =
          min (s.dev.fld (LDG_CNT lbDecodeErr) LDG_CNT_EVENTS + 1) 65535) ∧
      ((s.dev.print st).isSome = true → s.dev.ledgerAction lbDecodeErr ≠ 2 → (s.dev.lineS q st).late = true →
        Completes (.decodeStreamError t q st sub) s fun e => natBit (e.lineS q st).dead sub = true ∧
          natBit (e.lineS q st).blank sub = true))

/-- A port is enabled into TRAINING where its lanes are powered and stay so; a good frame with all lanes locked and protocol 1 takes it to CONFIG, and one
that shows the code table held and the token back takes it to UP; a frame with a lane lost, 50 µs without a good frame, and lost block
lock take it DOWN. Bring-up that takes too long fails, and starts again. A frame with a bad CRC is counted. The loop tick sends the
next token in a control block, and what the lanes' scrambler makes of a block a receiver's descrambler turns back. RETRAIN and a disable wait for the station, respectively the segment, in progress. -/
def Obligations.PortsComeUpAndGoDown : Prop :=
  ∀ (t : Nat) (s : State) (q : Side) (st : Station),
    let x := s.dev.enState q st
    (s.dev.flag (ENW_CTRL q st) ENW_CTRL_ENABLE = false → s.dev.flag (ENW_CTRL q st) ENW_CTRL_BUSY = false →
      Completes (.portEnable t q st) s fun e => e.flag (ENW_CTRL q st) ENW_CTRL_ENABLE = true ∧
        e.enState q st = (if s.dev.lanesLive q then enTraining else x)) ∧
    (s.dev.flag (ENW_CTRL q st) ENW_CTRL_ENABLE = true →
      (s.dev.sends q st = false →
        Completes (.portDisable t q st) s fun e => e.enState q st = enOff ∧ e.flag (ENW_CTRL q st) ENW_CTRL_ENABLE = false ∧
          e.flag (ENW_CTRL q st) ENW_CTRL_BUSY = false ∧ OnlyRegs (s.dev.tick t) e [ENW_CTRL q st, ENW_STATUS q st]) ∧
      (s.dev.sends q st = true →
        Completes (.portDisable t q st) s fun e => e.enState q st = x ∧ e.flag (ENW_CTRL q st) ENW_CTRL_ENABLE = false ∧
          e.flag (ENW_CTRL q st) ENW_CTRL_BUSY = true ∧ OnlyRegs (s.dev.tick t) e [ENW_CTRL q st]) ∧
      (x ≠ enOff →
        (s.dev.print st = none → Completes (.retrain t q st) s fun e => e.enState q st = enTraining ∧ (e.portS q st).tableOk = false) ∧
        ((s.dev.print st).isSome = true →
          Completes (.retrain t q st) s fun e => e.enState q st = x ∧ (e.portS q st).retrain = true)) ∧
      (x = enFailed → Completes (.bringupRetry t q st) s fun e => e.enState q st = enTraining)) ∧
    (∀ (key : BitVec 58) (bits : List Bool), descramble key (scramble key bits).2 = bits) ∧
    (x = enTraining ∨ x = enConfig → Completes (.bringupTimeout t q st) s fun e => e.enState q st = enFailed) ∧
    (x ≠ enOff → Completes (.telemetryBlockLock t q st) s fun e => e.flag (ENW_STATUS q st) ENW_STATUS_TLM_LOCK = true ∧
      OnlyRegs (s.dev.tick t) e [ENW_STATUS q st]) ∧
    (Completes (.tlmSyncLoss t q st) s fun e => e.flag (ENW_STATUS q st) ENW_STATUS_TLM_LOCK = false ∧
      e.enState q st = (if x = enUp then enDown else x)) ∧
    (x = enUp →
      (Completes (.loopTick t q st) s fun e => (e.portS q st).token = ((s.dev.portS q st).token + 1) % 65536 ∧
        (e.portS q st).tokenAt = max s.dev.now t ∧ (e.portS q st).wire.getLast?.map (fun b => b.sync) = some 0b10 ∧
        ∀ a, e.reg a = s.dev.reg a) ∧
      (s.dev.checkFresh q ckTlmLoop →
        Completes (.telemetryTimeout t q st) s fun e => e.enState q st = enDown ∧ e.flag (ENW_STATUS q st) ENW_STATUS_LOOP_ERR = true)) ∧
    (∀ b : List Byte, b.length = 64 → bytesAt b 0 1 = 0x11 →
      (crcGood b 56 = false → x ≠ enOff → x ≠ enDown →
        Completes (.telemetryFrame t q st b) s fun e => e.enState q st = x ∧
          e.fld (ENW_TLM_CNT0 q st) ENW_TLM_CNT0_TLM_CRC = min (s.dev.fld (ENW_TLM_CNT0 q st) ENW_TLM_CNT0_TLM_CRC + 1) 65535 ∧
          OnlyRegs (s.dev.tick t) e [ENW_TLM_CNT0 q st]) ∧
      (crcGood b 56 = true → s.dev.token ≠ some q →
        (x = enTraining → bytesAt b 20 1 % 16 = 15 → bytesAt b 1 1 = 1 →
          Completes (.telemetryFrame t q st b) s fun e => e.enState q st = enConfig ∧
            e.fld (ENW_STATUS q st) ENW_STATUS_LANE_LOCK = 15 ∧ (e.portS q st).goodAt = max s.dev.now t ∧
            e.fld (ENW_TLM_CNT1 q st) ENW_TLM_CNT1_HOLES = bytesAt b 12 2) ∧
        (x = enConfig → (s.dev.portS q st).tableOk = true → (s.dev.portS q st).tokenAt + 16 * tuPerUs ≤ max s.dev.now t →
          bytesAt b 4 2 = (s.dev.portS q st).token → Completes (.telemetryFrame t q st b) s fun e => e.enState q st = enUp) ∧
        (x = enUp → bytesAt b 20 1 % 16 ≠ 15 → Completes (.telemetryFrame t q st b) s fun e => e.enState q st = enDown)) ∧
      (crcGood b 56 = true → s.dev.token = some q → x = enTraining → bytesAt b 20 1 % 16 = 15 → bytesAt b 1 1 = 1 →
        natBit (bytesAt b 21 1) 5 = false → bytesAt b 12 2 = s.dev.fld (ENW_TLM_CNT1 q st) ENW_TLM_CNT1_HOLES →
        toSigned 16 (bytesAt b 6 2) / 8 < toSigned 8 (s.dev.fld (BMO_TEMP q st) BMO_TEMP_LIMIT) →
        Completes (.telemetryFrame t q st b) s fun e => e.enState q st = enConfig ∧
          ∀ p, e.fld (BMO_STATUS p st) BMO_STATUS_HEAD_TEMP = ofSigned 8 (toSigned 16 (bytesAt b 6 2) / 8)))

/-- A good mirror frame copies the encoder positions, the lines and the planned trajectories to the Quarter that follows and is its newest snapshot; a bad or missing one counts and
notes an event of the check. A station that has caught up waits no more, and after a hard yield the last one ends the transfer. The end of
the overlap, and its bound, end the transfer and the old Quarter's transmission; a cut shows the stations that still waited. -/
def Obligations.TransfersComplete : Prop :=
  ∀ (t : Nat) (s : State),
    let q := s.dev.owner.other
    (s.dev.token ≠ none → s.dev.follows q = true →
      (Completes (.mirrorFrame t true) s fun e => (e.q q).mirrorAt = some (max s.dev.now t) ∧ (e.q q).role = s.dev.role q ∧
        (∀ x < 9, e.reg (AXS_ENC_POS q x) = s.dev.reg (AXS_ENC_POS q.other x)) ∧
        (∀ x < 8, (e.lineS q x).n = (s.dev.lineS q.other x).n) ∧
        ∀ a < 32, (s.dev.axisS q a).bound = true → (e.axisS q a).plan = (s.dev.axisS q.other a).plan) ∧
      (s.dev.checkFresh q ckMirror →
        (Completes (.mirrorFrame t false) s fun e =>
          e.fld (QTR_MIRROR q) QTR_MIRROR_BAD = min (s.dev.fld (QTR_MIRROR q) QTR_MIRROR_BAD + 1) 65535 ∧
          e.checkTimes q ckMirror = [max s.dev.now t] ∧ ∀ a, a ≠ QTR_MIRROR q → e.reg a = s.dev.reg a) ∧
        (Completes (.mirrorTimeout t) s fun e =>
          e.fld (QTR_MIRROR q) QTR_MIRROR_BAD = min (s.dev.fld (QTR_MIRROR q) QTR_MIRROR_BAD + 1) 65535 ∧
          e.checkTimes q ckMirror = [max s.dev.now t] ∧ ∀ a, a ≠ QTR_MIRROR q → e.reg a = s.dev.reg a))) ∧
    (∀ x, s.dev.transfer = some x →
      (∀ st : Station, natBit x.waiting st = true →
        let w := setNatBit x.waiting st false
        Completes (.stationCatchUp t st) s fun e =>
          e.transfer = (if w = 0 ∧ x.overlap = false then none else some { x with waiting := w })) ∧
      (x.overlap = true → x.waiting = 0 →
        Completes (.overlapEnd t) s fun e => e.transfer = none ∧ (e.q x.old).transmits = false) ∧
      (Completes (.overlapBound t) s fun e => e.transfer = none ∧ (e.q x.old).transmits = false ∧
        (x.overlap = true → x.waiting ≠ 0 → e.fld (QTR_CATCHUP x.old.other) QTR_CATCHUP_CUT = x.waiting % 256)))

/-- A Yielded Quarter enters Testing by RETEST, and 10 s after a failure while it has retries left, which then are one fewer. A self-test
that fails in its first four steps leaves the Quarter Yielded with the step; any other end leaves it Returning, or Yielded with the digest
or the named step. A Returning Quarter that has done its work becomes Standby where it is not to take the token back, and else waits for a
transfer while the device prints. At the handover time the token moves to the Standby at once in Ready and Held with no page open, and
while printing the transfer waits. -/
def Obligations.QuartersAreTestedAndReturn : Prop :=
  ∀ (t : Nat) (s : State) (q : Side),
    (s.dev.role q = .yielded → s.dev.token ≠ none →
      ((s.dev.q q).transmits = false → Completes (.retest t q) s fun e => e.role q = .testing ∧ (e.q q).times = []) ∧
      ((s.dev.q q).stuck = false → s.dev.transfer = none → s.dev.fld (QTR_TEST q) QTR_TEST_RETRIES_LEFT ≠ 0 →
        Completes (.retestTimer t q) s fun e => e.role q = .testing ∧
          e.fld (QTR_TEST q) QTR_TEST_RETRIES_LEFT = s.dev.fld (QTR_TEST q) QTR_TEST_RETRIES_LEFT - 1)) ∧
    (s.dev.role q = .testing → ∀ k : Nat,
      (1 ≤ k → k ≤ 4 → Completes (.selfTestDone t q k) s fun e => e.role q = .yielded ∧
        e.fld (QTR_TEST q) QTR_TEST_FAIL_STEP = k ∧ e.flag (QTR_TEST q) QTR_TEST_PASSED = false) ∧
      (k = 0 → Completes (.selfTestDone t q k) s fun e =>
        (e.role q = .returning ∧ e.flag (QTR_TEST q) QTR_TEST_PASSED = true ∧ e.fld (QTR_TEST q) QTR_TEST_FAIL_STEP = 0) ∨
          (e.role q = .yielded ∧ e.flag (QTR_TEST q) QTR_TEST_PASSED = false ∧ e.fld (QTR_TEST q) QTR_TEST_FAIL_STEP = 4)) ∧
      (5 ≤ k → k ≤ 7 → Completes (.selfTestDone t q k) s fun e => e.role q = .yielded ∧
        (e.fld (QTR_TEST q) QTR_TEST_FAIL_STEP = k ∨ e.fld (QTR_TEST q) QTR_TEST_FAIL_STEP = 4))) ∧
    (s.dev.role q = .returning → s.dev.returnDone q = true →
      (s.dev.preferred q = false ∨ s.dev.flag (QTR_CFG q) QTR_CFG_RETURN_EN = false →
        Completes (.returnCaughtUp t q) s fun e => e.role q = .standby ∧ (e.q q).caughtUp = true ∧ ∀ a, e.reg a = s.dev.reg a) ∧
      (s.dev.preferred q = true → s.dev.flag (QTR_CFG q) QTR_CFG_RETURN_EN = true → s.dev.st = .printing →
        Completes (.returnCaughtUp t q) s fun e => e.role q = .returning ∧ e.planned = some { newQ := q, handover := false } ∧
          ∀ a, e.reg a = s.dev.reg a)) ∧
    (s.dev.token = some q → s.dev.fld (QTR_CFG q) QTR_CFG_HANDOVER_H ≠ 0 →
      s.dev.fld (QTR_CFG q) QTR_CFG_HANDOVER_H * 3600000 * tuPerMs ≤ max s.dev.now t - s.dev.tokenAt →
      s.dev.role q.other = .standby → s.dev.planned = none →
      (s.dev.st = .printing →
        Completes (.handoverTimer t) s fun e => e.token = some q ∧ e.planned = some { newQ := q.other, handover := true }) ∧
      (s.dev.st = .ready ∨ s.dev.st = .held → s.dev.openInsts = [] → s.dev.transfer = none →
        Completes (.handoverTimer t) s fun e => e.token = some q.other ∧ e.role q.other = .active ∧ e.transfer = none))

/-- Where an instance's cursor stands at the entry and the Timeline runs, the entry is logged and the cursor moves on. RELEASE of a station that
may print starts its print, with the next line where that start is the nearest, and the sheet is in flight. GAP performs a planned transfer that waits. GATE drives the gate by the divert
flag, and a diverted sheet is journaled; so does WASTE_MARK, which starts its pulse. The acceptance window opens and closes, and at its
close a sheet still on its way stops a printing device as a jam. COMMIT delivers a sheet on its way whose divert flag is
clear, and no other. END frees the instance. -/
def Obligations.SheetEntriesFire : Prop :=
  ∀ (t : Nat) (s : State) (i : Fin 16) (x : Instance) (k : Nat) (e : TmlEntry),
    (s.dev.canFire t i taEnd x k e → Completes (.tmlEnd t i) s fun d => d.inst i = none ∧ d.logged x.wsn k) ∧
    (s.dev.canFire t i taRelease x k e → x.clearout = false →
      (natBit x.stations e.arg = false → Completes (.tmlRelease t i) s fun d => d.logged x.wsn k ∧ d.bmo = s.dev.bmo ∧
        ∃ y, d.inst i = some y ∧ y.cursor = x.cursor + 1 ∧ y.released = x.released) ∧
      (e.arg < 8 → natBit x.stations e.arg = true → e.side = 0 → x.cause = 0 → s.dev.web = false → s.dev.releasable e.arg = true →
        s.dev.print e.arg = none → s.dev.host.bound = [] →
        s.dev.nat (PXS_PERIOD s.dev.owner e.arg) ≤ 2 * (max s.dev.now t - (s.dev.synthS s.dev.owner e.arg).lastStart) →
        Completes (.tmlRelease t i) s fun d => d.logged x.wsn k ∧ (∃ p, d.print e.arg = some p ∧ p.inst = i.val ∧ p.started = false) ∧
          ∃ y, d.inst i = some y ∧ y.cursor = x.cursor + 1 ∧ y.inFlight = true ∧ natBit y.released e.arg = true ∧
            natBit y.imaging e.arg = true)) ∧
    (s.dev.canFire t i taGap x k e → x.clearout = false →
      (s.dev.planned = none → Completes (.tmlGap t i) s fun d => d.logged x.wsn k ∧ d.token = s.dev.token ∧
        ∃ y, d.inst i = some y ∧ y.cursor = x.cursor + 1) ∧
      (∀ p, s.dev.planned = some p → s.dev.firstStation = some e.arg → s.dev.st = .printing → s.dev.canTake p.newQ = true →
        s.dev.openInsts = [(i.val, x)] → x.divert = false → s.dev.token = some p.newQ.other → s.dev.transfer = none →
        Completes (.tmlGap t i) s fun d => d.token = some p.newQ ∧ d.logged x.wsn k)) ∧
    (s.dev.canFire t i taGate x k e → x.clearout = false → s.dev.planned = none →
      (x.divert = false → s.dev.drivesPin t e.arg (x.wsn + 1) →
        Completes (.tmlGate t i) s fun d => d.gpioPin e.arg = natBit e.value2 0 ∧ d.dlv.journal = s.dev.dlv.journal ∧
          ∃ y, d.inst i = some y ∧ y.gateFired = true ∧ y.cursor = x.cursor + 1) ∧
      (x.divert = true → s.dev.drivesPin t e.arg (x.wsn + 1) →
        Completes (.tmlGate t i) s fun d => d.gpioPin e.arg = natBit e.value 0 ∧
          (d.dlv.journal.head?.map fun z => (z.kind, z.wsn, z.cause)) = some (skDiverted, x.top, x.cause) ∧
          d.dlv.last = s.dev.dlv.last)) ∧
    (s.dev.canFire t i taAcceptOpen x k e → x.clearout = false →
      Completes (.tmlAcceptOpen t i) s fun d => d.logged x.wsn k ∧ ∃ y, d.inst i = some y ∧ y.windowOpen = true ∧ y.cursor = x.cursor + 1) ∧
    (s.dev.canFire t i taAcceptClose x k e → x.clearout = false →
      (x.onItsWay = false → Completes (.tmlAcceptClose t i) s fun d => d.logged x.wsn k ∧
        ∃ y, d.inst i = some y ∧ y.windowOpen = false ∧ y.cursor = x.cursor + 1) ∧
      (x.onItsWay = true → s.dev.st = .printing → Completes (.tmlAcceptClose t i) s fun d => d.st = .safe ∧
        natBit (d.fld KRB_CAUSE KRB_CAUSE_CAUSE) ktJam = true)) ∧
    (s.dev.canFire t i taCommit x k e →
      (s.dev.planned = none → x.onItsWay = true → x.divert = false →
        Completes (.tmlCommit t i) s fun d => d.dlv.last = x.top ∧
          (d.dlv.journal.head?.map fun z => (z.kind, z.wsn, z.cause)) = some (skDelivered, x.top, x.cause)) ∧
      (x.divert = true → Completes (.tmlCommit t i) s fun d => d.logged x.wsn k ∧ d.dlv = s.dev.dlv)) ∧
    (s.dev.canFire t i taWasteMark x k e → x.clearout = false → s.dev.planned = none → x.divert = true → s.dev.unranked t e.arg (x.wsn + 1) →
      Completes (.tmlWasteMark t i) s fun d => (d.tml.pulses.head? = some
          { gpio := e.arg, level := false, rank := x.wsn + 1, byCounts := true, due := s.dev.pitchPos + (e.value : Int) }) ∧
        (d.dlv.journal.head?.map fun z => (z.kind, z.wsn, z.cause)) = some (skDiverted, x.top, x.cause))

/-- Each entry is logged and the cursor moves on by one. The inspection window of the instance opens and closes; a pin that neither the
Kerb forces nor an action of a later sheet drives in the same cycle takes the entry's level, and a pulse its other level when its end has come; a setpoint
is written by, and a move that no axis refuses sets its target in, each Quarter whose Timeline runs. -/
def Obligations.EngineEntriesFire : Prop :=
  ∀ (t : Nat) (s : State) (i : Fin 16) (x : Instance) (k : Nat) (e : TmlEntry), x.clearout = false →
    let moved (d : Device) : Prop := d.logged x.wsn k ∧ ∃ y, d.inst i = some y ∧ y.cursor = x.cursor + 1
    (s.dev.canFire t i taInspectOpen x k e → Completes (.tmlInspectOpen t i) s fun d => moved d ∧ (d.inst i).any (fun y => y.inspect) = true) ∧
    (s.dev.canFire t i taInspectClose x k e → Completes (.tmlInspectClose t i) s fun d => moved d ∧ (d.inst i).any (fun y => y.inspect) = false) ∧
    (s.dev.drivesPin t e.arg (x.wsn + 1) →
      (s.dev.canFire t i taGpio x k e → Completes (.tmlGpio t i) s fun d => moved d ∧ d.gpioPin e.arg = natBit e.value 0) ∧
      (s.dev.canFire t i taPulse x k e → Completes (.tmlPulse t i) s fun d => moved d ∧ d.gpioPin e.arg = natBit e.value 0 ∧
        d.tml.pulses.head? = some (Pulse.mk e.arg (!natBit e.value 0) (x.wsn + 1) false (((s.dev.tick t).timeTick + e.value2 : Nat) : Int)))) ∧
    (s.dev.canFire t i taSetpoint x k e → s.dev.unranked t (64 + e.arg) (x.wsn + 1) → Completes (.tmlSetpoint t i) s fun d => moved d ∧
      ∀ q, s.dev.tmlRuns q = true → d.reg (REG_SLOT_SP q e.arg) = BitVec.ofNat 32 e.value) ∧
    (s.dev.canFire t i taAxisMove x k e → s.dev.unranked t (1024 + e.arg) (x.wsn + 1) → e.arg < 32 →
      (∀ q, s.dev.tmlRuns q = true → s.dev.moveRefused q e.arg (toSigned 32 e.value2) = false) →
      Completes (.tmlAxisMove t i) s fun d => moved d ∧
        ∀ q, s.dev.tmlRuns q = true → d.reg (AXS_TARGET q e.arg) = BitVec.ofInt 32 (toSigned 32 e.value2) ∧ d.axFlag q e.arg AXS_STATUS_MOVING = true) ∧
    (∀ (g : Fin 64) (p : Pulse), s.dev.tml.pulses = [p] → p.gpio = g.val → (s.dev.tick t).pulseOver p = true → s.dev.drivesPin t g p.rank →
      Completes (.pulseEnd t g) s fun d => d.gpioPin g = p.level ∧ d.tml.pulses = [] ∧ ∀ q, d.flag (TML_CTRL q) TML_CTRL_BUSY = false)

/-- Where the pitch source has advanced by a pitch, in Ready a pitch start takes the page that is due into a free instance, the device goes to Printing, and with no page due the pitch is counted
blank in each Quarter whose Timeline runs. CLEAROUT in Held starts a run of as many pitches as sheets are stranded and ACK_CLEARED forgets them; both are refused elsewhere. An entry or a
pitch that is due and has not begun shows WD. Disabling the Timeline with nothing in flight clears ENABLE and shows BUSY while a pulse runs. -/
def Obligations.TimelineRuns : Prop :=
  ∀ (t : Nat) (s : State),
    (s.dev.tmlOn = true → s.dev.pitchReached s.dev.owner = true → s.dev.st = .ready →
      (∀ p n, s.dev.duePage = some p → s.dev.freeInst = some n → s.dev.mayTake p = true → (s.dev.enforce p.first.speed).2 = true →
        Completes (.pitchStart t) s fun e => e.st = .printing ∧ ∃ i, e.inst n = some i ∧ i.wsn = p.first.wsn ∧ i.cursor = 0 ∧
          i.stations = p.first.stations ∧ i.origin = s.dev.tml.pitchAt + s.dev.tml.pitchLen) ∧
      (s.dev.duePage = none →
        Completes (.pitchStart t) s fun e => e.st = .ready ∧ e.dlv = s.dev.dlv ∧
          ∀ q, s.dev.tmlRuns q = true → e.fld (TML_CNT q) TML_CNT_BLANK = min (s.dev.fld (TML_CNT q) TML_CNT_BLANK + 1) 65535)) ∧
    (s.dev.st = .held →
      (s.dev.clearingOut = false → s.dev.clearoutTemplate ≠ none →
        Completes (.clearout t) s fun e => e.resp = .ok ∧ e.tml.clearoutLeft = s.dev.dlv.stranded ∧ ∀ a, e.reg a = s.dev.reg a) ∧
      (Completes (.ackCleared t) s fun e => e.resp = .ok ∧ e.dlv.stranded = 0 ∧ e.tml.clearoutLeft = 0 ∧ ∀ a, e.reg a = s.dev.reg a)) ∧
    (s.dev.st ≠ .held →
      (Completes (.clearout t) s fun e => e = (s.dev.tick t).reply .errState) ∧
      (Completes (.ackCleared t) s fun e => e = (s.dev.tick t).reply .errState)) ∧
    (∀ q : Side, s.dev.flag (TML_CTRL q) TML_CTRL_ENABLE = true →
      (∀ k, s.dev.checkFresh q ckTimelineWd → (match k with
          | .cursor => s.dev.openInsts.any (fun x => (s.dev.cursorEntry x.2).any (fun y => (s.dev.tick t).entryDue q x.2 y.2))
          | .pitch => (s.dev.st == .ready || s.dev.st == .printing || s.dev.st == .draining) && s.dev.pitchReached q) = true →
        Completes (.timelineWatchdog t q k) s fun e => e.flag (TML_STATUS q) TML_STATUS_WD = true ∧
          e.checkTimes q ckTimelineWd = [max s.dev.now t]) ∧
      (s.dev.owner ≠ q →
        Completes (.timelineDisable t q) s fun e => e.flag (TML_CTRL q) TML_CTRL_ENABLE = false ∧
          OnlyRegs (s.dev.tick t) e [TML_CTRL q]) ∧
      (s.dev.owner = q → s.dev.flight = [] →
        Completes (.timelineDisable t q) s fun e => e.flag (TML_CTRL q) TML_CTRL_ENABLE = false ∧
          e.flag (TML_CTRL q) TML_CTRL_BUSY = !s.dev.tml.pulses.isEmpty ∧ OnlyRegs (s.dev.tick t) e [TML_CTRL q]))

/-- In a Yielded or Testing Quarter a sweep changes only what the GPIO inputs read. With no rule to evaluate it records its longest time and
ends a wind-down. A rule of the Quarter that holds the token whose condition holds for the last sweep it needs, and that has not fired,
fires: it is shown and counted, and its Kerb action takes a printing device to Safe. Disabling clears ENABLE. -/
def Obligations.SupervisorSweeps : Prop :=
  ∀ (t : Nat) (s : State) (q : Side),
    (∀ (took : Nat) (gpio : BitVec 64),
      (s.dev.role q = .yielded ∨ s.dev.role q = .testing →
        Completes (.supervisorSweep t q took gpio) s fun e => e.tml.gpioIn = gpio.toNat ∧ ∀ a, e.reg a = s.dev.reg a) ∧
      (s.dev.role q ≠ .yielded → s.dev.role q ≠ .testing →
        (s.dev.supRules q = [] →
          Completes (.supervisorSweep t q took gpio) s fun e => e.flag (SUP_CTRL q) SUP_CTRL_BUSY = false ∧
            e.fld (SUP_STATUS q) SUP_STATUS_SWEEP_US_MAX =
              max (s.dev.fld (SUP_STATUS q) SUP_STATUS_SWEEP_US_MAX) (min 65535 took) ∧
            ∀ a, a ≠ SUP_CTRL q → a ≠ SUP_STATUS q → e.reg a = s.dev.reg a) ∧
        (∀ k,
          let d := ((s.dev.tick t).modTml (fun v => { v with gpioIn := gpio.toNat })).maxFld (SUP_STATUS q) SUP_STATUS_SWEEP_US_MAX (min 65535 took)
          let r := parseRule (s.dev.entry 0x02 0 k)
          let x := sget (fun _ => {}) s.dev.sup (256 * q.code + k)
          s.dev.supRules q = [k] → s.dev.token = some q → s.dev.st = .printing → r.action = 4 → x.spent = false → r.persist ≤ min 255 (x.held + 1) →
          r.holds (d.supInput q r.inputA) (d.supInput q r.inputB) x = true →
          Completes (.supervisorSweep t q took gpio) s fun e => e.st = .safe ∧
            natBit (e.fld KRB_CAUSE KRB_CAUSE_CAUSE) ktSupervisor = true ∧
            natBit (e.nat (SUP_FIRED q (k / 32))) (k % 32) = true ∧ e.fld (SUP_STATUS q) SUP_STATUS_LAST_RULE = k ∧
            (sget (fun _ => {}) e.sup (256 * q.code + k)).spent = true))) ∧
    (Completes (.supervisorDisable t q) s fun e => e.flag (SUP_CTRL q) SUP_CTRL_ENABLE = false ∧ OnlyRegs (s.dev.tick t) e [SUP_CTRL q])

/-- A setpoint, a mode and the coefficients of a slot that does not run are written at once; those of a running one are queued, up to eight,
and QUEUE_OVF is set for more. FALLBACK puts the slot into its fallback with cause SUPERVISOR and keeps an earlier cause; RESUME, with no open
or short present, takes it out. Disabling a running slot starts its wind-down. A base tick counts, shows its number and the supply voltage sensed at it. -/
def Obligations.RegulatorSlotsAreDriven : Prop :=
  ∀ (t : Nat) (s : State) (q : Side) (n : Fin 512),
    (∀ v : Word,
      (Completes (.setpointWrite t q n v) s fun e => e.reg (REG_SLOT_SP q n) = v ∧ OnlyRegs (s.dev.tick t) e [REG_SLOT_SP q n]) ∧
      (Completes (.modeWrite t q n v) s fun e => e.fld (REG_SLOT_CTRL q n) REG_SLOT_CTRL_MODE = REG_SLOT_CTRL_MODE.get v ∧
        e.flag (REG_SLOT_CTRL q n) REG_SLOT_CTRL_ENABLE = s.dev.flag (REG_SLOT_CTRL q n) REG_SLOT_CTRL_ENABLE ∧
        OnlyRegs (s.dev.tick t) e [REG_SLOT_CTRL q n]) ∧
      (∀ p : Fin 6,
        (s.dev.slotRuns q n = false →
          (Completes (.coefficientWrite t q n p 0 v) s fun e => e.reg (REG_COEF_C0 q n p) = v ∧ OnlyRegs (s.dev.tick t) e [REG_COEF_C0 q n p]) ∧
          (Completes (.coefficientWrite t q n p 1 v) s fun e => e.reg (REG_COEF_C1 q n p) = v ∧ OnlyRegs (s.dev.tick t) e [REG_COEF_C1 q n p]) ∧
          (Completes (.coefficientWrite t q n p 2 v) s fun e => e.reg (REG_COEF_C2 q n p) = v ∧ OnlyRegs (s.dev.tick t) e [REG_COEF_C2 q n p]) ∧
          (Completes (.coefficientWrite t q n p 3 v) s fun e => e.reg (REG_COEF_SHIFT q n p) = v &&& 0x7FFF ∧
            OnlyRegs (s.dev.tick t) e [REG_COEF_SHIFT q n p])) ∧
        (∀ which : Fin 4, s.dev.slotRuns q n = true →
          ((s.dev.slotS q n).queue.length < 8 →
            Completes (.coefficientWrite t q n p which v) s fun e =>
              (e.slotS q n).queue = (s.dev.slotS q n).queue ++ [(p.val, which.val, v)] ∧
              e.fld (REG_SLOT_STATUS q n) REG_SLOT_STATUS_QUEUED = (s.dev.slotS q n).queue.length + 1) ∧
          (8 ≤ (s.dev.slotS q n).queue.length → s.dev.ledgerAction lbRegQueueOvf ≠ 2 →
            Completes (.coefficientWrite t q n p which v) s fun e => (e.slotS q n).queue = (s.dev.slotS q n).queue ∧
              e.flag (REG_SLOT_STATUS q n) REG_SLOT_STATUS_QUEUE_OVF = true)))) ∧
    (s.dev.inFallback q n = false → s.dev.ledgerAction lbRegFallback ≠ 2 →
      Completes (.fallback t q n) s fun e => e.inFallback q n = true ∧ e.fld (REG_SLOT_STATUS q n) REG_SLOT_STATUS_CAUSE = 4) ∧
    (s.dev.inFallback q n = true →
      (Completes (.fallback t q n) s fun e => e = s.dev.tick t) ∧
      (s.dev.openNow q n = false →
        Completes (.resume t q n) s fun e => e.inFallback q n = false ∧ (e.slotS q n).again = true ∧ (e.slotS q n).safe = false)) ∧
    (s.dev.slotRuns q n = true → (s.dev.slotS q n).wind = 0 → s.dev.inFallback q n = false →
      Completes (.slotDisable t q n) s fun e => e.flag (REG_SLOT_CTRL q n) REG_SLOT_CTRL_ENABLE = false ∧
        e.flag (REG_SLOT_CTRL q n) REG_SLOT_CTRL_BUSY = true ∧ (e.slotS q n).wind = 1) ∧
    (s.dev.slotRuns q n = false →
      Completes (.slotDisable t q n) s fun e => e.flag (REG_SLOT_CTRL q n) REG_SLOT_CTRL_ENABLE = false ∧
        OnlyRegs (s.dev.tick t) e [REG_SLOT_CTRL q n]) ∧
    (∀ codes ssi vin,
      let k := sget (fun _ => 0) s.dev.rgl.ticks q.code
      Completes (.regulatorTick t q codes ssi vin) s fun e => sget (fun _ => 0) e.rgl.ticks q.code = k + 1 ∧
        e.fld (REG_STATUS q) REG_STATUS_TICK = k % 256 ∧ e.fld PWR_VIN PWR_VIN_VIN = min 65535 vin)

/-- An enable starts SENSE from OFF and FAULT. Too few crossings end SENSE in ALIGN, three in forward order at speed in RESYNC; standstill ends BRAKE
in ALIGN, or in OFF for a controller that winds down. ALIGN ends in RAMP; a hand-over that fails goes back to SENSE to try again, or ends in
FAULT after the retries, as does a brake that does not end. A release of RESYNC without success begins anew, seven crossings in order give
RUN, and the time limit ends it as a failure. A disable in RUN shows BUSY, and
one in FAULT leaves the controller there. -/
def Obligations.PolygonsGoThroughTheirStates : Prop :=
  ∀ (t : Nat) (s : State) (q : Side) (p : Fin 8),
    let x := s.dev.poState q p
    let v := s.dev.polyS q p
    let b := s.dev.motorEntry p
    let now := max s.dev.now t
    (s.dev.flag (MOT_POLY_CTRL q p) MOT_POLY_CTRL_ENABLE = false → s.dev.flag (MOT_POLY_CTRL q p) MOT_POLY_CTRL_BUSY = false → mKind b = 1 →
      s.dev.motOn q = true → x = poOff ∨ x = poFault →
      Completes (.polyEnable t q p) s fun e => e.poState q p = poSense ∧ e.flag (MOT_POLY_CTRL q p) MOT_POLY_CTRL_ENABLE = true ∧
        e.fld (MOT_POLY_STATUS q p) MOT_POLY_STATUS_ATTEMPTS = 0 ∧ (e.polyS q p).cross = []) ∧
    (s.dev.flag (MOT_POLY_CTRL q p) MOT_POLY_CTRL_ENABLE = true →
      (x = poOff ∨ x = poFault → Completes (.polyDisable t q p) s fun e => e.poState q p = x ∧ e.flag (MOT_POLY_CTRL q p) MOT_POLY_CTRL_ENABLE = false) ∧
      (x = poRun → s.dev.owner ≠ q → Completes (.polyDisable t q p) s fun e => e.poState q p = poRun ∧ (e.polyS q p).winding = true ∧
        e.flag (MOT_POLY_CTRL q p) MOT_POLY_CTRL_ENABLE = false ∧ e.flag (MOT_POLY_CTRL q p) MOT_POLY_CTRL_BUSY = true)) ∧
    (x = poSense →
      (v.retrying = false → v.coasting = false →
        (Completes (.senseTimeout t q p) s fun e => e.poState q p = poAlign ∧ e.reg (MOT_POLY_SPEED q p) = 0) ∧
        (∀ ph : Fin 3, v.cross.length < 2 →
          Completes (.phaseComparatorEdge t q p ph) s fun e => e.poState q p = poSense ∧ (e.polyS q p).cross = (now, ph.val) :: v.cross) ∧
        (∀ (ph : Fin 3) a c, v.cross = [a, c] → inOrder 1 [(now, ph.val), a, c] = true →
          (mCatch b : Int) * 4096 ≤ crossSpeed (mPairs b) 2 (now - c.1) →
          Completes (.phaseComparatorEdge t q p ph) s fun e => e.poState q p = poResync)) ∧
      (v.retrying = true → Completes (.startRetry t q p) s fun e => e.poState q p = poSense ∧ (e.polyS q p).retrying = false)) ∧
    (x = poBrake →
      (v.winding = false → v.failed = false → Completes (.standstill t q p) s fun e => e.poState q p = poAlign) ∧
      (v.winding = true → s.dev.flag (MOT_POLY_CTRL q p) MOT_POLY_CTRL_ENABLE = false →
        Completes (.standstill t q p) s fun e => e.poState q p = poOff ∧ e.flag (MOT_POLY_CTRL q p) MOT_POLY_CTRL_BUSY = false) ∧
      (s.dev.ledgerAction lbPolyBrakeFail ≠ 2 →
        Completes (.brakeTimeout t q p) s fun e => e.poState q p = poFault ∧ e.flag (MOT_POLY_STATUS q p) MOT_POLY_STATUS_FAULT = true)) ∧
    (x = poAlign → Completes (.alignTimeout t q p) s fun e => e.poState q p = poRamp ∧
      (e.polyS q p).handoffAt = some (now + mHandoff b * 1000 * tuPerMs / mRamp b)) ∧
    (x = poRamp →
      (v.fails + 1 ≤ mRetries b → Completes (.handoffTimeout t q p) s fun e => e.poState q p = poSense ∧ (e.polyS q p).retrying = true ∧
        (e.polyS q p).fails = v.fails + 1) ∧
      (mRetries b < v.fails + 1 → s.dev.ledgerAction lbPolyStartFail ≠ 2 →
        Completes (.handoffTimeout t q p) s fun e => e.poState q p = poFault)) ∧
    (x = poResync → v.coasting = false →
      (Completes (.resyncReleaseEnd t q p) s fun e => (e.polyS q p).cross = [] ∧ ∀ a, e.reg a = s.dev.reg a) ∧
      (∀ ph : Fin 3, v.retrying = false → v.cross.length = 6 → inOrder 1 ((now, ph.val) :: v.cross) = true →
        Completes (.phaseComparatorEdge t q p ph) s fun e => e.poState q p = poRun ∧
          e.fld (MOT_POLY_CNT q p) MOT_POLY_CNT_RESYNCS = min (s.dev.fld (MOT_POLY_CNT q p) MOT_POLY_CNT_RESYNCS + 1) 65535) ∧
      (s.dev.owner ≠ q → Completes (.resyncTimeout t q p) s fun e => e.flag (MOT_POLY_STATUS q p) MOT_POLY_STATUS_RESYNC_FAIL = true ∧
        (e.polyS q p).coasting = true ∧ (e.polyS q p).failed = true) ∧
      (s.dev.owner = q → Completes (.resyncTimeout t q p) s fun e => e.isSafe p = true))

/-- A period boundary latches the duty that each channel of its group is asked for; a channel that is disabled then drives its idle level. The Quarter that
owns the group's pins puts the pulses out, and the group goes to the Quarter that holds the token. In Booting nothing is latched. A boundary also
runs the polygon controller in RUN, whose current follows the command, and the PMSM controller that drives its bridge. A PMSM controller starts
where its entry, its block and its bus allow it; a disable winds down one that runs. The first index of its encoder gives its angle. -/
def Obligations.DrivesRunAtPeriods : Prop :=
  ∀ (t : Nat) (s : State) (q : Side),
    (∀ g : Fin 4,
      (s.dev.st = .booting → ∀ l, Completes (.pwmPeriodBoundary t q g l) s fun e => e = s.dev.tick t) ∧
      (s.dev.st ≠ .booting → Completes (.pwmPeriodBoundary t q g []) s fun e => (∀ a, e.reg a = s.dev.reg a) ∧
        (∀ ch ∈ groupChannels g, sget (fun _ => none) e.mot.duty (pwmKey q ch) = sget (fun _ => none) s.dev.mot.want (pwmKey q ch)) ∧
        (s.dev.pwmOwner g = q → natBit s.dev.clk.tbOther q.code = false →
          (∀ ch ∈ groupChannels g, sget (fun _ => none) e.mot.pins ch = e.pulseOf q g ch) ∧ e.pwmOwner g = s.dev.owner))) ∧
    (∀ m : MotorSample, s.dev.st ≠ .booting → mKind (s.dev.motorEntry 0) = 1 → s.dev.busTripped q (s.dev.motorEntry 0) = false → s.dev.poState q 0 = poRun → (s.dev.polyS q 0).winding = false →
      (s.dev.polyS q 0).handedOver = true →
      mConfTh (s.dev.motorEntry 0) ≤ nextConf (s.dev.fld (MOT_POLY_STATUS q 0) MOT_POLY_STATUS_CONF) m.iErr (mIMax (s.dev.motorEntry 0)) →
      Completes (.pwmPeriodBoundary t q 0 [m]) s fun e => e.poState q 0 = poRun ∧
        e.reg (MOT_POLY_SPEED q 0) = BitVec.ofInt 32 m.speed ∧
        (e.polyS q 0).iRef = s.dev.currentOf q (s.dev.motorEntry 0) (s.dev.polyS q 0).command) ∧
    (∀ m : MotorSample, s.dev.st ≠ .booting → s.dev.flag (MOT_PMSM_STATUS q 0) MOT_PMSM_STATUS_RUNNING = true → (s.dev.pmsmS q 0).winding = false →
      Completes (.pwmPeriodBoundary t q 1 [m]) s fun e => e.fld (MOT_PMSM_IDQ q 0) MOT_PMSM_IDQ_IQ = ofSigned 16 m.iq ∧
        e.fld (MOT_PMSM_IDQ q 0) MOT_PMSM_IDQ_ID = ofSigned 16 m.id ∧
        e.flag (MOT_PMSM_STATUS q 0) MOT_PMSM_STATUS_RUNNING = true) ∧
    (∀ ch : Fin 128, Completes (.pwmDisable t q ch) s fun e => sget (fun _ => none) e.mot.want (pwmKey q ch) = none ∧
      ∀ a, e.reg a = s.dev.reg a) ∧
    (∀ n : Fin 4,
      let b := s.dev.motorEntry (8 + n)
      (s.dev.flag (MOT_PMSM_CTRL q n) MOT_PMSM_CTRL_ENABLE = false → s.dev.flag (MOT_PMSM_CTRL q n) MOT_PMSM_CTRL_BUSY = false →
        mKind b = 2 → s.dev.motOn q = true →
        Completes (.pmsmEnable t q n) s fun e => e.flag (MOT_PMSM_CTRL q n) MOT_PMSM_CTRL_ENABLE = true ∧
          e.flag (MOT_PMSM_STATUS q n) MOT_PMSM_STATUS_RUNNING = true ∧ (e.pmsmS q n).iRef = mIAlign b) ∧
      (s.dev.flag (MOT_PMSM_CTRL q n) MOT_PMSM_CTRL_ENABLE = true →
        Completes (.pmsmDisable t q n) s fun e => e.flag (MOT_PMSM_CTRL q n) MOT_PMSM_CTRL_ENABLE = false ∧
          (s.dev.flag (MOT_PMSM_STATUS q n) MOT_PMSM_STATUS_RUNNING = true →
            e.flag (MOT_PMSM_CTRL q n) MOT_PMSM_CTRL_BUSY = true ∧ (e.pmsmS q n).winding = true))) ∧
    (∀ x : Fin 8,
      (∀ n < 4, mKind (s.dev.motorEntry (8 + n)) = 2 → mEncoder (s.dev.motorEntry (8 + n)) = x.val →
        s.dev.flag (MOT_PMSM_STATUS q n) MOT_PMSM_STATUS_INDEXED = false) →
      Completes (.encoderIndex t q x) s fun e => ∀ n < 4, mKind (s.dev.motorEntry (8 + n)) = 2 → mEncoder (s.dev.motorEntry (8 + n)) = x.val →
        e.flag (MOT_PMSM_STATUS q n) MOT_PMSM_STATUS_INDEXED = true ∧ (e.pmsmS q n).indexAt = s.dev.int (AXS_ENC_RAW q x))

/-- A sample above CHOP_ON switches the chopper on, one below CHOP_OFF switches it off, and both Quarters show the voltage. An average is the newest
one and counts its rises while the chopper stayed on; the tenth in a row makes the chopper faulty. The hard limit shows the trip and forces the
bridges off, and its recovery ends both and makes the polygons that it drove resynchronise. CLEAR_CHOP in Held clears the faults. -/
def Obligations.BusesAreLimited : Prop :=
  ∀ (t : Nat) (s : State) (b : Fin 2),
    let q := s.dev.owner
    let v := s.dev.busS b
    (∀ dv : Nat,
      (s.dev.fld (MOT_BUS_THR q b) MOT_BUS_THR_CHOP_ON < dv →
        Completes (.dcbusSample t b dv) s fun e => ∀ p, natBit (e.fld (MOT_BUS_STATUS p) MOT_BUS_STATUS_CHOP_ON) b = true ∧
          e.fld (MOT_BUS_V p) (if b = 0 then MOT_BUS_V_V0 else MOT_BUS_V_V1) = min 65535 dv) ∧
      (dv ≤ s.dev.fld (MOT_BUS_THR q b) MOT_BUS_THR_CHOP_ON → dv < s.dev.fld (MOT_BUS_THR q b) MOT_BUS_THR_CHOP_OFF →
        Completes (.dcbusSample t b dv) s fun e => ∀ p, natBit (e.fld (MOT_BUS_STATUS p) MOT_BUS_STATUS_CHOP_ON) b = false) ∧
      (v.rises < 9 → Completes (.dcbusAverage t b dv) s fun e => (e.busS b).avg = dv ∧
        (e.busS b).rises = (if v.onAll ∧ v.avg < dv then v.rises + 1 else 0) ∧ ∀ a, e.reg a = s.dev.reg a) ∧
      (v.rises = 9 → v.onAll = true → v.avg < dv → natBit (s.dev.fld (MOT_BUS_STATUS q) MOT_BUS_STATUS_CHOP_FAULT) b = false →
        s.dev.ledgerAction lbChopFault ≠ 2 →
        Completes (.dcbusAverage t b dv) s fun e => ∀ p, natBit (e.fld (MOT_BUS_STATUS p) MOT_BUS_STATUS_CHOP_FAULT) b = true)) ∧
    (s.dev.flight = [] → s.dev.ledgerAction lbBusHard ≠ 2 →
      Completes (.dcbusHardLimit t b) s fun e => (∀ p, natBit (e.fld (MOT_BUS_STATUS p) MOT_BUS_STATUS_HARD_TRIP) b = true) ∧
        natBit (e.fld KRB_ENABLES KRB_ENABLES_BUS_FORCED) b = true ∧ (e.busS b).trippedAt = max s.dev.now t ∧ e.st = s.dev.st) ∧
    (natBit (s.dev.fld (MOT_BUS_STATUS q) MOT_BUS_STATUS_HARD_TRIP) b = true →
      Completes (.busHardRecovery t b) s fun e => (∀ p, natBit (e.fld (MOT_BUS_STATUS p) MOT_BUS_STATUS_HARD_TRIP) b = false) ∧
        natBit (e.fld KRB_ENABLES KRB_ENABLES_BUS_FORCED) b = false ∧
        ∀ (p : Side) (m : Fin 8), s.dev.polyDrives p m b = true → (s.dev.polyS p m).winding = false → (s.dev.polyS p m).coasting = false →
          e.poState p m = poResync) ∧
    (s.dev.st = .held → Completes (.clearChop t) s fun e => ∀ p, e.fld (MOT_BUS_STATUS p) MOT_BUS_STATUS_CHOP_FAULT = 0 ∧
      ∀ n < 4, e.flag (MOT_PMSM_STATUS p n) MOT_PMSM_STATUS_REGEN_ZERO = false)

/-- A write of the target of an axis that may move sets TARGET and MOVING and plans its trajectory from where it is; a refused one sets TARGET_ERR and leaves the
target. A control write enables a bound axis with its profile, disables one (BUSY until its bridge is off; one at rest keeps its position as
target, one that moves stops), and changes the profile. HOME clears HOMED and starts the move to the stop. STOP decelerates a moving axis and
makes the position of one at rest its target. CLEAR ends a fault at rest unless a switch chatters. After the settling time the axis backs off
by BACKOFF. -/
def Obligations.AxesMoveStopAndHome : Prop :=
  ∀ (t : Nat) (s : State) (q : Side) (a : Fin 32),
    let d := s.dev
    let v := d.axisS q a
    let on := d.flag (AXS_ACTL q a) AXS_ACTL_ENABLE
    let now := max d.now t
    (∀ w : Word,
      (d.moveRefused q a w.toInt = false → Completes (.axisTargetWrite t q a w) s fun e => e.reg (AXS_TARGET q a) = w ∧ e.moving q a = true ∧
        e.reg (AXS_POS q a) = d.reg (AXS_POS q a) ∧ (e.axisS q a).plan.kin = (d.tick t).axisKin q a ∧
        (e.axisS q a).plan.segs = (planTo (e.axisLimits q a) ((d.tick t).axisKin q a) w.toInt).1) ∧
      (d.moveRefused q a w.toInt = true → Completes (.axisTargetWrite t q a w) s fun e => e.axFlag q a AXS_STATUS_TARGET_ERR = true ∧
        e.reg (AXS_TARGET q a) = d.reg (AXS_TARGET q a) ∧ e.moving q a = d.moving q a)) ∧
    (∀ w : Word,
      (AXS_ACTL_ENABLE.get w = 1 → v.bound = false →
        Completes (.axisControlWrite t q a w) s fun e => e.axFlag q a AXS_STATUS_TARGET_ERR = true ∧ e.reg (AXS_ACTL q a) = d.reg (AXS_ACTL q a)) ∧
      (AXS_ACTL_ENABLE.get w = 1 → v.bound = true → on = false →
        Completes (.axisControlWrite t q a w) s fun e => e.flag (AXS_ACTL q a) AXS_ACTL_ENABLE = true ∧
          e.fld (AXS_ACTL q a) AXS_ACTL_PROFILE = AXS_ACTL_PROFILE.get w ∧
          (d.flag (AXS_ACTL q a) AXS_ACTL_BUSY = false → (e.axisS q a).limits = AXS_ACTL_PROFILE.get w)) ∧
      (AXS_ACTL_ENABLE.get w = 1 → v.bound = true → on = true → AXS_ACTL_PROFILE.get w ≠ d.fld (AXS_ACTL q a) AXS_ACTL_PROFILE →
        d.moveRefused q a (d.int (AXS_TARGET q a)) = false →
        Completes (.axisControlWrite t q a w) s fun e => e.fld (AXS_ACTL q a) AXS_ACTL_PROFILE = AXS_ACTL_PROFILE.get w ∧
          e.reg (AXS_TARGET q a) = d.reg (AXS_TARGET q a)) ∧
      (AXS_ACTL_ENABLE.get w ≠ 1 → on = true → v.homing = 0 →
        Completes (.axisControlWrite t q a w) s fun e => e.flag (AXS_ACTL q a) AXS_ACTL_ENABLE = false ∧ e.flag (AXS_ACTL q a) AXS_ACTL_BUSY = true ∧
          (d.flag (AXS_ACTL q a) AXS_ACTL_BUSY = false → (d.moving q a = true → e.axFlag q a AXS_STATUS_STOPPING = true) ∧
            (d.moving q a = false → e.reg (AXS_TARGET q a) = d.reg (AXS_POS q a))))) ∧
    (let dist : Int := d.nat (AXS_HOME_DIST q a)
     let goal := d.int (AXS_POS q a) + (if d.flag (AXS_HOME_CFG q a) AXS_HOME_CFG_DIR then dist else -dist)
     (d.setAx q a AXS_STATUS_HOMED false).moveRefused q a goal = false →
      Completes (.home t q a) s fun e => e.axFlag q a AXS_STATUS_HOMING = true ∧ e.axFlag q a AXS_STATUS_HOMED = false ∧ e.moving q a = true ∧
        (e.axisS q a).homing = 1 ∧ e.reg (AXS_TARGET q a) = BitVec.ofInt 32 goal) ∧
    (v.homing = 0 →
      (d.moving q a = true → Completes (.stop t q a) s fun e => e.axFlag q a AXS_STATUS_STOPPING = true ∧ e.moving q a = true) ∧
      (d.moving q a = false → Completes (.stop t q a) s fun e => e.reg (AXS_TARGET q a) = d.reg (AXS_POS q a) ∧
        e.reg (AXS_STATUS q a) = d.reg (AXS_STATUS q a))) ∧
    (d.moving q a = false → chatters now v.neg = false → chatters now v.pos = false →
      Completes (.clearFault t q a) s fun e => e.axFlag q a AXS_STATUS_FAULT = false ∧ e.axFlag q a AXS_STATUS_CHATTER = false ∧
        (e.axisS q a).clear = true) ∧
    (v.homing = 3 →
      let back : Int := d.fld (AXS_HOME_CFG q a) AXS_HOME_CFG_BACKOFF
      Completes (.homeSettleTimeout t q a) s fun e => (e.axisS q a).homing = 5 ∧ e.moving q a = true ∧
        e.reg (AXS_TARGET q a) =
          BitVec.ofInt 32 (d.int (AXS_POS q a) + (if d.flag (AXS_HOME_CFG q a) AXS_HOME_CFG_DIR then -back else back)))

/-- A change of an encoder's inputs moves its raw count by one in the direction of the quadrature cycle, which DIR turns; A and B changing together
are one more error and leave the count. A sample of a limit switch at its present level counts toward eight: at the eighth the status bit shows
whether the level is the active one, and a switch that becomes active in the direction of motion hits the limit. Before the eighth sample no
register changes. -/
def Obligations.EncodersCountAndSwitchesTrip : Prop :=
  ∀ (t : Nat) (s : State) (q : Side),
    (∀ (x : Fin 8) (a b : Bool),
      let o := sget (fun _ => ({} : EncS)) s.dev.axs.enc (8 * q.code + x.val)
      let n := (quadPos a b + 4 - quadPos o.a o.b) % 4
      let dir := s.dev.flag (AXS_ENC_CFG q x) AXS_ENC_CFG_DIR
      let raw := s.dev.reg (AXS_ENC_RAW q x)
      (n = 1 → Completes (.encoderEdge t q x a b) s fun e => e.reg (AXS_ENC_RAW q x) = (if dir then raw - 1 else raw + 1) ∧
        sget (fun _ => ({} : EncS)) e.axs.enc (8 * q.code + x.val) = { a, b }) ∧
      (n = 3 → Completes (.encoderEdge t q x a b) s fun e => e.reg (AXS_ENC_RAW q x) = (if dir then raw + 1 else raw - 1)) ∧
      (n = 0 → Completes (.encoderEdge t q x a b) s fun e => ∀ r, e.reg r = s.dev.reg r) ∧
      (n = 2 → (∀ k < 4, mKind (s.dev.motorEntry (8 + k)) ≠ 2 ∨ mEncoder (s.dev.motorEntry (8 + k)) ≠ x.val) →
        Completes (.encoderEdge t q x a b) s fun e => e.reg (AXS_ENC_RAW q x) = raw ∧
          e.fld (AXS_ENC_ERR q x) wholeWord = min (s.dev.fld (AXS_ENC_ERR q x) wholeWord + 1) (2 ^ 32 - 1))) ∧
    (∀ (a : Fin 32) (positive level : Bool),
      let l := if positive then (s.dev.axisS q a).pos else (s.dev.axisS q a).neg
      let now := max s.dev.now t
      let lim := if positive then AXS_STATUS_LIM_POS else AXS_STATUS_LIM_NEG
      let lvl := s.dev.flag (AXS_CFG q a) (if positive then AXS_CFG_LIMP_LVL else AXS_CFG_LIMN_LVL)
      let v := s.dev.int (AXS_VEL q a)
      s.dev.flag (AXS_CFG q a) (if positive then AXS_CFG_LIMP_EN else AXS_CFG_LIMN_EN) = true → level = l.level → chatters now l = false →
      (l.run < 7 → Completes (.limitSwitchSample t q a positive level) s fun e => (∀ r, e.reg r = s.dev.reg r) ∧
        (if positive then (e.axisS q a).pos else (e.axisS q a).neg) = { l with run := l.run + 1 }) ∧
      (l.run = 7 → level ≠ lvl → Completes (.limitSwitchSample t q a positive level) s fun e => e.axFlag q a lim = false) ∧
      (l.run = 7 → level = lvl → s.dev.owner ≠ q → s.dev.axFlag q a lim = false → (if positive then 0 ≤ v else v ≤ 0) →
        Completes (.limitSwitchSample t q a positive level) s fun e => e.axFlag q a lim = true ∧ e.axFlag q a AXS_STATUS_LIMIT_HIT = true))

/-- A frame slot advances SEQ; a Quarter that sends gives each chain in BRING-UP or UP the frame of the rules; the old Quarter of a transfer sends
no more than it has left. A moving axis follows its trajectory by at most 21 microsteps and comes to rest at its target, or where its stop ends. A return with a bad command CRC is counted and misses every slot; a good
response gives the driver's status and position; the sixteenth good response of every slot brings the chain UP. Enabling the bus starts the
bring-up of the chains that have drivers, disabling it turns every axis off, ten milliseconds without success are a failure, and the retry starts
anew. -/
def Obligations.DriveChainsAreRun : Prop :=
  ∀ (t : Nat) (s : State) (q : Side),
    let d := s.dev
    let seq := (d.fld (AXS_BUS_STATUS q) AXS_BUS_STATUS_SEQ + 1) % 65536
    (d.flag (AXS_CTRL q) AXS_CTRL_BUSY = false → (∀ a < 32, d.moving q a = false) → Completes (.driveFrameSlot t q) s fun e =>
      e.fld (AXS_BUS_STATUS q) AXS_BUS_STATUS_SEQ = seq ∧
      (d.sendsFrames q = true → ∀ c < 4, d.chainState q c = 1 ∨ d.chainState q c = 2 →
        sget (fun _ => []) e.axs.frame (4 * q.code + c) = ((d.tick t).setFld (AXS_BUS_STATUS q) AXS_BUS_STATUS_SEQ seq).frameBody q c seq) ∧
      ∀ x, d.transfer = some x → x.old = q →
        (d.sendsFrames q = true → e.transfer = some { x with frames := x.frames - 1 }) ∧
        (x.frames = 0 → e.transfer = some x ∧ ∀ c < 4, sget (fun _ => []) e.axs.frame (4 * q.code + c) = sget (fun _ => []) d.axs.frame (4 * q.code + c))) ∧
    (∀ a < 32, d.moving q a = true → (∀ b < 32, (d.axisS q b).homing = 0) → d.axFlag q a AXS_STATUS_LIMIT_DEFERRED = false →
      let p := (d.tick t).nextPos q a
      (-21 ≤ p - d.int (AXS_POS q a) ∧ p - d.int (AXS_POS q a) ≤ 21) ∧
      ((d.tick t).comesToRest q a = false → Completes (.driveFrameSlot t q) s fun e => e.moving q a = true ∧ e.reg (AXS_POS q a) = BitVec.ofInt 32 p) ∧
      ((d.tick t).comesToRest q a = true →
        (d.axFlag q a AXS_STATUS_STOPPING = false → Completes (.driveFrameSlot t q) s fun e =>
          e.moving q a = false ∧ e.reg (AXS_POS q a) = d.reg (AXS_TARGET q a) ∧ e.reg (AXS_VEL q a) = 0) ∧
        (d.axFlag q a AXS_STATUS_STOPPING = true → Completes (.driveFrameSlot t q) s fun e => e.moving q a = false ∧
          e.axFlag q a AXS_STATUS_STOPPING = false ∧ e.reg (AXS_TARGET q a) = BitVec.ofInt 32 p ∧ e.reg (AXS_VEL q a) = 0))) ∧
    (∀ (c : Fin 4) (body : List Byte),
      let n := min 8 (d.fld (AXS_CHAIN_CFG q c) AXS_CHAIN_CFG_DRIVERS)
      let r := fun k => (body.drop (76 + 12 * k)).take 12
      let ok := fun k => crcGood body 72 = true ∧ (r k).length = 12 ∧ crcGood (r k) 8 = true ∧ bytesAt (r k) 7 1 = bytesAt body 2 1
      let good := sget (fun _ => []) d.axs.good (4 * q.code + c.val)
      ((d.q q).transmits = false → d.st ≠ .safe → Completes (.driveFrameReturn t q c body) s fun e => ∀ a, e.reg a = d.reg a) ∧
      ((d.q q).transmits = true → d.chainState q c = 1 →
        (crcGood body 72 = false → 0 < n → Completes (.driveFrameReturn t q c body) s fun e => e.chainState q c = 1 ∧
          e.fld (AXS_CHAIN_CNT q c) AXS_CHAIN_CNT_CMD_CRC = min (d.fld (AXS_CHAIN_CNT q c) AXS_CHAIN_CNT_CMD_CRC + 1) 65535 ∧
          sget (fun _ => []) e.axs.good (4 * q.code + c.val) = List.replicate n 0) ∧
        ((∀ k < n, ok k) → (∀ k < n, d.axisAt q c k = none ∧ 15 ≤ good.getD k 0) →
          Completes (.driveFrameReturn t q c body) s fun e => e.chainState q c = 2)) ∧
      (∀ a : Fin 32, (d.q q).transmits = true → d.chainState q c = 2 → n = 1 → ok 0 → d.axisAt q c 0 = some a.val →
        natBit (bytesAt (r 0) 6 1) 0 = false → natBit (bytesAt (r 0) 6 1) 6 = false →
        Completes (.driveFrameReturn t q c body) s fun e => e.nat (AXS_DRV_STATUS q a) = bytesAt (r 0) 4 4 ∧
          e.nat (AXS_DRV_POS q a) = bytesAt (r 0) 0 4 ∧ (e.axisS q a).misses = 0 ∧ e.chainState q c = 2)) ∧
    (Completes (.driveBusEnable t q) s fun e => e.flag (AXS_CTRL q) AXS_CTRL_ENABLE = true ∧ ∀ c < 4, e.chainState q c =
      (if d.flag (AXS_CTRL q) AXS_CTRL_BUSY = false ∧ d.fld (AXS_CHAIN_CFG q c) AXS_CHAIN_CFG_DRIVERS ≠ 0 ∧ d.chainState q c = 0 then 1 else d.chainState q c)) ∧
    (d.flag (AXS_CTRL q) AXS_CTRL_ENABLE = true → d.flag (AXS_CTRL q) AXS_CTRL_BUSY = false → (∀ a < 32, (d.axisS q a).homing = 0) →
      Completes (.driveBusDisable t q) s fun e => e.flag (AXS_CTRL q) AXS_CTRL_ENABLE = false ∧ e.flag (AXS_CTRL q) AXS_CTRL_BUSY = true ∧
        ∀ a < 32, d.flag (AXS_ACTL q a) AXS_ACTL_ENABLE = true →
          e.flag (AXS_ACTL q a) AXS_ACTL_ENABLE = false ∧ e.flag (AXS_ACTL q a) AXS_ACTL_BUSY = true) ∧
    (∀ c : Fin 4,
      (d.chainState q c = 1 → (d.owner = q → d.ledgerAction lbDriveBusFail ≠ 2) →
        Completes (.chainBringupTimeout t q c) s fun e => e.chainState q c = 3) ∧
      (d.chainState q c = 3 → d.flag (AXS_CTRL q) AXS_CTRL_ENABLE = true →
        Completes (.chainBringupRetry t q c) s fun e => e.chainState q c = 1 ∧ sget (fun _ => []) e.axs.good (4 * q.code + c.val) = []))

/-- A window shows its frequency; unarmed or unmonitored it changes nothing else, within tolerance its source is no longer failed, and outside
tolerance an interface source becomes failed and its domains pass IOSC. A missing edge of REFCLK in Held, Ready, Printing or Draining enters Safe
and starts the Class A wait. IOSC ready arms the monitors; the restart of a failed IOSC makes it not ready. The wait ends once its sources have
been good for 10 ms and both reference PLLs are locked. -/
def Obligations.ClocksAreMonitored : Prop :=
  ∀ (t : Nat) (s : State),
    let d := s.dev
    let armed := d.flag CLK_STATUS CLK_STATUS_ARMED
    (∀ (k : Fin 9) (edges : Nat) (b : Bool), windowKhz k edges < 2 ^ 32 →
      (armed = false ∨ d.monitored k = false → Completes (.clockMonitorWindow t k edges b) s fun e => e.nat (CLK_FREQ k) = windowKhz k edges ∧
        e.clk = d.clk ∧ ∀ a, a ≠ CLK_FREQ k → e.reg a = d.reg a) ∧
      (armed = true → d.monitored k = true → d.outOfTol k edges = false →
        Completes (.clockMonitorWindow t k edges b) s fun e => e.nat (CLK_FREQ k) = windowKhz k edges ∧ natBit e.clk.failed k = false) ∧
      (armed = true → d.monitored k = true → d.outOfTol k edges = true → 4 ≤ k.val → d.flag CLK_STATUS CLK_STATUS_IOSC_READY = true →
        natBit d.clk.failed k = false →
        Completes (.clockMonitorWindow t k edges b) s fun e => natBit e.clk.failed k = true ∧ natBit (e.fld CLK_FAIL CLK_FAIL_FAIL) k = true ∧
          ∀ n ∈ muxesOf k, natBit e.clk.passing n = true ∧ e.flag (CLK_MUX n) CLK_MUX_SEL = true ∧
            e.flag (CLK_MUX n) CLK_MUX_ON_FALLBACK = true ∧ e.flag (CLK_MUX n) CLK_MUX_PENDING = false)) ∧
    (natBit d.clk.failed 0 = false → d.st = .held ∨ d.st = .ready ∨ d.st = .printing ∨ d.st = .draining →
      Completes (.refclkMissingEdge t) s fun e => e.st = .safe ∧ e.flag KRB_STATUS KRB_STATUS_FORCING = true ∧
        e.flag CLK_STATUS CLK_STATUS_CLASS_A_WAIT = true ∧ natBit e.clk.failed 0 = true ∧
        natBit (e.fld KRB_CAUSE KRB_CAUSE_CAUSE) ktClock = true) ∧
    (natBit d.clk.failed 0 = true → Completes (.refclkMissingEdge t) s fun e => e = d.tick t) ∧
    (Completes (.ioscReady t) s fun e => e.flag CLK_STATUS CLK_STATUS_IOSC_READY = true ∧ e.flag CLK_STATUS CLK_STATUS_ARMED = true ∧
      natBit e.clk.failed 1 = false ∧ ∀ a, a ≠ CLK_STATUS → e.reg a = d.reg a) ∧
    (natBit d.clk.failed 1 = true → Completes (.ioscRestart t) s fun e => e.flag CLK_STATUS CLK_STATUS_IOSC_READY = false ∧
      ∀ a, a ≠ CLK_STATUS → e.reg a = d.reg a) ∧
    (d.flag CLK_STATUS CLK_STATUS_CLASS_A_WAIT = true → (maskList 9 d.clk.classA).all (d.tick t).steadyFor10 = true →
      (∀ q, d.flag (PXS_REF_STATUS q) PXS_REF_STATUS_LOCKED = true) →
      Completes (.classAWaitEnd t) s fun e => e.flag CLK_STATUS CLK_STATUS_CLASS_A_WAIT = false ∧
        natBit (e.fld KRB_STATUS KRB_STATUS_LIVE) ktClock = false ∧ e.st = d.st ∧ ∀ a, a ≠ CLK_STATUS → a ≠ KRB_STATUS → e.reg a = d.reg a)

/-- A write of SEL that differs from what passes starts a switch, one while a switch runs changes nothing, and the end of the switch passes the
selected clock. A switch that hangs shows MUX_STALL and is counted. FORCE is refused with FORCE_ERR unless the gate is closed or the old source
has failed; accepted, it passes the selection at once. A primary that has been good for 10 ms takes its domain back through a switch. A gate closes at
once, waits while its multiplexer switches, and is forced with ERR_GATED by the time limit. -/
def Obligations.MultiplexersSwitchAndGatesClose : Prop :=
  ∀ (t : Nat) (s : State) (n : Fin 6),
    let d := s.dev
    let pending := d.flag (CLK_MUX n) CLK_MUX_PENDING
    let closed := decide (2 ≤ n.val) && natBit (d.fld CLK_GATE_STATUS CLK_GATE_STATUS_CLOSED) (n - 2)
    let may := closed || natBit d.clk.failed (d.muxSource n)
    (∀ w : Word,
      let sel := CLK_MUX_SEL.get w == 1
      (pending = false → sel ≠ natBit d.clk.passing n → Completes (.muxSelect t n w) s fun e => e.flag (CLK_MUX n) CLK_MUX_SEL = sel ∧
        e.flag (CLK_MUX n) CLK_MUX_PENDING = true ∧ e.clk = d.clk ∧ ∀ a, a ≠ CLK_MUX n → e.reg a = d.reg a) ∧
      (pending = true → Completes (.muxSelect t n w) s fun e => e = d.tick t) ∧
      (may = false → Completes (.muxForce t n w) s fun e => e.flag (CLK_MUX n) CLK_MUX_FORCE_ERR = true ∧ e.clk = d.clk ∧
        ∀ a, a ≠ CLK_MUX n → e.reg a = d.reg a) ∧
      (may = true → pending = false → Completes (.muxForce t n w) s fun e => natBit e.clk.passing n = sel ∧
        e.flag (CLK_MUX n) CLK_MUX_SEL = sel ∧ e.flag (CLK_MUX n) CLK_MUX_PENDING = false)) ∧
    (pending = true →
      (Completes (.muxSwitchDone t n) s fun e => natBit e.clk.passing n = d.flag (CLK_MUX n) CLK_MUX_SEL ∧
        e.flag (CLK_MUX n) CLK_MUX_PENDING = false ∧ ∀ a, a ≠ CLK_MUX n → e.reg a = d.reg a) ∧
      (Completes (.muxStallTimeout t n) s fun e => e.flag (CLK_MUX n) CLK_MUX_MUX_STALL = true ∧ e.flag (CLK_MUX n) CLK_MUX_PENDING = true ∧
        e.fld (LDG_CNT lbClkMuxStall) LDG_CNT_EVENTS = min (d.fld (LDG_CNT lbClkMuxStall) LDG_CNT_EVENTS + 1) 65535)) ∧
    (d.flag (CLK_MUX n) CLK_MUX_RETURN_EN = true → d.flag (CLK_MUX n) CLK_MUX_ON_FALLBACK = true → pending = false →
      (d.tick t).steadyFor10 (muxPrimary n) = true →
      Completes (.clockReturn t n) s fun e => e.flag (CLK_MUX n) CLK_MUX_SEL = false ∧ e.flag (CLK_MUX n) CLK_MUX_ON_FALLBACK = false ∧
        e.flag (CLK_MUX n) CLK_MUX_PENDING = true ∧ ∀ a, a ≠ CLK_MUX n → e.reg a = d.reg a) ∧
    (2 ≤ n.val →
      (pending = false → Completes (.gateClose t n) s fun e => natBit (e.fld CLK_GATE CLK_GATE_CLOSE) (n - 2) = true ∧
        natBit (e.fld CLK_GATE_STATUS CLK_GATE_STATUS_CLOSED) (n - 2) = true) ∧
      (pending = true → Completes (.gateClose t n) s fun e => natBit (e.fld CLK_GATE CLK_GATE_CLOSE) (n - 2) = true ∧
        e.reg CLK_GATE_STATUS = d.reg CLK_GATE_STATUS) ∧
      (natBit (d.fld CLK_GATE CLK_GATE_CLOSE) (n - 2) = true → closed = false →
        Completes (.gateCloseTimeout t n) s fun e => natBit (e.fld CLK_GATE_STATUS CLK_GATE_STATUS_CLOSED) (n - 2) = true ∧
          natBit (e.fld CLK_GATE_STATUS CLK_GATE_STATUS_FORCED) (n - 2) = true ∧ e.resp = .errGated))

/-- A request while none runs starts a sequence: a fall lowers the point at once, a rise leaves it until the step completes. A request while one
runs waits in place of an earlier one. The end of the step raises the point unless the rise was abandoned or the rail held, leaves the voltage it led to, shows the longest step, and starts the
request that waits. A pixel fall does not start while a synthesizer of the Quarter needs the high point. -/
def Obligations.OperatingPointsFollowTheirVoltage : Prop :=
  ∀ (t : Nat) (s : State) (x : OpDomain),
    let d := s.dev
    (d.clk.seq = none →
      (Completes (.opPointChange t x true) s fun e => e.clk.seq = some (x, true) ∧ e.flag CLK_SEQ CLK_SEQ_BUSY = true ∧
        ∀ a, a ≠ CLK_SEQ → e.reg a = d.reg a) ∧
      (∀ q, d.pixNeedsHigh q = false → Completes (.opPointChange t (.pixel q) false) s fun e => e.clk.seq = some (.pixel q, false) ∧
        e.flag CLK_STATUS (opPointFld (.pixel q)) = false ∧ e.flag CLK_SEQ CLK_SEQ_BUSY = true) ∧
      (∀ q, d.pixNeedsHigh q = true → Completes (.opPointChange t (.pixel q) false) s fun e => e = d.tick t)) ∧
    (∀ (y : OpDomain) (high h : Bool) (took : Nat), d.clk.seq = some (y, high) →
      (Completes (.opPointChange t x h) s fun e => e.clk.seq = some (y, high) ∧ e.clk.queued = some (x, h) ∧
        e.flag CLK_SEQ CLK_SEQ_QUEUED = true) ∧
      (d.clk.queued = none → Completes (.voltageStepDone t took) s fun e => e.clk.seq = none ∧ e.flag CLK_SEQ CLK_SEQ_BUSY = false ∧
        e.fld CLK_SEQ CLK_SEQ_STEP_US_MAX = max (d.fld CLK_SEQ CLK_SEQ_STEP_US_MAX) (min took 65535) ∧
        e.flag CLK_STATUS (opPointFld y) = ((high && !d.clk.abandoned && !d.clk.held) || d.flag CLK_STATUS (opPointFld y)) ∧
        natBit e.clk.volts (opRail y) = (if d.clk.held then natBit d.clk.volts (opRail y) else high || d.clk.abandoned)) ∧
      (d.clk.queued = some (x, true) → Completes (.voltageStepDone t took) s fun e => e.clk.seq = some (x, true) ∧ e.clk.queued = none ∧
        e.flag CLK_SEQ CLK_SEQ_BUSY = true ∧ e.flag CLK_SEQ CLK_SEQ_QUEUED = false))

/-- A sample takes what an on-die sensor delivers, the conversion of a thermistor's input or the newest temperature of a head. One of a used sensor that shows nothing broken gives its temperature. One that shows it broken marks it broken, sets its bit and makes it
ignored. A broken sensor counts its time from its first valid reading and is used again after one second of them. An evaluation of zone 0
keeps the mean of its readings since the one before; once ten are held it gives the rate in 1 °C/s, and the third in a row above RISE sets RISE. -/
def Obligations.SensorsAndRiseAreEvaluated : Prop :=
  ∀ (t : Nat) (s : State),
    let d := s.dev
    let now := max d.now t
    (∀ (k : Fin 40) (r : Int) (valid : Bool),
      let x := d.sensor k
      let y := (d.tick t).reading k r valid
      let m := y.getD 0
      let bad := fun (e : Device) => if k.val < 32 then natBit (e.nat THM_SENSOR_FAIL_LO) k else natBit (e.nat THM_SENSOR_FAIL_HI) (k.val - 32)
      d.sensorUnused k = false → (k.val < 16 → y = if valid then some r else none) ∧
      (x.shows now k m y.isSome = false → x.broken = false → Completes (.sensorSample t k r valid) s fun e =>
        e.fld (THM_SENSOR_TEMP k) THM_SENSOR_TEMP_TEMP = ofSigned 16 m ∧ e.sensor k = { x with seen := true, val := m, at_ := now, okSince := none }) ∧
      (x.shows now k m y.isSome = true → x.broken = false → Completes (.sensorSample t k r valid) s fun e =>
        (e.sensor k).broken = true ∧ bad e = true ∧
          e.fld (LDG_CNT lbThermSensor) LDG_CNT_EVENTS = min (d.fld (LDG_CNT lbThermSensor) LDG_CNT_EVENTS + 1) 65535) ∧
      (x.shows now k m y.isSome = false → x.broken = true → x.okSince = none → Completes (.sensorSample t k r valid) s fun e =>
        e.sensor k = { x with val := m, at_ := now, okSince := some now } ∧ ∀ a, e.reg a = d.reg a) ∧
      (∀ o, x.shows now k m y.isSome = false → x.broken = true → x.okSince = some o → 1000 * tuPerMs ≤ now - o →
        Completes (.sensorSample t k r valid) s fun e => (e.sensor k).broken = false ∧ bad e = false ∧
          e.fld (THM_SENSOR_TEMP k) THM_SENSOR_TEMP_TEMP = ofSigned 16 m)) ∧
    ((d.readings 0).2 ≠ 0 → (∀ z < 16, z ≠ 0 → (d.readings z).2 = 0) →
      let m := (d.readings 0).1 / ((d.readings 0).2 : Int)
      let h := sget (fun _ => ([] : List Int)) d.thm.hist 0
      (h.length ≤ 9 → Completes (.riseEvaluation t) s fun e => sget (fun _ => []) e.thm.hist 0 = m :: h ∧ e.readings 0 = (0, 0) ∧
        ∀ a, e.reg a = d.reg a) ∧
      (∀ o, h[9]? = some o → Completes (.riseEvaluation t) s fun e => sget (fun _ => []) e.thm.hist 0 = (m :: h).take 10 ∧
        e.fld (THM_ZONE_STATUS 0) THM_ZONE_STATUS_RATE = ofSigned 8 (max (-127) (min 127 ((m - o) * 10 / 8))) ∧
        ((d.zone 0).rise ≠ 0 → ((d.zone 0).rise : Int) * 8 < (m - o) * 10 → 2 ≤ sget (fun _ => 0) d.thm.above 0 →
          e.flag (THM_ZONE_STATUS 0) THM_ZONE_STATUS_RISE = true)))

/-- The end of the grace time starts enforcement with no credit. Enforcement with a share of 0, or with a zone at throttle that has STOP_S, stops:
STOPPED reads 1, the stop is counted, and a printing device with sheets in flight drains. The clear of STOPPED is ignored while a zone stands at
throttle. -/
def Obligations.EnforcementStartsAndStops : Prop :=
  ∀ (t : Nat) (s : State),
    let d := s.dev
    (d.flag THM_STATUS THM_STATUS_GRACE = true → Completes (.graceEnd t) s fun e => e.flag THM_STATUS THM_STATUS_GRACE = false ∧
      e.flag THM_STATUS THM_STATUS_ENFORCING = true ∧ e.thm.credit = 0 ∧ e.st = d.st) ∧
    (d.flag THM_STATUS THM_STATUS_GRACE = false → Completes (.graceEnd t) s fun e => e = d.tick t) ∧
    (∀ z : Fin 16, d.flag THM_STATUS THM_STATUS_ENFORCING = true → d.flag THM_STATUS THM_STATUS_STOPPED = false →
      d.fld THM_STATUS THM_STATUS_F = 0 ∨ ((d.zone z).used = true ∧ (d.zone z).stopS ≠ 0 ∧ 2 ≤ d.fld (THM_ZONE_STATUS z) THM_ZONE_STATUS_LEVEL) →
      Completes (.enforcementStop t) s fun e => e.flag THM_STATUS THM_STATUS_STOPPED = true ∧
        e.fld THM_ENF_CNT THM_ENF_CNT_STOPS = min (d.fld THM_ENF_CNT THM_ENF_CNT_STOPS + 1) 65535 ∧
        (d.ledgerAction lbThermStop ≠ 2 → d.flight ≠ [] → d.st = .printing → e.st = .draining)) ∧
    (d.throttled = false → Completes (.stoppedClear t) s fun e => e.flag THM_STATUS THM_STATUS_STOPPED = false ∧
      ∀ a, a ≠ THM_STATUS → e.reg a = d.reg a) ∧
    (d.throttled = true → Completes (.stoppedClear t) s fun e => e = d.tick t)

/-- In Held with the block enabled, a memory that does not answer loses PRESENT; one that answers anew is read: its identity and count show, a
bad block fails, and a good one of the right kind makes every emitter unmeasured and is challenged. The response that passes sets AUTH_OK, any
other AUTH_FAIL. Once writes are allowed again every deferred count is written into the slot that does not hold the newest one. -/
def Obligations.UnitsAreReadAndAuthenticated : Prop :=
  ∀ (t : Nat) (s : State) (i : Fin 8),
    let d := s.dev
    (∀ (units : List (Option UnitAnswer)) (c : List Byte),
      (d.st ≠ .held → Completes (.unitPoll t units c) s fun e => e = d.tick t) ∧
      (d.st = .held → d.flag CNS_CTRL CNS_CTRL_ENABLE = true →
        (units[i.val]? = some none → d.flag (CNS_STATUS i) CNS_STATUS_NO_ANSWER = false →
          Completes (.unitPoll t units c) s fun e => e.flag (CNS_STATUS i) CNS_STATUS_PRESENT = false ∧
            e.flag (CNS_STATUS i) CNS_STATUS_AUTH_OK = false ∧ e.flag (CNS_STATUS i) CNS_STATUS_NO_ANSWER = true) ∧
        (∀ a : UnitAnswer, units[i.val]? = some (some a) →
          d.flag (CNS_STATUS i) CNS_STATUS_PRESENT = false ∨ d.nat64 (CNS_UNIT_LO i) ≠ blockSerial a.block →
          Completes (.unitPoll t units c) s fun e => e.flag (CNS_STATUS i) CNS_STATUS_PRESENT = true ∧
            e.flag (CNS_STATUS i) CNS_STATUS_AUTH_OK = false ∧ e.nat64 (CNS_UNIT_LO i) = blockSerial a.block ∧
            e.nat (CNS_RATED i) = blockRated a.block ∧
            e.nat64 (CNS_BANDS_LO i) = (if slotBNewer (slotNo a.slotA) (slotNo a.slotB) then bytesAt a.slotB 0 8
              else if (slotNo a.slotA).isSome then bytesAt a.slotA 0 8 else 0) ∧
            (blockMagicOk a.block = false → e.flag (CNS_STATUS i) CNS_STATUS_BLOCK_ERR = true ∧ (e.unit i).challenge = none) ∧
            (blockMagicOk a.block = true → d.cnsKind i = 0 ∨ d.cnsKind i = blockKind a.block →
              e.flag (CNS_STATUS i) CNS_STATUS_BLOCK_ERR = false ∧ (e.unit i).challenge = some ((c.drop (32 * i.val)).take 32) ∧
              ∀ q, e.reg (BMO_HEALTH0 q i) = 0xFFFFFFFF ∧ e.reg (BMO_MAP_PEND0 q i) = 0)))) ∧
    (∀ (r c : List Byte),
      let key := s.fuses.keys.getD (d.fld CNS_CFG CNS_CFG_AUTH_SLOT) []
      (d.unit i).challenge = some c →
      (keySet key = true → r = expectedResponse key (d.unit i).block c → Completes (.authResponseRead t i r) s fun e =>
        e.flag (CNS_STATUS i) CNS_STATUS_AUTH_OK = true ∧ (e.unit i).challenge = none ∧ ∀ a, a ≠ CNS_STATUS i → e.reg a = d.reg a) ∧
      (keySet key = false ∨ r ≠ expectedResponse key (d.unit i).block c → Completes (.authResponseRead t i r) s fun e =>
        e.flag (CNS_STATUS i) CNS_STATUS_AUTH_FAIL = true ∧ e.flag (CNS_STATUS i) CNS_STATUS_AUTH_OK = d.flag (CNS_STATUS i) CNS_STATUS_AUTH_OK ∧
          (e.unit i).challenge = none)) ∧
    (d.flag THM_STATUS THM_STATUS_WRITE_HOLD = true → Completes (.writebackResume t) s fun e => e = d.tick t) ∧
    (d.flag THM_STATUS THM_STATUS_WRITE_HOLD = false →
      let u := d.unit i
      let b := slotBNewer u.noA u.noB
      let no := ((if b then u.noB.getD 0 else u.noA.getD 0) + 1) % 2 ^ 32
      Completes (.writebackResume t) s fun e => e.flag (CNS_STATUS i) CNS_STATUS_WB_DEFERRED = false ∧
        e.unit i = (if d.flag (CNS_STATUS i) CNS_STATUS_WB_DEFERRED = false then u
          else if b ∨ u.noA = none then { u with noA := some no, sheets := 0, written := some (0x0100, counterSlot (d.nat64 (CNS_BANDS_LO i)) no) }
          else { u with noB := some no, sheets := 0, written := some (0x0120, counterSlot (d.nat64 (CNS_BANDS_LO i)) no) }))

/-- Said while no domain powers down, but for the last clause: a power-down that waited for the block then ends, the domain off.
A block whose BUSY does not read 1 is left as it is. Of the blocks that only end their work, BUSY falls and every other register stays. A
disabled synthesizer, port, controller or channel of DMA is off, a slot drives its idle level, and an idle disabled ring is no longer busy. -/
def Obligations.WindDownsEnd : Prop :=
  ∀ (t : Nat) (s : State) (q : Side),
    let d := s.dev
    let busy := fun (a : Nat) => (d.reg a).getLsbD 30
    (d.fld PWR_DOM_STATUS PWR_DOM_STATUS_BUSY = 0 →
    (∀ b a, (b, a) ∈ [(BlockId.arcade, ARC_CTRL), (.inspection q, ENW_INSP_CTRL q), (.timeline q, TML_CTRL q), (.supervisor q, SUP_CTRL q),
        (.regulator q, REG_CTRL q), (.consumables, CNS_CTRL)] →
      (busy a = true → Completes (.windDownComplete t b) s fun e => e.reg a = d.reg a &&& 0xBFFFFFFF ∧ ∀ x, x ≠ a → e.reg x = d.reg x) ∧
      (busy a = false → Completes (.windDownComplete t b) s fun e => e = d.tick t)) ∧
    (∀ a : Fin 32, busy (AXS_ACTL q a) = true → Completes (.windDownComplete t (.axis q a)) s fun e =>
      e.reg (AXS_ACTL q a) = d.reg (AXS_ACTL q a) &&& 0xBFFFFFFF ∧ ∀ x, x ≠ AXS_ACTL q a → e.reg x = d.reg x) ∧
    (∀ (g : Engine) (c : Fin 16), busy (aly g c + alyCtrl) = true → (d.chan g c).waits = false → Completes (.windDownComplete t (.channel g c)) s fun e =>
      e.flag (aly g c + alyCtrl) ALYS_CTRL_BUSY = false ∧ ∀ x, x ≠ aly g c + alyCtrl → e.reg x = d.reg x) ∧
    (∀ r : Fin 3, busy (HIF_RING_CFG r) = true → d.ringIdle r = true → d.ringEnabled r = false →
      Completes (.windDownComplete t (.ring r)) s fun e => e.flag (HIF_RING_CFG r) HIF_RING_CFG_BUSY = false ∧
        e.flag (HIF_RING_CFG r) HIF_RING_CFG_ENABLE = false ∧ ∀ x, x ≠ HIF_RING_CFG r → e.reg x = d.reg x) ∧
    (∀ n : Station,
      (busy (PXS_CTRL q n) = true → d.flag (PXS_CTRL q n) PXS_CTRL_ENABLE = false →
        Completes (.windDownComplete t (.synth q n)) s fun e => e.flag (PXS_CTRL q n) PXS_CTRL_BUSY = false ∧ e.pxState q n = pxOff) ∧
      (busy (BMO_CTRL q n) = true → d.flag (BMO_CTRL q n) BMO_CTRL_ENABLE = false → d.print n = none →
        Completes (.windDownComplete t (.beam q n)) s fun e => e.reg (BMO_CTRL q n) = d.reg (BMO_CTRL q n) &&& 0xBFFFFFFF ∧
          ∀ x, x ≠ BMO_CTRL q n → e.reg x = d.reg x) ∧
      (busy (ENW_CTRL q n) = true → d.flag (ENW_CTRL q n) ENW_CTRL_ENABLE = false →
        Completes (.windDownComplete t (.port q n)) s fun e => e.flag (ENW_CTRL q n) ENW_CTRL_BUSY = false ∧ e.enState q n = enOff) ∧
      (busy (MOT_POLY_CTRL q n) = true → d.flag (MOT_POLY_CTRL q n) MOT_POLY_CTRL_ENABLE = false →
        Completes (.windDownComplete t (.polygon q n)) s fun e => e.flag (MOT_POLY_CTRL q n) MOT_POLY_CTRL_BUSY = false ∧
          e.poState q n = poOff ∧ e.polyS q n = {})) ∧
    (∀ n : Fin 4, busy (MOT_PMSM_CTRL q n) = true → d.flag (MOT_PMSM_CTRL q n) MOT_PMSM_CTRL_ENABLE = false →
      Completes (.windDownComplete t (.pmsm q n)) s fun e => e.flag (MOT_PMSM_CTRL q n) MOT_PMSM_CTRL_BUSY = false ∧
        e.flag (MOT_PMSM_STATUS q n) MOT_PMSM_STATUS_RUNNING = false ∧ (e.pmsmS q n).winding = false) ∧
    (∀ n : Fin 512, busy (REG_SLOT_CTRL q n) = true → Completes (.windDownComplete t (.slot q n)) s fun e =>
      e.flag (REG_SLOT_CTRL q n) REG_SLOT_CTRL_BUSY = false ∧ (e.slotS q n).wind = 0 ∧
        e.reg (REG_SLOT_OUT q n) = BitVec.ofInt 32 (hIdle (d.slotEntry n))) ∧
    (busy (MOT_CTRL q) = true → d.flag (MOT_CTRL q) MOT_CTRL_ENABLE = false → Completes (.windDownComplete t (.commutation q)) s fun e =>
      e.reg (MOT_CTRL q) = d.reg (MOT_CTRL q) &&& 0xBFFFFFFF ∧ ∀ x, x ≠ MOT_CTRL q → e.reg x = d.reg x) ∧
    (busy (AXS_CTRL q) = true → d.flag (AXS_CTRL q) AXS_CTRL_ENABLE = false → Completes (.windDownComplete t (.axes q)) s fun e =>
      e.reg (AXS_CTRL q) = d.reg (AXS_CTRL q) &&& 0xBFFFFFFF ∧ (∀ c < 4, e.chainState q c = 0) ∧
        ∀ x, x ≠ AXS_CTRL q → x ≠ AXS_BUS_STATUS q → e.reg x = d.reg x)) ∧
    (∀ n < 14, d.fld PWR_DOM_STATUS PWR_DOM_STATUS_BUSY = 2 ^ n → d.busyAt (SUP_CTRL q) = false → d.mayOpen n = true →
      Completes (.windDownComplete t (.supervisor q)) s fun e => e.domainIsOn n = false ∧ e.fld PWR_DOM_STATUS PWR_DOM_STATUS_BUSY = 0)

/-- Every command of the Regulator, of the axes, of their encoders and of the drive bus answers a next state in which every register outside the
Regulator, commutation and axis blocks keeps its word, but for those that show events (the ledger, the Kerb, the two of the event ring), the supply
voltage that a base tick senses, and the panic levels, which end with entry into Safe; every
byte of the device's own memory reads as before (events and journals go to host memory), and pages in ingest, the codec, the page store and the
flash stay. -/
def Obligations.LoopCommandsKeepTheRest : Prop :=
  ∀ (c : Instr) (s : State), ofLoopsAndAxes c = true → Completes c s fun e =>
    (∀ a, inControlLoops a = false → showsEvents a = false → (a = RDB_PANIC → e.st ≠ .safe) → (a = PWR_VIN → sensesVin c = false) →
      e.reg a = s.dev.reg a) ∧ (∀ a, a < 2 ^ 63 → e.byte a = s.dev.byte a) ∧
      e.host.ingest = s.dev.host.ingest ∧ e.arc = s.dev.arc ∧ e.ps = s.dev.ps ∧ e.flash = s.dev.flash ∧ e.tables = s.dev.tables

/-- Every command of clock control but a monitor window, of thermal management, and of the imaging units but a poll answers a next state in which
every register of a Quarter outside its Regulator, commutation and axis blocks (which entry into Safe changes) keeps its word, every byte of the
device's own memory reads as before, and pages in ingest, the codec, the page store and the flash stay. -/
def Obligations.UpkeepCommandsKeepTheQuarters : Prop :=
  ∀ (c : Instr) (s : State), ofSharedUpkeep c = true → Completes c s fun e =>
    (∀ a, 0x01000000 ≤ a → a < 0x03000000 → inControlLoops a = false → e.reg a = s.dev.reg a) ∧
      (∀ a, a < 2 ^ 63 → e.byte a = s.dev.byte a) ∧ e.host.ingest = s.dev.host.ingest ∧ e.arc = s.dev.arc ∧ e.ps = s.dev.ps ∧
      e.flash = s.dev.flash ∧ e.tables = s.dev.tables

/-- A page whose ingest is complete and whose planned pace level is P0 is rejected by the check at the Tollgate: it is not held, the ring halts
with the status REJECTED, and KIND names a failed check. No page planned at P0 passes the Tollgate's checks, whatever else it plans. -/
def Obligations.PagesAtP0AreRejected : Prop :=
  ∀ (t : Nat) (s : State),
    (∀ p : Page, p.first.pace = 0 → (s.dev.gateCheck p).kind ≠ 0) ∧
    (∀ x rest, s.dev.host.ingest = x :: rest → x.live = true → x.awaits = false → x.page.ready = true → x.page.first.pace = 0 →
      Completes (.tollgateCheck t) s fun e => e.dlv.pages = s.dev.dlv.pages ∧ e.host.ingest = [] ∧ e.ringHalted 0 = true ∧
        e.fld (HIF_RING_STATUS 0) HIF_RING_STATUS_HALT_CAUSE = psRejected ∧
        (e.fld PGS_TG_REJ1 PGS_TG_REJ1_KIND = 1 ∨ e.fld PGS_TG_REJ1 PGS_TG_REJ1_KIND = 2))

/-- Once the rail sequence is complete, a drop of a good rail raises the RAIL trigger: it is live and latched, the RAIL_LOST bit is set (where one
event makes its source lasting), the device is in Safe from Held, Ready, Printing and Draining, and no rail enable changes. While any sequenced
rail is not good, another rail's return leaves the trigger live, and a clear of Safe with a live trigger is refused. The return of the last one
removes it. -/
def Obligations.LostRailsForceSafe : Prop :=
  ∀ (t : Nat) (s : State) (r : Fin 24),
    let d := s.dev
    let live := fun (e : Device) => natBit (e.fld KRB_STATUS KRB_STATUS_LIVE) ktRail
    let goodIn := fun (e : Device) => natBit (e.fld PWR_RAIL_PG PWR_RAIL_PG_PG)
    (d.pwr.seq = .done → d.pwr.down = none → goodIn d r = true →
      d.st = .held ∨ d.st = .ready ∨ d.st = .printing ∨ d.st = .draining ∨ d.st = .safe →
      Completes (.railDrop t r) s fun e => e.st = .safe ∧ live e = true ∧ natBit (e.fld KRB_CAUSE KRB_CAUSE_CAUSE) ktRail = true ∧
        goodIn e r = false ∧ e.reg PWR_RAIL_EN = d.reg PWR_RAIL_EN ∧ (d.ledgerN lbRailLost = 1 → e.sticky lbRailLost = true)) ∧
    (d.pwr.seq = .done → goodIn d r = false → d.renHigh r = true → Completes (.railGood t r) s fun e => goodIn e r = true ∧
      live e = (live d && !d.railEntries.all (fun x => x.rail == r.val || goodIn d x.rail))) ∧
    (d.st = .safe → live d = true → ∀ key, Completes (.krbClear t key) s fun e => e.st = .safe ∧ live e = true)

/-- A read of the lower word of a 64-bit value answers it and latches the upper word: in every later state that still holds the latch, whatever the
registers are by then, the read of the upper word answers what it was at the first read; a read of both words answers both as one sample. A write of a lower word changes no register; the write
of the upper word then writes both, the lower at the lower address, for the values that a host or a Quarter may write at any time. -/
def Obligations.WideValuesMoveWhole : Prop :=
  ∀ (t : Nat) (s : State) (m : Master) (addr a : Nat),
    (s.dev.reach m addr = .reg a → isLow a = true → addr % 4 = 0 →
      (Completes (.lowWordRead t m addr 4) s fun e => e.data = (s.dev.tick t).viewWord s.fuses a ∧
        ∀ (t' : Nat) (v : State) (up : Nat), v.dev.hiLatch = e.hiLatch → up % 4 = 0 → v.dev.reach m up = .reg (a + 4) →
          Completes (.lowWordRead t' m up 4) v fun g => g.data = (s.dev.tick t).viewWord s.fuses (a + 4)) ∧
      (s.dev.reach m (addr + 4) = .reg (a + 4) → Completes (.lowWordRead t m addr 8) s fun e => e.resp = .ok ∧
        e.rdata = leBytes 4 ((s.dev.tick t).viewWord s.fuses a).toNat ++ leBytes 4 ((s.dev.tick t).viewWord s.fuses (a + 4)).toNat) ∧
      (∀ w : Word, aliasOf addr = none → Completes (.registerWrite t m addr w) s fun e => (∀ x, e.reg x = s.dev.reg x) ∧
        sget (fun _ => none) e.loHold a = some w)) ∧
    (∀ lo hi : Word,
      a = CFG_UPD_SRC_LO ∨ a = HIF_EVT_BASE_LO ∨ (∃ r : Fin 3, a = HIF_RING_BASE_LO r ∨ a = HIF_RING_WB_LO r) ∨
        (∃ c : Fin 16, 11 ≤ c.val ∧ (a = ALYS_SRC_LO c ∨ a = ALYS_DST_LO c)) ∨
        (∃ (q : Side) (c : Fin 16), a = ALYQ_SRC_LO q c ∨ a = ALYQ_DST_LO q c) →
      s.dev.reach m addr = .reg (a + 4) → aliasOf addr = none → sget (fun _ => none) s.dev.loHold a = some lo →
      Completes (.registerWrite t m addr hi) s fun e => e.nat64 a = lo.toNat + 2 ^ 32 * hi.toNat ∧
        sget (fun _ => none) e.loHold a = none ∧ ∀ x, x ≠ a → x ≠ a + 4 → e.reg x = s.dev.reg x)
end

