-- ==== Sys2Proof/Laws/Field.lean ====
section
/-! SUPPORT. The laws of register fields: what a field reads after it, or another, is set. -/

namespace Sys2Proof.Machine

theorem Fld.get_eq (f : Fld) (w : Word) : f.get w = (w.toNat >>> f.lo) % 2 ^ (f.hi + 1 - f.lo) := by
  simp [Fld.get, Nat.shiftRight_eq_div_pow]

theorem Fld.get_testBit (f : Fld) (w : Word) (i : Nat) :
    (f.get w).testBit i = (decide (i < f.hi + 1 - f.lo) && w.getLsbD (f.lo + i)) := by
  simp [Fld.get_eq, Nat.testBit_mod_two_pow, Nat.testBit_shiftRight, BitVec.getLsbD]

theorem Fld.mask_getLsbD (f : Fld) (i : Nat) :
    f.mask.getLsbD i = (decide (i < 32) && decide (f.lo ≤ i) && decide (i - f.lo < f.hi + 1 - f.lo)) := by
  simp only [Fld.mask, BitVec.getLsbD_ofNat]
  rw [Nat.testBit_mul_two_pow]
  simp [Bool.and_assoc]

theorem Fld.put_getLsbD (f : Fld) (w : Word) (v i : Nat) :
    (f.put w v).getLsbD i =
      (decide (i < 32) && if f.lo ≤ i ∧ i - f.lo < f.hi + 1 - f.lo then v.testBit (i - f.lo) else w.getLsbD i) := by
  simp only [Fld.put, BitVec.getLsbD_or, BitVec.getLsbD_and, BitVec.getLsbD_not, Fld.mask_getLsbD, BitVec.getLsbD_ofNat,
    Nat.testBit_mul_two_pow, Nat.testBit_mod_two_pow]
  by_cases h : i < 32
  · by_cases h1 : f.lo ≤ i
    · by_cases h2 : i - f.lo < f.hi + 1 - f.lo <;> simp [h, h1, h2]
    · simp [h, h1]
  · simp [h]

/-- A field reads what it was set to, in its width. -/
theorem Fld.get_put {f : Fld} (h : f.hi < 32) (w : Word) (v : Nat) : f.get (f.put w v) = v % 2 ^ (f.hi + 1 - f.lo) := by
  apply Nat.eq_of_testBit_eq
  intro i
  rw [Fld.get_testBit, Fld.put_getLsbD, Nat.testBit_mod_two_pow]
  by_cases h1 : i < f.hi + 1 - f.lo
  · have : f.lo + i < 32 := by omega
    simp [h1, this]
  · simp [h1]

/-- A field that fits reads what it was set to. -/
theorem Fld.get_put_of_lt {f : Fld} (h : f.hi < 32) (w : Word) {v : Nat} (hv : v < 2 ^ (f.hi + 1 - f.lo)) :
    f.get (f.put w v) = v := by
  rw [Fld.get_put h, Nat.mod_eq_of_lt hv]

/-- Setting a field leaves every other field of the register. -/
theorem Fld.get_put_other {f g : Fld} (h : f.hi < g.lo ∨ g.hi < f.lo) (hf : f.hi < 32) (w : Word) (v : Nat) :
    f.get (g.put w v) = f.get w := by
  apply Nat.eq_of_testBit_eq
  intro i
  rw [Fld.get_testBit, Fld.get_testBit, Fld.put_getLsbD]
  by_cases h1 : i < f.hi + 1 - f.lo
  · have h2 : f.lo + i < 32 := by omega
    have h3 : ¬(g.lo ≤ f.lo + i ∧ f.lo + i - g.lo < g.hi + 1 - g.lo) := by omega
    simp [h1, h2, h3]
  · simp [h1]

/-- Bits outside a field stay when it is set. -/
theorem Fld.put_bit_outside {f : Fld} {w : Word} {v i : Nat} (h : i < f.lo ∨ f.hi < i) :
    (f.put w v).getLsbD i = w.getLsbD i := by
  rw [Fld.put_getLsbD]
  have h1 : ¬(f.lo ≤ i ∧ i - f.lo < f.hi + 1 - f.lo) := by omega
  by_cases h2 : i < 32
  · simp [h1, h2]
  · simp [h1, h2, BitVec.getLsbD_of_ge w i (by omega)]

end Sys2Proof.Machine
end

