-- ==== Sys2Proof/Laws/Sparse.lean ====
section
/-! SUPPORT. The laws of sparse data: a read after a write to the same key gives the value written, a write leaves every other key
alone, and every write keeps the canonical form. The reading laws hold of every list, canonical or not. -/

namespace Sys2Proof.Machine

variable {α : Type}

@[simp] theorem sget_nil (dflt : Nat → α) (k : Nat) : sget dflt [] k = dflt k := rfl

theorem sget_sdel_self (dflt : Nat → α) (m : List (Nat × α)) (k : Nat) : sget dflt (sdel m k) k = dflt k := by
  induction m with
  | nil => rfl
  | cons x r ih =>
    obtain ⟨k', v⟩ := x
    by_cases h : k' = k <;> simp [sdel, sget, h, ih]

theorem sget_sdel_ne (dflt : Nat → α) (m : List (Nat × α)) {k j : Nat} (h : j ≠ k) : sget dflt (sdel m k) j = sget dflt m j := by
  induction m with
  | nil => rfl
  | cons x r ih =>
    obtain ⟨k', v⟩ := x
    by_cases hk : k' = k
    · have : k' ≠ j := fun e => h (e ▸ hk)
      simp [sdel, sget, hk, ih, Ne.symm h]
    · simp [sdel, sget, hk, ih]

theorem sget_sins_self (dflt : Nat → α) (m : List (Nat × α)) (k : Nat) (v : α) : sget dflt (sins m k v) k = v := by
  induction m with
  | nil => simp [sins, sget]
  | cons x r ih =>
    obtain ⟨k', v'⟩ := x
    simp only [sins]
    split
    · simp [sget]
    · split
      · simp [sget]
      · rename_i h; simp [sget, Ne.symm h, ih]

theorem sget_sins_ne (dflt : Nat → α) (m : List (Nat × α)) {k j : Nat} (v : α) (h : j ≠ k) :
    sget dflt (sins m k v) j = sget dflt m j := by
  induction m with
  | nil => simp [sins, sget, Ne.symm h]
  | cons x r ih =>
    obtain ⟨k', v'⟩ := x
    simp only [sins]
    split
    · simp [sget, Ne.symm h]
    · split
      · rename_i e; subst e; simp [sget, Ne.symm h]
      · simp [sget, ih]

/-- A read after a write to the same key gives the value written. -/
@[simp] theorem sget_sput_self [DecidableEq α] (dflt : Nat → α) (m : List (Nat × α)) (k : Nat) (v : α) :
    sget dflt (sput dflt m k v) k = v := by
  unfold sput
  split
  · rename_i h; rw [sget_sdel_self, h]
  · exact sget_sins_self dflt m k v

/-- A write leaves every other key alone. -/
theorem sget_sput_ne [DecidableEq α] (dflt : Nat → α) (m : List (Nat × α)) {k j : Nat} (v : α) (h : j ≠ k) :
    sget dflt (sput dflt m k v) j = sget dflt m j := by
  unfold sput
  split
  · exact sget_sdel_ne dflt m h
  · exact sget_sins_ne dflt m v h

theorem sget_sput [DecidableEq α] (dflt : Nat → α) (m : List (Nat × α)) (k j : Nat) (v : α) :
    sget dflt (sput dflt m k v) j = if j = k then v else sget dflt m j := by
  by_cases h : j = k
  · subst h; simp
  · simp [h, sget_sput_ne]

/-! The canonical form. -/

theorem swfAbove_mono [DecidableEq α] {dflt : Nat → α} {m : List (Nat × α)} {lo lo' : Nat} (h : lo' ≤ lo)
    (hm : swfAbove dflt lo m = true) : swfAbove dflt lo' m = true := by
  cases m with
  | nil => rfl
  | cons x r =>
    obtain ⟨k, v⟩ := x
    simp only [swfAbove, Bool.and_eq_true, decide_eq_true_eq] at hm ⊢
    exact ⟨⟨h.trans hm.1.1, hm.1.2⟩, hm.2⟩

theorem swfAbove_sdel [DecidableEq α] {dflt : Nat → α} (m : List (Nat × α)) (k : Nat) :
    ∀ lo, swfAbove dflt lo m = true → swfAbove dflt lo (sdel m k) = true := by
  induction m with
  | nil => intro lo _; rfl
  | cons x r ih =>
    obtain ⟨k', v⟩ := x
    intro lo h
    simp only [swfAbove, Bool.and_eq_true, decide_eq_true_eq] at h
    simp only [sdel]
    split
    · exact ih lo (swfAbove_mono (by omega) h.2)
    · simp only [swfAbove, Bool.and_eq_true, decide_eq_true_eq]
      exact ⟨h.1, ih _ h.2⟩

theorem swfAbove_sins [DecidableEq α] {dflt : Nat → α} (m : List (Nat × α)) (k : Nat) (v : α) (hv : v ≠ dflt k) :
    ∀ lo, lo ≤ k → swfAbove dflt lo m = true → swfAbove dflt lo (sins m k v) = true := by
  induction m with
  | nil => intro lo hlo _; simp [sins, swfAbove, hlo, hv]
  | cons x r ih =>
    obtain ⟨k', v'⟩ := x
    intro lo hlo h
    simp only [swfAbove, Bool.and_eq_true, decide_eq_true_eq] at h
    simp only [sins]
    split
    · simp only [swfAbove, Bool.and_eq_true, decide_eq_true_eq]
      exact ⟨⟨hlo, hv⟩, ⟨by omega, h.1.2⟩, h.2⟩
    · split
      · rename_i e; subst e
        simp only [swfAbove, Bool.and_eq_true, decide_eq_true_eq]
        exact ⟨⟨hlo, hv⟩, h.2⟩
      · simp only [swfAbove, Bool.and_eq_true, decide_eq_true_eq]
        exact ⟨h.1, ih _ (by omega) h.2⟩

/-- Every write keeps the canonical form. -/
theorem swf_sput [DecidableEq α] {dflt : Nat → α} {m : List (Nat × α)} (h : swf dflt m = true) (k : Nat) (v : α) :
    swf dflt (sput dflt m k v) = true := by
  unfold sput
  split
  · exact swfAbove_sdel m k 0 h
  · rename_i hv; exact swfAbove_sins m k v hv 0 (Nat.zero_le k) h

end Sys2Proof.Machine
end

