-- ==== Sys2Proof/Laws/State.lean ====
section
/-! SUPPORT. What each basic update of the device leaves alone, field by field; each is true by unfolding the update once. -/

set_option Elab.async false

namespace Sys2Proof.Machine

variable (d : Device)

/-! `tick` changes now alone. -/

@[simp] theorem tick_startAt (t : Nat) : (d.tick t).startAt = d.startAt := rfl
@[simp] theorem tick_st (t : Nat) : (d.tick t).st = d.st := rfl
@[simp] theorem tick_regs (t : Nat) : (d.tick t).regs = d.regs := rfl
@[simp] theorem tick_mem (t : Nat) : (d.tick t).mem = d.mem := rfl
@[simp] theorem tick_tables (t : Nat) : (d.tick t).tables = d.tables := rfl
@[simp] theorem tick_resp (t : Nat) : (d.tick t).resp = d.resp := rfl
@[simp] theorem tick_data (t : Nat) : (d.tick t).data = d.data := rfl
@[simp] theorem tick_rdata (t : Nat) : (d.tick t).rdata = d.rdata := rfl
@[simp] theorem tick_hiLatch (t : Nat) : (d.tick t).hiLatch = d.hiLatch := rfl
@[simp] theorem tick_loHold (t : Nat) : (d.tick t).loHold = d.loHold := rfl
@[simp] theorem tick_token (t : Nat) : (d.tick t).token = d.token := rfl
@[simp] theorem tick_north (t : Nat) : (d.tick t).north = d.north := rfl
@[simp] theorem tick_south (t : Nat) : (d.tick t).south = d.south := rfl
@[simp] theorem tick_transfer (t : Nat) : (d.tick t).transfer = d.transfer := rfl
@[simp] theorem tick_planned (t : Nat) : (d.tick t).planned = d.planned := rfl
@[simp] theorem tick_tokenAt (t : Nat) : (d.tick t).tokenAt = d.tokenAt := rfl
@[simp] theorem tick_host (t : Nat) : (d.tick t).host = d.host := rfl
@[simp] theorem tick_ledger (t : Nat) : (d.tick t).ledger = d.ledger := rfl
@[simp] theorem tick_kerb (t : Nat) : (d.tick t).kerb = d.kerb := rfl
@[simp] theorem tick_dlv (t : Nat) : (d.tick t).dlv = d.dlv := rfl
@[simp] theorem tick_tml (t : Nat) : (d.tick t).tml = d.tml := rfl
@[simp] theorem tick_sup (t : Nat) : (d.tick t).sup = d.sup := rfl
@[simp] theorem tick_ps (t : Nat) : (d.tick t).ps = d.ps := rfl
@[simp] theorem tick_flash (t : Nat) : (d.tick t).flash = d.flash := rfl
@[simp] theorem tick_boot (t : Nat) : (d.tick t).boot = d.boot := rfl
@[simp] theorem tick_clk (t : Nat) : (d.tick t).clk = d.clk := rfl
@[simp] theorem tick_pwr (t : Nat) : (d.tick t).pwr = d.pwr := rfl
@[simp] theorem tick_thm (t : Nat) : (d.tick t).thm = d.thm := rfl
@[simp] theorem tick_cns (t : Nat) : (d.tick t).cns = d.cns := rfl
@[simp] theorem tick_bmo (t : Nat) : (d.tick t).bmo = d.bmo := rfl
@[simp] theorem tick_synth (t : Nat) : (d.tick t).synth = d.synth := rfl
@[simp] theorem tick_ref (t : Nat) : (d.tick t).ref = d.ref := rfl
@[simp] theorem tick_port (t : Nat) : (d.tick t).port = d.port := rfl
@[simp] theorem tick_rgl (t : Nat) : (d.tick t).rgl = d.rgl := rfl
@[simp] theorem tick_mot (t : Nat) : (d.tick t).mot = d.mot := rfl
@[simp] theorem tick_axs (t : Nat) : (d.tick t).axs = d.axs := rfl
@[simp] theorem tick_params (t : Nat) : (d.tick t).params = d.params := rfl
@[simp] theorem tick_arc (t : Nat) : (d.tick t).arc = d.arc := rfl
@[simp] theorem tick_dma (t : Nat) : (d.tick t).dma = d.dma := rfl
@[simp] theorem tick_frees (t : Nat) : (d.tick t).frees = d.frees := rfl
@[simp] theorem tick_sramCe (t : Nat) : (d.tick t).sramCe = d.sramCe := rfl

/-! `setReg` changes regs alone. -/

@[simp] theorem setReg_now (a : Nat) (v : Word) : (d.setReg a v).now = d.now := rfl
@[simp] theorem setReg_startAt (a : Nat) (v : Word) : (d.setReg a v).startAt = d.startAt := rfl
@[simp] theorem setReg_st (a : Nat) (v : Word) : (d.setReg a v).st = d.st := rfl
@[simp] theorem setReg_mem (a : Nat) (v : Word) : (d.setReg a v).mem = d.mem := rfl
@[simp] theorem setReg_tables (a : Nat) (v : Word) : (d.setReg a v).tables = d.tables := rfl
@[simp] theorem setReg_resp (a : Nat) (v : Word) : (d.setReg a v).resp = d.resp := rfl
@[simp] theorem setReg_data (a : Nat) (v : Word) : (d.setReg a v).data = d.data := rfl
@[simp] theorem setReg_rdata (a : Nat) (v : Word) : (d.setReg a v).rdata = d.rdata := rfl
@[simp] theorem setReg_hiLatch (a : Nat) (v : Word) : (d.setReg a v).hiLatch = d.hiLatch := rfl
@[simp] theorem setReg_loHold (a : Nat) (v : Word) : (d.setReg a v).loHold = d.loHold := rfl
@[simp] theorem setReg_token (a : Nat) (v : Word) : (d.setReg a v).token = d.token := rfl
@[simp] theorem setReg_north (a : Nat) (v : Word) : (d.setReg a v).north = d.north := rfl
@[simp] theorem setReg_south (a : Nat) (v : Word) : (d.setReg a v).south = d.south := rfl
@[simp] theorem setReg_transfer (a : Nat) (v : Word) : (d.setReg a v).transfer = d.transfer := rfl
@[simp] theorem setReg_planned (a : Nat) (v : Word) : (d.setReg a v).planned = d.planned := rfl
@[simp] theorem setReg_tokenAt (a : Nat) (v : Word) : (d.setReg a v).tokenAt = d.tokenAt := rfl
@[simp] theorem setReg_host (a : Nat) (v : Word) : (d.setReg a v).host = d.host := rfl
@[simp] theorem setReg_ledger (a : Nat) (v : Word) : (d.setReg a v).ledger = d.ledger := rfl
@[simp] theorem setReg_kerb (a : Nat) (v : Word) : (d.setReg a v).kerb = d.kerb := rfl
@[simp] theorem setReg_dlv (a : Nat) (v : Word) : (d.setReg a v).dlv = d.dlv := rfl
@[simp] theorem setReg_tml (a : Nat) (v : Word) : (d.setReg a v).tml = d.tml := rfl
@[simp] theorem setReg_sup (a : Nat) (v : Word) : (d.setReg a v).sup = d.sup := rfl
@[simp] theorem setReg_ps (a : Nat) (v : Word) : (d.setReg a v).ps = d.ps := rfl
@[simp] theorem setReg_flash (a : Nat) (v : Word) : (d.setReg a v).flash = d.flash := rfl
@[simp] theorem setReg_boot (a : Nat) (v : Word) : (d.setReg a v).boot = d.boot := rfl
@[simp] theorem setReg_clk (a : Nat) (v : Word) : (d.setReg a v).clk = d.clk := rfl
@[simp] theorem setReg_pwr (a : Nat) (v : Word) : (d.setReg a v).pwr = d.pwr := rfl
@[simp] theorem setReg_thm (a : Nat) (v : Word) : (d.setReg a v).thm = d.thm := rfl
@[simp] theorem setReg_cns (a : Nat) (v : Word) : (d.setReg a v).cns = d.cns := rfl
@[simp] theorem setReg_bmo (a : Nat) (v : Word) : (d.setReg a v).bmo = d.bmo := rfl
@[simp] theorem setReg_synth (a : Nat) (v : Word) : (d.setReg a v).synth = d.synth := rfl
@[simp] theorem setReg_ref (a : Nat) (v : Word) : (d.setReg a v).ref = d.ref := rfl
@[simp] theorem setReg_port (a : Nat) (v : Word) : (d.setReg a v).port = d.port := rfl
@[simp] theorem setReg_rgl (a : Nat) (v : Word) : (d.setReg a v).rgl = d.rgl := rfl
@[simp] theorem setReg_mot (a : Nat) (v : Word) : (d.setReg a v).mot = d.mot := rfl
@[simp] theorem setReg_axs (a : Nat) (v : Word) : (d.setReg a v).axs = d.axs := rfl
@[simp] theorem setReg_params (a : Nat) (v : Word) : (d.setReg a v).params = d.params := rfl
@[simp] theorem setReg_arc (a : Nat) (v : Word) : (d.setReg a v).arc = d.arc := rfl
@[simp] theorem setReg_dma (a : Nat) (v : Word) : (d.setReg a v).dma = d.dma := rfl
@[simp] theorem setReg_frees (a : Nat) (v : Word) : (d.setReg a v).frees = d.frees := rfl
@[simp] theorem setReg_sramCe (a : Nat) (v : Word) : (d.setReg a v).sramCe = d.sramCe := rfl

/-! `setNat` changes regs alone. -/

@[simp] theorem setNat_now (a v : Nat) : (d.setNat a v).now = d.now := rfl
@[simp] theorem setNat_startAt (a v : Nat) : (d.setNat a v).startAt = d.startAt := rfl
@[simp] theorem setNat_st (a v : Nat) : (d.setNat a v).st = d.st := rfl
@[simp] theorem setNat_mem (a v : Nat) : (d.setNat a v).mem = d.mem := rfl
@[simp] theorem setNat_tables (a v : Nat) : (d.setNat a v).tables = d.tables := rfl
@[simp] theorem setNat_resp (a v : Nat) : (d.setNat a v).resp = d.resp := rfl
@[simp] theorem setNat_data (a v : Nat) : (d.setNat a v).data = d.data := rfl
@[simp] theorem setNat_rdata (a v : Nat) : (d.setNat a v).rdata = d.rdata := rfl
@[simp] theorem setNat_hiLatch (a v : Nat) : (d.setNat a v).hiLatch = d.hiLatch := rfl
@[simp] theorem setNat_loHold (a v : Nat) : (d.setNat a v).loHold = d.loHold := rfl
@[simp] theorem setNat_token (a v : Nat) : (d.setNat a v).token = d.token := rfl
@[simp] theorem setNat_north (a v : Nat) : (d.setNat a v).north = d.north := rfl
@[simp] theorem setNat_south (a v : Nat) : (d.setNat a v).south = d.south := rfl
@[simp] theorem setNat_transfer (a v : Nat) : (d.setNat a v).transfer = d.transfer := rfl
@[simp] theorem setNat_planned (a v : Nat) : (d.setNat a v).planned = d.planned := rfl
@[simp] theorem setNat_tokenAt (a v : Nat) : (d.setNat a v).tokenAt = d.tokenAt := rfl
@[simp] theorem setNat_host (a v : Nat) : (d.setNat a v).host = d.host := rfl
@[simp] theorem setNat_ledger (a v : Nat) : (d.setNat a v).ledger = d.ledger := rfl
@[simp] theorem setNat_kerb (a v : Nat) : (d.setNat a v).kerb = d.kerb := rfl
@[simp] theorem setNat_dlv (a v : Nat) : (d.setNat a v).dlv = d.dlv := rfl
@[simp] theorem setNat_tml (a v : Nat) : (d.setNat a v).tml = d.tml := rfl
@[simp] theorem setNat_sup (a v : Nat) : (d.setNat a v).sup = d.sup := rfl
@[simp] theorem setNat_ps (a v : Nat) : (d.setNat a v).ps = d.ps := rfl
@[simp] theorem setNat_flash (a v : Nat) : (d.setNat a v).flash = d.flash := rfl
@[simp] theorem setNat_boot (a v : Nat) : (d.setNat a v).boot = d.boot := rfl
@[simp] theorem setNat_clk (a v : Nat) : (d.setNat a v).clk = d.clk := rfl
@[simp] theorem setNat_pwr (a v : Nat) : (d.setNat a v).pwr = d.pwr := rfl
@[simp] theorem setNat_thm (a v : Nat) : (d.setNat a v).thm = d.thm := rfl
@[simp] theorem setNat_cns (a v : Nat) : (d.setNat a v).cns = d.cns := rfl
@[simp] theorem setNat_bmo (a v : Nat) : (d.setNat a v).bmo = d.bmo := rfl
@[simp] theorem setNat_synth (a v : Nat) : (d.setNat a v).synth = d.synth := rfl
@[simp] theorem setNat_ref (a v : Nat) : (d.setNat a v).ref = d.ref := rfl
@[simp] theorem setNat_port (a v : Nat) : (d.setNat a v).port = d.port := rfl
@[simp] theorem setNat_rgl (a v : Nat) : (d.setNat a v).rgl = d.rgl := rfl
@[simp] theorem setNat_mot (a v : Nat) : (d.setNat a v).mot = d.mot := rfl
@[simp] theorem setNat_axs (a v : Nat) : (d.setNat a v).axs = d.axs := rfl
@[simp] theorem setNat_params (a v : Nat) : (d.setNat a v).params = d.params := rfl
@[simp] theorem setNat_arc (a v : Nat) : (d.setNat a v).arc = d.arc := rfl
@[simp] theorem setNat_dma (a v : Nat) : (d.setNat a v).dma = d.dma := rfl
@[simp] theorem setNat_frees (a v : Nat) : (d.setNat a v).frees = d.frees := rfl
@[simp] theorem setNat_sramCe (a v : Nat) : (d.setNat a v).sramCe = d.sramCe := rfl

/-! `setFld` changes regs alone. -/

@[simp] theorem setFld_now (a : Nat) (f : Fld) (v : Nat) : (d.setFld a f v).now = d.now := rfl
@[simp] theorem setFld_startAt (a : Nat) (f : Fld) (v : Nat) : (d.setFld a f v).startAt = d.startAt := rfl
@[simp] theorem setFld_st (a : Nat) (f : Fld) (v : Nat) : (d.setFld a f v).st = d.st := rfl
@[simp] theorem setFld_mem (a : Nat) (f : Fld) (v : Nat) : (d.setFld a f v).mem = d.mem := rfl
@[simp] theorem setFld_tables (a : Nat) (f : Fld) (v : Nat) : (d.setFld a f v).tables = d.tables := rfl
@[simp] theorem setFld_resp (a : Nat) (f : Fld) (v : Nat) : (d.setFld a f v).resp = d.resp := rfl
@[simp] theorem setFld_data (a : Nat) (f : Fld) (v : Nat) : (d.setFld a f v).data = d.data := rfl
@[simp] theorem setFld_rdata (a : Nat) (f : Fld) (v : Nat) : (d.setFld a f v).rdata = d.rdata := rfl
@[simp] theorem setFld_hiLatch (a : Nat) (f : Fld) (v : Nat) : (d.setFld a f v).hiLatch = d.hiLatch := rfl
@[simp] theorem setFld_loHold (a : Nat) (f : Fld) (v : Nat) : (d.setFld a f v).loHold = d.loHold := rfl
@[simp] theorem setFld_token (a : Nat) (f : Fld) (v : Nat) : (d.setFld a f v).token = d.token := rfl
@[simp] theorem setFld_north (a : Nat) (f : Fld) (v : Nat) : (d.setFld a f v).north = d.north := rfl
@[simp] theorem setFld_south (a : Nat) (f : Fld) (v : Nat) : (d.setFld a f v).south = d.south := rfl
@[simp] theorem setFld_transfer (a : Nat) (f : Fld) (v : Nat) : (d.setFld a f v).transfer = d.transfer := rfl
@[simp] theorem setFld_planned (a : Nat) (f : Fld) (v : Nat) : (d.setFld a f v).planned = d.planned := rfl
@[simp] theorem setFld_tokenAt (a : Nat) (f : Fld) (v : Nat) : (d.setFld a f v).tokenAt = d.tokenAt := rfl
@[simp] theorem setFld_host (a : Nat) (f : Fld) (v : Nat) : (d.setFld a f v).host = d.host := rfl
@[simp] theorem setFld_ledger (a : Nat) (f : Fld) (v : Nat) : (d.setFld a f v).ledger = d.ledger := rfl
@[simp] theorem setFld_kerb (a : Nat) (f : Fld) (v : Nat) : (d.setFld a f v).kerb = d.kerb := rfl
@[simp] theorem setFld_dlv (a : Nat) (f : Fld) (v : Nat) : (d.setFld a f v).dlv = d.dlv := rfl
@[simp] theorem setFld_tml (a : Nat) (f : Fld) (v : Nat) : (d.setFld a f v).tml = d.tml := rfl
@[simp] theorem setFld_sup (a : Nat) (f : Fld) (v : Nat) : (d.setFld a f v).sup = d.sup := rfl
@[simp] theorem setFld_ps (a : Nat) (f : Fld) (v : Nat) : (d.setFld a f v).ps = d.ps := rfl
@[simp] theorem setFld_flash (a : Nat) (f : Fld) (v : Nat) : (d.setFld a f v).flash = d.flash := rfl
@[simp] theorem setFld_boot (a : Nat) (f : Fld) (v : Nat) : (d.setFld a f v).boot = d.boot := rfl
@[simp] theorem setFld_clk (a : Nat) (f : Fld) (v : Nat) : (d.setFld a f v).clk = d.clk := rfl
@[simp] theorem setFld_pwr (a : Nat) (f : Fld) (v : Nat) : (d.setFld a f v).pwr = d.pwr := rfl
@[simp] theorem setFld_thm (a : Nat) (f : Fld) (v : Nat) : (d.setFld a f v).thm = d.thm := rfl
@[simp] theorem setFld_cns (a : Nat) (f : Fld) (v : Nat) : (d.setFld a f v).cns = d.cns := rfl
@[simp] theorem setFld_bmo (a : Nat) (f : Fld) (v : Nat) : (d.setFld a f v).bmo = d.bmo := rfl
@[simp] theorem setFld_synth (a : Nat) (f : Fld) (v : Nat) : (d.setFld a f v).synth = d.synth := rfl
@[simp] theorem setFld_ref (a : Nat) (f : Fld) (v : Nat) : (d.setFld a f v).ref = d.ref := rfl
@[simp] theorem setFld_port (a : Nat) (f : Fld) (v : Nat) : (d.setFld a f v).port = d.port := rfl
@[simp] theorem setFld_rgl (a : Nat) (f : Fld) (v : Nat) : (d.setFld a f v).rgl = d.rgl := rfl
@[simp] theorem setFld_mot (a : Nat) (f : Fld) (v : Nat) : (d.setFld a f v).mot = d.mot := rfl
@[simp] theorem setFld_axs (a : Nat) (f : Fld) (v : Nat) : (d.setFld a f v).axs = d.axs := rfl
@[simp] theorem setFld_params (a : Nat) (f : Fld) (v : Nat) : (d.setFld a f v).params = d.params := rfl
@[simp] theorem setFld_arc (a : Nat) (f : Fld) (v : Nat) : (d.setFld a f v).arc = d.arc := rfl
@[simp] theorem setFld_dma (a : Nat) (f : Fld) (v : Nat) : (d.setFld a f v).dma = d.dma := rfl
@[simp] theorem setFld_frees (a : Nat) (f : Fld) (v : Nat) : (d.setFld a f v).frees = d.frees := rfl
@[simp] theorem setFld_sramCe (a : Nat) (f : Fld) (v : Nat) : (d.setFld a f v).sramCe = d.sramCe := rfl

/-! `setFlag` changes regs alone. -/

@[simp] theorem setFlag_now (a : Nat) (f : Fld) (b : Bool) : (d.setFlag a f b).now = d.now := rfl
@[simp] theorem setFlag_startAt (a : Nat) (f : Fld) (b : Bool) : (d.setFlag a f b).startAt = d.startAt := rfl
@[simp] theorem setFlag_st (a : Nat) (f : Fld) (b : Bool) : (d.setFlag a f b).st = d.st := rfl
@[simp] theorem setFlag_mem (a : Nat) (f : Fld) (b : Bool) : (d.setFlag a f b).mem = d.mem := rfl
@[simp] theorem setFlag_tables (a : Nat) (f : Fld) (b : Bool) : (d.setFlag a f b).tables = d.tables := rfl
@[simp] theorem setFlag_resp (a : Nat) (f : Fld) (b : Bool) : (d.setFlag a f b).resp = d.resp := rfl
@[simp] theorem setFlag_data (a : Nat) (f : Fld) (b : Bool) : (d.setFlag a f b).data = d.data := rfl
@[simp] theorem setFlag_rdata (a : Nat) (f : Fld) (b : Bool) : (d.setFlag a f b).rdata = d.rdata := rfl
@[simp] theorem setFlag_hiLatch (a : Nat) (f : Fld) (b : Bool) : (d.setFlag a f b).hiLatch = d.hiLatch := rfl
@[simp] theorem setFlag_loHold (a : Nat) (f : Fld) (b : Bool) : (d.setFlag a f b).loHold = d.loHold := rfl
@[simp] theorem setFlag_token (a : Nat) (f : Fld) (b : Bool) : (d.setFlag a f b).token = d.token := rfl
@[simp] theorem setFlag_north (a : Nat) (f : Fld) (b : Bool) : (d.setFlag a f b).north = d.north := rfl
@[simp] theorem setFlag_south (a : Nat) (f : Fld) (b : Bool) : (d.setFlag a f b).south = d.south := rfl
@[simp] theorem setFlag_transfer (a : Nat) (f : Fld) (b : Bool) : (d.setFlag a f b).transfer = d.transfer := rfl
@[simp] theorem setFlag_planned (a : Nat) (f : Fld) (b : Bool) : (d.setFlag a f b).planned = d.planned := rfl
@[simp] theorem setFlag_tokenAt (a : Nat) (f : Fld) (b : Bool) : (d.setFlag a f b).tokenAt = d.tokenAt := rfl
@[simp] theorem setFlag_host (a : Nat) (f : Fld) (b : Bool) : (d.setFlag a f b).host = d.host := rfl
@[simp] theorem setFlag_ledger (a : Nat) (f : Fld) (b : Bool) : (d.setFlag a f b).ledger = d.ledger := rfl
@[simp] theorem setFlag_kerb (a : Nat) (f : Fld) (b : Bool) : (d.setFlag a f b).kerb = d.kerb := rfl
@[simp] theorem setFlag_dlv (a : Nat) (f : Fld) (b : Bool) : (d.setFlag a f b).dlv = d.dlv := rfl
@[simp] theorem setFlag_tml (a : Nat) (f : Fld) (b : Bool) : (d.setFlag a f b).tml = d.tml := rfl
@[simp] theorem setFlag_sup (a : Nat) (f : Fld) (b : Bool) : (d.setFlag a f b).sup = d.sup := rfl
@[simp] theorem setFlag_ps (a : Nat) (f : Fld) (b : Bool) : (d.setFlag a f b).ps = d.ps := rfl
@[simp] theorem setFlag_flash (a : Nat) (f : Fld) (b : Bool) : (d.setFlag a f b).flash = d.flash := rfl
@[simp] theorem setFlag_boot (a : Nat) (f : Fld) (b : Bool) : (d.setFlag a f b).boot = d.boot := rfl
@[simp] theorem setFlag_clk (a : Nat) (f : Fld) (b : Bool) : (d.setFlag a f b).clk = d.clk := rfl
@[simp] theorem setFlag_pwr (a : Nat) (f : Fld) (b : Bool) : (d.setFlag a f b).pwr = d.pwr := rfl
@[simp] theorem setFlag_thm (a : Nat) (f : Fld) (b : Bool) : (d.setFlag a f b).thm = d.thm := rfl
@[simp] theorem setFlag_cns (a : Nat) (f : Fld) (b : Bool) : (d.setFlag a f b).cns = d.cns := rfl
@[simp] theorem setFlag_bmo (a : Nat) (f : Fld) (b : Bool) : (d.setFlag a f b).bmo = d.bmo := rfl
@[simp] theorem setFlag_synth (a : Nat) (f : Fld) (b : Bool) : (d.setFlag a f b).synth = d.synth := rfl
@[simp] theorem setFlag_ref (a : Nat) (f : Fld) (b : Bool) : (d.setFlag a f b).ref = d.ref := rfl
@[simp] theorem setFlag_port (a : Nat) (f : Fld) (b : Bool) : (d.setFlag a f b).port = d.port := rfl
@[simp] theorem setFlag_rgl (a : Nat) (f : Fld) (b : Bool) : (d.setFlag a f b).rgl = d.rgl := rfl
@[simp] theorem setFlag_mot (a : Nat) (f : Fld) (b : Bool) : (d.setFlag a f b).mot = d.mot := rfl
@[simp] theorem setFlag_axs (a : Nat) (f : Fld) (b : Bool) : (d.setFlag a f b).axs = d.axs := rfl
@[simp] theorem setFlag_params (a : Nat) (f : Fld) (b : Bool) : (d.setFlag a f b).params = d.params := rfl
@[simp] theorem setFlag_arc (a : Nat) (f : Fld) (b : Bool) : (d.setFlag a f b).arc = d.arc := rfl
@[simp] theorem setFlag_dma (a : Nat) (f : Fld) (b : Bool) : (d.setFlag a f b).dma = d.dma := rfl
@[simp] theorem setFlag_frees (a : Nat) (f : Fld) (b : Bool) : (d.setFlag a f b).frees = d.frees := rfl
@[simp] theorem setFlag_sramCe (a : Nat) (f : Fld) (b : Bool) : (d.setFlag a f b).sramCe = d.sramCe := rfl

/-! `setByte` changes mem alone. -/

@[simp] theorem setByte_now (a : Nat) (b : Byte) : (d.setByte a b).now = d.now := rfl
@[simp] theorem setByte_startAt (a : Nat) (b : Byte) : (d.setByte a b).startAt = d.startAt := rfl
@[simp] theorem setByte_st (a : Nat) (b : Byte) : (d.setByte a b).st = d.st := rfl
@[simp] theorem setByte_regs (a : Nat) (b : Byte) : (d.setByte a b).regs = d.regs := rfl
@[simp] theorem setByte_tables (a : Nat) (b : Byte) : (d.setByte a b).tables = d.tables := rfl
@[simp] theorem setByte_resp (a : Nat) (b : Byte) : (d.setByte a b).resp = d.resp := rfl
@[simp] theorem setByte_data (a : Nat) (b : Byte) : (d.setByte a b).data = d.data := rfl
@[simp] theorem setByte_rdata (a : Nat) (b : Byte) : (d.setByte a b).rdata = d.rdata := rfl
@[simp] theorem setByte_hiLatch (a : Nat) (b : Byte) : (d.setByte a b).hiLatch = d.hiLatch := rfl
@[simp] theorem setByte_loHold (a : Nat) (b : Byte) : (d.setByte a b).loHold = d.loHold := rfl
@[simp] theorem setByte_token (a : Nat) (b : Byte) : (d.setByte a b).token = d.token := rfl
@[simp] theorem setByte_north (a : Nat) (b : Byte) : (d.setByte a b).north = d.north := rfl
@[simp] theorem setByte_south (a : Nat) (b : Byte) : (d.setByte a b).south = d.south := rfl
@[simp] theorem setByte_transfer (a : Nat) (b : Byte) : (d.setByte a b).transfer = d.transfer := rfl
@[simp] theorem setByte_planned (a : Nat) (b : Byte) : (d.setByte a b).planned = d.planned := rfl
@[simp] theorem setByte_tokenAt (a : Nat) (b : Byte) : (d.setByte a b).tokenAt = d.tokenAt := rfl
@[simp] theorem setByte_host (a : Nat) (b : Byte) : (d.setByte a b).host = d.host := rfl
@[simp] theorem setByte_ledger (a : Nat) (b : Byte) : (d.setByte a b).ledger = d.ledger := rfl
@[simp] theorem setByte_kerb (a : Nat) (b : Byte) : (d.setByte a b).kerb = d.kerb := rfl
@[simp] theorem setByte_dlv (a : Nat) (b : Byte) : (d.setByte a b).dlv = d.dlv := rfl
@[simp] theorem setByte_tml (a : Nat) (b : Byte) : (d.setByte a b).tml = d.tml := rfl
@[simp] theorem setByte_sup (a : Nat) (b : Byte) : (d.setByte a b).sup = d.sup := rfl
@[simp] theorem setByte_ps (a : Nat) (b : Byte) : (d.setByte a b).ps = d.ps := rfl
@[simp] theorem setByte_flash (a : Nat) (b : Byte) : (d.setByte a b).flash = d.flash := rfl
@[simp] theorem setByte_boot (a : Nat) (b : Byte) : (d.setByte a b).boot = d.boot := rfl
@[simp] theorem setByte_clk (a : Nat) (b : Byte) : (d.setByte a b).clk = d.clk := rfl
@[simp] theorem setByte_pwr (a : Nat) (b : Byte) : (d.setByte a b).pwr = d.pwr := rfl
@[simp] theorem setByte_thm (a : Nat) (b : Byte) : (d.setByte a b).thm = d.thm := rfl
@[simp] theorem setByte_cns (a : Nat) (b : Byte) : (d.setByte a b).cns = d.cns := rfl
@[simp] theorem setByte_bmo (a : Nat) (b : Byte) : (d.setByte a b).bmo = d.bmo := rfl
@[simp] theorem setByte_synth (a : Nat) (b : Byte) : (d.setByte a b).synth = d.synth := rfl
@[simp] theorem setByte_ref (a : Nat) (b : Byte) : (d.setByte a b).ref = d.ref := rfl
@[simp] theorem setByte_port (a : Nat) (b : Byte) : (d.setByte a b).port = d.port := rfl
@[simp] theorem setByte_rgl (a : Nat) (b : Byte) : (d.setByte a b).rgl = d.rgl := rfl
@[simp] theorem setByte_mot (a : Nat) (b : Byte) : (d.setByte a b).mot = d.mot := rfl
@[simp] theorem setByte_axs (a : Nat) (b : Byte) : (d.setByte a b).axs = d.axs := rfl
@[simp] theorem setByte_params (a : Nat) (b : Byte) : (d.setByte a b).params = d.params := rfl
@[simp] theorem setByte_arc (a : Nat) (b : Byte) : (d.setByte a b).arc = d.arc := rfl
@[simp] theorem setByte_dma (a : Nat) (b : Byte) : (d.setByte a b).dma = d.dma := rfl
@[simp] theorem setByte_frees (a : Nat) (b : Byte) : (d.setByte a b).frees = d.frees := rfl
@[simp] theorem setByte_sramCe (a : Nat) (b : Byte) : (d.setByte a b).sramCe = d.sramCe := rfl

/-! `setEntry` changes tables alone. -/

@[simp] theorem setEntry_now (c i n : Nat) (b : List Byte) : (d.setEntry c i n b).now = d.now := rfl
@[simp] theorem setEntry_startAt (c i n : Nat) (b : List Byte) : (d.setEntry c i n b).startAt = d.startAt := rfl
@[simp] theorem setEntry_st (c i n : Nat) (b : List Byte) : (d.setEntry c i n b).st = d.st := rfl
@[simp] theorem setEntry_regs (c i n : Nat) (b : List Byte) : (d.setEntry c i n b).regs = d.regs := rfl
@[simp] theorem setEntry_mem (c i n : Nat) (b : List Byte) : (d.setEntry c i n b).mem = d.mem := rfl
@[simp] theorem setEntry_resp (c i n : Nat) (b : List Byte) : (d.setEntry c i n b).resp = d.resp := rfl
@[simp] theorem setEntry_data (c i n : Nat) (b : List Byte) : (d.setEntry c i n b).data = d.data := rfl
@[simp] theorem setEntry_rdata (c i n : Nat) (b : List Byte) : (d.setEntry c i n b).rdata = d.rdata := rfl
@[simp] theorem setEntry_hiLatch (c i n : Nat) (b : List Byte) : (d.setEntry c i n b).hiLatch = d.hiLatch := rfl
@[simp] theorem setEntry_loHold (c i n : Nat) (b : List Byte) : (d.setEntry c i n b).loHold = d.loHold := rfl
@[simp] theorem setEntry_token (c i n : Nat) (b : List Byte) : (d.setEntry c i n b).token = d.token := rfl
@[simp] theorem setEntry_north (c i n : Nat) (b : List Byte) : (d.setEntry c i n b).north = d.north := rfl
@[simp] theorem setEntry_south (c i n : Nat) (b : List Byte) : (d.setEntry c i n b).south = d.south := rfl
@[simp] theorem setEntry_transfer (c i n : Nat) (b : List Byte) : (d.setEntry c i n b).transfer = d.transfer := rfl
@[simp] theorem setEntry_planned (c i n : Nat) (b : List Byte) : (d.setEntry c i n b).planned = d.planned := rfl
@[simp] theorem setEntry_tokenAt (c i n : Nat) (b : List Byte) : (d.setEntry c i n b).tokenAt = d.tokenAt := rfl
@[simp] theorem setEntry_host (c i n : Nat) (b : List Byte) : (d.setEntry c i n b).host = d.host := rfl
@[simp] theorem setEntry_ledger (c i n : Nat) (b : List Byte) : (d.setEntry c i n b).ledger = d.ledger := rfl
@[simp] theorem setEntry_kerb (c i n : Nat) (b : List Byte) : (d.setEntry c i n b).kerb = d.kerb := rfl
@[simp] theorem setEntry_dlv (c i n : Nat) (b : List Byte) : (d.setEntry c i n b).dlv = d.dlv := rfl
@[simp] theorem setEntry_tml (c i n : Nat) (b : List Byte) : (d.setEntry c i n b).tml = d.tml := rfl
@[simp] theorem setEntry_sup (c i n : Nat) (b : List Byte) : (d.setEntry c i n b).sup = d.sup := rfl
@[simp] theorem setEntry_ps (c i n : Nat) (b : List Byte) : (d.setEntry c i n b).ps = d.ps := rfl
@[simp] theorem setEntry_flash (c i n : Nat) (b : List Byte) : (d.setEntry c i n b).flash = d.flash := rfl
@[simp] theorem setEntry_boot (c i n : Nat) (b : List Byte) : (d.setEntry c i n b).boot = d.boot := rfl
@[simp] theorem setEntry_clk (c i n : Nat) (b : List Byte) : (d.setEntry c i n b).clk = d.clk := rfl
@[simp] theorem setEntry_pwr (c i n : Nat) (b : List Byte) : (d.setEntry c i n b).pwr = d.pwr := rfl
@[simp] theorem setEntry_thm (c i n : Nat) (b : List Byte) : (d.setEntry c i n b).thm = d.thm := rfl
@[simp] theorem setEntry_cns (c i n : Nat) (b : List Byte) : (d.setEntry c i n b).cns = d.cns := rfl
@[simp] theorem setEntry_bmo (c i n : Nat) (b : List Byte) : (d.setEntry c i n b).bmo = d.bmo := rfl
@[simp] theorem setEntry_synth (c i n : Nat) (b : List Byte) : (d.setEntry c i n b).synth = d.synth := rfl
@[simp] theorem setEntry_ref (c i n : Nat) (b : List Byte) : (d.setEntry c i n b).ref = d.ref := rfl
@[simp] theorem setEntry_port (c i n : Nat) (b : List Byte) : (d.setEntry c i n b).port = d.port := rfl
@[simp] theorem setEntry_rgl (c i n : Nat) (b : List Byte) : (d.setEntry c i n b).rgl = d.rgl := rfl
@[simp] theorem setEntry_mot (c i n : Nat) (b : List Byte) : (d.setEntry c i n b).mot = d.mot := rfl
@[simp] theorem setEntry_axs (c i n : Nat) (b : List Byte) : (d.setEntry c i n b).axs = d.axs := rfl
@[simp] theorem setEntry_params (c i n : Nat) (b : List Byte) : (d.setEntry c i n b).params = d.params := rfl
@[simp] theorem setEntry_arc (c i n : Nat) (b : List Byte) : (d.setEntry c i n b).arc = d.arc := rfl
@[simp] theorem setEntry_dma (c i n : Nat) (b : List Byte) : (d.setEntry c i n b).dma = d.dma := rfl
@[simp] theorem setEntry_frees (c i n : Nat) (b : List Byte) : (d.setEntry c i n b).frees = d.frees := rfl
@[simp] theorem setEntry_sramCe (c i n : Nat) (b : List Byte) : (d.setEntry c i n b).sramCe = d.sramCe := rfl

/-! `answer` changes resp, data alone. -/

@[simp] theorem answer_now (r : Resp) (w : Word) : (d.answer r w).now = d.now := rfl
@[simp] theorem answer_startAt (r : Resp) (w : Word) : (d.answer r w).startAt = d.startAt := rfl
@[simp] theorem answer_st (r : Resp) (w : Word) : (d.answer r w).st = d.st := rfl
@[simp] theorem answer_regs (r : Resp) (w : Word) : (d.answer r w).regs = d.regs := rfl
@[simp] theorem answer_mem (r : Resp) (w : Word) : (d.answer r w).mem = d.mem := rfl
@[simp] theorem answer_tables (r : Resp) (w : Word) : (d.answer r w).tables = d.tables := rfl
@[simp] theorem answer_rdata (r : Resp) (w : Word) : (d.answer r w).rdata = d.rdata := rfl
@[simp] theorem answer_hiLatch (r : Resp) (w : Word) : (d.answer r w).hiLatch = d.hiLatch := rfl
@[simp] theorem answer_loHold (r : Resp) (w : Word) : (d.answer r w).loHold = d.loHold := rfl
@[simp] theorem answer_token (r : Resp) (w : Word) : (d.answer r w).token = d.token := rfl
@[simp] theorem answer_north (r : Resp) (w : Word) : (d.answer r w).north = d.north := rfl
@[simp] theorem answer_south (r : Resp) (w : Word) : (d.answer r w).south = d.south := rfl
@[simp] theorem answer_transfer (r : Resp) (w : Word) : (d.answer r w).transfer = d.transfer := rfl
@[simp] theorem answer_planned (r : Resp) (w : Word) : (d.answer r w).planned = d.planned := rfl
@[simp] theorem answer_tokenAt (r : Resp) (w : Word) : (d.answer r w).tokenAt = d.tokenAt := rfl
@[simp] theorem answer_host (r : Resp) (w : Word) : (d.answer r w).host = d.host := rfl
@[simp] theorem answer_ledger (r : Resp) (w : Word) : (d.answer r w).ledger = d.ledger := rfl
@[simp] theorem answer_kerb (r : Resp) (w : Word) : (d.answer r w).kerb = d.kerb := rfl
@[simp] theorem answer_dlv (r : Resp) (w : Word) : (d.answer r w).dlv = d.dlv := rfl
@[simp] theorem answer_tml (r : Resp) (w : Word) : (d.answer r w).tml = d.tml := rfl
@[simp] theorem answer_sup (r : Resp) (w : Word) : (d.answer r w).sup = d.sup := rfl
@[simp] theorem answer_ps (r : Resp) (w : Word) : (d.answer r w).ps = d.ps := rfl
@[simp] theorem answer_flash (r : Resp) (w : Word) : (d.answer r w).flash = d.flash := rfl
@[simp] theorem answer_boot (r : Resp) (w : Word) : (d.answer r w).boot = d.boot := rfl
@[simp] theorem answer_clk (r : Resp) (w : Word) : (d.answer r w).clk = d.clk := rfl
@[simp] theorem answer_pwr (r : Resp) (w : Word) : (d.answer r w).pwr = d.pwr := rfl
@[simp] theorem answer_thm (r : Resp) (w : Word) : (d.answer r w).thm = d.thm := rfl
@[simp] theorem answer_cns (r : Resp) (w : Word) : (d.answer r w).cns = d.cns := rfl
@[simp] theorem answer_bmo (r : Resp) (w : Word) : (d.answer r w).bmo = d.bmo := rfl
@[simp] theorem answer_synth (r : Resp) (w : Word) : (d.answer r w).synth = d.synth := rfl
@[simp] theorem answer_ref (r : Resp) (w : Word) : (d.answer r w).ref = d.ref := rfl
@[simp] theorem answer_port (r : Resp) (w : Word) : (d.answer r w).port = d.port := rfl
@[simp] theorem answer_rgl (r : Resp) (w : Word) : (d.answer r w).rgl = d.rgl := rfl
@[simp] theorem answer_mot (r : Resp) (w : Word) : (d.answer r w).mot = d.mot := rfl
@[simp] theorem answer_axs (r : Resp) (w : Word) : (d.answer r w).axs = d.axs := rfl
@[simp] theorem answer_params (r : Resp) (w : Word) : (d.answer r w).params = d.params := rfl
@[simp] theorem answer_arc (r : Resp) (w : Word) : (d.answer r w).arc = d.arc := rfl
@[simp] theorem answer_dma (r : Resp) (w : Word) : (d.answer r w).dma = d.dma := rfl
@[simp] theorem answer_frees (r : Resp) (w : Word) : (d.answer r w).frees = d.frees := rfl
@[simp] theorem answer_sramCe (r : Resp) (w : Word) : (d.answer r w).sramCe = d.sramCe := rfl

/-! `withSt` changes st alone. -/

@[simp] theorem withSt_now (v : DevState) : (d.withSt v).now = d.now := rfl
@[simp] theorem withSt_startAt (v : DevState) : (d.withSt v).startAt = d.startAt := rfl
@[simp] theorem withSt_regs (v : DevState) : (d.withSt v).regs = d.regs := rfl
@[simp] theorem withSt_mem (v : DevState) : (d.withSt v).mem = d.mem := rfl
@[simp] theorem withSt_tables (v : DevState) : (d.withSt v).tables = d.tables := rfl
@[simp] theorem withSt_resp (v : DevState) : (d.withSt v).resp = d.resp := rfl
@[simp] theorem withSt_data (v : DevState) : (d.withSt v).data = d.data := rfl
@[simp] theorem withSt_rdata (v : DevState) : (d.withSt v).rdata = d.rdata := rfl
@[simp] theorem withSt_hiLatch (v : DevState) : (d.withSt v).hiLatch = d.hiLatch := rfl
@[simp] theorem withSt_loHold (v : DevState) : (d.withSt v).loHold = d.loHold := rfl
@[simp] theorem withSt_token (v : DevState) : (d.withSt v).token = d.token := rfl
@[simp] theorem withSt_north (v : DevState) : (d.withSt v).north = d.north := rfl
@[simp] theorem withSt_south (v : DevState) : (d.withSt v).south = d.south := rfl
@[simp] theorem withSt_transfer (v : DevState) : (d.withSt v).transfer = d.transfer := rfl
@[simp] theorem withSt_planned (v : DevState) : (d.withSt v).planned = d.planned := rfl
@[simp] theorem withSt_tokenAt (v : DevState) : (d.withSt v).tokenAt = d.tokenAt := rfl
@[simp] theorem withSt_host (v : DevState) : (d.withSt v).host = d.host := rfl
@[simp] theorem withSt_ledger (v : DevState) : (d.withSt v).ledger = d.ledger := rfl
@[simp] theorem withSt_kerb (v : DevState) : (d.withSt v).kerb = d.kerb := rfl
@[simp] theorem withSt_dlv (v : DevState) : (d.withSt v).dlv = d.dlv := rfl
@[simp] theorem withSt_tml (v : DevState) : (d.withSt v).tml = d.tml := rfl
@[simp] theorem withSt_sup (v : DevState) : (d.withSt v).sup = d.sup := rfl
@[simp] theorem withSt_ps (v : DevState) : (d.withSt v).ps = d.ps := rfl
@[simp] theorem withSt_flash (v : DevState) : (d.withSt v).flash = d.flash := rfl
@[simp] theorem withSt_boot (v : DevState) : (d.withSt v).boot = d.boot := rfl
@[simp] theorem withSt_clk (v : DevState) : (d.withSt v).clk = d.clk := rfl
@[simp] theorem withSt_pwr (v : DevState) : (d.withSt v).pwr = d.pwr := rfl
@[simp] theorem withSt_thm (v : DevState) : (d.withSt v).thm = d.thm := rfl
@[simp] theorem withSt_cns (v : DevState) : (d.withSt v).cns = d.cns := rfl
@[simp] theorem withSt_bmo (v : DevState) : (d.withSt v).bmo = d.bmo := rfl
@[simp] theorem withSt_synth (v : DevState) : (d.withSt v).synth = d.synth := rfl
@[simp] theorem withSt_ref (v : DevState) : (d.withSt v).ref = d.ref := rfl
@[simp] theorem withSt_port (v : DevState) : (d.withSt v).port = d.port := rfl
@[simp] theorem withSt_rgl (v : DevState) : (d.withSt v).rgl = d.rgl := rfl
@[simp] theorem withSt_mot (v : DevState) : (d.withSt v).mot = d.mot := rfl
@[simp] theorem withSt_axs (v : DevState) : (d.withSt v).axs = d.axs := rfl
@[simp] theorem withSt_params (v : DevState) : (d.withSt v).params = d.params := rfl
@[simp] theorem withSt_arc (v : DevState) : (d.withSt v).arc = d.arc := rfl
@[simp] theorem withSt_dma (v : DevState) : (d.withSt v).dma = d.dma := rfl
@[simp] theorem withSt_frees (v : DevState) : (d.withSt v).frees = d.frees := rfl
@[simp] theorem withSt_sramCe (v : DevState) : (d.withSt v).sramCe = d.sramCe := rfl
@[simp] theorem withSt_st (v : DevState) : (d.withSt v).st = v := rfl

/-! `withRegs` changes regs alone. -/

@[simp] theorem withRegs_now (v : List (Nat × Word)) : (d.withRegs v).now = d.now := rfl
@[simp] theorem withRegs_startAt (v : List (Nat × Word)) : (d.withRegs v).startAt = d.startAt := rfl
@[simp] theorem withRegs_st (v : List (Nat × Word)) : (d.withRegs v).st = d.st := rfl
@[simp] theorem withRegs_mem (v : List (Nat × Word)) : (d.withRegs v).mem = d.mem := rfl
@[simp] theorem withRegs_tables (v : List (Nat × Word)) : (d.withRegs v).tables = d.tables := rfl
@[simp] theorem withRegs_resp (v : List (Nat × Word)) : (d.withRegs v).resp = d.resp := rfl
@[simp] theorem withRegs_data (v : List (Nat × Word)) : (d.withRegs v).data = d.data := rfl
@[simp] theorem withRegs_rdata (v : List (Nat × Word)) : (d.withRegs v).rdata = d.rdata := rfl
@[simp] theorem withRegs_hiLatch (v : List (Nat × Word)) : (d.withRegs v).hiLatch = d.hiLatch := rfl
@[simp] theorem withRegs_loHold (v : List (Nat × Word)) : (d.withRegs v).loHold = d.loHold := rfl
@[simp] theorem withRegs_token (v : List (Nat × Word)) : (d.withRegs v).token = d.token := rfl
@[simp] theorem withRegs_north (v : List (Nat × Word)) : (d.withRegs v).north = d.north := rfl
@[simp] theorem withRegs_south (v : List (Nat × Word)) : (d.withRegs v).south = d.south := rfl
@[simp] theorem withRegs_transfer (v : List (Nat × Word)) : (d.withRegs v).transfer = d.transfer := rfl
@[simp] theorem withRegs_planned (v : List (Nat × Word)) : (d.withRegs v).planned = d.planned := rfl
@[simp] theorem withRegs_tokenAt (v : List (Nat × Word)) : (d.withRegs v).tokenAt = d.tokenAt := rfl
@[simp] theorem withRegs_host (v : List (Nat × Word)) : (d.withRegs v).host = d.host := rfl
@[simp] theorem withRegs_ledger (v : List (Nat × Word)) : (d.withRegs v).ledger = d.ledger := rfl
@[simp] theorem withRegs_kerb (v : List (Nat × Word)) : (d.withRegs v).kerb = d.kerb := rfl
@[simp] theorem withRegs_dlv (v : List (Nat × Word)) : (d.withRegs v).dlv = d.dlv := rfl
@[simp] theorem withRegs_tml (v : List (Nat × Word)) : (d.withRegs v).tml = d.tml := rfl
@[simp] theorem withRegs_sup (v : List (Nat × Word)) : (d.withRegs v).sup = d.sup := rfl
@[simp] theorem withRegs_ps (v : List (Nat × Word)) : (d.withRegs v).ps = d.ps := rfl
@[simp] theorem withRegs_flash (v : List (Nat × Word)) : (d.withRegs v).flash = d.flash := rfl
@[simp] theorem withRegs_boot (v : List (Nat × Word)) : (d.withRegs v).boot = d.boot := rfl
@[simp] theorem withRegs_clk (v : List (Nat × Word)) : (d.withRegs v).clk = d.clk := rfl
@[simp] theorem withRegs_pwr (v : List (Nat × Word)) : (d.withRegs v).pwr = d.pwr := rfl
@[simp] theorem withRegs_thm (v : List (Nat × Word)) : (d.withRegs v).thm = d.thm := rfl
@[simp] theorem withRegs_cns (v : List (Nat × Word)) : (d.withRegs v).cns = d.cns := rfl
@[simp] theorem withRegs_bmo (v : List (Nat × Word)) : (d.withRegs v).bmo = d.bmo := rfl
@[simp] theorem withRegs_synth (v : List (Nat × Word)) : (d.withRegs v).synth = d.synth := rfl
@[simp] theorem withRegs_ref (v : List (Nat × Word)) : (d.withRegs v).ref = d.ref := rfl
@[simp] theorem withRegs_port (v : List (Nat × Word)) : (d.withRegs v).port = d.port := rfl
@[simp] theorem withRegs_rgl (v : List (Nat × Word)) : (d.withRegs v).rgl = d.rgl := rfl
@[simp] theorem withRegs_mot (v : List (Nat × Word)) : (d.withRegs v).mot = d.mot := rfl
@[simp] theorem withRegs_axs (v : List (Nat × Word)) : (d.withRegs v).axs = d.axs := rfl
@[simp] theorem withRegs_params (v : List (Nat × Word)) : (d.withRegs v).params = d.params := rfl
@[simp] theorem withRegs_arc (v : List (Nat × Word)) : (d.withRegs v).arc = d.arc := rfl
@[simp] theorem withRegs_dma (v : List (Nat × Word)) : (d.withRegs v).dma = d.dma := rfl
@[simp] theorem withRegs_frees (v : List (Nat × Word)) : (d.withRegs v).frees = d.frees := rfl
@[simp] theorem withRegs_sramCe (v : List (Nat × Word)) : (d.withRegs v).sramCe = d.sramCe := rfl
@[simp] theorem withRegs_regs (v : List (Nat × Word)) : (d.withRegs v).regs = v := rfl

/-! `withHiLatch` changes hiLatch alone. -/

@[simp] theorem withHiLatch_now (v : List (Nat × Option Word)) : (d.withHiLatch v).now = d.now := rfl
@[simp] theorem withHiLatch_startAt (v : List (Nat × Option Word)) : (d.withHiLatch v).startAt = d.startAt := rfl
@[simp] theorem withHiLatch_st (v : List (Nat × Option Word)) : (d.withHiLatch v).st = d.st := rfl
@[simp] theorem withHiLatch_regs (v : List (Nat × Option Word)) : (d.withHiLatch v).regs = d.regs := rfl
@[simp] theorem withHiLatch_mem (v : List (Nat × Option Word)) : (d.withHiLatch v).mem = d.mem := rfl
@[simp] theorem withHiLatch_tables (v : List (Nat × Option Word)) : (d.withHiLatch v).tables = d.tables := rfl
@[simp] theorem withHiLatch_resp (v : List (Nat × Option Word)) : (d.withHiLatch v).resp = d.resp := rfl
@[simp] theorem withHiLatch_data (v : List (Nat × Option Word)) : (d.withHiLatch v).data = d.data := rfl
@[simp] theorem withHiLatch_rdata (v : List (Nat × Option Word)) : (d.withHiLatch v).rdata = d.rdata := rfl
@[simp] theorem withHiLatch_loHold (v : List (Nat × Option Word)) : (d.withHiLatch v).loHold = d.loHold := rfl
@[simp] theorem withHiLatch_token (v : List (Nat × Option Word)) : (d.withHiLatch v).token = d.token := rfl
@[simp] theorem withHiLatch_north (v : List (Nat × Option Word)) : (d.withHiLatch v).north = d.north := rfl
@[simp] theorem withHiLatch_south (v : List (Nat × Option Word)) : (d.withHiLatch v).south = d.south := rfl
@[simp] theorem withHiLatch_transfer (v : List (Nat × Option Word)) : (d.withHiLatch v).transfer = d.transfer := rfl
@[simp] theorem withHiLatch_planned (v : List (Nat × Option Word)) : (d.withHiLatch v).planned = d.planned := rfl
@[simp] theorem withHiLatch_tokenAt (v : List (Nat × Option Word)) : (d.withHiLatch v).tokenAt = d.tokenAt := rfl
@[simp] theorem withHiLatch_host (v : List (Nat × Option Word)) : (d.withHiLatch v).host = d.host := rfl
@[simp] theorem withHiLatch_ledger (v : List (Nat × Option Word)) : (d.withHiLatch v).ledger = d.ledger := rfl
@[simp] theorem withHiLatch_kerb (v : List (Nat × Option Word)) : (d.withHiLatch v).kerb = d.kerb := rfl
@[simp] theorem withHiLatch_dlv (v : List (Nat × Option Word)) : (d.withHiLatch v).dlv = d.dlv := rfl
@[simp] theorem withHiLatch_tml (v : List (Nat × Option Word)) : (d.withHiLatch v).tml = d.tml := rfl
@[simp] theorem withHiLatch_sup (v : List (Nat × Option Word)) : (d.withHiLatch v).sup = d.sup := rfl
@[simp] theorem withHiLatch_ps (v : List (Nat × Option Word)) : (d.withHiLatch v).ps = d.ps := rfl
@[simp] theorem withHiLatch_flash (v : List (Nat × Option Word)) : (d.withHiLatch v).flash = d.flash := rfl
@[simp] theorem withHiLatch_boot (v : List (Nat × Option Word)) : (d.withHiLatch v).boot = d.boot := rfl
@[simp] theorem withHiLatch_clk (v : List (Nat × Option Word)) : (d.withHiLatch v).clk = d.clk := rfl
@[simp] theorem withHiLatch_pwr (v : List (Nat × Option Word)) : (d.withHiLatch v).pwr = d.pwr := rfl
@[simp] theorem withHiLatch_thm (v : List (Nat × Option Word)) : (d.withHiLatch v).thm = d.thm := rfl
@[simp] theorem withHiLatch_cns (v : List (Nat × Option Word)) : (d.withHiLatch v).cns = d.cns := rfl
@[simp] theorem withHiLatch_bmo (v : List (Nat × Option Word)) : (d.withHiLatch v).bmo = d.bmo := rfl
@[simp] theorem withHiLatch_synth (v : List (Nat × Option Word)) : (d.withHiLatch v).synth = d.synth := rfl
@[simp] theorem withHiLatch_ref (v : List (Nat × Option Word)) : (d.withHiLatch v).ref = d.ref := rfl
@[simp] theorem withHiLatch_port (v : List (Nat × Option Word)) : (d.withHiLatch v).port = d.port := rfl
@[simp] theorem withHiLatch_rgl (v : List (Nat × Option Word)) : (d.withHiLatch v).rgl = d.rgl := rfl
@[simp] theorem withHiLatch_mot (v : List (Nat × Option Word)) : (d.withHiLatch v).mot = d.mot := rfl
@[simp] theorem withHiLatch_axs (v : List (Nat × Option Word)) : (d.withHiLatch v).axs = d.axs := rfl
@[simp] theorem withHiLatch_params (v : List (Nat × Option Word)) : (d.withHiLatch v).params = d.params := rfl
@[simp] theorem withHiLatch_arc (v : List (Nat × Option Word)) : (d.withHiLatch v).arc = d.arc := rfl
@[simp] theorem withHiLatch_dma (v : List (Nat × Option Word)) : (d.withHiLatch v).dma = d.dma := rfl
@[simp] theorem withHiLatch_frees (v : List (Nat × Option Word)) : (d.withHiLatch v).frees = d.frees := rfl
@[simp] theorem withHiLatch_sramCe (v : List (Nat × Option Word)) : (d.withHiLatch v).sramCe = d.sramCe := rfl
@[simp] theorem withHiLatch_hiLatch (v : List (Nat × Option Word)) : (d.withHiLatch v).hiLatch = v := rfl

/-! `withLoHold` changes loHold alone. -/

@[simp] theorem withLoHold_now (v : List (Nat × Option Word)) : (d.withLoHold v).now = d.now := rfl
@[simp] theorem withLoHold_startAt (v : List (Nat × Option Word)) : (d.withLoHold v).startAt = d.startAt := rfl
@[simp] theorem withLoHold_st (v : List (Nat × Option Word)) : (d.withLoHold v).st = d.st := rfl
@[simp] theorem withLoHold_regs (v : List (Nat × Option Word)) : (d.withLoHold v).regs = d.regs := rfl
@[simp] theorem withLoHold_mem (v : List (Nat × Option Word)) : (d.withLoHold v).mem = d.mem := rfl
@[simp] theorem withLoHold_tables (v : List (Nat × Option Word)) : (d.withLoHold v).tables = d.tables := rfl
@[simp] theorem withLoHold_resp (v : List (Nat × Option Word)) : (d.withLoHold v).resp = d.resp := rfl
@[simp] theorem withLoHold_data (v : List (Nat × Option Word)) : (d.withLoHold v).data = d.data := rfl
@[simp] theorem withLoHold_rdata (v : List (Nat × Option Word)) : (d.withLoHold v).rdata = d.rdata := rfl
@[simp] theorem withLoHold_hiLatch (v : List (Nat × Option Word)) : (d.withLoHold v).hiLatch = d.hiLatch := rfl
@[simp] theorem withLoHold_token (v : List (Nat × Option Word)) : (d.withLoHold v).token = d.token := rfl
@[simp] theorem withLoHold_north (v : List (Nat × Option Word)) : (d.withLoHold v).north = d.north := rfl
@[simp] theorem withLoHold_south (v : List (Nat × Option Word)) : (d.withLoHold v).south = d.south := rfl
@[simp] theorem withLoHold_transfer (v : List (Nat × Option Word)) : (d.withLoHold v).transfer = d.transfer := rfl
@[simp] theorem withLoHold_planned (v : List (Nat × Option Word)) : (d.withLoHold v).planned = d.planned := rfl
@[simp] theorem withLoHold_tokenAt (v : List (Nat × Option Word)) : (d.withLoHold v).tokenAt = d.tokenAt := rfl
@[simp] theorem withLoHold_host (v : List (Nat × Option Word)) : (d.withLoHold v).host = d.host := rfl
@[simp] theorem withLoHold_ledger (v : List (Nat × Option Word)) : (d.withLoHold v).ledger = d.ledger := rfl
@[simp] theorem withLoHold_kerb (v : List (Nat × Option Word)) : (d.withLoHold v).kerb = d.kerb := rfl
@[simp] theorem withLoHold_dlv (v : List (Nat × Option Word)) : (d.withLoHold v).dlv = d.dlv := rfl
@[simp] theorem withLoHold_tml (v : List (Nat × Option Word)) : (d.withLoHold v).tml = d.tml := rfl
@[simp] theorem withLoHold_sup (v : List (Nat × Option Word)) : (d.withLoHold v).sup = d.sup := rfl
@[simp] theorem withLoHold_ps (v : List (Nat × Option Word)) : (d.withLoHold v).ps = d.ps := rfl
@[simp] theorem withLoHold_flash (v : List (Nat × Option Word)) : (d.withLoHold v).flash = d.flash := rfl
@[simp] theorem withLoHold_boot (v : List (Nat × Option Word)) : (d.withLoHold v).boot = d.boot := rfl
@[simp] theorem withLoHold_clk (v : List (Nat × Option Word)) : (d.withLoHold v).clk = d.clk := rfl
@[simp] theorem withLoHold_pwr (v : List (Nat × Option Word)) : (d.withLoHold v).pwr = d.pwr := rfl
@[simp] theorem withLoHold_thm (v : List (Nat × Option Word)) : (d.withLoHold v).thm = d.thm := rfl
@[simp] theorem withLoHold_cns (v : List (Nat × Option Word)) : (d.withLoHold v).cns = d.cns := rfl
@[simp] theorem withLoHold_bmo (v : List (Nat × Option Word)) : (d.withLoHold v).bmo = d.bmo := rfl
@[simp] theorem withLoHold_synth (v : List (Nat × Option Word)) : (d.withLoHold v).synth = d.synth := rfl
@[simp] theorem withLoHold_ref (v : List (Nat × Option Word)) : (d.withLoHold v).ref = d.ref := rfl
@[simp] theorem withLoHold_port (v : List (Nat × Option Word)) : (d.withLoHold v).port = d.port := rfl
@[simp] theorem withLoHold_rgl (v : List (Nat × Option Word)) : (d.withLoHold v).rgl = d.rgl := rfl
@[simp] theorem withLoHold_mot (v : List (Nat × Option Word)) : (d.withLoHold v).mot = d.mot := rfl
@[simp] theorem withLoHold_axs (v : List (Nat × Option Word)) : (d.withLoHold v).axs = d.axs := rfl
@[simp] theorem withLoHold_params (v : List (Nat × Option Word)) : (d.withLoHold v).params = d.params := rfl
@[simp] theorem withLoHold_arc (v : List (Nat × Option Word)) : (d.withLoHold v).arc = d.arc := rfl
@[simp] theorem withLoHold_dma (v : List (Nat × Option Word)) : (d.withLoHold v).dma = d.dma := rfl
@[simp] theorem withLoHold_frees (v : List (Nat × Option Word)) : (d.withLoHold v).frees = d.frees := rfl
@[simp] theorem withLoHold_sramCe (v : List (Nat × Option Word)) : (d.withLoHold v).sramCe = d.sramCe := rfl
@[simp] theorem withLoHold_loHold (v : List (Nat × Option Word)) : (d.withLoHold v).loHold = v := rfl

/-! `withRdata` changes rdata alone. -/

@[simp] theorem withRdata_now (v : List Byte) : (d.withRdata v).now = d.now := rfl
@[simp] theorem withRdata_startAt (v : List Byte) : (d.withRdata v).startAt = d.startAt := rfl
@[simp] theorem withRdata_st (v : List Byte) : (d.withRdata v).st = d.st := rfl
@[simp] theorem withRdata_regs (v : List Byte) : (d.withRdata v).regs = d.regs := rfl
@[simp] theorem withRdata_mem (v : List Byte) : (d.withRdata v).mem = d.mem := rfl
@[simp] theorem withRdata_tables (v : List Byte) : (d.withRdata v).tables = d.tables := rfl
@[simp] theorem withRdata_resp (v : List Byte) : (d.withRdata v).resp = d.resp := rfl
@[simp] theorem withRdata_data (v : List Byte) : (d.withRdata v).data = d.data := rfl
@[simp] theorem withRdata_hiLatch (v : List Byte) : (d.withRdata v).hiLatch = d.hiLatch := rfl
@[simp] theorem withRdata_loHold (v : List Byte) : (d.withRdata v).loHold = d.loHold := rfl
@[simp] theorem withRdata_token (v : List Byte) : (d.withRdata v).token = d.token := rfl
@[simp] theorem withRdata_north (v : List Byte) : (d.withRdata v).north = d.north := rfl
@[simp] theorem withRdata_south (v : List Byte) : (d.withRdata v).south = d.south := rfl
@[simp] theorem withRdata_transfer (v : List Byte) : (d.withRdata v).transfer = d.transfer := rfl
@[simp] theorem withRdata_planned (v : List Byte) : (d.withRdata v).planned = d.planned := rfl
@[simp] theorem withRdata_tokenAt (v : List Byte) : (d.withRdata v).tokenAt = d.tokenAt := rfl
@[simp] theorem withRdata_host (v : List Byte) : (d.withRdata v).host = d.host := rfl
@[simp] theorem withRdata_ledger (v : List Byte) : (d.withRdata v).ledger = d.ledger := rfl
@[simp] theorem withRdata_kerb (v : List Byte) : (d.withRdata v).kerb = d.kerb := rfl
@[simp] theorem withRdata_dlv (v : List Byte) : (d.withRdata v).dlv = d.dlv := rfl
@[simp] theorem withRdata_tml (v : List Byte) : (d.withRdata v).tml = d.tml := rfl
@[simp] theorem withRdata_sup (v : List Byte) : (d.withRdata v).sup = d.sup := rfl
@[simp] theorem withRdata_ps (v : List Byte) : (d.withRdata v).ps = d.ps := rfl
@[simp] theorem withRdata_flash (v : List Byte) : (d.withRdata v).flash = d.flash := rfl
@[simp] theorem withRdata_boot (v : List Byte) : (d.withRdata v).boot = d.boot := rfl
@[simp] theorem withRdata_clk (v : List Byte) : (d.withRdata v).clk = d.clk := rfl
@[simp] theorem withRdata_pwr (v : List Byte) : (d.withRdata v).pwr = d.pwr := rfl
@[simp] theorem withRdata_thm (v : List Byte) : (d.withRdata v).thm = d.thm := rfl
@[simp] theorem withRdata_cns (v : List Byte) : (d.withRdata v).cns = d.cns := rfl
@[simp] theorem withRdata_bmo (v : List Byte) : (d.withRdata v).bmo = d.bmo := rfl
@[simp] theorem withRdata_synth (v : List Byte) : (d.withRdata v).synth = d.synth := rfl
@[simp] theorem withRdata_ref (v : List Byte) : (d.withRdata v).ref = d.ref := rfl
@[simp] theorem withRdata_port (v : List Byte) : (d.withRdata v).port = d.port := rfl
@[simp] theorem withRdata_rgl (v : List Byte) : (d.withRdata v).rgl = d.rgl := rfl
@[simp] theorem withRdata_mot (v : List Byte) : (d.withRdata v).mot = d.mot := rfl
@[simp] theorem withRdata_axs (v : List Byte) : (d.withRdata v).axs = d.axs := rfl
@[simp] theorem withRdata_params (v : List Byte) : (d.withRdata v).params = d.params := rfl
@[simp] theorem withRdata_arc (v : List Byte) : (d.withRdata v).arc = d.arc := rfl
@[simp] theorem withRdata_dma (v : List Byte) : (d.withRdata v).dma = d.dma := rfl
@[simp] theorem withRdata_frees (v : List Byte) : (d.withRdata v).frees = d.frees := rfl
@[simp] theorem withRdata_sramCe (v : List Byte) : (d.withRdata v).sramCe = d.sramCe := rfl
@[simp] theorem withRdata_rdata (v : List Byte) : (d.withRdata v).rdata = v := rfl

/-! `withToken` changes token alone. -/

@[simp] theorem withToken_now (v : Option Side) : (d.withToken v).now = d.now := rfl
@[simp] theorem withToken_startAt (v : Option Side) : (d.withToken v).startAt = d.startAt := rfl
@[simp] theorem withToken_st (v : Option Side) : (d.withToken v).st = d.st := rfl
@[simp] theorem withToken_regs (v : Option Side) : (d.withToken v).regs = d.regs := rfl
@[simp] theorem withToken_mem (v : Option Side) : (d.withToken v).mem = d.mem := rfl
@[simp] theorem withToken_tables (v : Option Side) : (d.withToken v).tables = d.tables := rfl
@[simp] theorem withToken_resp (v : Option Side) : (d.withToken v).resp = d.resp := rfl
@[simp] theorem withToken_data (v : Option Side) : (d.withToken v).data = d.data := rfl
@[simp] theorem withToken_rdata (v : Option Side) : (d.withToken v).rdata = d.rdata := rfl
@[simp] theorem withToken_hiLatch (v : Option Side) : (d.withToken v).hiLatch = d.hiLatch := rfl
@[simp] theorem withToken_loHold (v : Option Side) : (d.withToken v).loHold = d.loHold := rfl
@[simp] theorem withToken_north (v : Option Side) : (d.withToken v).north = d.north := rfl
@[simp] theorem withToken_south (v : Option Side) : (d.withToken v).south = d.south := rfl
@[simp] theorem withToken_transfer (v : Option Side) : (d.withToken v).transfer = d.transfer := rfl
@[simp] theorem withToken_planned (v : Option Side) : (d.withToken v).planned = d.planned := rfl
@[simp] theorem withToken_tokenAt (v : Option Side) : (d.withToken v).tokenAt = d.tokenAt := rfl
@[simp] theorem withToken_host (v : Option Side) : (d.withToken v).host = d.host := rfl
@[simp] theorem withToken_ledger (v : Option Side) : (d.withToken v).ledger = d.ledger := rfl
@[simp] theorem withToken_kerb (v : Option Side) : (d.withToken v).kerb = d.kerb := rfl
@[simp] theorem withToken_dlv (v : Option Side) : (d.withToken v).dlv = d.dlv := rfl
@[simp] theorem withToken_tml (v : Option Side) : (d.withToken v).tml = d.tml := rfl
@[simp] theorem withToken_sup (v : Option Side) : (d.withToken v).sup = d.sup := rfl
@[simp] theorem withToken_ps (v : Option Side) : (d.withToken v).ps = d.ps := rfl
@[simp] theorem withToken_flash (v : Option Side) : (d.withToken v).flash = d.flash := rfl
@[simp] theorem withToken_boot (v : Option Side) : (d.withToken v).boot = d.boot := rfl
@[simp] theorem withToken_clk (v : Option Side) : (d.withToken v).clk = d.clk := rfl
@[simp] theorem withToken_pwr (v : Option Side) : (d.withToken v).pwr = d.pwr := rfl
@[simp] theorem withToken_thm (v : Option Side) : (d.withToken v).thm = d.thm := rfl
@[simp] theorem withToken_cns (v : Option Side) : (d.withToken v).cns = d.cns := rfl
@[simp] theorem withToken_bmo (v : Option Side) : (d.withToken v).bmo = d.bmo := rfl
@[simp] theorem withToken_synth (v : Option Side) : (d.withToken v).synth = d.synth := rfl
@[simp] theorem withToken_ref (v : Option Side) : (d.withToken v).ref = d.ref := rfl
@[simp] theorem withToken_port (v : Option Side) : (d.withToken v).port = d.port := rfl
@[simp] theorem withToken_rgl (v : Option Side) : (d.withToken v).rgl = d.rgl := rfl
@[simp] theorem withToken_mot (v : Option Side) : (d.withToken v).mot = d.mot := rfl
@[simp] theorem withToken_axs (v : Option Side) : (d.withToken v).axs = d.axs := rfl
@[simp] theorem withToken_params (v : Option Side) : (d.withToken v).params = d.params := rfl
@[simp] theorem withToken_arc (v : Option Side) : (d.withToken v).arc = d.arc := rfl
@[simp] theorem withToken_dma (v : Option Side) : (d.withToken v).dma = d.dma := rfl
@[simp] theorem withToken_frees (v : Option Side) : (d.withToken v).frees = d.frees := rfl
@[simp] theorem withToken_sramCe (v : Option Side) : (d.withToken v).sramCe = d.sramCe := rfl
@[simp] theorem withToken_token (v : Option Side) : (d.withToken v).token = v := rfl

/-! `modNorth` changes north alone. -/

@[simp] theorem modNorth_now (f : QuarterS → QuarterS) : (d.modNorth f).now = d.now := rfl
@[simp] theorem modNorth_startAt (f : QuarterS → QuarterS) : (d.modNorth f).startAt = d.startAt := rfl
@[simp] theorem modNorth_st (f : QuarterS → QuarterS) : (d.modNorth f).st = d.st := rfl
@[simp] theorem modNorth_regs (f : QuarterS → QuarterS) : (d.modNorth f).regs = d.regs := rfl
@[simp] theorem modNorth_mem (f : QuarterS → QuarterS) : (d.modNorth f).mem = d.mem := rfl
@[simp] theorem modNorth_tables (f : QuarterS → QuarterS) : (d.modNorth f).tables = d.tables := rfl
@[simp] theorem modNorth_resp (f : QuarterS → QuarterS) : (d.modNorth f).resp = d.resp := rfl
@[simp] theorem modNorth_data (f : QuarterS → QuarterS) : (d.modNorth f).data = d.data := rfl
@[simp] theorem modNorth_rdata (f : QuarterS → QuarterS) : (d.modNorth f).rdata = d.rdata := rfl
@[simp] theorem modNorth_hiLatch (f : QuarterS → QuarterS) : (d.modNorth f).hiLatch = d.hiLatch := rfl
@[simp] theorem modNorth_loHold (f : QuarterS → QuarterS) : (d.modNorth f).loHold = d.loHold := rfl
@[simp] theorem modNorth_token (f : QuarterS → QuarterS) : (d.modNorth f).token = d.token := rfl
@[simp] theorem modNorth_south (f : QuarterS → QuarterS) : (d.modNorth f).south = d.south := rfl
@[simp] theorem modNorth_transfer (f : QuarterS → QuarterS) : (d.modNorth f).transfer = d.transfer := rfl
@[simp] theorem modNorth_planned (f : QuarterS → QuarterS) : (d.modNorth f).planned = d.planned := rfl
@[simp] theorem modNorth_tokenAt (f : QuarterS → QuarterS) : (d.modNorth f).tokenAt = d.tokenAt := rfl
@[simp] theorem modNorth_host (f : QuarterS → QuarterS) : (d.modNorth f).host = d.host := rfl
@[simp] theorem modNorth_ledger (f : QuarterS → QuarterS) : (d.modNorth f).ledger = d.ledger := rfl
@[simp] theorem modNorth_kerb (f : QuarterS → QuarterS) : (d.modNorth f).kerb = d.kerb := rfl
@[simp] theorem modNorth_dlv (f : QuarterS → QuarterS) : (d.modNorth f).dlv = d.dlv := rfl
@[simp] theorem modNorth_tml (f : QuarterS → QuarterS) : (d.modNorth f).tml = d.tml := rfl
@[simp] theorem modNorth_sup (f : QuarterS → QuarterS) : (d.modNorth f).sup = d.sup := rfl
@[simp] theorem modNorth_ps (f : QuarterS → QuarterS) : (d.modNorth f).ps = d.ps := rfl
@[simp] theorem modNorth_flash (f : QuarterS → QuarterS) : (d.modNorth f).flash = d.flash := rfl
@[simp] theorem modNorth_boot (f : QuarterS → QuarterS) : (d.modNorth f).boot = d.boot := rfl
@[simp] theorem modNorth_clk (f : QuarterS → QuarterS) : (d.modNorth f).clk = d.clk := rfl
@[simp] theorem modNorth_pwr (f : QuarterS → QuarterS) : (d.modNorth f).pwr = d.pwr := rfl
@[simp] theorem modNorth_thm (f : QuarterS → QuarterS) : (d.modNorth f).thm = d.thm := rfl
@[simp] theorem modNorth_cns (f : QuarterS → QuarterS) : (d.modNorth f).cns = d.cns := rfl
@[simp] theorem modNorth_bmo (f : QuarterS → QuarterS) : (d.modNorth f).bmo = d.bmo := rfl
@[simp] theorem modNorth_synth (f : QuarterS → QuarterS) : (d.modNorth f).synth = d.synth := rfl
@[simp] theorem modNorth_ref (f : QuarterS → QuarterS) : (d.modNorth f).ref = d.ref := rfl
@[simp] theorem modNorth_port (f : QuarterS → QuarterS) : (d.modNorth f).port = d.port := rfl
@[simp] theorem modNorth_rgl (f : QuarterS → QuarterS) : (d.modNorth f).rgl = d.rgl := rfl
@[simp] theorem modNorth_mot (f : QuarterS → QuarterS) : (d.modNorth f).mot = d.mot := rfl
@[simp] theorem modNorth_axs (f : QuarterS → QuarterS) : (d.modNorth f).axs = d.axs := rfl
@[simp] theorem modNorth_params (f : QuarterS → QuarterS) : (d.modNorth f).params = d.params := rfl
@[simp] theorem modNorth_arc (f : QuarterS → QuarterS) : (d.modNorth f).arc = d.arc := rfl
@[simp] theorem modNorth_dma (f : QuarterS → QuarterS) : (d.modNorth f).dma = d.dma := rfl
@[simp] theorem modNorth_frees (f : QuarterS → QuarterS) : (d.modNorth f).frees = d.frees := rfl
@[simp] theorem modNorth_sramCe (f : QuarterS → QuarterS) : (d.modNorth f).sramCe = d.sramCe := rfl
@[simp] theorem modNorth_north (f : QuarterS → QuarterS) : (d.modNorth f).north = f d.north := rfl

/-! `modSouth` changes south alone. -/

@[simp] theorem modSouth_now (f : QuarterS → QuarterS) : (d.modSouth f).now = d.now := rfl
@[simp] theorem modSouth_startAt (f : QuarterS → QuarterS) : (d.modSouth f).startAt = d.startAt := rfl
@[simp] theorem modSouth_st (f : QuarterS → QuarterS) : (d.modSouth f).st = d.st := rfl
@[simp] theorem modSouth_regs (f : QuarterS → QuarterS) : (d.modSouth f).regs = d.regs := rfl
@[simp] theorem modSouth_mem (f : QuarterS → QuarterS) : (d.modSouth f).mem = d.mem := rfl
@[simp] theorem modSouth_tables (f : QuarterS → QuarterS) : (d.modSouth f).tables = d.tables := rfl
@[simp] theorem modSouth_resp (f : QuarterS → QuarterS) : (d.modSouth f).resp = d.resp := rfl
@[simp] theorem modSouth_data (f : QuarterS → QuarterS) : (d.modSouth f).data = d.data := rfl
@[simp] theorem modSouth_rdata (f : QuarterS → QuarterS) : (d.modSouth f).rdata = d.rdata := rfl
@[simp] theorem modSouth_hiLatch (f : QuarterS → QuarterS) : (d.modSouth f).hiLatch = d.hiLatch := rfl
@[simp] theorem modSouth_loHold (f : QuarterS → QuarterS) : (d.modSouth f).loHold = d.loHold := rfl
@[simp] theorem modSouth_token (f : QuarterS → QuarterS) : (d.modSouth f).token = d.token := rfl
@[simp] theorem modSouth_north (f : QuarterS → QuarterS) : (d.modSouth f).north = d.north := rfl
@[simp] theorem modSouth_transfer (f : QuarterS → QuarterS) : (d.modSouth f).transfer = d.transfer := rfl
@[simp] theorem modSouth_planned (f : QuarterS → QuarterS) : (d.modSouth f).planned = d.planned := rfl
@[simp] theorem modSouth_tokenAt (f : QuarterS → QuarterS) : (d.modSouth f).tokenAt = d.tokenAt := rfl
@[simp] theorem modSouth_host (f : QuarterS → QuarterS) : (d.modSouth f).host = d.host := rfl
@[simp] theorem modSouth_ledger (f : QuarterS → QuarterS) : (d.modSouth f).ledger = d.ledger := rfl
@[simp] theorem modSouth_kerb (f : QuarterS → QuarterS) : (d.modSouth f).kerb = d.kerb := rfl
@[simp] theorem modSouth_dlv (f : QuarterS → QuarterS) : (d.modSouth f).dlv = d.dlv := rfl
@[simp] theorem modSouth_tml (f : QuarterS → QuarterS) : (d.modSouth f).tml = d.tml := rfl
@[simp] theorem modSouth_sup (f : QuarterS → QuarterS) : (d.modSouth f).sup = d.sup := rfl
@[simp] theorem modSouth_ps (f : QuarterS → QuarterS) : (d.modSouth f).ps = d.ps := rfl
@[simp] theorem modSouth_flash (f : QuarterS → QuarterS) : (d.modSouth f).flash = d.flash := rfl
@[simp] theorem modSouth_boot (f : QuarterS → QuarterS) : (d.modSouth f).boot = d.boot := rfl
@[simp] theorem modSouth_clk (f : QuarterS → QuarterS) : (d.modSouth f).clk = d.clk := rfl
@[simp] theorem modSouth_pwr (f : QuarterS → QuarterS) : (d.modSouth f).pwr = d.pwr := rfl
@[simp] theorem modSouth_thm (f : QuarterS → QuarterS) : (d.modSouth f).thm = d.thm := rfl
@[simp] theorem modSouth_cns (f : QuarterS → QuarterS) : (d.modSouth f).cns = d.cns := rfl
@[simp] theorem modSouth_bmo (f : QuarterS → QuarterS) : (d.modSouth f).bmo = d.bmo := rfl
@[simp] theorem modSouth_synth (f : QuarterS → QuarterS) : (d.modSouth f).synth = d.synth := rfl
@[simp] theorem modSouth_ref (f : QuarterS → QuarterS) : (d.modSouth f).ref = d.ref := rfl
@[simp] theorem modSouth_port (f : QuarterS → QuarterS) : (d.modSouth f).port = d.port := rfl
@[simp] theorem modSouth_rgl (f : QuarterS → QuarterS) : (d.modSouth f).rgl = d.rgl := rfl
@[simp] theorem modSouth_mot (f : QuarterS → QuarterS) : (d.modSouth f).mot = d.mot := rfl
@[simp] theorem modSouth_axs (f : QuarterS → QuarterS) : (d.modSouth f).axs = d.axs := rfl
@[simp] theorem modSouth_params (f : QuarterS → QuarterS) : (d.modSouth f).params = d.params := rfl
@[simp] theorem modSouth_arc (f : QuarterS → QuarterS) : (d.modSouth f).arc = d.arc := rfl
@[simp] theorem modSouth_dma (f : QuarterS → QuarterS) : (d.modSouth f).dma = d.dma := rfl
@[simp] theorem modSouth_frees (f : QuarterS → QuarterS) : (d.modSouth f).frees = d.frees := rfl
@[simp] theorem modSouth_sramCe (f : QuarterS → QuarterS) : (d.modSouth f).sramCe = d.sramCe := rfl
@[simp] theorem modSouth_south (f : QuarterS → QuarterS) : (d.modSouth f).south = f d.south := rfl

/-! `withTransfer` changes transfer alone. -/

@[simp] theorem withTransfer_now (v : Option Transfer) : (d.withTransfer v).now = d.now := rfl
@[simp] theorem withTransfer_startAt (v : Option Transfer) : (d.withTransfer v).startAt = d.startAt := rfl
@[simp] theorem withTransfer_st (v : Option Transfer) : (d.withTransfer v).st = d.st := rfl
@[simp] theorem withTransfer_regs (v : Option Transfer) : (d.withTransfer v).regs = d.regs := rfl
@[simp] theorem withTransfer_mem (v : Option Transfer) : (d.withTransfer v).mem = d.mem := rfl
@[simp] theorem withTransfer_tables (v : Option Transfer) : (d.withTransfer v).tables = d.tables := rfl
@[simp] theorem withTransfer_resp (v : Option Transfer) : (d.withTransfer v).resp = d.resp := rfl
@[simp] theorem withTransfer_data (v : Option Transfer) : (d.withTransfer v).data = d.data := rfl
@[simp] theorem withTransfer_rdata (v : Option Transfer) : (d.withTransfer v).rdata = d.rdata := rfl
@[simp] theorem withTransfer_hiLatch (v : Option Transfer) : (d.withTransfer v).hiLatch = d.hiLatch := rfl
@[simp] theorem withTransfer_loHold (v : Option Transfer) : (d.withTransfer v).loHold = d.loHold := rfl
@[simp] theorem withTransfer_token (v : Option Transfer) : (d.withTransfer v).token = d.token := rfl
@[simp] theorem withTransfer_north (v : Option Transfer) : (d.withTransfer v).north = d.north := rfl
@[simp] theorem withTransfer_south (v : Option Transfer) : (d.withTransfer v).south = d.south := rfl
@[simp] theorem withTransfer_planned (v : Option Transfer) : (d.withTransfer v).planned = d.planned := rfl
@[simp] theorem withTransfer_tokenAt (v : Option Transfer) : (d.withTransfer v).tokenAt = d.tokenAt := rfl
@[simp] theorem withTransfer_host (v : Option Transfer) : (d.withTransfer v).host = d.host := rfl
@[simp] theorem withTransfer_ledger (v : Option Transfer) : (d.withTransfer v).ledger = d.ledger := rfl
@[simp] theorem withTransfer_kerb (v : Option Transfer) : (d.withTransfer v).kerb = d.kerb := rfl
@[simp] theorem withTransfer_dlv (v : Option Transfer) : (d.withTransfer v).dlv = d.dlv := rfl
@[simp] theorem withTransfer_tml (v : Option Transfer) : (d.withTransfer v).tml = d.tml := rfl
@[simp] theorem withTransfer_sup (v : Option Transfer) : (d.withTransfer v).sup = d.sup := rfl
@[simp] theorem withTransfer_ps (v : Option Transfer) : (d.withTransfer v).ps = d.ps := rfl
@[simp] theorem withTransfer_flash (v : Option Transfer) : (d.withTransfer v).flash = d.flash := rfl
@[simp] theorem withTransfer_boot (v : Option Transfer) : (d.withTransfer v).boot = d.boot := rfl
@[simp] theorem withTransfer_clk (v : Option Transfer) : (d.withTransfer v).clk = d.clk := rfl
@[simp] theorem withTransfer_pwr (v : Option Transfer) : (d.withTransfer v).pwr = d.pwr := rfl
@[simp] theorem withTransfer_thm (v : Option Transfer) : (d.withTransfer v).thm = d.thm := rfl
@[simp] theorem withTransfer_cns (v : Option Transfer) : (d.withTransfer v).cns = d.cns := rfl
@[simp] theorem withTransfer_bmo (v : Option Transfer) : (d.withTransfer v).bmo = d.bmo := rfl
@[simp] theorem withTransfer_synth (v : Option Transfer) : (d.withTransfer v).synth = d.synth := rfl
@[simp] theorem withTransfer_ref (v : Option Transfer) : (d.withTransfer v).ref = d.ref := rfl
@[simp] theorem withTransfer_port (v : Option Transfer) : (d.withTransfer v).port = d.port := rfl
@[simp] theorem withTransfer_rgl (v : Option Transfer) : (d.withTransfer v).rgl = d.rgl := rfl
@[simp] theorem withTransfer_mot (v : Option Transfer) : (d.withTransfer v).mot = d.mot := rfl
@[simp] theorem withTransfer_axs (v : Option Transfer) : (d.withTransfer v).axs = d.axs := rfl
@[simp] theorem withTransfer_params (v : Option Transfer) : (d.withTransfer v).params = d.params := rfl
@[simp] theorem withTransfer_arc (v : Option Transfer) : (d.withTransfer v).arc = d.arc := rfl
@[simp] theorem withTransfer_dma (v : Option Transfer) : (d.withTransfer v).dma = d.dma := rfl
@[simp] theorem withTransfer_frees (v : Option Transfer) : (d.withTransfer v).frees = d.frees := rfl
@[simp] theorem withTransfer_sramCe (v : Option Transfer) : (d.withTransfer v).sramCe = d.sramCe := rfl
@[simp] theorem withTransfer_transfer (v : Option Transfer) : (d.withTransfer v).transfer = v := rfl

/-! `withPlanned` changes planned alone. -/

@[simp] theorem withPlanned_now (v : Option Planned) : (d.withPlanned v).now = d.now := rfl
@[simp] theorem withPlanned_startAt (v : Option Planned) : (d.withPlanned v).startAt = d.startAt := rfl
@[simp] theorem withPlanned_st (v : Option Planned) : (d.withPlanned v).st = d.st := rfl
@[simp] theorem withPlanned_regs (v : Option Planned) : (d.withPlanned v).regs = d.regs := rfl
@[simp] theorem withPlanned_mem (v : Option Planned) : (d.withPlanned v).mem = d.mem := rfl
@[simp] theorem withPlanned_tables (v : Option Planned) : (d.withPlanned v).tables = d.tables := rfl
@[simp] theorem withPlanned_resp (v : Option Planned) : (d.withPlanned v).resp = d.resp := rfl
@[simp] theorem withPlanned_data (v : Option Planned) : (d.withPlanned v).data = d.data := rfl
@[simp] theorem withPlanned_rdata (v : Option Planned) : (d.withPlanned v).rdata = d.rdata := rfl
@[simp] theorem withPlanned_hiLatch (v : Option Planned) : (d.withPlanned v).hiLatch = d.hiLatch := rfl
@[simp] theorem withPlanned_loHold (v : Option Planned) : (d.withPlanned v).loHold = d.loHold := rfl
@[simp] theorem withPlanned_token (v : Option Planned) : (d.withPlanned v).token = d.token := rfl
@[simp] theorem withPlanned_north (v : Option Planned) : (d.withPlanned v).north = d.north := rfl
@[simp] theorem withPlanned_south (v : Option Planned) : (d.withPlanned v).south = d.south := rfl
@[simp] theorem withPlanned_transfer (v : Option Planned) : (d.withPlanned v).transfer = d.transfer := rfl
@[simp] theorem withPlanned_tokenAt (v : Option Planned) : (d.withPlanned v).tokenAt = d.tokenAt := rfl
@[simp] theorem withPlanned_host (v : Option Planned) : (d.withPlanned v).host = d.host := rfl
@[simp] theorem withPlanned_ledger (v : Option Planned) : (d.withPlanned v).ledger = d.ledger := rfl
@[simp] theorem withPlanned_kerb (v : Option Planned) : (d.withPlanned v).kerb = d.kerb := rfl
@[simp] theorem withPlanned_dlv (v : Option Planned) : (d.withPlanned v).dlv = d.dlv := rfl
@[simp] theorem withPlanned_tml (v : Option Planned) : (d.withPlanned v).tml = d.tml := rfl
@[simp] theorem withPlanned_sup (v : Option Planned) : (d.withPlanned v).sup = d.sup := rfl
@[simp] theorem withPlanned_ps (v : Option Planned) : (d.withPlanned v).ps = d.ps := rfl
@[simp] theorem withPlanned_flash (v : Option Planned) : (d.withPlanned v).flash = d.flash := rfl
@[simp] theorem withPlanned_boot (v : Option Planned) : (d.withPlanned v).boot = d.boot := rfl
@[simp] theorem withPlanned_clk (v : Option Planned) : (d.withPlanned v).clk = d.clk := rfl
@[simp] theorem withPlanned_pwr (v : Option Planned) : (d.withPlanned v).pwr = d.pwr := rfl
@[simp] theorem withPlanned_thm (v : Option Planned) : (d.withPlanned v).thm = d.thm := rfl
@[simp] theorem withPlanned_cns (v : Option Planned) : (d.withPlanned v).cns = d.cns := rfl
@[simp] theorem withPlanned_bmo (v : Option Planned) : (d.withPlanned v).bmo = d.bmo := rfl
@[simp] theorem withPlanned_synth (v : Option Planned) : (d.withPlanned v).synth = d.synth := rfl
@[simp] theorem withPlanned_ref (v : Option Planned) : (d.withPlanned v).ref = d.ref := rfl
@[simp] theorem withPlanned_port (v : Option Planned) : (d.withPlanned v).port = d.port := rfl
@[simp] theorem withPlanned_rgl (v : Option Planned) : (d.withPlanned v).rgl = d.rgl := rfl
@[simp] theorem withPlanned_mot (v : Option Planned) : (d.withPlanned v).mot = d.mot := rfl
@[simp] theorem withPlanned_axs (v : Option Planned) : (d.withPlanned v).axs = d.axs := rfl
@[simp] theorem withPlanned_params (v : Option Planned) : (d.withPlanned v).params = d.params := rfl
@[simp] theorem withPlanned_arc (v : Option Planned) : (d.withPlanned v).arc = d.arc := rfl
@[simp] theorem withPlanned_dma (v : Option Planned) : (d.withPlanned v).dma = d.dma := rfl
@[simp] theorem withPlanned_frees (v : Option Planned) : (d.withPlanned v).frees = d.frees := rfl
@[simp] theorem withPlanned_sramCe (v : Option Planned) : (d.withPlanned v).sramCe = d.sramCe := rfl
@[simp] theorem withPlanned_planned (v : Option Planned) : (d.withPlanned v).planned = v := rfl

/-! `withTokenAt` changes tokenAt alone. -/

@[simp] theorem withTokenAt_now (v : Nat) : (d.withTokenAt v).now = d.now := rfl
@[simp] theorem withTokenAt_startAt (v : Nat) : (d.withTokenAt v).startAt = d.startAt := rfl
@[simp] theorem withTokenAt_st (v : Nat) : (d.withTokenAt v).st = d.st := rfl
@[simp] theorem withTokenAt_regs (v : Nat) : (d.withTokenAt v).regs = d.regs := rfl
@[simp] theorem withTokenAt_mem (v : Nat) : (d.withTokenAt v).mem = d.mem := rfl
@[simp] theorem withTokenAt_tables (v : Nat) : (d.withTokenAt v).tables = d.tables := rfl
@[simp] theorem withTokenAt_resp (v : Nat) : (d.withTokenAt v).resp = d.resp := rfl
@[simp] theorem withTokenAt_data (v : Nat) : (d.withTokenAt v).data = d.data := rfl
@[simp] theorem withTokenAt_rdata (v : Nat) : (d.withTokenAt v).rdata = d.rdata := rfl
@[simp] theorem withTokenAt_hiLatch (v : Nat) : (d.withTokenAt v).hiLatch = d.hiLatch := rfl
@[simp] theorem withTokenAt_loHold (v : Nat) : (d.withTokenAt v).loHold = d.loHold := rfl
@[simp] theorem withTokenAt_token (v : Nat) : (d.withTokenAt v).token = d.token := rfl
@[simp] theorem withTokenAt_north (v : Nat) : (d.withTokenAt v).north = d.north := rfl
@[simp] theorem withTokenAt_south (v : Nat) : (d.withTokenAt v).south = d.south := rfl
@[simp] theorem withTokenAt_transfer (v : Nat) : (d.withTokenAt v).transfer = d.transfer := rfl
@[simp] theorem withTokenAt_planned (v : Nat) : (d.withTokenAt v).planned = d.planned := rfl
@[simp] theorem withTokenAt_host (v : Nat) : (d.withTokenAt v).host = d.host := rfl
@[simp] theorem withTokenAt_ledger (v : Nat) : (d.withTokenAt v).ledger = d.ledger := rfl
@[simp] theorem withTokenAt_kerb (v : Nat) : (d.withTokenAt v).kerb = d.kerb := rfl
@[simp] theorem withTokenAt_dlv (v : Nat) : (d.withTokenAt v).dlv = d.dlv := rfl
@[simp] theorem withTokenAt_tml (v : Nat) : (d.withTokenAt v).tml = d.tml := rfl
@[simp] theorem withTokenAt_sup (v : Nat) : (d.withTokenAt v).sup = d.sup := rfl
@[simp] theorem withTokenAt_ps (v : Nat) : (d.withTokenAt v).ps = d.ps := rfl
@[simp] theorem withTokenAt_flash (v : Nat) : (d.withTokenAt v).flash = d.flash := rfl
@[simp] theorem withTokenAt_boot (v : Nat) : (d.withTokenAt v).boot = d.boot := rfl
@[simp] theorem withTokenAt_clk (v : Nat) : (d.withTokenAt v).clk = d.clk := rfl
@[simp] theorem withTokenAt_pwr (v : Nat) : (d.withTokenAt v).pwr = d.pwr := rfl
@[simp] theorem withTokenAt_thm (v : Nat) : (d.withTokenAt v).thm = d.thm := rfl
@[simp] theorem withTokenAt_cns (v : Nat) : (d.withTokenAt v).cns = d.cns := rfl
@[simp] theorem withTokenAt_bmo (v : Nat) : (d.withTokenAt v).bmo = d.bmo := rfl
@[simp] theorem withTokenAt_synth (v : Nat) : (d.withTokenAt v).synth = d.synth := rfl
@[simp] theorem withTokenAt_ref (v : Nat) : (d.withTokenAt v).ref = d.ref := rfl
@[simp] theorem withTokenAt_port (v : Nat) : (d.withTokenAt v).port = d.port := rfl
@[simp] theorem withTokenAt_rgl (v : Nat) : (d.withTokenAt v).rgl = d.rgl := rfl
@[simp] theorem withTokenAt_mot (v : Nat) : (d.withTokenAt v).mot = d.mot := rfl
@[simp] theorem withTokenAt_axs (v : Nat) : (d.withTokenAt v).axs = d.axs := rfl
@[simp] theorem withTokenAt_params (v : Nat) : (d.withTokenAt v).params = d.params := rfl
@[simp] theorem withTokenAt_arc (v : Nat) : (d.withTokenAt v).arc = d.arc := rfl
@[simp] theorem withTokenAt_dma (v : Nat) : (d.withTokenAt v).dma = d.dma := rfl
@[simp] theorem withTokenAt_frees (v : Nat) : (d.withTokenAt v).frees = d.frees := rfl
@[simp] theorem withTokenAt_sramCe (v : Nat) : (d.withTokenAt v).sramCe = d.sramCe := rfl
@[simp] theorem withTokenAt_tokenAt (v : Nat) : (d.withTokenAt v).tokenAt = v := rfl

/-! `modHost` changes host alone. -/

@[simp] theorem modHost_now (f : HostIf → HostIf) : (d.modHost f).now = d.now := rfl
@[simp] theorem modHost_startAt (f : HostIf → HostIf) : (d.modHost f).startAt = d.startAt := rfl
@[simp] theorem modHost_st (f : HostIf → HostIf) : (d.modHost f).st = d.st := rfl
@[simp] theorem modHost_regs (f : HostIf → HostIf) : (d.modHost f).regs = d.regs := rfl
@[simp] theorem modHost_mem (f : HostIf → HostIf) : (d.modHost f).mem = d.mem := rfl
@[simp] theorem modHost_tables (f : HostIf → HostIf) : (d.modHost f).tables = d.tables := rfl
@[simp] theorem modHost_resp (f : HostIf → HostIf) : (d.modHost f).resp = d.resp := rfl
@[simp] theorem modHost_data (f : HostIf → HostIf) : (d.modHost f).data = d.data := rfl
@[simp] theorem modHost_rdata (f : HostIf → HostIf) : (d.modHost f).rdata = d.rdata := rfl
@[simp] theorem modHost_hiLatch (f : HostIf → HostIf) : (d.modHost f).hiLatch = d.hiLatch := rfl
@[simp] theorem modHost_loHold (f : HostIf → HostIf) : (d.modHost f).loHold = d.loHold := rfl
@[simp] theorem modHost_token (f : HostIf → HostIf) : (d.modHost f).token = d.token := rfl
@[simp] theorem modHost_north (f : HostIf → HostIf) : (d.modHost f).north = d.north := rfl
@[simp] theorem modHost_south (f : HostIf → HostIf) : (d.modHost f).south = d.south := rfl
@[simp] theorem modHost_transfer (f : HostIf → HostIf) : (d.modHost f).transfer = d.transfer := rfl
@[simp] theorem modHost_planned (f : HostIf → HostIf) : (d.modHost f).planned = d.planned := rfl
@[simp] theorem modHost_tokenAt (f : HostIf → HostIf) : (d.modHost f).tokenAt = d.tokenAt := rfl
@[simp] theorem modHost_ledger (f : HostIf → HostIf) : (d.modHost f).ledger = d.ledger := rfl
@[simp] theorem modHost_kerb (f : HostIf → HostIf) : (d.modHost f).kerb = d.kerb := rfl
@[simp] theorem modHost_dlv (f : HostIf → HostIf) : (d.modHost f).dlv = d.dlv := rfl
@[simp] theorem modHost_tml (f : HostIf → HostIf) : (d.modHost f).tml = d.tml := rfl
@[simp] theorem modHost_sup (f : HostIf → HostIf) : (d.modHost f).sup = d.sup := rfl
@[simp] theorem modHost_ps (f : HostIf → HostIf) : (d.modHost f).ps = d.ps := rfl
@[simp] theorem modHost_flash (f : HostIf → HostIf) : (d.modHost f).flash = d.flash := rfl
@[simp] theorem modHost_boot (f : HostIf → HostIf) : (d.modHost f).boot = d.boot := rfl
@[simp] theorem modHost_clk (f : HostIf → HostIf) : (d.modHost f).clk = d.clk := rfl
@[simp] theorem modHost_pwr (f : HostIf → HostIf) : (d.modHost f).pwr = d.pwr := rfl
@[simp] theorem modHost_thm (f : HostIf → HostIf) : (d.modHost f).thm = d.thm := rfl
@[simp] theorem modHost_cns (f : HostIf → HostIf) : (d.modHost f).cns = d.cns := rfl
@[simp] theorem modHost_bmo (f : HostIf → HostIf) : (d.modHost f).bmo = d.bmo := rfl
@[simp] theorem modHost_synth (f : HostIf → HostIf) : (d.modHost f).synth = d.synth := rfl
@[simp] theorem modHost_ref (f : HostIf → HostIf) : (d.modHost f).ref = d.ref := rfl
@[simp] theorem modHost_port (f : HostIf → HostIf) : (d.modHost f).port = d.port := rfl
@[simp] theorem modHost_rgl (f : HostIf → HostIf) : (d.modHost f).rgl = d.rgl := rfl
@[simp] theorem modHost_mot (f : HostIf → HostIf) : (d.modHost f).mot = d.mot := rfl
@[simp] theorem modHost_axs (f : HostIf → HostIf) : (d.modHost f).axs = d.axs := rfl
@[simp] theorem modHost_params (f : HostIf → HostIf) : (d.modHost f).params = d.params := rfl
@[simp] theorem modHost_arc (f : HostIf → HostIf) : (d.modHost f).arc = d.arc := rfl
@[simp] theorem modHost_dma (f : HostIf → HostIf) : (d.modHost f).dma = d.dma := rfl
@[simp] theorem modHost_frees (f : HostIf → HostIf) : (d.modHost f).frees = d.frees := rfl
@[simp] theorem modHost_sramCe (f : HostIf → HostIf) : (d.modHost f).sramCe = d.sramCe := rfl
@[simp] theorem modHost_host (f : HostIf → HostIf) : (d.modHost f).host = f d.host := rfl

/-! `modLedger` changes ledger alone. -/

@[simp] theorem modLedger_now (f : LedgerS → LedgerS) : (d.modLedger f).now = d.now := rfl
@[simp] theorem modLedger_startAt (f : LedgerS → LedgerS) : (d.modLedger f).startAt = d.startAt := rfl
@[simp] theorem modLedger_st (f : LedgerS → LedgerS) : (d.modLedger f).st = d.st := rfl
@[simp] theorem modLedger_regs (f : LedgerS → LedgerS) : (d.modLedger f).regs = d.regs := rfl
@[simp] theorem modLedger_mem (f : LedgerS → LedgerS) : (d.modLedger f).mem = d.mem := rfl
@[simp] theorem modLedger_tables (f : LedgerS → LedgerS) : (d.modLedger f).tables = d.tables := rfl
@[simp] theorem modLedger_resp (f : LedgerS → LedgerS) : (d.modLedger f).resp = d.resp := rfl
@[simp] theorem modLedger_data (f : LedgerS → LedgerS) : (d.modLedger f).data = d.data := rfl
@[simp] theorem modLedger_rdata (f : LedgerS → LedgerS) : (d.modLedger f).rdata = d.rdata := rfl
@[simp] theorem modLedger_hiLatch (f : LedgerS → LedgerS) : (d.modLedger f).hiLatch = d.hiLatch := rfl
@[simp] theorem modLedger_loHold (f : LedgerS → LedgerS) : (d.modLedger f).loHold = d.loHold := rfl
@[simp] theorem modLedger_token (f : LedgerS → LedgerS) : (d.modLedger f).token = d.token := rfl
@[simp] theorem modLedger_north (f : LedgerS → LedgerS) : (d.modLedger f).north = d.north := rfl
@[simp] theorem modLedger_south (f : LedgerS → LedgerS) : (d.modLedger f).south = d.south := rfl
@[simp] theorem modLedger_transfer (f : LedgerS → LedgerS) : (d.modLedger f).transfer = d.transfer := rfl
@[simp] theorem modLedger_planned (f : LedgerS → LedgerS) : (d.modLedger f).planned = d.planned := rfl
@[simp] theorem modLedger_tokenAt (f : LedgerS → LedgerS) : (d.modLedger f).tokenAt = d.tokenAt := rfl
@[simp] theorem modLedger_host (f : LedgerS → LedgerS) : (d.modLedger f).host = d.host := rfl
@[simp] theorem modLedger_kerb (f : LedgerS → LedgerS) : (d.modLedger f).kerb = d.kerb := rfl
@[simp] theorem modLedger_dlv (f : LedgerS → LedgerS) : (d.modLedger f).dlv = d.dlv := rfl
@[simp] theorem modLedger_tml (f : LedgerS → LedgerS) : (d.modLedger f).tml = d.tml := rfl
@[simp] theorem modLedger_sup (f : LedgerS → LedgerS) : (d.modLedger f).sup = d.sup := rfl
@[simp] theorem modLedger_ps (f : LedgerS → LedgerS) : (d.modLedger f).ps = d.ps := rfl
@[simp] theorem modLedger_flash (f : LedgerS → LedgerS) : (d.modLedger f).flash = d.flash := rfl
@[simp] theorem modLedger_boot (f : LedgerS → LedgerS) : (d.modLedger f).boot = d.boot := rfl
@[simp] theorem modLedger_clk (f : LedgerS → LedgerS) : (d.modLedger f).clk = d.clk := rfl
@[simp] theorem modLedger_pwr (f : LedgerS → LedgerS) : (d.modLedger f).pwr = d.pwr := rfl
@[simp] theorem modLedger_thm (f : LedgerS → LedgerS) : (d.modLedger f).thm = d.thm := rfl
@[simp] theorem modLedger_cns (f : LedgerS → LedgerS) : (d.modLedger f).cns = d.cns := rfl
@[simp] theorem modLedger_bmo (f : LedgerS → LedgerS) : (d.modLedger f).bmo = d.bmo := rfl
@[simp] theorem modLedger_synth (f : LedgerS → LedgerS) : (d.modLedger f).synth = d.synth := rfl
@[simp] theorem modLedger_ref (f : LedgerS → LedgerS) : (d.modLedger f).ref = d.ref := rfl
@[simp] theorem modLedger_port (f : LedgerS → LedgerS) : (d.modLedger f).port = d.port := rfl
@[simp] theorem modLedger_rgl (f : LedgerS → LedgerS) : (d.modLedger f).rgl = d.rgl := rfl
@[simp] theorem modLedger_mot (f : LedgerS → LedgerS) : (d.modLedger f).mot = d.mot := rfl
@[simp] theorem modLedger_axs (f : LedgerS → LedgerS) : (d.modLedger f).axs = d.axs := rfl
@[simp] theorem modLedger_params (f : LedgerS → LedgerS) : (d.modLedger f).params = d.params := rfl
@[simp] theorem modLedger_arc (f : LedgerS → LedgerS) : (d.modLedger f).arc = d.arc := rfl
@[simp] theorem modLedger_dma (f : LedgerS → LedgerS) : (d.modLedger f).dma = d.dma := rfl
@[simp] theorem modLedger_frees (f : LedgerS → LedgerS) : (d.modLedger f).frees = d.frees := rfl
@[simp] theorem modLedger_sramCe (f : LedgerS → LedgerS) : (d.modLedger f).sramCe = d.sramCe := rfl
@[simp] theorem modLedger_ledger (f : LedgerS → LedgerS) : (d.modLedger f).ledger = f d.ledger := rfl

/-! `modKerb` changes kerb alone. -/

@[simp] theorem modKerb_now (f : KerbS → KerbS) : (d.modKerb f).now = d.now := rfl
@[simp] theorem modKerb_startAt (f : KerbS → KerbS) : (d.modKerb f).startAt = d.startAt := rfl
@[simp] theorem modKerb_st (f : KerbS → KerbS) : (d.modKerb f).st = d.st := rfl
@[simp] theorem modKerb_regs (f : KerbS → KerbS) : (d.modKerb f).regs = d.regs := rfl
@[simp] theorem modKerb_mem (f : KerbS → KerbS) : (d.modKerb f).mem = d.mem := rfl
@[simp] theorem modKerb_tables (f : KerbS → KerbS) : (d.modKerb f).tables = d.tables := rfl
@[simp] theorem modKerb_resp (f : KerbS → KerbS) : (d.modKerb f).resp = d.resp := rfl
@[simp] theorem modKerb_data (f : KerbS → KerbS) : (d.modKerb f).data = d.data := rfl
@[simp] theorem modKerb_rdata (f : KerbS → KerbS) : (d.modKerb f).rdata = d.rdata := rfl
@[simp] theorem modKerb_hiLatch (f : KerbS → KerbS) : (d.modKerb f).hiLatch = d.hiLatch := rfl
@[simp] theorem modKerb_loHold (f : KerbS → KerbS) : (d.modKerb f).loHold = d.loHold := rfl
@[simp] theorem modKerb_token (f : KerbS → KerbS) : (d.modKerb f).token = d.token := rfl
@[simp] theorem modKerb_north (f : KerbS → KerbS) : (d.modKerb f).north = d.north := rfl
@[simp] theorem modKerb_south (f : KerbS → KerbS) : (d.modKerb f).south = d.south := rfl
@[simp] theorem modKerb_transfer (f : KerbS → KerbS) : (d.modKerb f).transfer = d.transfer := rfl
@[simp] theorem modKerb_planned (f : KerbS → KerbS) : (d.modKerb f).planned = d.planned := rfl
@[simp] theorem modKerb_tokenAt (f : KerbS → KerbS) : (d.modKerb f).tokenAt = d.tokenAt := rfl
@[simp] theorem modKerb_host (f : KerbS → KerbS) : (d.modKerb f).host = d.host := rfl
@[simp] theorem modKerb_ledger (f : KerbS → KerbS) : (d.modKerb f).ledger = d.ledger := rfl
@[simp] theorem modKerb_dlv (f : KerbS → KerbS) : (d.modKerb f).dlv = d.dlv := rfl
@[simp] theorem modKerb_tml (f : KerbS → KerbS) : (d.modKerb f).tml = d.tml := rfl
@[simp] theorem modKerb_sup (f : KerbS → KerbS) : (d.modKerb f).sup = d.sup := rfl
@[simp] theorem modKerb_ps (f : KerbS → KerbS) : (d.modKerb f).ps = d.ps := rfl
@[simp] theorem modKerb_flash (f : KerbS → KerbS) : (d.modKerb f).flash = d.flash := rfl
@[simp] theorem modKerb_boot (f : KerbS → KerbS) : (d.modKerb f).boot = d.boot := rfl
@[simp] theorem modKerb_clk (f : KerbS → KerbS) : (d.modKerb f).clk = d.clk := rfl
@[simp] theorem modKerb_pwr (f : KerbS → KerbS) : (d.modKerb f).pwr = d.pwr := rfl
@[simp] theorem modKerb_thm (f : KerbS → KerbS) : (d.modKerb f).thm = d.thm := rfl
@[simp] theorem modKerb_cns (f : KerbS → KerbS) : (d.modKerb f).cns = d.cns := rfl
@[simp] theorem modKerb_bmo (f : KerbS → KerbS) : (d.modKerb f).bmo = d.bmo := rfl
@[simp] theorem modKerb_synth (f : KerbS → KerbS) : (d.modKerb f).synth = d.synth := rfl
@[simp] theorem modKerb_ref (f : KerbS → KerbS) : (d.modKerb f).ref = d.ref := rfl
@[simp] theorem modKerb_port (f : KerbS → KerbS) : (d.modKerb f).port = d.port := rfl
@[simp] theorem modKerb_rgl (f : KerbS → KerbS) : (d.modKerb f).rgl = d.rgl := rfl
@[simp] theorem modKerb_mot (f : KerbS → KerbS) : (d.modKerb f).mot = d.mot := rfl
@[simp] theorem modKerb_axs (f : KerbS → KerbS) : (d.modKerb f).axs = d.axs := rfl
@[simp] theorem modKerb_params (f : KerbS → KerbS) : (d.modKerb f).params = d.params := rfl
@[simp] theorem modKerb_arc (f : KerbS → KerbS) : (d.modKerb f).arc = d.arc := rfl
@[simp] theorem modKerb_dma (f : KerbS → KerbS) : (d.modKerb f).dma = d.dma := rfl
@[simp] theorem modKerb_frees (f : KerbS → KerbS) : (d.modKerb f).frees = d.frees := rfl
@[simp] theorem modKerb_sramCe (f : KerbS → KerbS) : (d.modKerb f).sramCe = d.sramCe := rfl
@[simp] theorem modKerb_kerb (f : KerbS → KerbS) : (d.modKerb f).kerb = f d.kerb := rfl

/-! `modDlv` changes dlv alone. -/

@[simp] theorem modDlv_now (f : DeliveryS → DeliveryS) : (d.modDlv f).now = d.now := rfl
@[simp] theorem modDlv_startAt (f : DeliveryS → DeliveryS) : (d.modDlv f).startAt = d.startAt := rfl
@[simp] theorem modDlv_st (f : DeliveryS → DeliveryS) : (d.modDlv f).st = d.st := rfl
@[simp] theorem modDlv_regs (f : DeliveryS → DeliveryS) : (d.modDlv f).regs = d.regs := rfl
@[simp] theorem modDlv_mem (f : DeliveryS → DeliveryS) : (d.modDlv f).mem = d.mem := rfl
@[simp] theorem modDlv_tables (f : DeliveryS → DeliveryS) : (d.modDlv f).tables = d.tables := rfl
@[simp] theorem modDlv_resp (f : DeliveryS → DeliveryS) : (d.modDlv f).resp = d.resp := rfl
@[simp] theorem modDlv_data (f : DeliveryS → DeliveryS) : (d.modDlv f).data = d.data := rfl
@[simp] theorem modDlv_rdata (f : DeliveryS → DeliveryS) : (d.modDlv f).rdata = d.rdata := rfl
@[simp] theorem modDlv_hiLatch (f : DeliveryS → DeliveryS) : (d.modDlv f).hiLatch = d.hiLatch := rfl
@[simp] theorem modDlv_loHold (f : DeliveryS → DeliveryS) : (d.modDlv f).loHold = d.loHold := rfl
@[simp] theorem modDlv_token (f : DeliveryS → DeliveryS) : (d.modDlv f).token = d.token := rfl
@[simp] theorem modDlv_north (f : DeliveryS → DeliveryS) : (d.modDlv f).north = d.north := rfl
@[simp] theorem modDlv_south (f : DeliveryS → DeliveryS) : (d.modDlv f).south = d.south := rfl
@[simp] theorem modDlv_transfer (f : DeliveryS → DeliveryS) : (d.modDlv f).transfer = d.transfer := rfl
@[simp] theorem modDlv_planned (f : DeliveryS → DeliveryS) : (d.modDlv f).planned = d.planned := rfl
@[simp] theorem modDlv_tokenAt (f : DeliveryS → DeliveryS) : (d.modDlv f).tokenAt = d.tokenAt := rfl
@[simp] theorem modDlv_host (f : DeliveryS → DeliveryS) : (d.modDlv f).host = d.host := rfl
@[simp] theorem modDlv_ledger (f : DeliveryS → DeliveryS) : (d.modDlv f).ledger = d.ledger := rfl
@[simp] theorem modDlv_kerb (f : DeliveryS → DeliveryS) : (d.modDlv f).kerb = d.kerb := rfl
@[simp] theorem modDlv_tml (f : DeliveryS → DeliveryS) : (d.modDlv f).tml = d.tml := rfl
@[simp] theorem modDlv_sup (f : DeliveryS → DeliveryS) : (d.modDlv f).sup = d.sup := rfl
@[simp] theorem modDlv_ps (f : DeliveryS → DeliveryS) : (d.modDlv f).ps = d.ps := rfl
@[simp] theorem modDlv_flash (f : DeliveryS → DeliveryS) : (d.modDlv f).flash = d.flash := rfl
@[simp] theorem modDlv_boot (f : DeliveryS → DeliveryS) : (d.modDlv f).boot = d.boot := rfl
@[simp] theorem modDlv_clk (f : DeliveryS → DeliveryS) : (d.modDlv f).clk = d.clk := rfl
@[simp] theorem modDlv_pwr (f : DeliveryS → DeliveryS) : (d.modDlv f).pwr = d.pwr := rfl
@[simp] theorem modDlv_thm (f : DeliveryS → DeliveryS) : (d.modDlv f).thm = d.thm := rfl
@[simp] theorem modDlv_cns (f : DeliveryS → DeliveryS) : (d.modDlv f).cns = d.cns := rfl
@[simp] theorem modDlv_bmo (f : DeliveryS → DeliveryS) : (d.modDlv f).bmo = d.bmo := rfl
@[simp] theorem modDlv_synth (f : DeliveryS → DeliveryS) : (d.modDlv f).synth = d.synth := rfl
@[simp] theorem modDlv_ref (f : DeliveryS → DeliveryS) : (d.modDlv f).ref = d.ref := rfl
@[simp] theorem modDlv_port (f : DeliveryS → DeliveryS) : (d.modDlv f).port = d.port := rfl
@[simp] theorem modDlv_rgl (f : DeliveryS → DeliveryS) : (d.modDlv f).rgl = d.rgl := rfl
@[simp] theorem modDlv_mot (f : DeliveryS → DeliveryS) : (d.modDlv f).mot = d.mot := rfl
@[simp] theorem modDlv_axs (f : DeliveryS → DeliveryS) : (d.modDlv f).axs = d.axs := rfl
@[simp] theorem modDlv_params (f : DeliveryS → DeliveryS) : (d.modDlv f).params = d.params := rfl
@[simp] theorem modDlv_arc (f : DeliveryS → DeliveryS) : (d.modDlv f).arc = d.arc := rfl
@[simp] theorem modDlv_dma (f : DeliveryS → DeliveryS) : (d.modDlv f).dma = d.dma := rfl
@[simp] theorem modDlv_frees (f : DeliveryS → DeliveryS) : (d.modDlv f).frees = d.frees := rfl
@[simp] theorem modDlv_sramCe (f : DeliveryS → DeliveryS) : (d.modDlv f).sramCe = d.sramCe := rfl
@[simp] theorem modDlv_dlv (f : DeliveryS → DeliveryS) : (d.modDlv f).dlv = f d.dlv := rfl

/-! `modTml` changes tml alone. -/

@[simp] theorem modTml_now (f : TimelineS → TimelineS) : (d.modTml f).now = d.now := rfl
@[simp] theorem modTml_startAt (f : TimelineS → TimelineS) : (d.modTml f).startAt = d.startAt := rfl
@[simp] theorem modTml_st (f : TimelineS → TimelineS) : (d.modTml f).st = d.st := rfl
@[simp] theorem modTml_regs (f : TimelineS → TimelineS) : (d.modTml f).regs = d.regs := rfl
@[simp] theorem modTml_mem (f : TimelineS → TimelineS) : (d.modTml f).mem = d.mem := rfl
@[simp] theorem modTml_tables (f : TimelineS → TimelineS) : (d.modTml f).tables = d.tables := rfl
@[simp] theorem modTml_resp (f : TimelineS → TimelineS) : (d.modTml f).resp = d.resp := rfl
@[simp] theorem modTml_data (f : TimelineS → TimelineS) : (d.modTml f).data = d.data := rfl
@[simp] theorem modTml_rdata (f : TimelineS → TimelineS) : (d.modTml f).rdata = d.rdata := rfl
@[simp] theorem modTml_hiLatch (f : TimelineS → TimelineS) : (d.modTml f).hiLatch = d.hiLatch := rfl
@[simp] theorem modTml_loHold (f : TimelineS → TimelineS) : (d.modTml f).loHold = d.loHold := rfl
@[simp] theorem modTml_token (f : TimelineS → TimelineS) : (d.modTml f).token = d.token := rfl
@[simp] theorem modTml_north (f : TimelineS → TimelineS) : (d.modTml f).north = d.north := rfl
@[simp] theorem modTml_south (f : TimelineS → TimelineS) : (d.modTml f).south = d.south := rfl
@[simp] theorem modTml_transfer (f : TimelineS → TimelineS) : (d.modTml f).transfer = d.transfer := rfl
@[simp] theorem modTml_planned (f : TimelineS → TimelineS) : (d.modTml f).planned = d.planned := rfl
@[simp] theorem modTml_tokenAt (f : TimelineS → TimelineS) : (d.modTml f).tokenAt = d.tokenAt := rfl
@[simp] theorem modTml_host (f : TimelineS → TimelineS) : (d.modTml f).host = d.host := rfl
@[simp] theorem modTml_ledger (f : TimelineS → TimelineS) : (d.modTml f).ledger = d.ledger := rfl
@[simp] theorem modTml_kerb (f : TimelineS → TimelineS) : (d.modTml f).kerb = d.kerb := rfl
@[simp] theorem modTml_dlv (f : TimelineS → TimelineS) : (d.modTml f).dlv = d.dlv := rfl
@[simp] theorem modTml_sup (f : TimelineS → TimelineS) : (d.modTml f).sup = d.sup := rfl
@[simp] theorem modTml_ps (f : TimelineS → TimelineS) : (d.modTml f).ps = d.ps := rfl
@[simp] theorem modTml_flash (f : TimelineS → TimelineS) : (d.modTml f).flash = d.flash := rfl
@[simp] theorem modTml_boot (f : TimelineS → TimelineS) : (d.modTml f).boot = d.boot := rfl
@[simp] theorem modTml_clk (f : TimelineS → TimelineS) : (d.modTml f).clk = d.clk := rfl
@[simp] theorem modTml_pwr (f : TimelineS → TimelineS) : (d.modTml f).pwr = d.pwr := rfl
@[simp] theorem modTml_thm (f : TimelineS → TimelineS) : (d.modTml f).thm = d.thm := rfl
@[simp] theorem modTml_cns (f : TimelineS → TimelineS) : (d.modTml f).cns = d.cns := rfl
@[simp] theorem modTml_bmo (f : TimelineS → TimelineS) : (d.modTml f).bmo = d.bmo := rfl
@[simp] theorem modTml_synth (f : TimelineS → TimelineS) : (d.modTml f).synth = d.synth := rfl
@[simp] theorem modTml_ref (f : TimelineS → TimelineS) : (d.modTml f).ref = d.ref := rfl
@[simp] theorem modTml_port (f : TimelineS → TimelineS) : (d.modTml f).port = d.port := rfl
@[simp] theorem modTml_rgl (f : TimelineS → TimelineS) : (d.modTml f).rgl = d.rgl := rfl
@[simp] theorem modTml_mot (f : TimelineS → TimelineS) : (d.modTml f).mot = d.mot := rfl
@[simp] theorem modTml_axs (f : TimelineS → TimelineS) : (d.modTml f).axs = d.axs := rfl
@[simp] theorem modTml_params (f : TimelineS → TimelineS) : (d.modTml f).params = d.params := rfl
@[simp] theorem modTml_arc (f : TimelineS → TimelineS) : (d.modTml f).arc = d.arc := rfl
@[simp] theorem modTml_dma (f : TimelineS → TimelineS) : (d.modTml f).dma = d.dma := rfl
@[simp] theorem modTml_frees (f : TimelineS → TimelineS) : (d.modTml f).frees = d.frees := rfl
@[simp] theorem modTml_sramCe (f : TimelineS → TimelineS) : (d.modTml f).sramCe = d.sramCe := rfl
@[simp] theorem modTml_tml (f : TimelineS → TimelineS) : (d.modTml f).tml = f d.tml := rfl

/-! `withSup` changes sup alone. -/

@[simp] theorem withSup_now (v : List (Nat × RuleS)) : (d.withSup v).now = d.now := rfl
@[simp] theorem withSup_startAt (v : List (Nat × RuleS)) : (d.withSup v).startAt = d.startAt := rfl
@[simp] theorem withSup_st (v : List (Nat × RuleS)) : (d.withSup v).st = d.st := rfl
@[simp] theorem withSup_regs (v : List (Nat × RuleS)) : (d.withSup v).regs = d.regs := rfl
@[simp] theorem withSup_mem (v : List (Nat × RuleS)) : (d.withSup v).mem = d.mem := rfl
@[simp] theorem withSup_tables (v : List (Nat × RuleS)) : (d.withSup v).tables = d.tables := rfl
@[simp] theorem withSup_resp (v : List (Nat × RuleS)) : (d.withSup v).resp = d.resp := rfl
@[simp] theorem withSup_data (v : List (Nat × RuleS)) : (d.withSup v).data = d.data := rfl
@[simp] theorem withSup_rdata (v : List (Nat × RuleS)) : (d.withSup v).rdata = d.rdata := rfl
@[simp] theorem withSup_hiLatch (v : List (Nat × RuleS)) : (d.withSup v).hiLatch = d.hiLatch := rfl
@[simp] theorem withSup_loHold (v : List (Nat × RuleS)) : (d.withSup v).loHold = d.loHold := rfl
@[simp] theorem withSup_token (v : List (Nat × RuleS)) : (d.withSup v).token = d.token := rfl
@[simp] theorem withSup_north (v : List (Nat × RuleS)) : (d.withSup v).north = d.north := rfl
@[simp] theorem withSup_south (v : List (Nat × RuleS)) : (d.withSup v).south = d.south := rfl
@[simp] theorem withSup_transfer (v : List (Nat × RuleS)) : (d.withSup v).transfer = d.transfer := rfl
@[simp] theorem withSup_planned (v : List (Nat × RuleS)) : (d.withSup v).planned = d.planned := rfl
@[simp] theorem withSup_tokenAt (v : List (Nat × RuleS)) : (d.withSup v).tokenAt = d.tokenAt := rfl
@[simp] theorem withSup_host (v : List (Nat × RuleS)) : (d.withSup v).host = d.host := rfl
@[simp] theorem withSup_ledger (v : List (Nat × RuleS)) : (d.withSup v).ledger = d.ledger := rfl
@[simp] theorem withSup_kerb (v : List (Nat × RuleS)) : (d.withSup v).kerb = d.kerb := rfl
@[simp] theorem withSup_dlv (v : List (Nat × RuleS)) : (d.withSup v).dlv = d.dlv := rfl
@[simp] theorem withSup_tml (v : List (Nat × RuleS)) : (d.withSup v).tml = d.tml := rfl
@[simp] theorem withSup_ps (v : List (Nat × RuleS)) : (d.withSup v).ps = d.ps := rfl
@[simp] theorem withSup_flash (v : List (Nat × RuleS)) : (d.withSup v).flash = d.flash := rfl
@[simp] theorem withSup_boot (v : List (Nat × RuleS)) : (d.withSup v).boot = d.boot := rfl
@[simp] theorem withSup_clk (v : List (Nat × RuleS)) : (d.withSup v).clk = d.clk := rfl
@[simp] theorem withSup_pwr (v : List (Nat × RuleS)) : (d.withSup v).pwr = d.pwr := rfl
@[simp] theorem withSup_thm (v : List (Nat × RuleS)) : (d.withSup v).thm = d.thm := rfl
@[simp] theorem withSup_cns (v : List (Nat × RuleS)) : (d.withSup v).cns = d.cns := rfl
@[simp] theorem withSup_bmo (v : List (Nat × RuleS)) : (d.withSup v).bmo = d.bmo := rfl
@[simp] theorem withSup_synth (v : List (Nat × RuleS)) : (d.withSup v).synth = d.synth := rfl
@[simp] theorem withSup_ref (v : List (Nat × RuleS)) : (d.withSup v).ref = d.ref := rfl
@[simp] theorem withSup_port (v : List (Nat × RuleS)) : (d.withSup v).port = d.port := rfl
@[simp] theorem withSup_rgl (v : List (Nat × RuleS)) : (d.withSup v).rgl = d.rgl := rfl
@[simp] theorem withSup_mot (v : List (Nat × RuleS)) : (d.withSup v).mot = d.mot := rfl
@[simp] theorem withSup_axs (v : List (Nat × RuleS)) : (d.withSup v).axs = d.axs := rfl
@[simp] theorem withSup_params (v : List (Nat × RuleS)) : (d.withSup v).params = d.params := rfl
@[simp] theorem withSup_arc (v : List (Nat × RuleS)) : (d.withSup v).arc = d.arc := rfl
@[simp] theorem withSup_dma (v : List (Nat × RuleS)) : (d.withSup v).dma = d.dma := rfl
@[simp] theorem withSup_frees (v : List (Nat × RuleS)) : (d.withSup v).frees = d.frees := rfl
@[simp] theorem withSup_sramCe (v : List (Nat × RuleS)) : (d.withSup v).sramCe = d.sramCe := rfl
@[simp] theorem withSup_sup (v : List (Nat × RuleS)) : (d.withSup v).sup = v := rfl

/-! `modPs` changes ps alone. -/

@[simp] theorem modPs_now (f : StoreS → StoreS) : (d.modPs f).now = d.now := rfl
@[simp] theorem modPs_startAt (f : StoreS → StoreS) : (d.modPs f).startAt = d.startAt := rfl
@[simp] theorem modPs_st (f : StoreS → StoreS) : (d.modPs f).st = d.st := rfl
@[simp] theorem modPs_regs (f : StoreS → StoreS) : (d.modPs f).regs = d.regs := rfl
@[simp] theorem modPs_mem (f : StoreS → StoreS) : (d.modPs f).mem = d.mem := rfl
@[simp] theorem modPs_tables (f : StoreS → StoreS) : (d.modPs f).tables = d.tables := rfl
@[simp] theorem modPs_resp (f : StoreS → StoreS) : (d.modPs f).resp = d.resp := rfl
@[simp] theorem modPs_data (f : StoreS → StoreS) : (d.modPs f).data = d.data := rfl
@[simp] theorem modPs_rdata (f : StoreS → StoreS) : (d.modPs f).rdata = d.rdata := rfl
@[simp] theorem modPs_hiLatch (f : StoreS → StoreS) : (d.modPs f).hiLatch = d.hiLatch := rfl
@[simp] theorem modPs_loHold (f : StoreS → StoreS) : (d.modPs f).loHold = d.loHold := rfl
@[simp] theorem modPs_token (f : StoreS → StoreS) : (d.modPs f).token = d.token := rfl
@[simp] theorem modPs_north (f : StoreS → StoreS) : (d.modPs f).north = d.north := rfl
@[simp] theorem modPs_south (f : StoreS → StoreS) : (d.modPs f).south = d.south := rfl
@[simp] theorem modPs_transfer (f : StoreS → StoreS) : (d.modPs f).transfer = d.transfer := rfl
@[simp] theorem modPs_planned (f : StoreS → StoreS) : (d.modPs f).planned = d.planned := rfl
@[simp] theorem modPs_tokenAt (f : StoreS → StoreS) : (d.modPs f).tokenAt = d.tokenAt := rfl
@[simp] theorem modPs_host (f : StoreS → StoreS) : (d.modPs f).host = d.host := rfl
@[simp] theorem modPs_ledger (f : StoreS → StoreS) : (d.modPs f).ledger = d.ledger := rfl
@[simp] theorem modPs_kerb (f : StoreS → StoreS) : (d.modPs f).kerb = d.kerb := rfl
@[simp] theorem modPs_dlv (f : StoreS → StoreS) : (d.modPs f).dlv = d.dlv := rfl
@[simp] theorem modPs_tml (f : StoreS → StoreS) : (d.modPs f).tml = d.tml := rfl
@[simp] theorem modPs_sup (f : StoreS → StoreS) : (d.modPs f).sup = d.sup := rfl
@[simp] theorem modPs_flash (f : StoreS → StoreS) : (d.modPs f).flash = d.flash := rfl
@[simp] theorem modPs_boot (f : StoreS → StoreS) : (d.modPs f).boot = d.boot := rfl
@[simp] theorem modPs_clk (f : StoreS → StoreS) : (d.modPs f).clk = d.clk := rfl
@[simp] theorem modPs_pwr (f : StoreS → StoreS) : (d.modPs f).pwr = d.pwr := rfl
@[simp] theorem modPs_thm (f : StoreS → StoreS) : (d.modPs f).thm = d.thm := rfl
@[simp] theorem modPs_cns (f : StoreS → StoreS) : (d.modPs f).cns = d.cns := rfl
@[simp] theorem modPs_bmo (f : StoreS → StoreS) : (d.modPs f).bmo = d.bmo := rfl
@[simp] theorem modPs_synth (f : StoreS → StoreS) : (d.modPs f).synth = d.synth := rfl
@[simp] theorem modPs_ref (f : StoreS → StoreS) : (d.modPs f).ref = d.ref := rfl
@[simp] theorem modPs_port (f : StoreS → StoreS) : (d.modPs f).port = d.port := rfl
@[simp] theorem modPs_rgl (f : StoreS → StoreS) : (d.modPs f).rgl = d.rgl := rfl
@[simp] theorem modPs_mot (f : StoreS → StoreS) : (d.modPs f).mot = d.mot := rfl
@[simp] theorem modPs_axs (f : StoreS → StoreS) : (d.modPs f).axs = d.axs := rfl
@[simp] theorem modPs_params (f : StoreS → StoreS) : (d.modPs f).params = d.params := rfl
@[simp] theorem modPs_arc (f : StoreS → StoreS) : (d.modPs f).arc = d.arc := rfl
@[simp] theorem modPs_dma (f : StoreS → StoreS) : (d.modPs f).dma = d.dma := rfl
@[simp] theorem modPs_frees (f : StoreS → StoreS) : (d.modPs f).frees = d.frees := rfl
@[simp] theorem modPs_sramCe (f : StoreS → StoreS) : (d.modPs f).sramCe = d.sramCe := rfl
@[simp] theorem modPs_ps (f : StoreS → StoreS) : (d.modPs f).ps = f d.ps := rfl

/-! `modFlash` changes flash alone. -/

@[simp] theorem modFlash_now (f : Flash → Flash) : (d.modFlash f).now = d.now := rfl
@[simp] theorem modFlash_startAt (f : Flash → Flash) : (d.modFlash f).startAt = d.startAt := rfl
@[simp] theorem modFlash_st (f : Flash → Flash) : (d.modFlash f).st = d.st := rfl
@[simp] theorem modFlash_regs (f : Flash → Flash) : (d.modFlash f).regs = d.regs := rfl
@[simp] theorem modFlash_mem (f : Flash → Flash) : (d.modFlash f).mem = d.mem := rfl
@[simp] theorem modFlash_tables (f : Flash → Flash) : (d.modFlash f).tables = d.tables := rfl
@[simp] theorem modFlash_resp (f : Flash → Flash) : (d.modFlash f).resp = d.resp := rfl
@[simp] theorem modFlash_data (f : Flash → Flash) : (d.modFlash f).data = d.data := rfl
@[simp] theorem modFlash_rdata (f : Flash → Flash) : (d.modFlash f).rdata = d.rdata := rfl
@[simp] theorem modFlash_hiLatch (f : Flash → Flash) : (d.modFlash f).hiLatch = d.hiLatch := rfl
@[simp] theorem modFlash_loHold (f : Flash → Flash) : (d.modFlash f).loHold = d.loHold := rfl
@[simp] theorem modFlash_token (f : Flash → Flash) : (d.modFlash f).token = d.token := rfl
@[simp] theorem modFlash_north (f : Flash → Flash) : (d.modFlash f).north = d.north := rfl
@[simp] theorem modFlash_south (f : Flash → Flash) : (d.modFlash f).south = d.south := rfl
@[simp] theorem modFlash_transfer (f : Flash → Flash) : (d.modFlash f).transfer = d.transfer := rfl
@[simp] theorem modFlash_planned (f : Flash → Flash) : (d.modFlash f).planned = d.planned := rfl
@[simp] theorem modFlash_tokenAt (f : Flash → Flash) : (d.modFlash f).tokenAt = d.tokenAt := rfl
@[simp] theorem modFlash_host (f : Flash → Flash) : (d.modFlash f).host = d.host := rfl
@[simp] theorem modFlash_ledger (f : Flash → Flash) : (d.modFlash f).ledger = d.ledger := rfl
@[simp] theorem modFlash_kerb (f : Flash → Flash) : (d.modFlash f).kerb = d.kerb := rfl
@[simp] theorem modFlash_dlv (f : Flash → Flash) : (d.modFlash f).dlv = d.dlv := rfl
@[simp] theorem modFlash_tml (f : Flash → Flash) : (d.modFlash f).tml = d.tml := rfl
@[simp] theorem modFlash_sup (f : Flash → Flash) : (d.modFlash f).sup = d.sup := rfl
@[simp] theorem modFlash_ps (f : Flash → Flash) : (d.modFlash f).ps = d.ps := rfl
@[simp] theorem modFlash_boot (f : Flash → Flash) : (d.modFlash f).boot = d.boot := rfl
@[simp] theorem modFlash_clk (f : Flash → Flash) : (d.modFlash f).clk = d.clk := rfl
@[simp] theorem modFlash_pwr (f : Flash → Flash) : (d.modFlash f).pwr = d.pwr := rfl
@[simp] theorem modFlash_thm (f : Flash → Flash) : (d.modFlash f).thm = d.thm := rfl
@[simp] theorem modFlash_cns (f : Flash → Flash) : (d.modFlash f).cns = d.cns := rfl
@[simp] theorem modFlash_bmo (f : Flash → Flash) : (d.modFlash f).bmo = d.bmo := rfl
@[simp] theorem modFlash_synth (f : Flash → Flash) : (d.modFlash f).synth = d.synth := rfl
@[simp] theorem modFlash_ref (f : Flash → Flash) : (d.modFlash f).ref = d.ref := rfl
@[simp] theorem modFlash_port (f : Flash → Flash) : (d.modFlash f).port = d.port := rfl
@[simp] theorem modFlash_rgl (f : Flash → Flash) : (d.modFlash f).rgl = d.rgl := rfl
@[simp] theorem modFlash_mot (f : Flash → Flash) : (d.modFlash f).mot = d.mot := rfl
@[simp] theorem modFlash_axs (f : Flash → Flash) : (d.modFlash f).axs = d.axs := rfl
@[simp] theorem modFlash_params (f : Flash → Flash) : (d.modFlash f).params = d.params := rfl
@[simp] theorem modFlash_arc (f : Flash → Flash) : (d.modFlash f).arc = d.arc := rfl
@[simp] theorem modFlash_dma (f : Flash → Flash) : (d.modFlash f).dma = d.dma := rfl
@[simp] theorem modFlash_frees (f : Flash → Flash) : (d.modFlash f).frees = d.frees := rfl
@[simp] theorem modFlash_sramCe (f : Flash → Flash) : (d.modFlash f).sramCe = d.sramCe := rfl
@[simp] theorem modFlash_flash (f : Flash → Flash) : (d.modFlash f).flash = f d.flash := rfl

/-! `modBoot` changes boot alone. -/

@[simp] theorem modBoot_now (f : BootS → BootS) : (d.modBoot f).now = d.now := rfl
@[simp] theorem modBoot_startAt (f : BootS → BootS) : (d.modBoot f).startAt = d.startAt := rfl
@[simp] theorem modBoot_st (f : BootS → BootS) : (d.modBoot f).st = d.st := rfl
@[simp] theorem modBoot_regs (f : BootS → BootS) : (d.modBoot f).regs = d.regs := rfl
@[simp] theorem modBoot_mem (f : BootS → BootS) : (d.modBoot f).mem = d.mem := rfl
@[simp] theorem modBoot_tables (f : BootS → BootS) : (d.modBoot f).tables = d.tables := rfl
@[simp] theorem modBoot_resp (f : BootS → BootS) : (d.modBoot f).resp = d.resp := rfl
@[simp] theorem modBoot_data (f : BootS → BootS) : (d.modBoot f).data = d.data := rfl
@[simp] theorem modBoot_rdata (f : BootS → BootS) : (d.modBoot f).rdata = d.rdata := rfl
@[simp] theorem modBoot_hiLatch (f : BootS → BootS) : (d.modBoot f).hiLatch = d.hiLatch := rfl
@[simp] theorem modBoot_loHold (f : BootS → BootS) : (d.modBoot f).loHold = d.loHold := rfl
@[simp] theorem modBoot_token (f : BootS → BootS) : (d.modBoot f).token = d.token := rfl
@[simp] theorem modBoot_north (f : BootS → BootS) : (d.modBoot f).north = d.north := rfl
@[simp] theorem modBoot_south (f : BootS → BootS) : (d.modBoot f).south = d.south := rfl
@[simp] theorem modBoot_transfer (f : BootS → BootS) : (d.modBoot f).transfer = d.transfer := rfl
@[simp] theorem modBoot_planned (f : BootS → BootS) : (d.modBoot f).planned = d.planned := rfl
@[simp] theorem modBoot_tokenAt (f : BootS → BootS) : (d.modBoot f).tokenAt = d.tokenAt := rfl
@[simp] theorem modBoot_host (f : BootS → BootS) : (d.modBoot f).host = d.host := rfl
@[simp] theorem modBoot_ledger (f : BootS → BootS) : (d.modBoot f).ledger = d.ledger := rfl
@[simp] theorem modBoot_kerb (f : BootS → BootS) : (d.modBoot f).kerb = d.kerb := rfl
@[simp] theorem modBoot_dlv (f : BootS → BootS) : (d.modBoot f).dlv = d.dlv := rfl
@[simp] theorem modBoot_tml (f : BootS → BootS) : (d.modBoot f).tml = d.tml := rfl
@[simp] theorem modBoot_sup (f : BootS → BootS) : (d.modBoot f).sup = d.sup := rfl
@[simp] theorem modBoot_ps (f : BootS → BootS) : (d.modBoot f).ps = d.ps := rfl
@[simp] theorem modBoot_flash (f : BootS → BootS) : (d.modBoot f).flash = d.flash := rfl
@[simp] theorem modBoot_clk (f : BootS → BootS) : (d.modBoot f).clk = d.clk := rfl
@[simp] theorem modBoot_pwr (f : BootS → BootS) : (d.modBoot f).pwr = d.pwr := rfl
@[simp] theorem modBoot_thm (f : BootS → BootS) : (d.modBoot f).thm = d.thm := rfl
@[simp] theorem modBoot_cns (f : BootS → BootS) : (d.modBoot f).cns = d.cns := rfl
@[simp] theorem modBoot_bmo (f : BootS → BootS) : (d.modBoot f).bmo = d.bmo := rfl
@[simp] theorem modBoot_synth (f : BootS → BootS) : (d.modBoot f).synth = d.synth := rfl
@[simp] theorem modBoot_ref (f : BootS → BootS) : (d.modBoot f).ref = d.ref := rfl
@[simp] theorem modBoot_port (f : BootS → BootS) : (d.modBoot f).port = d.port := rfl
@[simp] theorem modBoot_rgl (f : BootS → BootS) : (d.modBoot f).rgl = d.rgl := rfl
@[simp] theorem modBoot_mot (f : BootS → BootS) : (d.modBoot f).mot = d.mot := rfl
@[simp] theorem modBoot_axs (f : BootS → BootS) : (d.modBoot f).axs = d.axs := rfl
@[simp] theorem modBoot_params (f : BootS → BootS) : (d.modBoot f).params = d.params := rfl
@[simp] theorem modBoot_arc (f : BootS → BootS) : (d.modBoot f).arc = d.arc := rfl
@[simp] theorem modBoot_dma (f : BootS → BootS) : (d.modBoot f).dma = d.dma := rfl
@[simp] theorem modBoot_frees (f : BootS → BootS) : (d.modBoot f).frees = d.frees := rfl
@[simp] theorem modBoot_sramCe (f : BootS → BootS) : (d.modBoot f).sramCe = d.sramCe := rfl
@[simp] theorem modBoot_boot (f : BootS → BootS) : (d.modBoot f).boot = f d.boot := rfl

/-! `modClk` changes clk alone. -/

@[simp] theorem modClk_now (f : ClockS → ClockS) : (d.modClk f).now = d.now := rfl
@[simp] theorem modClk_startAt (f : ClockS → ClockS) : (d.modClk f).startAt = d.startAt := rfl
@[simp] theorem modClk_st (f : ClockS → ClockS) : (d.modClk f).st = d.st := rfl
@[simp] theorem modClk_regs (f : ClockS → ClockS) : (d.modClk f).regs = d.regs := rfl
@[simp] theorem modClk_mem (f : ClockS → ClockS) : (d.modClk f).mem = d.mem := rfl
@[simp] theorem modClk_tables (f : ClockS → ClockS) : (d.modClk f).tables = d.tables := rfl
@[simp] theorem modClk_resp (f : ClockS → ClockS) : (d.modClk f).resp = d.resp := rfl
@[simp] theorem modClk_data (f : ClockS → ClockS) : (d.modClk f).data = d.data := rfl
@[simp] theorem modClk_rdata (f : ClockS → ClockS) : (d.modClk f).rdata = d.rdata := rfl
@[simp] theorem modClk_hiLatch (f : ClockS → ClockS) : (d.modClk f).hiLatch = d.hiLatch := rfl
@[simp] theorem modClk_loHold (f : ClockS → ClockS) : (d.modClk f).loHold = d.loHold := rfl
@[simp] theorem modClk_token (f : ClockS → ClockS) : (d.modClk f).token = d.token := rfl
@[simp] theorem modClk_north (f : ClockS → ClockS) : (d.modClk f).north = d.north := rfl
@[simp] theorem modClk_south (f : ClockS → ClockS) : (d.modClk f).south = d.south := rfl
@[simp] theorem modClk_transfer (f : ClockS → ClockS) : (d.modClk f).transfer = d.transfer := rfl
@[simp] theorem modClk_planned (f : ClockS → ClockS) : (d.modClk f).planned = d.planned := rfl
@[simp] theorem modClk_tokenAt (f : ClockS → ClockS) : (d.modClk f).tokenAt = d.tokenAt := rfl
@[simp] theorem modClk_host (f : ClockS → ClockS) : (d.modClk f).host = d.host := rfl
@[simp] theorem modClk_ledger (f : ClockS → ClockS) : (d.modClk f).ledger = d.ledger := rfl
@[simp] theorem modClk_kerb (f : ClockS → ClockS) : (d.modClk f).kerb = d.kerb := rfl
@[simp] theorem modClk_dlv (f : ClockS → ClockS) : (d.modClk f).dlv = d.dlv := rfl
@[simp] theorem modClk_tml (f : ClockS → ClockS) : (d.modClk f).tml = d.tml := rfl
@[simp] theorem modClk_sup (f : ClockS → ClockS) : (d.modClk f).sup = d.sup := rfl
@[simp] theorem modClk_ps (f : ClockS → ClockS) : (d.modClk f).ps = d.ps := rfl
@[simp] theorem modClk_flash (f : ClockS → ClockS) : (d.modClk f).flash = d.flash := rfl
@[simp] theorem modClk_boot (f : ClockS → ClockS) : (d.modClk f).boot = d.boot := rfl
@[simp] theorem modClk_pwr (f : ClockS → ClockS) : (d.modClk f).pwr = d.pwr := rfl
@[simp] theorem modClk_thm (f : ClockS → ClockS) : (d.modClk f).thm = d.thm := rfl
@[simp] theorem modClk_cns (f : ClockS → ClockS) : (d.modClk f).cns = d.cns := rfl
@[simp] theorem modClk_bmo (f : ClockS → ClockS) : (d.modClk f).bmo = d.bmo := rfl
@[simp] theorem modClk_synth (f : ClockS → ClockS) : (d.modClk f).synth = d.synth := rfl
@[simp] theorem modClk_ref (f : ClockS → ClockS) : (d.modClk f).ref = d.ref := rfl
@[simp] theorem modClk_port (f : ClockS → ClockS) : (d.modClk f).port = d.port := rfl
@[simp] theorem modClk_rgl (f : ClockS → ClockS) : (d.modClk f).rgl = d.rgl := rfl
@[simp] theorem modClk_mot (f : ClockS → ClockS) : (d.modClk f).mot = d.mot := rfl
@[simp] theorem modClk_axs (f : ClockS → ClockS) : (d.modClk f).axs = d.axs := rfl
@[simp] theorem modClk_params (f : ClockS → ClockS) : (d.modClk f).params = d.params := rfl
@[simp] theorem modClk_arc (f : ClockS → ClockS) : (d.modClk f).arc = d.arc := rfl
@[simp] theorem modClk_dma (f : ClockS → ClockS) : (d.modClk f).dma = d.dma := rfl
@[simp] theorem modClk_frees (f : ClockS → ClockS) : (d.modClk f).frees = d.frees := rfl
@[simp] theorem modClk_sramCe (f : ClockS → ClockS) : (d.modClk f).sramCe = d.sramCe := rfl
@[simp] theorem modClk_clk (f : ClockS → ClockS) : (d.modClk f).clk = f d.clk := rfl

/-! `modPwr` changes pwr alone. -/

@[simp] theorem modPwr_now (f : PowerS → PowerS) : (d.modPwr f).now = d.now := rfl
@[simp] theorem modPwr_startAt (f : PowerS → PowerS) : (d.modPwr f).startAt = d.startAt := rfl
@[simp] theorem modPwr_st (f : PowerS → PowerS) : (d.modPwr f).st = d.st := rfl
@[simp] theorem modPwr_regs (f : PowerS → PowerS) : (d.modPwr f).regs = d.regs := rfl
@[simp] theorem modPwr_mem (f : PowerS → PowerS) : (d.modPwr f).mem = d.mem := rfl
@[simp] theorem modPwr_tables (f : PowerS → PowerS) : (d.modPwr f).tables = d.tables := rfl
@[simp] theorem modPwr_resp (f : PowerS → PowerS) : (d.modPwr f).resp = d.resp := rfl
@[simp] theorem modPwr_data (f : PowerS → PowerS) : (d.modPwr f).data = d.data := rfl
@[simp] theorem modPwr_rdata (f : PowerS → PowerS) : (d.modPwr f).rdata = d.rdata := rfl
@[simp] theorem modPwr_hiLatch (f : PowerS → PowerS) : (d.modPwr f).hiLatch = d.hiLatch := rfl
@[simp] theorem modPwr_loHold (f : PowerS → PowerS) : (d.modPwr f).loHold = d.loHold := rfl
@[simp] theorem modPwr_token (f : PowerS → PowerS) : (d.modPwr f).token = d.token := rfl
@[simp] theorem modPwr_north (f : PowerS → PowerS) : (d.modPwr f).north = d.north := rfl
@[simp] theorem modPwr_south (f : PowerS → PowerS) : (d.modPwr f).south = d.south := rfl
@[simp] theorem modPwr_transfer (f : PowerS → PowerS) : (d.modPwr f).transfer = d.transfer := rfl
@[simp] theorem modPwr_planned (f : PowerS → PowerS) : (d.modPwr f).planned = d.planned := rfl
@[simp] theorem modPwr_tokenAt (f : PowerS → PowerS) : (d.modPwr f).tokenAt = d.tokenAt := rfl
@[simp] theorem modPwr_host (f : PowerS → PowerS) : (d.modPwr f).host = d.host := rfl
@[simp] theorem modPwr_ledger (f : PowerS → PowerS) : (d.modPwr f).ledger = d.ledger := rfl
@[simp] theorem modPwr_kerb (f : PowerS → PowerS) : (d.modPwr f).kerb = d.kerb := rfl
@[simp] theorem modPwr_dlv (f : PowerS → PowerS) : (d.modPwr f).dlv = d.dlv := rfl
@[simp] theorem modPwr_tml (f : PowerS → PowerS) : (d.modPwr f).tml = d.tml := rfl
@[simp] theorem modPwr_sup (f : PowerS → PowerS) : (d.modPwr f).sup = d.sup := rfl
@[simp] theorem modPwr_ps (f : PowerS → PowerS) : (d.modPwr f).ps = d.ps := rfl
@[simp] theorem modPwr_flash (f : PowerS → PowerS) : (d.modPwr f).flash = d.flash := rfl
@[simp] theorem modPwr_boot (f : PowerS → PowerS) : (d.modPwr f).boot = d.boot := rfl
@[simp] theorem modPwr_clk (f : PowerS → PowerS) : (d.modPwr f).clk = d.clk := rfl
@[simp] theorem modPwr_thm (f : PowerS → PowerS) : (d.modPwr f).thm = d.thm := rfl
@[simp] theorem modPwr_cns (f : PowerS → PowerS) : (d.modPwr f).cns = d.cns := rfl
@[simp] theorem modPwr_bmo (f : PowerS → PowerS) : (d.modPwr f).bmo = d.bmo := rfl
@[simp] theorem modPwr_synth (f : PowerS → PowerS) : (d.modPwr f).synth = d.synth := rfl
@[simp] theorem modPwr_ref (f : PowerS → PowerS) : (d.modPwr f).ref = d.ref := rfl
@[simp] theorem modPwr_port (f : PowerS → PowerS) : (d.modPwr f).port = d.port := rfl
@[simp] theorem modPwr_rgl (f : PowerS → PowerS) : (d.modPwr f).rgl = d.rgl := rfl
@[simp] theorem modPwr_mot (f : PowerS → PowerS) : (d.modPwr f).mot = d.mot := rfl
@[simp] theorem modPwr_axs (f : PowerS → PowerS) : (d.modPwr f).axs = d.axs := rfl
@[simp] theorem modPwr_params (f : PowerS → PowerS) : (d.modPwr f).params = d.params := rfl
@[simp] theorem modPwr_arc (f : PowerS → PowerS) : (d.modPwr f).arc = d.arc := rfl
@[simp] theorem modPwr_dma (f : PowerS → PowerS) : (d.modPwr f).dma = d.dma := rfl
@[simp] theorem modPwr_frees (f : PowerS → PowerS) : (d.modPwr f).frees = d.frees := rfl
@[simp] theorem modPwr_sramCe (f : PowerS → PowerS) : (d.modPwr f).sramCe = d.sramCe := rfl
@[simp] theorem modPwr_pwr (f : PowerS → PowerS) : (d.modPwr f).pwr = f d.pwr := rfl

/-! `modThm` changes thm alone. -/

@[simp] theorem modThm_now (f : ThermS → ThermS) : (d.modThm f).now = d.now := rfl
@[simp] theorem modThm_startAt (f : ThermS → ThermS) : (d.modThm f).startAt = d.startAt := rfl
@[simp] theorem modThm_st (f : ThermS → ThermS) : (d.modThm f).st = d.st := rfl
@[simp] theorem modThm_regs (f : ThermS → ThermS) : (d.modThm f).regs = d.regs := rfl
@[simp] theorem modThm_mem (f : ThermS → ThermS) : (d.modThm f).mem = d.mem := rfl
@[simp] theorem modThm_tables (f : ThermS → ThermS) : (d.modThm f).tables = d.tables := rfl
@[simp] theorem modThm_resp (f : ThermS → ThermS) : (d.modThm f).resp = d.resp := rfl
@[simp] theorem modThm_data (f : ThermS → ThermS) : (d.modThm f).data = d.data := rfl
@[simp] theorem modThm_rdata (f : ThermS → ThermS) : (d.modThm f).rdata = d.rdata := rfl
@[simp] theorem modThm_hiLatch (f : ThermS → ThermS) : (d.modThm f).hiLatch = d.hiLatch := rfl
@[simp] theorem modThm_loHold (f : ThermS → ThermS) : (d.modThm f).loHold = d.loHold := rfl
@[simp] theorem modThm_token (f : ThermS → ThermS) : (d.modThm f).token = d.token := rfl
@[simp] theorem modThm_north (f : ThermS → ThermS) : (d.modThm f).north = d.north := rfl
@[simp] theorem modThm_south (f : ThermS → ThermS) : (d.modThm f).south = d.south := rfl
@[simp] theorem modThm_transfer (f : ThermS → ThermS) : (d.modThm f).transfer = d.transfer := rfl
@[simp] theorem modThm_planned (f : ThermS → ThermS) : (d.modThm f).planned = d.planned := rfl
@[simp] theorem modThm_tokenAt (f : ThermS → ThermS) : (d.modThm f).tokenAt = d.tokenAt := rfl
@[simp] theorem modThm_host (f : ThermS → ThermS) : (d.modThm f).host = d.host := rfl
@[simp] theorem modThm_ledger (f : ThermS → ThermS) : (d.modThm f).ledger = d.ledger := rfl
@[simp] theorem modThm_kerb (f : ThermS → ThermS) : (d.modThm f).kerb = d.kerb := rfl
@[simp] theorem modThm_dlv (f : ThermS → ThermS) : (d.modThm f).dlv = d.dlv := rfl
@[simp] theorem modThm_tml (f : ThermS → ThermS) : (d.modThm f).tml = d.tml := rfl
@[simp] theorem modThm_sup (f : ThermS → ThermS) : (d.modThm f).sup = d.sup := rfl
@[simp] theorem modThm_ps (f : ThermS → ThermS) : (d.modThm f).ps = d.ps := rfl
@[simp] theorem modThm_flash (f : ThermS → ThermS) : (d.modThm f).flash = d.flash := rfl
@[simp] theorem modThm_boot (f : ThermS → ThermS) : (d.modThm f).boot = d.boot := rfl
@[simp] theorem modThm_clk (f : ThermS → ThermS) : (d.modThm f).clk = d.clk := rfl
@[simp] theorem modThm_pwr (f : ThermS → ThermS) : (d.modThm f).pwr = d.pwr := rfl
@[simp] theorem modThm_cns (f : ThermS → ThermS) : (d.modThm f).cns = d.cns := rfl
@[simp] theorem modThm_bmo (f : ThermS → ThermS) : (d.modThm f).bmo = d.bmo := rfl
@[simp] theorem modThm_synth (f : ThermS → ThermS) : (d.modThm f).synth = d.synth := rfl
@[simp] theorem modThm_ref (f : ThermS → ThermS) : (d.modThm f).ref = d.ref := rfl
@[simp] theorem modThm_port (f : ThermS → ThermS) : (d.modThm f).port = d.port := rfl
@[simp] theorem modThm_rgl (f : ThermS → ThermS) : (d.modThm f).rgl = d.rgl := rfl
@[simp] theorem modThm_mot (f : ThermS → ThermS) : (d.modThm f).mot = d.mot := rfl
@[simp] theorem modThm_axs (f : ThermS → ThermS) : (d.modThm f).axs = d.axs := rfl
@[simp] theorem modThm_params (f : ThermS → ThermS) : (d.modThm f).params = d.params := rfl
@[simp] theorem modThm_arc (f : ThermS → ThermS) : (d.modThm f).arc = d.arc := rfl
@[simp] theorem modThm_dma (f : ThermS → ThermS) : (d.modThm f).dma = d.dma := rfl
@[simp] theorem modThm_frees (f : ThermS → ThermS) : (d.modThm f).frees = d.frees := rfl
@[simp] theorem modThm_sramCe (f : ThermS → ThermS) : (d.modThm f).sramCe = d.sramCe := rfl
@[simp] theorem modThm_thm (f : ThermS → ThermS) : (d.modThm f).thm = f d.thm := rfl

/-! `modCns` changes cns alone. -/

@[simp] theorem modCns_now (f : CnsS → CnsS) : (d.modCns f).now = d.now := rfl
@[simp] theorem modCns_startAt (f : CnsS → CnsS) : (d.modCns f).startAt = d.startAt := rfl
@[simp] theorem modCns_st (f : CnsS → CnsS) : (d.modCns f).st = d.st := rfl
@[simp] theorem modCns_regs (f : CnsS → CnsS) : (d.modCns f).regs = d.regs := rfl
@[simp] theorem modCns_mem (f : CnsS → CnsS) : (d.modCns f).mem = d.mem := rfl
@[simp] theorem modCns_tables (f : CnsS → CnsS) : (d.modCns f).tables = d.tables := rfl
@[simp] theorem modCns_resp (f : CnsS → CnsS) : (d.modCns f).resp = d.resp := rfl
@[simp] theorem modCns_data (f : CnsS → CnsS) : (d.modCns f).data = d.data := rfl
@[simp] theorem modCns_rdata (f : CnsS → CnsS) : (d.modCns f).rdata = d.rdata := rfl
@[simp] theorem modCns_hiLatch (f : CnsS → CnsS) : (d.modCns f).hiLatch = d.hiLatch := rfl
@[simp] theorem modCns_loHold (f : CnsS → CnsS) : (d.modCns f).loHold = d.loHold := rfl
@[simp] theorem modCns_token (f : CnsS → CnsS) : (d.modCns f).token = d.token := rfl
@[simp] theorem modCns_north (f : CnsS → CnsS) : (d.modCns f).north = d.north := rfl
@[simp] theorem modCns_south (f : CnsS → CnsS) : (d.modCns f).south = d.south := rfl
@[simp] theorem modCns_transfer (f : CnsS → CnsS) : (d.modCns f).transfer = d.transfer := rfl
@[simp] theorem modCns_planned (f : CnsS → CnsS) : (d.modCns f).planned = d.planned := rfl
@[simp] theorem modCns_tokenAt (f : CnsS → CnsS) : (d.modCns f).tokenAt = d.tokenAt := rfl
@[simp] theorem modCns_host (f : CnsS → CnsS) : (d.modCns f).host = d.host := rfl
@[simp] theorem modCns_ledger (f : CnsS → CnsS) : (d.modCns f).ledger = d.ledger := rfl
@[simp] theorem modCns_kerb (f : CnsS → CnsS) : (d.modCns f).kerb = d.kerb := rfl
@[simp] theorem modCns_dlv (f : CnsS → CnsS) : (d.modCns f).dlv = d.dlv := rfl
@[simp] theorem modCns_tml (f : CnsS → CnsS) : (d.modCns f).tml = d.tml := rfl
@[simp] theorem modCns_sup (f : CnsS → CnsS) : (d.modCns f).sup = d.sup := rfl
@[simp] theorem modCns_ps (f : CnsS → CnsS) : (d.modCns f).ps = d.ps := rfl
@[simp] theorem modCns_flash (f : CnsS → CnsS) : (d.modCns f).flash = d.flash := rfl
@[simp] theorem modCns_boot (f : CnsS → CnsS) : (d.modCns f).boot = d.boot := rfl
@[simp] theorem modCns_clk (f : CnsS → CnsS) : (d.modCns f).clk = d.clk := rfl
@[simp] theorem modCns_pwr (f : CnsS → CnsS) : (d.modCns f).pwr = d.pwr := rfl
@[simp] theorem modCns_thm (f : CnsS → CnsS) : (d.modCns f).thm = d.thm := rfl
@[simp] theorem modCns_bmo (f : CnsS → CnsS) : (d.modCns f).bmo = d.bmo := rfl
@[simp] theorem modCns_synth (f : CnsS → CnsS) : (d.modCns f).synth = d.synth := rfl
@[simp] theorem modCns_ref (f : CnsS → CnsS) : (d.modCns f).ref = d.ref := rfl
@[simp] theorem modCns_port (f : CnsS → CnsS) : (d.modCns f).port = d.port := rfl
@[simp] theorem modCns_rgl (f : CnsS → CnsS) : (d.modCns f).rgl = d.rgl := rfl
@[simp] theorem modCns_mot (f : CnsS → CnsS) : (d.modCns f).mot = d.mot := rfl
@[simp] theorem modCns_axs (f : CnsS → CnsS) : (d.modCns f).axs = d.axs := rfl
@[simp] theorem modCns_params (f : CnsS → CnsS) : (d.modCns f).params = d.params := rfl
@[simp] theorem modCns_arc (f : CnsS → CnsS) : (d.modCns f).arc = d.arc := rfl
@[simp] theorem modCns_dma (f : CnsS → CnsS) : (d.modCns f).dma = d.dma := rfl
@[simp] theorem modCns_frees (f : CnsS → CnsS) : (d.modCns f).frees = d.frees := rfl
@[simp] theorem modCns_sramCe (f : CnsS → CnsS) : (d.modCns f).sramCe = d.sramCe := rfl
@[simp] theorem modCns_cns (f : CnsS → CnsS) : (d.modCns f).cns = f d.cns := rfl

/-! `modBmo` changes bmo alone. -/

@[simp] theorem modBmo_now (f : BeamS → BeamS) : (d.modBmo f).now = d.now := rfl
@[simp] theorem modBmo_startAt (f : BeamS → BeamS) : (d.modBmo f).startAt = d.startAt := rfl
@[simp] theorem modBmo_st (f : BeamS → BeamS) : (d.modBmo f).st = d.st := rfl
@[simp] theorem modBmo_regs (f : BeamS → BeamS) : (d.modBmo f).regs = d.regs := rfl
@[simp] theorem modBmo_mem (f : BeamS → BeamS) : (d.modBmo f).mem = d.mem := rfl
@[simp] theorem modBmo_tables (f : BeamS → BeamS) : (d.modBmo f).tables = d.tables := rfl
@[simp] theorem modBmo_resp (f : BeamS → BeamS) : (d.modBmo f).resp = d.resp := rfl
@[simp] theorem modBmo_data (f : BeamS → BeamS) : (d.modBmo f).data = d.data := rfl
@[simp] theorem modBmo_rdata (f : BeamS → BeamS) : (d.modBmo f).rdata = d.rdata := rfl
@[simp] theorem modBmo_hiLatch (f : BeamS → BeamS) : (d.modBmo f).hiLatch = d.hiLatch := rfl
@[simp] theorem modBmo_loHold (f : BeamS → BeamS) : (d.modBmo f).loHold = d.loHold := rfl
@[simp] theorem modBmo_token (f : BeamS → BeamS) : (d.modBmo f).token = d.token := rfl
@[simp] theorem modBmo_north (f : BeamS → BeamS) : (d.modBmo f).north = d.north := rfl
@[simp] theorem modBmo_south (f : BeamS → BeamS) : (d.modBmo f).south = d.south := rfl
@[simp] theorem modBmo_transfer (f : BeamS → BeamS) : (d.modBmo f).transfer = d.transfer := rfl
@[simp] theorem modBmo_planned (f : BeamS → BeamS) : (d.modBmo f).planned = d.planned := rfl
@[simp] theorem modBmo_tokenAt (f : BeamS → BeamS) : (d.modBmo f).tokenAt = d.tokenAt := rfl
@[simp] theorem modBmo_host (f : BeamS → BeamS) : (d.modBmo f).host = d.host := rfl
@[simp] theorem modBmo_ledger (f : BeamS → BeamS) : (d.modBmo f).ledger = d.ledger := rfl
@[simp] theorem modBmo_kerb (f : BeamS → BeamS) : (d.modBmo f).kerb = d.kerb := rfl
@[simp] theorem modBmo_dlv (f : BeamS → BeamS) : (d.modBmo f).dlv = d.dlv := rfl
@[simp] theorem modBmo_tml (f : BeamS → BeamS) : (d.modBmo f).tml = d.tml := rfl
@[simp] theorem modBmo_sup (f : BeamS → BeamS) : (d.modBmo f).sup = d.sup := rfl
@[simp] theorem modBmo_ps (f : BeamS → BeamS) : (d.modBmo f).ps = d.ps := rfl
@[simp] theorem modBmo_flash (f : BeamS → BeamS) : (d.modBmo f).flash = d.flash := rfl
@[simp] theorem modBmo_boot (f : BeamS → BeamS) : (d.modBmo f).boot = d.boot := rfl
@[simp] theorem modBmo_clk (f : BeamS → BeamS) : (d.modBmo f).clk = d.clk := rfl
@[simp] theorem modBmo_pwr (f : BeamS → BeamS) : (d.modBmo f).pwr = d.pwr := rfl
@[simp] theorem modBmo_thm (f : BeamS → BeamS) : (d.modBmo f).thm = d.thm := rfl
@[simp] theorem modBmo_cns (f : BeamS → BeamS) : (d.modBmo f).cns = d.cns := rfl
@[simp] theorem modBmo_synth (f : BeamS → BeamS) : (d.modBmo f).synth = d.synth := rfl
@[simp] theorem modBmo_ref (f : BeamS → BeamS) : (d.modBmo f).ref = d.ref := rfl
@[simp] theorem modBmo_port (f : BeamS → BeamS) : (d.modBmo f).port = d.port := rfl
@[simp] theorem modBmo_rgl (f : BeamS → BeamS) : (d.modBmo f).rgl = d.rgl := rfl
@[simp] theorem modBmo_mot (f : BeamS → BeamS) : (d.modBmo f).mot = d.mot := rfl
@[simp] theorem modBmo_axs (f : BeamS → BeamS) : (d.modBmo f).axs = d.axs := rfl
@[simp] theorem modBmo_params (f : BeamS → BeamS) : (d.modBmo f).params = d.params := rfl
@[simp] theorem modBmo_arc (f : BeamS → BeamS) : (d.modBmo f).arc = d.arc := rfl
@[simp] theorem modBmo_dma (f : BeamS → BeamS) : (d.modBmo f).dma = d.dma := rfl
@[simp] theorem modBmo_frees (f : BeamS → BeamS) : (d.modBmo f).frees = d.frees := rfl
@[simp] theorem modBmo_sramCe (f : BeamS → BeamS) : (d.modBmo f).sramCe = d.sramCe := rfl
@[simp] theorem modBmo_bmo (f : BeamS → BeamS) : (d.modBmo f).bmo = f d.bmo := rfl

/-! `withSynth` changes synth alone. -/

@[simp] theorem withSynth_now (v : List (Nat × SynthS)) : (d.withSynth v).now = d.now := rfl
@[simp] theorem withSynth_startAt (v : List (Nat × SynthS)) : (d.withSynth v).startAt = d.startAt := rfl
@[simp] theorem withSynth_st (v : List (Nat × SynthS)) : (d.withSynth v).st = d.st := rfl
@[simp] theorem withSynth_regs (v : List (Nat × SynthS)) : (d.withSynth v).regs = d.regs := rfl
@[simp] theorem withSynth_mem (v : List (Nat × SynthS)) : (d.withSynth v).mem = d.mem := rfl
@[simp] theorem withSynth_tables (v : List (Nat × SynthS)) : (d.withSynth v).tables = d.tables := rfl
@[simp] theorem withSynth_resp (v : List (Nat × SynthS)) : (d.withSynth v).resp = d.resp := rfl
@[simp] theorem withSynth_data (v : List (Nat × SynthS)) : (d.withSynth v).data = d.data := rfl
@[simp] theorem withSynth_rdata (v : List (Nat × SynthS)) : (d.withSynth v).rdata = d.rdata := rfl
@[simp] theorem withSynth_hiLatch (v : List (Nat × SynthS)) : (d.withSynth v).hiLatch = d.hiLatch := rfl
@[simp] theorem withSynth_loHold (v : List (Nat × SynthS)) : (d.withSynth v).loHold = d.loHold := rfl
@[simp] theorem withSynth_token (v : List (Nat × SynthS)) : (d.withSynth v).token = d.token := rfl
@[simp] theorem withSynth_north (v : List (Nat × SynthS)) : (d.withSynth v).north = d.north := rfl
@[simp] theorem withSynth_south (v : List (Nat × SynthS)) : (d.withSynth v).south = d.south := rfl
@[simp] theorem withSynth_transfer (v : List (Nat × SynthS)) : (d.withSynth v).transfer = d.transfer := rfl
@[simp] theorem withSynth_planned (v : List (Nat × SynthS)) : (d.withSynth v).planned = d.planned := rfl
@[simp] theorem withSynth_tokenAt (v : List (Nat × SynthS)) : (d.withSynth v).tokenAt = d.tokenAt := rfl
@[simp] theorem withSynth_host (v : List (Nat × SynthS)) : (d.withSynth v).host = d.host := rfl
@[simp] theorem withSynth_ledger (v : List (Nat × SynthS)) : (d.withSynth v).ledger = d.ledger := rfl
@[simp] theorem withSynth_kerb (v : List (Nat × SynthS)) : (d.withSynth v).kerb = d.kerb := rfl
@[simp] theorem withSynth_dlv (v : List (Nat × SynthS)) : (d.withSynth v).dlv = d.dlv := rfl
@[simp] theorem withSynth_tml (v : List (Nat × SynthS)) : (d.withSynth v).tml = d.tml := rfl
@[simp] theorem withSynth_sup (v : List (Nat × SynthS)) : (d.withSynth v).sup = d.sup := rfl
@[simp] theorem withSynth_ps (v : List (Nat × SynthS)) : (d.withSynth v).ps = d.ps := rfl
@[simp] theorem withSynth_flash (v : List (Nat × SynthS)) : (d.withSynth v).flash = d.flash := rfl
@[simp] theorem withSynth_boot (v : List (Nat × SynthS)) : (d.withSynth v).boot = d.boot := rfl
@[simp] theorem withSynth_clk (v : List (Nat × SynthS)) : (d.withSynth v).clk = d.clk := rfl
@[simp] theorem withSynth_pwr (v : List (Nat × SynthS)) : (d.withSynth v).pwr = d.pwr := rfl
@[simp] theorem withSynth_thm (v : List (Nat × SynthS)) : (d.withSynth v).thm = d.thm := rfl
@[simp] theorem withSynth_cns (v : List (Nat × SynthS)) : (d.withSynth v).cns = d.cns := rfl
@[simp] theorem withSynth_bmo (v : List (Nat × SynthS)) : (d.withSynth v).bmo = d.bmo := rfl
@[simp] theorem withSynth_ref (v : List (Nat × SynthS)) : (d.withSynth v).ref = d.ref := rfl
@[simp] theorem withSynth_port (v : List (Nat × SynthS)) : (d.withSynth v).port = d.port := rfl
@[simp] theorem withSynth_rgl (v : List (Nat × SynthS)) : (d.withSynth v).rgl = d.rgl := rfl
@[simp] theorem withSynth_mot (v : List (Nat × SynthS)) : (d.withSynth v).mot = d.mot := rfl
@[simp] theorem withSynth_axs (v : List (Nat × SynthS)) : (d.withSynth v).axs = d.axs := rfl
@[simp] theorem withSynth_params (v : List (Nat × SynthS)) : (d.withSynth v).params = d.params := rfl
@[simp] theorem withSynth_arc (v : List (Nat × SynthS)) : (d.withSynth v).arc = d.arc := rfl
@[simp] theorem withSynth_dma (v : List (Nat × SynthS)) : (d.withSynth v).dma = d.dma := rfl
@[simp] theorem withSynth_frees (v : List (Nat × SynthS)) : (d.withSynth v).frees = d.frees := rfl
@[simp] theorem withSynth_sramCe (v : List (Nat × SynthS)) : (d.withSynth v).sramCe = d.sramCe := rfl
@[simp] theorem withSynth_synth (v : List (Nat × SynthS)) : (d.withSynth v).synth = v := rfl

/-! `withRef` changes ref alone. -/

@[simp] theorem withRef_now (v : List (Nat × RefS)) : (d.withRef v).now = d.now := rfl
@[simp] theorem withRef_startAt (v : List (Nat × RefS)) : (d.withRef v).startAt = d.startAt := rfl
@[simp] theorem withRef_st (v : List (Nat × RefS)) : (d.withRef v).st = d.st := rfl
@[simp] theorem withRef_regs (v : List (Nat × RefS)) : (d.withRef v).regs = d.regs := rfl
@[simp] theorem withRef_mem (v : List (Nat × RefS)) : (d.withRef v).mem = d.mem := rfl
@[simp] theorem withRef_tables (v : List (Nat × RefS)) : (d.withRef v).tables = d.tables := rfl
@[simp] theorem withRef_resp (v : List (Nat × RefS)) : (d.withRef v).resp = d.resp := rfl
@[simp] theorem withRef_data (v : List (Nat × RefS)) : (d.withRef v).data = d.data := rfl
@[simp] theorem withRef_rdata (v : List (Nat × RefS)) : (d.withRef v).rdata = d.rdata := rfl
@[simp] theorem withRef_hiLatch (v : List (Nat × RefS)) : (d.withRef v).hiLatch = d.hiLatch := rfl
@[simp] theorem withRef_loHold (v : List (Nat × RefS)) : (d.withRef v).loHold = d.loHold := rfl
@[simp] theorem withRef_token (v : List (Nat × RefS)) : (d.withRef v).token = d.token := rfl
@[simp] theorem withRef_north (v : List (Nat × RefS)) : (d.withRef v).north = d.north := rfl
@[simp] theorem withRef_south (v : List (Nat × RefS)) : (d.withRef v).south = d.south := rfl
@[simp] theorem withRef_transfer (v : List (Nat × RefS)) : (d.withRef v).transfer = d.transfer := rfl
@[simp] theorem withRef_planned (v : List (Nat × RefS)) : (d.withRef v).planned = d.planned := rfl
@[simp] theorem withRef_tokenAt (v : List (Nat × RefS)) : (d.withRef v).tokenAt = d.tokenAt := rfl
@[simp] theorem withRef_host (v : List (Nat × RefS)) : (d.withRef v).host = d.host := rfl
@[simp] theorem withRef_ledger (v : List (Nat × RefS)) : (d.withRef v).ledger = d.ledger := rfl
@[simp] theorem withRef_kerb (v : List (Nat × RefS)) : (d.withRef v).kerb = d.kerb := rfl
@[simp] theorem withRef_dlv (v : List (Nat × RefS)) : (d.withRef v).dlv = d.dlv := rfl
@[simp] theorem withRef_tml (v : List (Nat × RefS)) : (d.withRef v).tml = d.tml := rfl
@[simp] theorem withRef_sup (v : List (Nat × RefS)) : (d.withRef v).sup = d.sup := rfl
@[simp] theorem withRef_ps (v : List (Nat × RefS)) : (d.withRef v).ps = d.ps := rfl
@[simp] theorem withRef_flash (v : List (Nat × RefS)) : (d.withRef v).flash = d.flash := rfl
@[simp] theorem withRef_boot (v : List (Nat × RefS)) : (d.withRef v).boot = d.boot := rfl
@[simp] theorem withRef_clk (v : List (Nat × RefS)) : (d.withRef v).clk = d.clk := rfl
@[simp] theorem withRef_pwr (v : List (Nat × RefS)) : (d.withRef v).pwr = d.pwr := rfl
@[simp] theorem withRef_thm (v : List (Nat × RefS)) : (d.withRef v).thm = d.thm := rfl
@[simp] theorem withRef_cns (v : List (Nat × RefS)) : (d.withRef v).cns = d.cns := rfl
@[simp] theorem withRef_bmo (v : List (Nat × RefS)) : (d.withRef v).bmo = d.bmo := rfl
@[simp] theorem withRef_synth (v : List (Nat × RefS)) : (d.withRef v).synth = d.synth := rfl
@[simp] theorem withRef_port (v : List (Nat × RefS)) : (d.withRef v).port = d.port := rfl
@[simp] theorem withRef_rgl (v : List (Nat × RefS)) : (d.withRef v).rgl = d.rgl := rfl
@[simp] theorem withRef_mot (v : List (Nat × RefS)) : (d.withRef v).mot = d.mot := rfl
@[simp] theorem withRef_axs (v : List (Nat × RefS)) : (d.withRef v).axs = d.axs := rfl
@[simp] theorem withRef_params (v : List (Nat × RefS)) : (d.withRef v).params = d.params := rfl
@[simp] theorem withRef_arc (v : List (Nat × RefS)) : (d.withRef v).arc = d.arc := rfl
@[simp] theorem withRef_dma (v : List (Nat × RefS)) : (d.withRef v).dma = d.dma := rfl
@[simp] theorem withRef_frees (v : List (Nat × RefS)) : (d.withRef v).frees = d.frees := rfl
@[simp] theorem withRef_sramCe (v : List (Nat × RefS)) : (d.withRef v).sramCe = d.sramCe := rfl
@[simp] theorem withRef_ref (v : List (Nat × RefS)) : (d.withRef v).ref = v := rfl

/-! `withPort` changes port alone. -/

@[simp] theorem withPort_now (v : List (Nat × PortS)) : (d.withPort v).now = d.now := rfl
@[simp] theorem withPort_startAt (v : List (Nat × PortS)) : (d.withPort v).startAt = d.startAt := rfl
@[simp] theorem withPort_st (v : List (Nat × PortS)) : (d.withPort v).st = d.st := rfl
@[simp] theorem withPort_regs (v : List (Nat × PortS)) : (d.withPort v).regs = d.regs := rfl
@[simp] theorem withPort_mem (v : List (Nat × PortS)) : (d.withPort v).mem = d.mem := rfl
@[simp] theorem withPort_tables (v : List (Nat × PortS)) : (d.withPort v).tables = d.tables := rfl
@[simp] theorem withPort_resp (v : List (Nat × PortS)) : (d.withPort v).resp = d.resp := rfl
@[simp] theorem withPort_data (v : List (Nat × PortS)) : (d.withPort v).data = d.data := rfl
@[simp] theorem withPort_rdata (v : List (Nat × PortS)) : (d.withPort v).rdata = d.rdata := rfl
@[simp] theorem withPort_hiLatch (v : List (Nat × PortS)) : (d.withPort v).hiLatch = d.hiLatch := rfl
@[simp] theorem withPort_loHold (v : List (Nat × PortS)) : (d.withPort v).loHold = d.loHold := rfl
@[simp] theorem withPort_token (v : List (Nat × PortS)) : (d.withPort v).token = d.token := rfl
@[simp] theorem withPort_north (v : List (Nat × PortS)) : (d.withPort v).north = d.north := rfl
@[simp] theorem withPort_south (v : List (Nat × PortS)) : (d.withPort v).south = d.south := rfl
@[simp] theorem withPort_transfer (v : List (Nat × PortS)) : (d.withPort v).transfer = d.transfer := rfl
@[simp] theorem withPort_planned (v : List (Nat × PortS)) : (d.withPort v).planned = d.planned := rfl
@[simp] theorem withPort_tokenAt (v : List (Nat × PortS)) : (d.withPort v).tokenAt = d.tokenAt := rfl
@[simp] theorem withPort_host (v : List (Nat × PortS)) : (d.withPort v).host = d.host := rfl
@[simp] theorem withPort_ledger (v : List (Nat × PortS)) : (d.withPort v).ledger = d.ledger := rfl
@[simp] theorem withPort_kerb (v : List (Nat × PortS)) : (d.withPort v).kerb = d.kerb := rfl
@[simp] theorem withPort_dlv (v : List (Nat × PortS)) : (d.withPort v).dlv = d.dlv := rfl
@[simp] theorem withPort_tml (v : List (Nat × PortS)) : (d.withPort v).tml = d.tml := rfl
@[simp] theorem withPort_sup (v : List (Nat × PortS)) : (d.withPort v).sup = d.sup := rfl
@[simp] theorem withPort_ps (v : List (Nat × PortS)) : (d.withPort v).ps = d.ps := rfl
@[simp] theorem withPort_flash (v : List (Nat × PortS)) : (d.withPort v).flash = d.flash := rfl
@[simp] theorem withPort_boot (v : List (Nat × PortS)) : (d.withPort v).boot = d.boot := rfl
@[simp] theorem withPort_clk (v : List (Nat × PortS)) : (d.withPort v).clk = d.clk := rfl
@[simp] theorem withPort_pwr (v : List (Nat × PortS)) : (d.withPort v).pwr = d.pwr := rfl
@[simp] theorem withPort_thm (v : List (Nat × PortS)) : (d.withPort v).thm = d.thm := rfl
@[simp] theorem withPort_cns (v : List (Nat × PortS)) : (d.withPort v).cns = d.cns := rfl
@[simp] theorem withPort_bmo (v : List (Nat × PortS)) : (d.withPort v).bmo = d.bmo := rfl
@[simp] theorem withPort_synth (v : List (Nat × PortS)) : (d.withPort v).synth = d.synth := rfl
@[simp] theorem withPort_ref (v : List (Nat × PortS)) : (d.withPort v).ref = d.ref := rfl
@[simp] theorem withPort_rgl (v : List (Nat × PortS)) : (d.withPort v).rgl = d.rgl := rfl
@[simp] theorem withPort_mot (v : List (Nat × PortS)) : (d.withPort v).mot = d.mot := rfl
@[simp] theorem withPort_axs (v : List (Nat × PortS)) : (d.withPort v).axs = d.axs := rfl
@[simp] theorem withPort_params (v : List (Nat × PortS)) : (d.withPort v).params = d.params := rfl
@[simp] theorem withPort_arc (v : List (Nat × PortS)) : (d.withPort v).arc = d.arc := rfl
@[simp] theorem withPort_dma (v : List (Nat × PortS)) : (d.withPort v).dma = d.dma := rfl
@[simp] theorem withPort_frees (v : List (Nat × PortS)) : (d.withPort v).frees = d.frees := rfl
@[simp] theorem withPort_sramCe (v : List (Nat × PortS)) : (d.withPort v).sramCe = d.sramCe := rfl
@[simp] theorem withPort_port (v : List (Nat × PortS)) : (d.withPort v).port = v := rfl

/-! `modRgl` changes rgl alone. -/

@[simp] theorem modRgl_now (f : RegulatorS → RegulatorS) : (d.modRgl f).now = d.now := rfl
@[simp] theorem modRgl_startAt (f : RegulatorS → RegulatorS) : (d.modRgl f).startAt = d.startAt := rfl
@[simp] theorem modRgl_st (f : RegulatorS → RegulatorS) : (d.modRgl f).st = d.st := rfl
@[simp] theorem modRgl_regs (f : RegulatorS → RegulatorS) : (d.modRgl f).regs = d.regs := rfl
@[simp] theorem modRgl_mem (f : RegulatorS → RegulatorS) : (d.modRgl f).mem = d.mem := rfl
@[simp] theorem modRgl_tables (f : RegulatorS → RegulatorS) : (d.modRgl f).tables = d.tables := rfl
@[simp] theorem modRgl_resp (f : RegulatorS → RegulatorS) : (d.modRgl f).resp = d.resp := rfl
@[simp] theorem modRgl_data (f : RegulatorS → RegulatorS) : (d.modRgl f).data = d.data := rfl
@[simp] theorem modRgl_rdata (f : RegulatorS → RegulatorS) : (d.modRgl f).rdata = d.rdata := rfl
@[simp] theorem modRgl_hiLatch (f : RegulatorS → RegulatorS) : (d.modRgl f).hiLatch = d.hiLatch := rfl
@[simp] theorem modRgl_loHold (f : RegulatorS → RegulatorS) : (d.modRgl f).loHold = d.loHold := rfl
@[simp] theorem modRgl_token (f : RegulatorS → RegulatorS) : (d.modRgl f).token = d.token := rfl
@[simp] theorem modRgl_north (f : RegulatorS → RegulatorS) : (d.modRgl f).north = d.north := rfl
@[simp] theorem modRgl_south (f : RegulatorS → RegulatorS) : (d.modRgl f).south = d.south := rfl
@[simp] theorem modRgl_transfer (f : RegulatorS → RegulatorS) : (d.modRgl f).transfer = d.transfer := rfl
@[simp] theorem modRgl_planned (f : RegulatorS → RegulatorS) : (d.modRgl f).planned = d.planned := rfl
@[simp] theorem modRgl_tokenAt (f : RegulatorS → RegulatorS) : (d.modRgl f).tokenAt = d.tokenAt := rfl
@[simp] theorem modRgl_host (f : RegulatorS → RegulatorS) : (d.modRgl f).host = d.host := rfl
@[simp] theorem modRgl_ledger (f : RegulatorS → RegulatorS) : (d.modRgl f).ledger = d.ledger := rfl
@[simp] theorem modRgl_kerb (f : RegulatorS → RegulatorS) : (d.modRgl f).kerb = d.kerb := rfl
@[simp] theorem modRgl_dlv (f : RegulatorS → RegulatorS) : (d.modRgl f).dlv = d.dlv := rfl
@[simp] theorem modRgl_tml (f : RegulatorS → RegulatorS) : (d.modRgl f).tml = d.tml := rfl
@[simp] theorem modRgl_sup (f : RegulatorS → RegulatorS) : (d.modRgl f).sup = d.sup := rfl
@[simp] theorem modRgl_ps (f : RegulatorS → RegulatorS) : (d.modRgl f).ps = d.ps := rfl
@[simp] theorem modRgl_flash (f : RegulatorS → RegulatorS) : (d.modRgl f).flash = d.flash := rfl
@[simp] theorem modRgl_boot (f : RegulatorS → RegulatorS) : (d.modRgl f).boot = d.boot := rfl
@[simp] theorem modRgl_clk (f : RegulatorS → RegulatorS) : (d.modRgl f).clk = d.clk := rfl
@[simp] theorem modRgl_pwr (f : RegulatorS → RegulatorS) : (d.modRgl f).pwr = d.pwr := rfl
@[simp] theorem modRgl_thm (f : RegulatorS → RegulatorS) : (d.modRgl f).thm = d.thm := rfl
@[simp] theorem modRgl_cns (f : RegulatorS → RegulatorS) : (d.modRgl f).cns = d.cns := rfl
@[simp] theorem modRgl_bmo (f : RegulatorS → RegulatorS) : (d.modRgl f).bmo = d.bmo := rfl
@[simp] theorem modRgl_synth (f : RegulatorS → RegulatorS) : (d.modRgl f).synth = d.synth := rfl
@[simp] theorem modRgl_ref (f : RegulatorS → RegulatorS) : (d.modRgl f).ref = d.ref := rfl
@[simp] theorem modRgl_port (f : RegulatorS → RegulatorS) : (d.modRgl f).port = d.port := rfl
@[simp] theorem modRgl_mot (f : RegulatorS → RegulatorS) : (d.modRgl f).mot = d.mot := rfl
@[simp] theorem modRgl_axs (f : RegulatorS → RegulatorS) : (d.modRgl f).axs = d.axs := rfl
@[simp] theorem modRgl_params (f : RegulatorS → RegulatorS) : (d.modRgl f).params = d.params := rfl
@[simp] theorem modRgl_arc (f : RegulatorS → RegulatorS) : (d.modRgl f).arc = d.arc := rfl
@[simp] theorem modRgl_dma (f : RegulatorS → RegulatorS) : (d.modRgl f).dma = d.dma := rfl
@[simp] theorem modRgl_frees (f : RegulatorS → RegulatorS) : (d.modRgl f).frees = d.frees := rfl
@[simp] theorem modRgl_sramCe (f : RegulatorS → RegulatorS) : (d.modRgl f).sramCe = d.sramCe := rfl
@[simp] theorem modRgl_rgl (f : RegulatorS → RegulatorS) : (d.modRgl f).rgl = f d.rgl := rfl

/-! `modMot` changes mot alone. -/

@[simp] theorem modMot_now (f : MotorS → MotorS) : (d.modMot f).now = d.now := rfl
@[simp] theorem modMot_startAt (f : MotorS → MotorS) : (d.modMot f).startAt = d.startAt := rfl
@[simp] theorem modMot_st (f : MotorS → MotorS) : (d.modMot f).st = d.st := rfl
@[simp] theorem modMot_regs (f : MotorS → MotorS) : (d.modMot f).regs = d.regs := rfl
@[simp] theorem modMot_mem (f : MotorS → MotorS) : (d.modMot f).mem = d.mem := rfl
@[simp] theorem modMot_tables (f : MotorS → MotorS) : (d.modMot f).tables = d.tables := rfl
@[simp] theorem modMot_resp (f : MotorS → MotorS) : (d.modMot f).resp = d.resp := rfl
@[simp] theorem modMot_data (f : MotorS → MotorS) : (d.modMot f).data = d.data := rfl
@[simp] theorem modMot_rdata (f : MotorS → MotorS) : (d.modMot f).rdata = d.rdata := rfl
@[simp] theorem modMot_hiLatch (f : MotorS → MotorS) : (d.modMot f).hiLatch = d.hiLatch := rfl
@[simp] theorem modMot_loHold (f : MotorS → MotorS) : (d.modMot f).loHold = d.loHold := rfl
@[simp] theorem modMot_token (f : MotorS → MotorS) : (d.modMot f).token = d.token := rfl
@[simp] theorem modMot_north (f : MotorS → MotorS) : (d.modMot f).north = d.north := rfl
@[simp] theorem modMot_south (f : MotorS → MotorS) : (d.modMot f).south = d.south := rfl
@[simp] theorem modMot_transfer (f : MotorS → MotorS) : (d.modMot f).transfer = d.transfer := rfl
@[simp] theorem modMot_planned (f : MotorS → MotorS) : (d.modMot f).planned = d.planned := rfl
@[simp] theorem modMot_tokenAt (f : MotorS → MotorS) : (d.modMot f).tokenAt = d.tokenAt := rfl
@[simp] theorem modMot_host (f : MotorS → MotorS) : (d.modMot f).host = d.host := rfl
@[simp] theorem modMot_ledger (f : MotorS → MotorS) : (d.modMot f).ledger = d.ledger := rfl
@[simp] theorem modMot_kerb (f : MotorS → MotorS) : (d.modMot f).kerb = d.kerb := rfl
@[simp] theorem modMot_dlv (f : MotorS → MotorS) : (d.modMot f).dlv = d.dlv := rfl
@[simp] theorem modMot_tml (f : MotorS → MotorS) : (d.modMot f).tml = d.tml := rfl
@[simp] theorem modMot_sup (f : MotorS → MotorS) : (d.modMot f).sup = d.sup := rfl
@[simp] theorem modMot_ps (f : MotorS → MotorS) : (d.modMot f).ps = d.ps := rfl
@[simp] theorem modMot_flash (f : MotorS → MotorS) : (d.modMot f).flash = d.flash := rfl
@[simp] theorem modMot_boot (f : MotorS → MotorS) : (d.modMot f).boot = d.boot := rfl
@[simp] theorem modMot_clk (f : MotorS → MotorS) : (d.modMot f).clk = d.clk := rfl
@[simp] theorem modMot_pwr (f : MotorS → MotorS) : (d.modMot f).pwr = d.pwr := rfl
@[simp] theorem modMot_thm (f : MotorS → MotorS) : (d.modMot f).thm = d.thm := rfl
@[simp] theorem modMot_cns (f : MotorS → MotorS) : (d.modMot f).cns = d.cns := rfl
@[simp] theorem modMot_bmo (f : MotorS → MotorS) : (d.modMot f).bmo = d.bmo := rfl
@[simp] theorem modMot_synth (f : MotorS → MotorS) : (d.modMot f).synth = d.synth := rfl
@[simp] theorem modMot_ref (f : MotorS → MotorS) : (d.modMot f).ref = d.ref := rfl
@[simp] theorem modMot_port (f : MotorS → MotorS) : (d.modMot f).port = d.port := rfl
@[simp] theorem modMot_rgl (f : MotorS → MotorS) : (d.modMot f).rgl = d.rgl := rfl
@[simp] theorem modMot_axs (f : MotorS → MotorS) : (d.modMot f).axs = d.axs := rfl
@[simp] theorem modMot_params (f : MotorS → MotorS) : (d.modMot f).params = d.params := rfl
@[simp] theorem modMot_arc (f : MotorS → MotorS) : (d.modMot f).arc = d.arc := rfl
@[simp] theorem modMot_dma (f : MotorS → MotorS) : (d.modMot f).dma = d.dma := rfl
@[simp] theorem modMot_frees (f : MotorS → MotorS) : (d.modMot f).frees = d.frees := rfl
@[simp] theorem modMot_sramCe (f : MotorS → MotorS) : (d.modMot f).sramCe = d.sramCe := rfl
@[simp] theorem modMot_mot (f : MotorS → MotorS) : (d.modMot f).mot = f d.mot := rfl

/-! `modAxs` changes axs alone. -/

@[simp] theorem modAxs_now (f : AxesS → AxesS) : (d.modAxs f).now = d.now := rfl
@[simp] theorem modAxs_startAt (f : AxesS → AxesS) : (d.modAxs f).startAt = d.startAt := rfl
@[simp] theorem modAxs_st (f : AxesS → AxesS) : (d.modAxs f).st = d.st := rfl
@[simp] theorem modAxs_regs (f : AxesS → AxesS) : (d.modAxs f).regs = d.regs := rfl
@[simp] theorem modAxs_mem (f : AxesS → AxesS) : (d.modAxs f).mem = d.mem := rfl
@[simp] theorem modAxs_tables (f : AxesS → AxesS) : (d.modAxs f).tables = d.tables := rfl
@[simp] theorem modAxs_resp (f : AxesS → AxesS) : (d.modAxs f).resp = d.resp := rfl
@[simp] theorem modAxs_data (f : AxesS → AxesS) : (d.modAxs f).data = d.data := rfl
@[simp] theorem modAxs_rdata (f : AxesS → AxesS) : (d.modAxs f).rdata = d.rdata := rfl
@[simp] theorem modAxs_hiLatch (f : AxesS → AxesS) : (d.modAxs f).hiLatch = d.hiLatch := rfl
@[simp] theorem modAxs_loHold (f : AxesS → AxesS) : (d.modAxs f).loHold = d.loHold := rfl
@[simp] theorem modAxs_token (f : AxesS → AxesS) : (d.modAxs f).token = d.token := rfl
@[simp] theorem modAxs_north (f : AxesS → AxesS) : (d.modAxs f).north = d.north := rfl
@[simp] theorem modAxs_south (f : AxesS → AxesS) : (d.modAxs f).south = d.south := rfl
@[simp] theorem modAxs_transfer (f : AxesS → AxesS) : (d.modAxs f).transfer = d.transfer := rfl
@[simp] theorem modAxs_planned (f : AxesS → AxesS) : (d.modAxs f).planned = d.planned := rfl
@[simp] theorem modAxs_tokenAt (f : AxesS → AxesS) : (d.modAxs f).tokenAt = d.tokenAt := rfl
@[simp] theorem modAxs_host (f : AxesS → AxesS) : (d.modAxs f).host = d.host := rfl
@[simp] theorem modAxs_ledger (f : AxesS → AxesS) : (d.modAxs f).ledger = d.ledger := rfl
@[simp] theorem modAxs_kerb (f : AxesS → AxesS) : (d.modAxs f).kerb = d.kerb := rfl
@[simp] theorem modAxs_dlv (f : AxesS → AxesS) : (d.modAxs f).dlv = d.dlv := rfl
@[simp] theorem modAxs_tml (f : AxesS → AxesS) : (d.modAxs f).tml = d.tml := rfl
@[simp] theorem modAxs_sup (f : AxesS → AxesS) : (d.modAxs f).sup = d.sup := rfl
@[simp] theorem modAxs_ps (f : AxesS → AxesS) : (d.modAxs f).ps = d.ps := rfl
@[simp] theorem modAxs_flash (f : AxesS → AxesS) : (d.modAxs f).flash = d.flash := rfl
@[simp] theorem modAxs_boot (f : AxesS → AxesS) : (d.modAxs f).boot = d.boot := rfl
@[simp] theorem modAxs_clk (f : AxesS → AxesS) : (d.modAxs f).clk = d.clk := rfl
@[simp] theorem modAxs_pwr (f : AxesS → AxesS) : (d.modAxs f).pwr = d.pwr := rfl
@[simp] theorem modAxs_thm (f : AxesS → AxesS) : (d.modAxs f).thm = d.thm := rfl
@[simp] theorem modAxs_cns (f : AxesS → AxesS) : (d.modAxs f).cns = d.cns := rfl
@[simp] theorem modAxs_bmo (f : AxesS → AxesS) : (d.modAxs f).bmo = d.bmo := rfl
@[simp] theorem modAxs_synth (f : AxesS → AxesS) : (d.modAxs f).synth = d.synth := rfl
@[simp] theorem modAxs_ref (f : AxesS → AxesS) : (d.modAxs f).ref = d.ref := rfl
@[simp] theorem modAxs_port (f : AxesS → AxesS) : (d.modAxs f).port = d.port := rfl
@[simp] theorem modAxs_rgl (f : AxesS → AxesS) : (d.modAxs f).rgl = d.rgl := rfl
@[simp] theorem modAxs_mot (f : AxesS → AxesS) : (d.modAxs f).mot = d.mot := rfl
@[simp] theorem modAxs_params (f : AxesS → AxesS) : (d.modAxs f).params = d.params := rfl
@[simp] theorem modAxs_arc (f : AxesS → AxesS) : (d.modAxs f).arc = d.arc := rfl
@[simp] theorem modAxs_dma (f : AxesS → AxesS) : (d.modAxs f).dma = d.dma := rfl
@[simp] theorem modAxs_frees (f : AxesS → AxesS) : (d.modAxs f).frees = d.frees := rfl
@[simp] theorem modAxs_sramCe (f : AxesS → AxesS) : (d.modAxs f).sramCe = d.sramCe := rfl
@[simp] theorem modAxs_axs (f : AxesS → AxesS) : (d.modAxs f).axs = f d.axs := rfl

/-! `withParams` changes params alone. -/

@[simp] theorem withParams_now (v : List (Nat × Word)) : (d.withParams v).now = d.now := rfl
@[simp] theorem withParams_startAt (v : List (Nat × Word)) : (d.withParams v).startAt = d.startAt := rfl
@[simp] theorem withParams_st (v : List (Nat × Word)) : (d.withParams v).st = d.st := rfl
@[simp] theorem withParams_regs (v : List (Nat × Word)) : (d.withParams v).regs = d.regs := rfl
@[simp] theorem withParams_mem (v : List (Nat × Word)) : (d.withParams v).mem = d.mem := rfl
@[simp] theorem withParams_tables (v : List (Nat × Word)) : (d.withParams v).tables = d.tables := rfl
@[simp] theorem withParams_resp (v : List (Nat × Word)) : (d.withParams v).resp = d.resp := rfl
@[simp] theorem withParams_data (v : List (Nat × Word)) : (d.withParams v).data = d.data := rfl
@[simp] theorem withParams_rdata (v : List (Nat × Word)) : (d.withParams v).rdata = d.rdata := rfl
@[simp] theorem withParams_hiLatch (v : List (Nat × Word)) : (d.withParams v).hiLatch = d.hiLatch := rfl
@[simp] theorem withParams_loHold (v : List (Nat × Word)) : (d.withParams v).loHold = d.loHold := rfl
@[simp] theorem withParams_token (v : List (Nat × Word)) : (d.withParams v).token = d.token := rfl
@[simp] theorem withParams_north (v : List (Nat × Word)) : (d.withParams v).north = d.north := rfl
@[simp] theorem withParams_south (v : List (Nat × Word)) : (d.withParams v).south = d.south := rfl
@[simp] theorem withParams_transfer (v : List (Nat × Word)) : (d.withParams v).transfer = d.transfer := rfl
@[simp] theorem withParams_planned (v : List (Nat × Word)) : (d.withParams v).planned = d.planned := rfl
@[simp] theorem withParams_tokenAt (v : List (Nat × Word)) : (d.withParams v).tokenAt = d.tokenAt := rfl
@[simp] theorem withParams_host (v : List (Nat × Word)) : (d.withParams v).host = d.host := rfl
@[simp] theorem withParams_ledger (v : List (Nat × Word)) : (d.withParams v).ledger = d.ledger := rfl
@[simp] theorem withParams_kerb (v : List (Nat × Word)) : (d.withParams v).kerb = d.kerb := rfl
@[simp] theorem withParams_dlv (v : List (Nat × Word)) : (d.withParams v).dlv = d.dlv := rfl
@[simp] theorem withParams_tml (v : List (Nat × Word)) : (d.withParams v).tml = d.tml := rfl
@[simp] theorem withParams_sup (v : List (Nat × Word)) : (d.withParams v).sup = d.sup := rfl
@[simp] theorem withParams_ps (v : List (Nat × Word)) : (d.withParams v).ps = d.ps := rfl
@[simp] theorem withParams_flash (v : List (Nat × Word)) : (d.withParams v).flash = d.flash := rfl
@[simp] theorem withParams_boot (v : List (Nat × Word)) : (d.withParams v).boot = d.boot := rfl
@[simp] theorem withParams_clk (v : List (Nat × Word)) : (d.withParams v).clk = d.clk := rfl
@[simp] theorem withParams_pwr (v : List (Nat × Word)) : (d.withParams v).pwr = d.pwr := rfl
@[simp] theorem withParams_thm (v : List (Nat × Word)) : (d.withParams v).thm = d.thm := rfl
@[simp] theorem withParams_cns (v : List (Nat × Word)) : (d.withParams v).cns = d.cns := rfl
@[simp] theorem withParams_bmo (v : List (Nat × Word)) : (d.withParams v).bmo = d.bmo := rfl
@[simp] theorem withParams_synth (v : List (Nat × Word)) : (d.withParams v).synth = d.synth := rfl
@[simp] theorem withParams_ref (v : List (Nat × Word)) : (d.withParams v).ref = d.ref := rfl
@[simp] theorem withParams_port (v : List (Nat × Word)) : (d.withParams v).port = d.port := rfl
@[simp] theorem withParams_rgl (v : List (Nat × Word)) : (d.withParams v).rgl = d.rgl := rfl
@[simp] theorem withParams_mot (v : List (Nat × Word)) : (d.withParams v).mot = d.mot := rfl
@[simp] theorem withParams_axs (v : List (Nat × Word)) : (d.withParams v).axs = d.axs := rfl
@[simp] theorem withParams_arc (v : List (Nat × Word)) : (d.withParams v).arc = d.arc := rfl
@[simp] theorem withParams_dma (v : List (Nat × Word)) : (d.withParams v).dma = d.dma := rfl
@[simp] theorem withParams_frees (v : List (Nat × Word)) : (d.withParams v).frees = d.frees := rfl
@[simp] theorem withParams_sramCe (v : List (Nat × Word)) : (d.withParams v).sramCe = d.sramCe := rfl
@[simp] theorem withParams_params (v : List (Nat × Word)) : (d.withParams v).params = v := rfl

/-! `modArc` changes arc alone. -/

@[simp] theorem modArc_now (f : CodecS → CodecS) : (d.modArc f).now = d.now := rfl
@[simp] theorem modArc_startAt (f : CodecS → CodecS) : (d.modArc f).startAt = d.startAt := rfl
@[simp] theorem modArc_st (f : CodecS → CodecS) : (d.modArc f).st = d.st := rfl
@[simp] theorem modArc_regs (f : CodecS → CodecS) : (d.modArc f).regs = d.regs := rfl
@[simp] theorem modArc_mem (f : CodecS → CodecS) : (d.modArc f).mem = d.mem := rfl
@[simp] theorem modArc_tables (f : CodecS → CodecS) : (d.modArc f).tables = d.tables := rfl
@[simp] theorem modArc_resp (f : CodecS → CodecS) : (d.modArc f).resp = d.resp := rfl
@[simp] theorem modArc_data (f : CodecS → CodecS) : (d.modArc f).data = d.data := rfl
@[simp] theorem modArc_rdata (f : CodecS → CodecS) : (d.modArc f).rdata = d.rdata := rfl
@[simp] theorem modArc_hiLatch (f : CodecS → CodecS) : (d.modArc f).hiLatch = d.hiLatch := rfl
@[simp] theorem modArc_loHold (f : CodecS → CodecS) : (d.modArc f).loHold = d.loHold := rfl
@[simp] theorem modArc_token (f : CodecS → CodecS) : (d.modArc f).token = d.token := rfl
@[simp] theorem modArc_north (f : CodecS → CodecS) : (d.modArc f).north = d.north := rfl
@[simp] theorem modArc_south (f : CodecS → CodecS) : (d.modArc f).south = d.south := rfl
@[simp] theorem modArc_transfer (f : CodecS → CodecS) : (d.modArc f).transfer = d.transfer := rfl
@[simp] theorem modArc_planned (f : CodecS → CodecS) : (d.modArc f).planned = d.planned := rfl
@[simp] theorem modArc_tokenAt (f : CodecS → CodecS) : (d.modArc f).tokenAt = d.tokenAt := rfl
@[simp] theorem modArc_host (f : CodecS → CodecS) : (d.modArc f).host = d.host := rfl
@[simp] theorem modArc_ledger (f : CodecS → CodecS) : (d.modArc f).ledger = d.ledger := rfl
@[simp] theorem modArc_kerb (f : CodecS → CodecS) : (d.modArc f).kerb = d.kerb := rfl
@[simp] theorem modArc_dlv (f : CodecS → CodecS) : (d.modArc f).dlv = d.dlv := rfl
@[simp] theorem modArc_tml (f : CodecS → CodecS) : (d.modArc f).tml = d.tml := rfl
@[simp] theorem modArc_sup (f : CodecS → CodecS) : (d.modArc f).sup = d.sup := rfl
@[simp] theorem modArc_ps (f : CodecS → CodecS) : (d.modArc f).ps = d.ps := rfl
@[simp] theorem modArc_flash (f : CodecS → CodecS) : (d.modArc f).flash = d.flash := rfl
@[simp] theorem modArc_boot (f : CodecS → CodecS) : (d.modArc f).boot = d.boot := rfl
@[simp] theorem modArc_clk (f : CodecS → CodecS) : (d.modArc f).clk = d.clk := rfl
@[simp] theorem modArc_pwr (f : CodecS → CodecS) : (d.modArc f).pwr = d.pwr := rfl
@[simp] theorem modArc_thm (f : CodecS → CodecS) : (d.modArc f).thm = d.thm := rfl
@[simp] theorem modArc_cns (f : CodecS → CodecS) : (d.modArc f).cns = d.cns := rfl
@[simp] theorem modArc_bmo (f : CodecS → CodecS) : (d.modArc f).bmo = d.bmo := rfl
@[simp] theorem modArc_synth (f : CodecS → CodecS) : (d.modArc f).synth = d.synth := rfl
@[simp] theorem modArc_ref (f : CodecS → CodecS) : (d.modArc f).ref = d.ref := rfl
@[simp] theorem modArc_port (f : CodecS → CodecS) : (d.modArc f).port = d.port := rfl
@[simp] theorem modArc_rgl (f : CodecS → CodecS) : (d.modArc f).rgl = d.rgl := rfl
@[simp] theorem modArc_mot (f : CodecS → CodecS) : (d.modArc f).mot = d.mot := rfl
@[simp] theorem modArc_axs (f : CodecS → CodecS) : (d.modArc f).axs = d.axs := rfl
@[simp] theorem modArc_params (f : CodecS → CodecS) : (d.modArc f).params = d.params := rfl
@[simp] theorem modArc_dma (f : CodecS → CodecS) : (d.modArc f).dma = d.dma := rfl
@[simp] theorem modArc_frees (f : CodecS → CodecS) : (d.modArc f).frees = d.frees := rfl
@[simp] theorem modArc_sramCe (f : CodecS → CodecS) : (d.modArc f).sramCe = d.sramCe := rfl
@[simp] theorem modArc_arc (f : CodecS → CodecS) : (d.modArc f).arc = f d.arc := rfl

/-! `withDma` changes dma alone. -/

@[simp] theorem withDma_now (v : List (Nat × ChanS)) : (d.withDma v).now = d.now := rfl
@[simp] theorem withDma_startAt (v : List (Nat × ChanS)) : (d.withDma v).startAt = d.startAt := rfl
@[simp] theorem withDma_st (v : List (Nat × ChanS)) : (d.withDma v).st = d.st := rfl
@[simp] theorem withDma_regs (v : List (Nat × ChanS)) : (d.withDma v).regs = d.regs := rfl
@[simp] theorem withDma_mem (v : List (Nat × ChanS)) : (d.withDma v).mem = d.mem := rfl
@[simp] theorem withDma_tables (v : List (Nat × ChanS)) : (d.withDma v).tables = d.tables := rfl
@[simp] theorem withDma_resp (v : List (Nat × ChanS)) : (d.withDma v).resp = d.resp := rfl
@[simp] theorem withDma_data (v : List (Nat × ChanS)) : (d.withDma v).data = d.data := rfl
@[simp] theorem withDma_rdata (v : List (Nat × ChanS)) : (d.withDma v).rdata = d.rdata := rfl
@[simp] theorem withDma_hiLatch (v : List (Nat × ChanS)) : (d.withDma v).hiLatch = d.hiLatch := rfl
@[simp] theorem withDma_loHold (v : List (Nat × ChanS)) : (d.withDma v).loHold = d.loHold := rfl
@[simp] theorem withDma_token (v : List (Nat × ChanS)) : (d.withDma v).token = d.token := rfl
@[simp] theorem withDma_north (v : List (Nat × ChanS)) : (d.withDma v).north = d.north := rfl
@[simp] theorem withDma_south (v : List (Nat × ChanS)) : (d.withDma v).south = d.south := rfl
@[simp] theorem withDma_transfer (v : List (Nat × ChanS)) : (d.withDma v).transfer = d.transfer := rfl
@[simp] theorem withDma_planned (v : List (Nat × ChanS)) : (d.withDma v).planned = d.planned := rfl
@[simp] theorem withDma_tokenAt (v : List (Nat × ChanS)) : (d.withDma v).tokenAt = d.tokenAt := rfl
@[simp] theorem withDma_host (v : List (Nat × ChanS)) : (d.withDma v).host = d.host := rfl
@[simp] theorem withDma_ledger (v : List (Nat × ChanS)) : (d.withDma v).ledger = d.ledger := rfl
@[simp] theorem withDma_kerb (v : List (Nat × ChanS)) : (d.withDma v).kerb = d.kerb := rfl
@[simp] theorem withDma_dlv (v : List (Nat × ChanS)) : (d.withDma v).dlv = d.dlv := rfl
@[simp] theorem withDma_tml (v : List (Nat × ChanS)) : (d.withDma v).tml = d.tml := rfl
@[simp] theorem withDma_sup (v : List (Nat × ChanS)) : (d.withDma v).sup = d.sup := rfl
@[simp] theorem withDma_ps (v : List (Nat × ChanS)) : (d.withDma v).ps = d.ps := rfl
@[simp] theorem withDma_flash (v : List (Nat × ChanS)) : (d.withDma v).flash = d.flash := rfl
@[simp] theorem withDma_boot (v : List (Nat × ChanS)) : (d.withDma v).boot = d.boot := rfl
@[simp] theorem withDma_clk (v : List (Nat × ChanS)) : (d.withDma v).clk = d.clk := rfl
@[simp] theorem withDma_pwr (v : List (Nat × ChanS)) : (d.withDma v).pwr = d.pwr := rfl
@[simp] theorem withDma_thm (v : List (Nat × ChanS)) : (d.withDma v).thm = d.thm := rfl
@[simp] theorem withDma_cns (v : List (Nat × ChanS)) : (d.withDma v).cns = d.cns := rfl
@[simp] theorem withDma_bmo (v : List (Nat × ChanS)) : (d.withDma v).bmo = d.bmo := rfl
@[simp] theorem withDma_synth (v : List (Nat × ChanS)) : (d.withDma v).synth = d.synth := rfl
@[simp] theorem withDma_ref (v : List (Nat × ChanS)) : (d.withDma v).ref = d.ref := rfl
@[simp] theorem withDma_port (v : List (Nat × ChanS)) : (d.withDma v).port = d.port := rfl
@[simp] theorem withDma_rgl (v : List (Nat × ChanS)) : (d.withDma v).rgl = d.rgl := rfl
@[simp] theorem withDma_mot (v : List (Nat × ChanS)) : (d.withDma v).mot = d.mot := rfl
@[simp] theorem withDma_axs (v : List (Nat × ChanS)) : (d.withDma v).axs = d.axs := rfl
@[simp] theorem withDma_params (v : List (Nat × ChanS)) : (d.withDma v).params = d.params := rfl
@[simp] theorem withDma_arc (v : List (Nat × ChanS)) : (d.withDma v).arc = d.arc := rfl
@[simp] theorem withDma_frees (v : List (Nat × ChanS)) : (d.withDma v).frees = d.frees := rfl
@[simp] theorem withDma_sramCe (v : List (Nat × ChanS)) : (d.withDma v).sramCe = d.sramCe := rfl
@[simp] theorem withDma_dma (v : List (Nat × ChanS)) : (d.withDma v).dma = v := rfl

/-! `withFrees` changes frees alone. -/

@[simp] theorem withFrees_now (v : Nat) : (d.withFrees v).now = d.now := rfl
@[simp] theorem withFrees_startAt (v : Nat) : (d.withFrees v).startAt = d.startAt := rfl
@[simp] theorem withFrees_st (v : Nat) : (d.withFrees v).st = d.st := rfl
@[simp] theorem withFrees_regs (v : Nat) : (d.withFrees v).regs = d.regs := rfl
@[simp] theorem withFrees_mem (v : Nat) : (d.withFrees v).mem = d.mem := rfl
@[simp] theorem withFrees_tables (v : Nat) : (d.withFrees v).tables = d.tables := rfl
@[simp] theorem withFrees_resp (v : Nat) : (d.withFrees v).resp = d.resp := rfl
@[simp] theorem withFrees_data (v : Nat) : (d.withFrees v).data = d.data := rfl
@[simp] theorem withFrees_rdata (v : Nat) : (d.withFrees v).rdata = d.rdata := rfl
@[simp] theorem withFrees_hiLatch (v : Nat) : (d.withFrees v).hiLatch = d.hiLatch := rfl
@[simp] theorem withFrees_loHold (v : Nat) : (d.withFrees v).loHold = d.loHold := rfl
@[simp] theorem withFrees_token (v : Nat) : (d.withFrees v).token = d.token := rfl
@[simp] theorem withFrees_north (v : Nat) : (d.withFrees v).north = d.north := rfl
@[simp] theorem withFrees_south (v : Nat) : (d.withFrees v).south = d.south := rfl
@[simp] theorem withFrees_transfer (v : Nat) : (d.withFrees v).transfer = d.transfer := rfl
@[simp] theorem withFrees_planned (v : Nat) : (d.withFrees v).planned = d.planned := rfl
@[simp] theorem withFrees_tokenAt (v : Nat) : (d.withFrees v).tokenAt = d.tokenAt := rfl
@[simp] theorem withFrees_host (v : Nat) : (d.withFrees v).host = d.host := rfl
@[simp] theorem withFrees_ledger (v : Nat) : (d.withFrees v).ledger = d.ledger := rfl
@[simp] theorem withFrees_kerb (v : Nat) : (d.withFrees v).kerb = d.kerb := rfl
@[simp] theorem withFrees_dlv (v : Nat) : (d.withFrees v).dlv = d.dlv := rfl
@[simp] theorem withFrees_tml (v : Nat) : (d.withFrees v).tml = d.tml := rfl
@[simp] theorem withFrees_sup (v : Nat) : (d.withFrees v).sup = d.sup := rfl
@[simp] theorem withFrees_ps (v : Nat) : (d.withFrees v).ps = d.ps := rfl
@[simp] theorem withFrees_flash (v : Nat) : (d.withFrees v).flash = d.flash := rfl
@[simp] theorem withFrees_boot (v : Nat) : (d.withFrees v).boot = d.boot := rfl
@[simp] theorem withFrees_clk (v : Nat) : (d.withFrees v).clk = d.clk := rfl
@[simp] theorem withFrees_pwr (v : Nat) : (d.withFrees v).pwr = d.pwr := rfl
@[simp] theorem withFrees_thm (v : Nat) : (d.withFrees v).thm = d.thm := rfl
@[simp] theorem withFrees_cns (v : Nat) : (d.withFrees v).cns = d.cns := rfl
@[simp] theorem withFrees_bmo (v : Nat) : (d.withFrees v).bmo = d.bmo := rfl
@[simp] theorem withFrees_synth (v : Nat) : (d.withFrees v).synth = d.synth := rfl
@[simp] theorem withFrees_ref (v : Nat) : (d.withFrees v).ref = d.ref := rfl
@[simp] theorem withFrees_port (v : Nat) : (d.withFrees v).port = d.port := rfl
@[simp] theorem withFrees_rgl (v : Nat) : (d.withFrees v).rgl = d.rgl := rfl
@[simp] theorem withFrees_mot (v : Nat) : (d.withFrees v).mot = d.mot := rfl
@[simp] theorem withFrees_axs (v : Nat) : (d.withFrees v).axs = d.axs := rfl
@[simp] theorem withFrees_params (v : Nat) : (d.withFrees v).params = d.params := rfl
@[simp] theorem withFrees_arc (v : Nat) : (d.withFrees v).arc = d.arc := rfl
@[simp] theorem withFrees_dma (v : Nat) : (d.withFrees v).dma = d.dma := rfl
@[simp] theorem withFrees_sramCe (v : Nat) : (d.withFrees v).sramCe = d.sramCe := rfl
@[simp] theorem withFrees_frees (v : Nat) : (d.withFrees v).frees = v := rfl

/-! `withSramCe` changes sramCe alone. -/

@[simp] theorem withSramCe_now (v : Nat) : (d.withSramCe v).now = d.now := rfl
@[simp] theorem withSramCe_startAt (v : Nat) : (d.withSramCe v).startAt = d.startAt := rfl
@[simp] theorem withSramCe_st (v : Nat) : (d.withSramCe v).st = d.st := rfl
@[simp] theorem withSramCe_regs (v : Nat) : (d.withSramCe v).regs = d.regs := rfl
@[simp] theorem withSramCe_mem (v : Nat) : (d.withSramCe v).mem = d.mem := rfl
@[simp] theorem withSramCe_tables (v : Nat) : (d.withSramCe v).tables = d.tables := rfl
@[simp] theorem withSramCe_resp (v : Nat) : (d.withSramCe v).resp = d.resp := rfl
@[simp] theorem withSramCe_data (v : Nat) : (d.withSramCe v).data = d.data := rfl
@[simp] theorem withSramCe_rdata (v : Nat) : (d.withSramCe v).rdata = d.rdata := rfl
@[simp] theorem withSramCe_hiLatch (v : Nat) : (d.withSramCe v).hiLatch = d.hiLatch := rfl
@[simp] theorem withSramCe_loHold (v : Nat) : (d.withSramCe v).loHold = d.loHold := rfl
@[simp] theorem withSramCe_token (v : Nat) : (d.withSramCe v).token = d.token := rfl
@[simp] theorem withSramCe_north (v : Nat) : (d.withSramCe v).north = d.north := rfl
@[simp] theorem withSramCe_south (v : Nat) : (d.withSramCe v).south = d.south := rfl
@[simp] theorem withSramCe_transfer (v : Nat) : (d.withSramCe v).transfer = d.transfer := rfl
@[simp] theorem withSramCe_planned (v : Nat) : (d.withSramCe v).planned = d.planned := rfl
@[simp] theorem withSramCe_tokenAt (v : Nat) : (d.withSramCe v).tokenAt = d.tokenAt := rfl
@[simp] theorem withSramCe_host (v : Nat) : (d.withSramCe v).host = d.host := rfl
@[simp] theorem withSramCe_ledger (v : Nat) : (d.withSramCe v).ledger = d.ledger := rfl
@[simp] theorem withSramCe_kerb (v : Nat) : (d.withSramCe v).kerb = d.kerb := rfl
@[simp] theorem withSramCe_dlv (v : Nat) : (d.withSramCe v).dlv = d.dlv := rfl
@[simp] theorem withSramCe_tml (v : Nat) : (d.withSramCe v).tml = d.tml := rfl
@[simp] theorem withSramCe_sup (v : Nat) : (d.withSramCe v).sup = d.sup := rfl
@[simp] theorem withSramCe_ps (v : Nat) : (d.withSramCe v).ps = d.ps := rfl
@[simp] theorem withSramCe_flash (v : Nat) : (d.withSramCe v).flash = d.flash := rfl
@[simp] theorem withSramCe_boot (v : Nat) : (d.withSramCe v).boot = d.boot := rfl
@[simp] theorem withSramCe_clk (v : Nat) : (d.withSramCe v).clk = d.clk := rfl
@[simp] theorem withSramCe_pwr (v : Nat) : (d.withSramCe v).pwr = d.pwr := rfl
@[simp] theorem withSramCe_thm (v : Nat) : (d.withSramCe v).thm = d.thm := rfl
@[simp] theorem withSramCe_cns (v : Nat) : (d.withSramCe v).cns = d.cns := rfl
@[simp] theorem withSramCe_bmo (v : Nat) : (d.withSramCe v).bmo = d.bmo := rfl
@[simp] theorem withSramCe_synth (v : Nat) : (d.withSramCe v).synth = d.synth := rfl
@[simp] theorem withSramCe_ref (v : Nat) : (d.withSramCe v).ref = d.ref := rfl
@[simp] theorem withSramCe_port (v : Nat) : (d.withSramCe v).port = d.port := rfl
@[simp] theorem withSramCe_rgl (v : Nat) : (d.withSramCe v).rgl = d.rgl := rfl
@[simp] theorem withSramCe_mot (v : Nat) : (d.withSramCe v).mot = d.mot := rfl
@[simp] theorem withSramCe_axs (v : Nat) : (d.withSramCe v).axs = d.axs := rfl
@[simp] theorem withSramCe_params (v : Nat) : (d.withSramCe v).params = d.params := rfl
@[simp] theorem withSramCe_arc (v : Nat) : (d.withSramCe v).arc = d.arc := rfl
@[simp] theorem withSramCe_dma (v : Nat) : (d.withSramCe v).dma = d.dma := rfl
@[simp] theorem withSramCe_frees (v : Nat) : (d.withSramCe v).frees = d.frees := rfl
@[simp] theorem withSramCe_sramCe (v : Nat) : (d.withSramCe v).sramCe = v := rfl

end Sys2Proof.Machine
end

