-- ==== Sys2Proof/Laws/Ops.lean ====
section
/-! SUPPORT. What the named operations do, said once: registers and their fields, memory, loaded tables, and the run of a meaning. -/

namespace Sys2Proof.Machine

variable (d : Device)

/-! Running a meaning. -/

theorem run_eq (s : State) (t : Nat) (f : Device → Device) : s.run t f = .next { s with dev := f (s.dev.tick t) } := rfl

theorem runF_eq (s : State) (t : Nat) (f : Fuses → Device → Device) :
    s.runF t f = .next { s with dev := f s.fuses (s.dev.tick t) } := rfl

@[simp] theorem tick_now (t : Nat) : (d.tick t).now = max d.now t := rfl

/-! Registers. -/

theorem reg_congr {d e : Device} (h : d.regs = e.regs) (a : Nat) : d.reg a = e.reg a := by simp [Device.reg, h]

@[simp] theorem reg_tick (t a : Nat) : (d.tick t).reg a = d.reg a := rfl
@[simp] theorem reg_setByte (x : Nat) (b : Byte) (a : Nat) : (d.setByte x b).reg a = d.reg a := rfl
@[simp] theorem reg_setEntry (c i n : Nat) (b : List Byte) (a : Nat) : (d.setEntry c i n b).reg a = d.reg a := rfl
@[simp] theorem reg_answer (r : Resp) (w : Word) (a : Nat) : (d.answer r w).reg a = d.reg a := rfl
@[simp] theorem reg_reply (r : Resp) (a : Nat) : (d.reply r).reg a = d.reg a := rfl

theorem reg_setReg (a : Nat) (v : Word) (x : Nat) : (d.setReg a v).reg x = if x = a then v else d.reg x :=
  sget_sput resetWord d.regs a x v

@[simp] theorem reg_setReg_self (a : Nat) (v : Word) : (d.setReg a v).reg a = v := by simp [reg_setReg]

theorem reg_setReg_ne {a x : Nat} (v : Word) (h : x ≠ a) : (d.setReg a v).reg x = d.reg x := by simp [reg_setReg, h]

@[simp] theorem reg_setNat_self (a v : Nat) : (d.setNat a v).reg a = BitVec.ofNat 32 v := reg_setReg_self d a _

theorem reg_setNat_ne {a x : Nat} (v : Nat) (h : x ≠ a) : (d.setNat a v).reg x = d.reg x := reg_setReg_ne d _ h

@[simp] theorem nat_setNat_self (a v : Nat) : (d.setNat a v).nat a = v % 2 ^ 32 := by simp [Device.nat]

@[simp] theorem reg_setFld_self (a : Nat) (f : Fld) (v : Nat) : (d.setFld a f v).reg a = f.put (d.reg a) v :=
  reg_setReg_self d a _

theorem reg_setFld_ne {a x : Nat} (f : Fld) (v : Nat) (h : x ≠ a) : (d.setFld a f v).reg x = d.reg x := reg_setReg_ne d _ h

theorem reg_setFlag_ne {a x : Nat} (f : Fld) (b : Bool) (h : x ≠ a) : (d.setFlag a f b).reg x = d.reg x := reg_setReg_ne d _ h

/-! Fields. -/

theorem fld_congr {d e : Device} {a : Nat} (h : d.reg a = e.reg a) (f : Fld) : d.fld a f = e.fld a f := by simp [Device.fld, h]

theorem flag_congr {d e : Device} {a : Nat} (h : d.reg a = e.reg a) (f : Fld) : d.flag a f = e.flag a f := by
  simp [Device.flag, fld_congr h]

/-- A field reads what it was set to, in its width. -/
theorem fld_setFld_self (a : Nat) {f : Fld} (h : f.hi < 32) (v : Nat) : (d.setFld a f v).fld a f = v % 2 ^ (f.hi + 1 - f.lo) := by
  simp [Device.fld, Fld.get_put h]

/-- A field of another register stays. -/
theorem fld_setFld_ne {a x : Nat} (f g : Fld) (v : Nat) (h : x ≠ a) : (d.setFld a f v).fld x g = d.fld x g :=
  fld_congr (reg_setFld_ne d f v h) g

/-- Another field of the same register stays. -/
theorem fld_setFld_other (a : Nat) {f g : Fld} (v : Nat) (h : f.hi < g.lo ∨ g.hi < f.lo) (hf : f.hi < 32) :
    (d.setFld a g v).fld a f = d.fld a f := by
  simp [Device.fld, Fld.get_put_other h hf]

theorem b01_eq_one (b : Bool) : (b01 b == 1) = b := by cases b <;> rfl

theorem b01_lt (b : Bool) {n : Nat} (h : 1 ≤ n) : b01 b < 2 ^ n := by
  have : 2 ^ 1 ≤ 2 ^ n := Nat.pow_le_pow_right (by omega) h
  cases b
  · exact Nat.two_pow_pos n
  · exact Nat.lt_of_lt_of_le (by decide : b01 true < 2 ^ 1) this

/-- A one-bit field reads what it was set to. -/
theorem flag_setFlag_self (a : Nat) {f : Fld} (h : f.hi < 32) (hl : f.lo ≤ f.hi) (b : Bool) : (d.setFlag a f b).flag a f = b := by
  unfold Device.setFlag Device.flag
  rw [fld_setFld_self d a h, Nat.mod_eq_of_lt (b01_lt b (by omega))]
  cases b <;> rfl

theorem flag_setFlag_ne {a x : Nat} (f g : Fld) (b : Bool) (h : x ≠ a) : (d.setFlag a f b).flag x g = d.flag x g :=
  flag_congr (reg_setFlag_ne d f b h) g

theorem flag_setFlag_other (a : Nat) {f g : Fld} (b : Bool) (h : f.hi < g.lo ∨ g.hi < f.lo) (hf : f.hi < 32) :
    (d.setFlag a g b).flag a f = d.flag a f := by
  unfold Device.setFlag Device.flag
  rw [fld_setFld_other d a _ h hf]

theorem fld_setFlag_other (a : Nat) {f g : Fld} (b : Bool) (h : f.hi < g.lo ∨ g.hi < f.lo) (hf : f.hi < 32) :
    (d.setFlag a g b).fld a f = d.fld a f := fld_setFld_other d a _ h hf

theorem flag_setFld_other (a : Nat) {f g : Fld} (v : Nat) (h : f.hi < g.lo ∨ g.hi < f.lo) (hf : f.hi < 32) :
    (d.setFld a g v).flag a f = d.flag a f := by
  unfold Device.flag
  rw [fld_setFld_other d a v h hf]

theorem count_eq (a : Nat) (f : Fld) : d.count a f = d.setFld a f (min (d.fld a f + 1) (2 ^ (f.hi + 1 - f.lo) - 1)) := rfl

theorem addSat_eq (a : Nat) (f : Fld) (n : Nat) :
    d.addSat a f n = d.setFld a f (min (d.fld a f + n) (2 ^ (f.hi + 1 - f.lo) - 1)) := rfl

theorem maxFld_eq (a : Nat) (f : Fld) (v : Nat) : d.maxFld a f v = d.setFld a f (max (d.fld a f) v) := rfl

/-- A counting field goes up by one and stays at its largest value. -/
theorem fld_count_self (a : Nat) {f : Fld} (h : f.hi < 32) :
    (d.count a f).fld a f = min (d.fld a f + 1) (2 ^ (f.hi + 1 - f.lo) - 1) := by
  rw [count_eq, fld_setFld_self d a h, Nat.mod_eq_of_lt]
  have : 0 < 2 ^ (f.hi + 1 - f.lo) := Nat.two_pow_pos _
  omega

/-! Memory. -/

theorem byte_setByte (a : Nat) (b : Byte) (x : Nat) : (d.setByte a b).byte x = if x = a then b else d.byte x :=
  sget_sput memDefault d.mem a x b

/-- A byte outside those written stays. -/
theorem byte_setBytes_out (l : List Byte) : ∀ (d : Device) (a x : Nat), x < a ∨ a + l.length ≤ x →
    (d.setBytes a l).byte x = d.byte x := by
  induction l with
  | nil => intro d a x _; rfl
  | cons b r ih =>
    intro d a x h
    simp only [List.length_cons] at h
    rw [Device.setBytes, ih _ _ _ (by omega), byte_setByte, if_neg (by omega)]

/-- A byte among those written reads what was written. -/
theorem byte_setBytes_in (l : List Byte) : ∀ (d : Device) (a i : Nat), i < l.length →
    (d.setBytes a l).byte (a + i) = l.getD i 0 := by
  induction l with
  | nil => intro d a i h; simp at h
  | cons b r ih =>
    intro d a i h
    cases i with
    | zero => rw [Device.setBytes, byte_setBytes_out _ _ _ _ (by omega), byte_setByte]; simp
    | succ j =>
      simp only [List.length_cons] at h
      rw [Device.setBytes, show a + (j + 1) = a + 1 + j by omega, ih _ _ _ (by omega)]
      simp

/-- Writing bytes changes memory alone. -/
theorem setBytes_only (l : List Byte) : ∀ (d : Device) (a : Nat), ∃ m, d.setBytes a l = { d with mem := m } := by
  induction l with
  | nil => intro d a; exact ⟨d.mem, rfl⟩
  | cons b r ih =>
    intro d a
    obtain ⟨m, hm⟩ := ih (d.setByte a b) (a + 1)
    exact ⟨m, by rw [Device.setBytes, hm]; rfl⟩

@[simp] theorem reg_setBytes (l : List Byte) (a x : Nat) : (d.setBytes a l).reg x = d.reg x := by
  obtain ⟨m, h⟩ := setBytes_only l d a
  rw [h]; rfl

theorem setByte_wf (a : Nat) (b : Byte) (h : Memory.wf d.mem = true) : Memory.wf (d.setByte a b).mem = true := swf_sput h a b

/-- Writing bytes keeps memory in its canonical form. -/
theorem setBytes_wf (l : List Byte) : ∀ (d : Device) (a : Nat), Memory.wf d.mem = true → Memory.wf (d.setBytes a l).mem = true := by
  induction l with
  | nil => intro d a h; exact h
  | cons b r ih => intro d a h; exact ih _ _ (setByte_wf d a b h)

/-- A region whose contents become undefined keeps memory in its canonical form. -/
theorem scramble_wf (a n : Nat) (h : Memory.wf d.mem = true) : Memory.wf (d.scramble a n).mem = true := setBytes_wf _ d a h

theorem reset_memory_wf : Memory.wf State.reset.dev.mem = true := rfl

theorem setReg_canonical (a : Nat) (v : Word) (h : d.canonical = true) : (d.setReg a v).canonical = true := by
  simp only [Device.canonical, Bool.and_eq_true] at h ⊢
  exact ⟨⟨swf_sput h.1.1 a v, h.1.2⟩, h.2⟩

theorem setByte_canonical (a : Nat) (b : Byte) (h : d.canonical = true) : (d.setByte a b).canonical = true := by
  simp only [Device.canonical, Bool.and_eq_true] at h ⊢
  exact ⟨⟨h.1.1, swf_sput h.1.2 a b⟩, h.2⟩

theorem setEntry_canonical (c i n : Nat) (b : List Byte) (h : d.canonical = true) : (d.setEntry c i n b).canonical = true := by
  simp only [Device.canonical, Bool.and_eq_true] at h ⊢
  exact ⟨h.1, swf_sput h.2 _ b⟩

/-! Loaded tables. -/

theorem entry_setEntry_self (c i n : Nat) (b : List Byte) : (d.setEntry c i n b).entry c i n = b :=
  sget_sput_self (fun _ => []) d.tables _ b

/-! Folds over a list of instances. -/

/-- What every change keeps, the fold keeps. -/
theorem each_keeps {α β : Type} {f : α → Device → Device} {p : Device → β} (h : ∀ x e, p (f x e) = p e) :
    ∀ (l : List α) (d : Device), p (d.each l f) = p d := by
  intro l
  induction l with
  | nil => intro d; rfl
  | cons x r ih => intro d; exact (ih (f x d)).trans (h x d)

/-- A property that every change keeps, the fold keeps. -/
theorem each_inv {α : Type} {f : α → Device → Device} {P : Device → Prop} (h : ∀ x e, P e → P (f x e)) :
    ∀ (l : List α) (d : Device), P d → P (d.each l f) := by
  intro l
  induction l with
  | nil => intro d hd; exact hd
  | cons x r ih => intro d hd; exact ih (f x d) (h x d hd)

end Sys2Proof.Machine
end

