-- ==== Sys2Proof/Laws/Bits.lean ====
section
/-! SUPPORT. Bits of a number: what setting one of them does. -/

namespace Sys2Proof.Machine

theorem natBit_eq (v i : Nat) : natBit v i = v.testBit i := by
  simp [natBit, Nat.testBit_eq_decide_div_mod_eq, beq_eq_decide]

theorem setNatBit_testBit (m i : Nat) (b : Bool) (j : Nat) : (setNatBit m i b).testBit j = if j = i then b else m.testBit j := by
  unfold setNatBit
  by_cases h : j = i
  · subst h
    cases b <;> simp
  · cases b <;> simp [h, Ne.symm h]

/-- A bit reads what it was set to, and every other bit stays. -/
theorem natBit_setNatBit (m i j : Nat) (b : Bool) : natBit (setNatBit m i b) j = if j = i then b else natBit m j := by
  simp [natBit_eq, setNatBit_testBit]

/-- Setting a bit below `n` keeps a number below 2^n. -/
theorem setNatBit_lt {m i n : Nat} (b : Bool) (hm : m < 2 ^ n) (hi : i < n) : setNatBit m i b < 2 ^ n := by
  apply Nat.lt_pow_two_of_testBit
  intro j hj
  rw [setNatBit_testBit, if_neg (by omega)]
  exact Nat.testBit_lt_two_pow (lt_of_lt_of_le hm (Nat.pow_le_pow_right (by decide) hj))

theorem fld_lt (d : Device) (a : Nat) (f : Fld) : d.fld a f < 2 ^ (f.hi + 1 - f.lo) := Nat.mod_lt _ (Nat.two_pow_pos _)

/-- A field used as a mask, with one bit set or cleared. -/
theorem fld_setFld_natBit (d : Device) (a : Nat) {f : Fld} (h : f.hi < 32) {i : Nat} (hi : i < f.hi + 1 - f.lo) (b : Bool) :
    (d.setFld a f (setNatBit (d.fld a f) i b)).fld a f = setNatBit (d.fld a f) i b := by
  rw [fld_setFld_self d a h, Nat.mod_eq_of_lt (setNatBit_lt b (fld_lt d a f) hi)]

end Sys2Proof.Machine
end

