-- ==== Sys2Proof/Laws/Events.lean ====
section
/-! SUPPORT. What posting an event, an event of a ledger source and the journals can change. Each lemma says: whatever part `p` of the
device the named basic changes keep, the operation keeps; with `p` a field, a register or a group of fields it answers every frame
question about the operation. -/

namespace Sys2Proof.Machine

variable {β : Type} (d : Device)

theorem setBytes_keeps {p : Device → β} (hm : ∀ e a b, 2 ^ 63 ≤ a → p (Device.setByte e a b) = p e) (l : List Byte) :
    ∀ (d : Device) (a : Nat), 2 ^ 63 ≤ a → p (d.setBytes a l) = p d := by
  induction l with
  | nil => intro d a _; rfl
  | cons b r ih => intro d a h; exact (ih (d.setByte a b) (a + 1) (Nat.le_succ_of_le h)).trans (hm d a b h)

/-- Host memory lies above the device's addresses (R45). -/
theorem hostAddr_le (a : Nat) : 2 ^ 63 ≤ hostAddr a := Nat.le_add_right _ _

/-! Interrupts and events. -/

/-- A change of the host interface that leaves everything but events, interrupts and posted writes: rings, pages, buffers and the link. -/
def EventsOnly (f : HostIf → HostIf) : Prop := ∀ h, (f h).rings = h.rings ∧ (f h).evtRing = h.evtRing ∧ (f h).ingest = h.ingest ∧
  (f h).wsnFloor = h.wsnFloor ∧ (f h).retired = h.retired ∧ (f h).haltSlots = h.haltSlots ∧ (f h).haltWsn = h.haltWsn ∧
  (f h).bound = h.bound ∧ (f h).bufs = h.bufs ∧ (f h).msix = h.msix ∧ (f h).linkUp = h.linkUp ∧ (f h).cfgRetry = h.cfgRetry ∧
  (f h).pcie = h.pcie ∧ (f h).perstN = h.perstN ∧ (f h).rdAttr = h.rdAttr

theorem sendIrq_keeps {p : Device → β} (hh : ∀ e f, EventsOnly f → p (Device.modHost e f) = p e) (v : Nat) : p (d.sendIrq v) = p d := by
  unfold Device.sendIrq
  split
  · rfl
  · split <;> exact hh _ _ (fun _ => by simp)

theorem announce_keeps {p : Device → β} (hh : ∀ e f, EventsOnly f → p (Device.modHost e f) = p e) (e : Event) : p (d.announce e) = p d := by
  unfold Device.announce
  split
  · exact sendIrq_keeps d hh 1
  · extract_lets v n
    split
    · exact (sendIrq_keeps _ hh v).trans (hh _ _ (fun _ => by simp))
    · exact hh _ _ (fun _ => by simp)

/-- A posted write of the device changes host memory and what is kept of posted writes alone. -/
theorem postedWrite_keeps {p : Device → β} (hm : ∀ e a b, 2 ^ 63 ≤ a → p (Device.setByte e a b) = p e)
    (hh : ∀ e f, EventsOnly f → p (Device.modHost e f) = p e) (a : Nat) (l : List Byte) (event : Bool) : p (d.postedWrite a l event) = p d :=
  (setBytes_keeps hm l _ _ (hostAddr_le a)).trans (hh _ _ (fun _ => by simp))

/-- The registers that a posted event can change. -/
def postRegs : List Nat := [HIF_EVT_PROD, HIF_EVT_LOST]

theorem toRing_keeps {p : Device → β} (hr : ∀ a ∈ postRegs, ∀ e v, p (Device.setReg e a v) = p e)
    (hm : ∀ e a b, 2 ^ 63 ≤ a → p (Device.setByte e a b) = p e) (hh : ∀ e f, EventsOnly f → p (Device.modHost e f) = p e) (e : Event) : p (d.toRing e) = p d := by
  unfold Device.toRing
  extract_lets d1 prod size
  rw [announce_keeps _ hh]
  exact (hr _ (by simp [postRegs]) _ _).trans ((postedWrite_keeps _ hm hh _ _ _).trans (hh _ _ (fun _ => by simp)))

theorem loseEvent_keeps {p : Device → β} (hr : ∀ a ∈ postRegs, ∀ e v, p (Device.setReg e a v) = p e)
    (hh : ∀ e f, EventsOnly f → p (Device.modHost e f) = p e) : p d.loseEvent = p d := by
  unfold Device.loseEvent Device.loseEvents
  exact (hh _ _ (fun _ => by simp)).trans (hr HIF_EVT_LOST (by simp [postRegs]) _ _)

theorem place_keeps {p : Device → β} (hr : ∀ a ∈ postRegs, ∀ e v, p (Device.setReg e a v) = p e)
    (hm : ∀ e a b, 2 ^ 63 ≤ a → p (Device.setByte e a b) = p e) (hh : ∀ e f, EventsOnly f → p (Device.modHost e f) = p e) (e : Event) : p (d.place e) = p d := by
  unfold Device.place
  split
  · exact toRing_keeps d hr hm hh e
  · split
    · exact hh _ _ (fun _ => by simp)
    · split
      · split
        · exact (hh _ _ (fun _ => by simp)).trans (loseEvent_keeps d hr hh)
        · exact loseEvent_keeps d hr hh
      · exact loseEvent_keeps d hr hh

/-- Posting an event changes HIF_EVT_PROD or HIF_EVT_LOST, host memory and the host interface alone. -/
theorem post_keeps {p : Device → β} (hr : ∀ a ∈ postRegs, ∀ e v, p (Device.setReg e a v) = p e)
    (hm : ∀ e a b, 2 ^ 63 ≤ a → p (Device.setByte e a b) = p e) (hh : ∀ e f, EventsOnly f → p (Device.modHost e f) = p e) (typ : Nat) (nmi : Bool)
    (code wsn data : Nat) : p (d.post typ nmi code wsn data) = p d :=
  (place_keeps _ hr hm hh _).trans (hh _ _ (fun _ => by simp))

theorem reg_setReg_mem {l : List Nat} {a : Nat} (h : a ∉ l) : ∀ x ∈ l, ∀ (e : Device) (v : Word), (e.setReg x v).reg a = e.reg a :=
  fun _ hx e v => reg_setReg_ne e v (fun c => h (c ▸ hx))

theorem reg_post (typ : Nat) (nmi : Bool) (code wsn data : Nat) {a : Nat} (h : a ∉ postRegs) :
    (d.post typ nmi code wsn data).reg a = d.reg a :=
  post_keeps d (p := fun d => d.reg a) (reg_setReg_mem h) (fun _ _ _ _ => rfl) (fun _ _ _ => rfl) typ nmi code wsn data

/-! The ledger. -/

/-- The registers that an event of source `b` can change. -/
def ledgerRegs (b : Nat) : List Nat :=
  [HIF_EVT_PROD, HIF_EVT_LOST, LDG_CNT b, LDG_STICKY (b / 32), LDG_NMI] ++ if b = lbClkBFail then [CLK_STATUS] else []

theorem postRegs_sub (b : Nat) : ∀ a ∈ postRegs, a ∈ ledgerRegs b := by
  intro a h
  simp only [postRegs, List.mem_cons, List.not_mem_nil, or_false] at h
  rcases h with rfl | rfl <;> simp [ledgerRegs]

theorem ledgerFlags_keeps {p : Device → β} {b : Nat} (hr : ∀ a ∈ ledgerRegs b, ∀ e v, p (Device.setReg e a v) = p e) :
    p (d.ledgerFlags b) = p d := by
  have h1 : ∀ e f v, p (Device.setFlag e LDG_NMI f v) = p e := fun e f v => hr _ (by simp [ledgerRegs]) _ _
  unfold Device.ledgerFlags
  split
  · rename_i hb
    exact (hr CLK_STATUS (by simp [ledgerRegs, hb]) _ _).trans (h1 _ _ _)
  · split
    · rw [h1]
    · split
      · rw [h1]
      · split
        · rfl
        · split
          · rw [h1]
          · rfl

/-- An event of source `b` without its Kerb trigger changes `ledgerRegs b`, host memory, the host interface and the ledger alone. -/
theorem ledgerBase_keeps {p : Device → β} {b : Nat} (hr : ∀ a ∈ ledgerRegs b, ∀ e v, p (Device.setReg e a v) = p e)
    (hm : ∀ e a b, 2 ^ 63 ≤ a → p (Device.setByte e a b) = p e) (hh : ∀ e f, EventsOnly f → p (Device.modHost e f) = p e)
    (hl : ∀ e f, p (Device.modLedger e f) = p e) (o x y : Nat) : p (d.ledgerBase b o x y) = p d := by
  have hc : p (d.ledgerCount b) = p d := by
    unfold Device.ledgerCount
    extract_lets d1
    exact (hl d1 _).trans (hr (LDG_CNT b) (by simp [ledgerRegs]) d _)
  have hj : ∀ e x0 y0 k n, p (Device.journal e b o x0 y0 k n false) = p e := by
    intro e x0 y0 k n
    unfold Device.journal
    extract_lets j
    exact hl e _
  unfold Device.ledgerBase
  extract_lets d1
  split
  · unfold Device.ledgerLast
    extract_lets no d2 kerb d3
    refine (post_keeps d3 (fun a h => hr a (postRegs_sub b a h)) hm hh _ _ _ _ _).trans ?_
    refine (ledgerFlags_keeps _ hr).trans ((hj d2 _ _ _ _).trans ?_)
    exact (hr (LDG_CNT b) (by simp [ledgerRegs]) (d1.setSticky b) _).trans
      ((hr (LDG_STICKY (b / 32)) (by simp [ledgerRegs]) d1 _).trans hc)
  · exact hc

theorem reg_ledgerBase (b o x y : Nat) {a : Nat} (h : a ∉ ledgerRegs b) : (d.ledgerBase b o x y).reg a = d.reg a :=
  ledgerBase_keeps d (p := fun d => d.reg a) (reg_setReg_mem h) (fun _ _ _ _ => rfl) (fun _ _ _ => rfl) (fun _ _ => rfl) o x y

/-- The source's event count goes up by one and saturates (R595). -/
theorem ledgerCount_events (b : Nat) :
    (d.ledgerCount b).fld (LDG_CNT b) LDG_CNT_EVENTS = min (d.fld (LDG_CNT b) LDG_CNT_EVENTS + 1) 65535 :=
  fld_count_self d (LDG_CNT b) (by decide)

end Sys2Proof.Machine
end

