-- ==== Sys2Proof/Laws/EventFields.lean ====
section
/-! SUPPORT. What posting an event, an event of a ledger source and an entry of the sheet journal leave alone, field by field. -/

set_option Elab.async false

namespace Sys2Proof.Machine

variable (d : Device)

@[simp] theorem post_now (ty : Nat) (n : Bool) (c w x : Nat) : (d.post ty n c w x).now = d.now :=
  post_keeps d (p := Device.now) (fun _ _ _ _ => rfl) (fun _ _ _ _ => rfl) (fun _ _ _ => rfl) ty n c w x
@[simp] theorem post_startAt (ty : Nat) (n : Bool) (c w x : Nat) : (d.post ty n c w x).startAt = d.startAt :=
  post_keeps d (p := Device.startAt) (fun _ _ _ _ => rfl) (fun _ _ _ _ => rfl) (fun _ _ _ => rfl) ty n c w x
@[simp] theorem post_st (ty : Nat) (n : Bool) (c w x : Nat) : (d.post ty n c w x).st = d.st :=
  post_keeps d (p := Device.st) (fun _ _ _ _ => rfl) (fun _ _ _ _ => rfl) (fun _ _ _ => rfl) ty n c w x
@[simp] theorem post_tables (ty : Nat) (n : Bool) (c w x : Nat) : (d.post ty n c w x).tables = d.tables :=
  post_keeps d (p := Device.tables) (fun _ _ _ _ => rfl) (fun _ _ _ _ => rfl) (fun _ _ _ => rfl) ty n c w x
@[simp] theorem post_resp (ty : Nat) (n : Bool) (c w x : Nat) : (d.post ty n c w x).resp = d.resp :=
  post_keeps d (p := Device.resp) (fun _ _ _ _ => rfl) (fun _ _ _ _ => rfl) (fun _ _ _ => rfl) ty n c w x
@[simp] theorem post_data (ty : Nat) (n : Bool) (c w x : Nat) : (d.post ty n c w x).data = d.data :=
  post_keeps d (p := Device.data) (fun _ _ _ _ => rfl) (fun _ _ _ _ => rfl) (fun _ _ _ => rfl) ty n c w x
@[simp] theorem post_rdata (ty : Nat) (n : Bool) (c w x : Nat) : (d.post ty n c w x).rdata = d.rdata :=
  post_keeps d (p := Device.rdata) (fun _ _ _ _ => rfl) (fun _ _ _ _ => rfl) (fun _ _ _ => rfl) ty n c w x
@[simp] theorem post_hiLatch (ty : Nat) (n : Bool) (c w x : Nat) : (d.post ty n c w x).hiLatch = d.hiLatch :=
  post_keeps d (p := Device.hiLatch) (fun _ _ _ _ => rfl) (fun _ _ _ _ => rfl) (fun _ _ _ => rfl) ty n c w x
@[simp] theorem post_loHold (ty : Nat) (n : Bool) (c w x : Nat) : (d.post ty n c w x).loHold = d.loHold :=
  post_keeps d (p := Device.loHold) (fun _ _ _ _ => rfl) (fun _ _ _ _ => rfl) (fun _ _ _ => rfl) ty n c w x
@[simp] theorem post_token (ty : Nat) (n : Bool) (c w x : Nat) : (d.post ty n c w x).token = d.token :=
  post_keeps d (p := Device.token) (fun _ _ _ _ => rfl) (fun _ _ _ _ => rfl) (fun _ _ _ => rfl) ty n c w x
@[simp] theorem post_north (ty : Nat) (n : Bool) (c w x : Nat) : (d.post ty n c w x).north = d.north :=
  post_keeps d (p := Device.north) (fun _ _ _ _ => rfl) (fun _ _ _ _ => rfl) (fun _ _ _ => rfl) ty n c w x
@[simp] theorem post_south (ty : Nat) (n : Bool) (c w x : Nat) : (d.post ty n c w x).south = d.south :=
  post_keeps d (p := Device.south) (fun _ _ _ _ => rfl) (fun _ _ _ _ => rfl) (fun _ _ _ => rfl) ty n c w x
@[simp] theorem post_transfer (ty : Nat) (n : Bool) (c w x : Nat) : (d.post ty n c w x).transfer = d.transfer :=
  post_keeps d (p := Device.transfer) (fun _ _ _ _ => rfl) (fun _ _ _ _ => rfl) (fun _ _ _ => rfl) ty n c w x
@[simp] theorem post_planned (ty : Nat) (n : Bool) (c w x : Nat) : (d.post ty n c w x).planned = d.planned :=
  post_keeps d (p := Device.planned) (fun _ _ _ _ => rfl) (fun _ _ _ _ => rfl) (fun _ _ _ => rfl) ty n c w x
@[simp] theorem post_tokenAt (ty : Nat) (n : Bool) (c w x : Nat) : (d.post ty n c w x).tokenAt = d.tokenAt :=
  post_keeps d (p := Device.tokenAt) (fun _ _ _ _ => rfl) (fun _ _ _ _ => rfl) (fun _ _ _ => rfl) ty n c w x
@[simp] theorem post_ledger (ty : Nat) (n : Bool) (c w x : Nat) : (d.post ty n c w x).ledger = d.ledger :=
  post_keeps d (p := Device.ledger) (fun _ _ _ _ => rfl) (fun _ _ _ _ => rfl) (fun _ _ _ => rfl) ty n c w x
@[simp] theorem post_kerb (ty : Nat) (n : Bool) (c w x : Nat) : (d.post ty n c w x).kerb = d.kerb :=
  post_keeps d (p := Device.kerb) (fun _ _ _ _ => rfl) (fun _ _ _ _ => rfl) (fun _ _ _ => rfl) ty n c w x
@[simp] theorem post_dlv (ty : Nat) (n : Bool) (c w x : Nat) : (d.post ty n c w x).dlv = d.dlv :=
  post_keeps d (p := Device.dlv) (fun _ _ _ _ => rfl) (fun _ _ _ _ => rfl) (fun _ _ _ => rfl) ty n c w x
@[simp] theorem post_tml (ty : Nat) (n : Bool) (c w x : Nat) : (d.post ty n c w x).tml = d.tml :=
  post_keeps d (p := Device.tml) (fun _ _ _ _ => rfl) (fun _ _ _ _ => rfl) (fun _ _ _ => rfl) ty n c w x
@[simp] theorem post_sup (ty : Nat) (n : Bool) (c w x : Nat) : (d.post ty n c w x).sup = d.sup :=
  post_keeps d (p := Device.sup) (fun _ _ _ _ => rfl) (fun _ _ _ _ => rfl) (fun _ _ _ => rfl) ty n c w x
@[simp] theorem post_ps (ty : Nat) (n : Bool) (c w x : Nat) : (d.post ty n c w x).ps = d.ps :=
  post_keeps d (p := Device.ps) (fun _ _ _ _ => rfl) (fun _ _ _ _ => rfl) (fun _ _ _ => rfl) ty n c w x
@[simp] theorem post_flash (ty : Nat) (n : Bool) (c w x : Nat) : (d.post ty n c w x).flash = d.flash :=
  post_keeps d (p := Device.flash) (fun _ _ _ _ => rfl) (fun _ _ _ _ => rfl) (fun _ _ _ => rfl) ty n c w x
@[simp] theorem post_boot (ty : Nat) (n : Bool) (c w x : Nat) : (d.post ty n c w x).boot = d.boot :=
  post_keeps d (p := Device.boot) (fun _ _ _ _ => rfl) (fun _ _ _ _ => rfl) (fun _ _ _ => rfl) ty n c w x
@[simp] theorem post_clk (ty : Nat) (n : Bool) (c w x : Nat) : (d.post ty n c w x).clk = d.clk :=
  post_keeps d (p := Device.clk) (fun _ _ _ _ => rfl) (fun _ _ _ _ => rfl) (fun _ _ _ => rfl) ty n c w x
@[simp] theorem post_pwr (ty : Nat) (n : Bool) (c w x : Nat) : (d.post ty n c w x).pwr = d.pwr :=
  post_keeps d (p := Device.pwr) (fun _ _ _ _ => rfl) (fun _ _ _ _ => rfl) (fun _ _ _ => rfl) ty n c w x
@[simp] theorem post_thm (ty : Nat) (n : Bool) (c w x : Nat) : (d.post ty n c w x).thm = d.thm :=
  post_keeps d (p := Device.thm) (fun _ _ _ _ => rfl) (fun _ _ _ _ => rfl) (fun _ _ _ => rfl) ty n c w x
@[simp] theorem post_cns (ty : Nat) (n : Bool) (c w x : Nat) : (d.post ty n c w x).cns = d.cns :=
  post_keeps d (p := Device.cns) (fun _ _ _ _ => rfl) (fun _ _ _ _ => rfl) (fun _ _ _ => rfl) ty n c w x
@[simp] theorem post_bmo (ty : Nat) (n : Bool) (c w x : Nat) : (d.post ty n c w x).bmo = d.bmo :=
  post_keeps d (p := Device.bmo) (fun _ _ _ _ => rfl) (fun _ _ _ _ => rfl) (fun _ _ _ => rfl) ty n c w x
@[simp] theorem post_synth (ty : Nat) (n : Bool) (c w x : Nat) : (d.post ty n c w x).synth = d.synth :=
  post_keeps d (p := Device.synth) (fun _ _ _ _ => rfl) (fun _ _ _ _ => rfl) (fun _ _ _ => rfl) ty n c w x
@[simp] theorem post_ref (ty : Nat) (n : Bool) (c w x : Nat) : (d.post ty n c w x).ref = d.ref :=
  post_keeps d (p := Device.ref) (fun _ _ _ _ => rfl) (fun _ _ _ _ => rfl) (fun _ _ _ => rfl) ty n c w x
@[simp] theorem post_port (ty : Nat) (n : Bool) (c w x : Nat) : (d.post ty n c w x).port = d.port :=
  post_keeps d (p := Device.port) (fun _ _ _ _ => rfl) (fun _ _ _ _ => rfl) (fun _ _ _ => rfl) ty n c w x
@[simp] theorem post_rgl (ty : Nat) (n : Bool) (c w x : Nat) : (d.post ty n c w x).rgl = d.rgl :=
  post_keeps d (p := Device.rgl) (fun _ _ _ _ => rfl) (fun _ _ _ _ => rfl) (fun _ _ _ => rfl) ty n c w x
@[simp] theorem post_mot (ty : Nat) (n : Bool) (c w x : Nat) : (d.post ty n c w x).mot = d.mot :=
  post_keeps d (p := Device.mot) (fun _ _ _ _ => rfl) (fun _ _ _ _ => rfl) (fun _ _ _ => rfl) ty n c w x
@[simp] theorem post_axs (ty : Nat) (n : Bool) (c w x : Nat) : (d.post ty n c w x).axs = d.axs :=
  post_keeps d (p := Device.axs) (fun _ _ _ _ => rfl) (fun _ _ _ _ => rfl) (fun _ _ _ => rfl) ty n c w x
@[simp] theorem post_params (ty : Nat) (n : Bool) (c w x : Nat) : (d.post ty n c w x).params = d.params :=
  post_keeps d (p := Device.params) (fun _ _ _ _ => rfl) (fun _ _ _ _ => rfl) (fun _ _ _ => rfl) ty n c w x
@[simp] theorem post_arc (ty : Nat) (n : Bool) (c w x : Nat) : (d.post ty n c w x).arc = d.arc :=
  post_keeps d (p := Device.arc) (fun _ _ _ _ => rfl) (fun _ _ _ _ => rfl) (fun _ _ _ => rfl) ty n c w x
@[simp] theorem post_dma (ty : Nat) (n : Bool) (c w x : Nat) : (d.post ty n c w x).dma = d.dma :=
  post_keeps d (p := Device.dma) (fun _ _ _ _ => rfl) (fun _ _ _ _ => rfl) (fun _ _ _ => rfl) ty n c w x
@[simp] theorem post_frees (ty : Nat) (n : Bool) (c w x : Nat) : (d.post ty n c w x).frees = d.frees :=
  post_keeps d (p := Device.frees) (fun _ _ _ _ => rfl) (fun _ _ _ _ => rfl) (fun _ _ _ => rfl) ty n c w x
@[simp] theorem post_sramCe (ty : Nat) (n : Bool) (c w x : Nat) : (d.post ty n c w x).sramCe = d.sramCe :=
  post_keeps d (p := Device.sramCe) (fun _ _ _ _ => rfl) (fun _ _ _ _ => rfl) (fun _ _ _ => rfl) ty n c w x

@[simp] theorem ledgerBase_now (b o x y : Nat) : (d.ledgerBase b o x y).now = d.now :=
  ledgerBase_keeps d (p := Device.now) (fun _ _ _ _ => rfl) (fun _ _ _ _ => rfl) (fun _ _ _ => rfl) (fun _ _ => rfl) o x y
@[simp] theorem ledgerBase_startAt (b o x y : Nat) : (d.ledgerBase b o x y).startAt = d.startAt :=
  ledgerBase_keeps d (p := Device.startAt) (fun _ _ _ _ => rfl) (fun _ _ _ _ => rfl) (fun _ _ _ => rfl) (fun _ _ => rfl) o x y
@[simp] theorem ledgerBase_st (b o x y : Nat) : (d.ledgerBase b o x y).st = d.st :=
  ledgerBase_keeps d (p := Device.st) (fun _ _ _ _ => rfl) (fun _ _ _ _ => rfl) (fun _ _ _ => rfl) (fun _ _ => rfl) o x y
@[simp] theorem ledgerBase_tables (b o x y : Nat) : (d.ledgerBase b o x y).tables = d.tables :=
  ledgerBase_keeps d (p := Device.tables) (fun _ _ _ _ => rfl) (fun _ _ _ _ => rfl) (fun _ _ _ => rfl) (fun _ _ => rfl) o x y
@[simp] theorem ledgerBase_resp (b o x y : Nat) : (d.ledgerBase b o x y).resp = d.resp :=
  ledgerBase_keeps d (p := Device.resp) (fun _ _ _ _ => rfl) (fun _ _ _ _ => rfl) (fun _ _ _ => rfl) (fun _ _ => rfl) o x y
@[simp] theorem ledgerBase_data (b o x y : Nat) : (d.ledgerBase b o x y).data = d.data :=
  ledgerBase_keeps d (p := Device.data) (fun _ _ _ _ => rfl) (fun _ _ _ _ => rfl) (fun _ _ _ => rfl) (fun _ _ => rfl) o x y
@[simp] theorem ledgerBase_rdata (b o x y : Nat) : (d.ledgerBase b o x y).rdata = d.rdata :=
  ledgerBase_keeps d (p := Device.rdata) (fun _ _ _ _ => rfl) (fun _ _ _ _ => rfl) (fun _ _ _ => rfl) (fun _ _ => rfl) o x y
@[simp] theorem ledgerBase_hiLatch (b o x y : Nat) : (d.ledgerBase b o x y).hiLatch = d.hiLatch :=
  ledgerBase_keeps d (p := Device.hiLatch) (fun _ _ _ _ => rfl) (fun _ _ _ _ => rfl) (fun _ _ _ => rfl) (fun _ _ => rfl) o x y
@[simp] theorem ledgerBase_loHold (b o x y : Nat) : (d.ledgerBase b o x y).loHold = d.loHold :=
  ledgerBase_keeps d (p := Device.loHold) (fun _ _ _ _ => rfl) (fun _ _ _ _ => rfl) (fun _ _ _ => rfl) (fun _ _ => rfl) o x y
@[simp] theorem ledgerBase_token (b o x y : Nat) : (d.ledgerBase b o x y).token = d.token :=
  ledgerBase_keeps d (p := Device.token) (fun _ _ _ _ => rfl) (fun _ _ _ _ => rfl) (fun _ _ _ => rfl) (fun _ _ => rfl) o x y
@[simp] theorem ledgerBase_north (b o x y : Nat) : (d.ledgerBase b o x y).north = d.north :=
  ledgerBase_keeps d (p := Device.north) (fun _ _ _ _ => rfl) (fun _ _ _ _ => rfl) (fun _ _ _ => rfl) (fun _ _ => rfl) o x y
@[simp] theorem ledgerBase_south (b o x y : Nat) : (d.ledgerBase b o x y).south = d.south :=
  ledgerBase_keeps d (p := Device.south) (fun _ _ _ _ => rfl) (fun _ _ _ _ => rfl) (fun _ _ _ => rfl) (fun _ _ => rfl) o x y
@[simp] theorem ledgerBase_transfer (b o x y : Nat) : (d.ledgerBase b o x y).transfer = d.transfer :=
  ledgerBase_keeps d (p := Device.transfer) (fun _ _ _ _ => rfl) (fun _ _ _ _ => rfl) (fun _ _ _ => rfl) (fun _ _ => rfl) o x y
@[simp] theorem ledgerBase_planned (b o x y : Nat) : (d.ledgerBase b o x y).planned = d.planned :=
  ledgerBase_keeps d (p := Device.planned) (fun _ _ _ _ => rfl) (fun _ _ _ _ => rfl) (fun _ _ _ => rfl) (fun _ _ => rfl) o x y
@[simp] theorem ledgerBase_tokenAt (b o x y : Nat) : (d.ledgerBase b o x y).tokenAt = d.tokenAt :=
  ledgerBase_keeps d (p := Device.tokenAt) (fun _ _ _ _ => rfl) (fun _ _ _ _ => rfl) (fun _ _ _ => rfl) (fun _ _ => rfl) o x y
@[simp] theorem ledgerBase_kerb (b o x y : Nat) : (d.ledgerBase b o x y).kerb = d.kerb :=
  ledgerBase_keeps d (p := Device.kerb) (fun _ _ _ _ => rfl) (fun _ _ _ _ => rfl) (fun _ _ _ => rfl) (fun _ _ => rfl) o x y
@[simp] theorem ledgerBase_dlv (b o x y : Nat) : (d.ledgerBase b o x y).dlv = d.dlv :=
  ledgerBase_keeps d (p := Device.dlv) (fun _ _ _ _ => rfl) (fun _ _ _ _ => rfl) (fun _ _ _ => rfl) (fun _ _ => rfl) o x y
@[simp] theorem ledgerBase_tml (b o x y : Nat) : (d.ledgerBase b o x y).tml = d.tml :=
  ledgerBase_keeps d (p := Device.tml) (fun _ _ _ _ => rfl) (fun _ _ _ _ => rfl) (fun _ _ _ => rfl) (fun _ _ => rfl) o x y
@[simp] theorem ledgerBase_sup (b o x y : Nat) : (d.ledgerBase b o x y).sup = d.sup :=
  ledgerBase_keeps d (p := Device.sup) (fun _ _ _ _ => rfl) (fun _ _ _ _ => rfl) (fun _ _ _ => rfl) (fun _ _ => rfl) o x y
@[simp] theorem ledgerBase_ps (b o x y : Nat) : (d.ledgerBase b o x y).ps = d.ps :=
  ledgerBase_keeps d (p := Device.ps) (fun _ _ _ _ => rfl) (fun _ _ _ _ => rfl) (fun _ _ _ => rfl) (fun _ _ => rfl) o x y
@[simp] theorem ledgerBase_flash (b o x y : Nat) : (d.ledgerBase b o x y).flash = d.flash :=
  ledgerBase_keeps d (p := Device.flash) (fun _ _ _ _ => rfl) (fun _ _ _ _ => rfl) (fun _ _ _ => rfl) (fun _ _ => rfl) o x y
@[simp] theorem ledgerBase_boot (b o x y : Nat) : (d.ledgerBase b o x y).boot = d.boot :=
  ledgerBase_keeps d (p := Device.boot) (fun _ _ _ _ => rfl) (fun _ _ _ _ => rfl) (fun _ _ _ => rfl) (fun _ _ => rfl) o x y
@[simp] theorem ledgerBase_clk (b o x y : Nat) : (d.ledgerBase b o x y).clk = d.clk :=
  ledgerBase_keeps d (p := Device.clk) (fun _ _ _ _ => rfl) (fun _ _ _ _ => rfl) (fun _ _ _ => rfl) (fun _ _ => rfl) o x y
@[simp] theorem ledgerBase_pwr (b o x y : Nat) : (d.ledgerBase b o x y).pwr = d.pwr :=
  ledgerBase_keeps d (p := Device.pwr) (fun _ _ _ _ => rfl) (fun _ _ _ _ => rfl) (fun _ _ _ => rfl) (fun _ _ => rfl) o x y
@[simp] theorem ledgerBase_thm (b o x y : Nat) : (d.ledgerBase b o x y).thm = d.thm :=
  ledgerBase_keeps d (p := Device.thm) (fun _ _ _ _ => rfl) (fun _ _ _ _ => rfl) (fun _ _ _ => rfl) (fun _ _ => rfl) o x y
@[simp] theorem ledgerBase_cns (b o x y : Nat) : (d.ledgerBase b o x y).cns = d.cns :=
  ledgerBase_keeps d (p := Device.cns) (fun _ _ _ _ => rfl) (fun _ _ _ _ => rfl) (fun _ _ _ => rfl) (fun _ _ => rfl) o x y
@[simp] theorem ledgerBase_bmo (b o x y : Nat) : (d.ledgerBase b o x y).bmo = d.bmo :=
  ledgerBase_keeps d (p := Device.bmo) (fun _ _ _ _ => rfl) (fun _ _ _ _ => rfl) (fun _ _ _ => rfl) (fun _ _ => rfl) o x y
@[simp] theorem ledgerBase_synth (b o x y : Nat) : (d.ledgerBase b o x y).synth = d.synth :=
  ledgerBase_keeps d (p := Device.synth) (fun _ _ _ _ => rfl) (fun _ _ _ _ => rfl) (fun _ _ _ => rfl) (fun _ _ => rfl) o x y
@[simp] theorem ledgerBase_ref (b o x y : Nat) : (d.ledgerBase b o x y).ref = d.ref :=
  ledgerBase_keeps d (p := Device.ref) (fun _ _ _ _ => rfl) (fun _ _ _ _ => rfl) (fun _ _ _ => rfl) (fun _ _ => rfl) o x y
@[simp] theorem ledgerBase_port (b o x y : Nat) : (d.ledgerBase b o x y).port = d.port :=
  ledgerBase_keeps d (p := Device.port) (fun _ _ _ _ => rfl) (fun _ _ _ _ => rfl) (fun _ _ _ => rfl) (fun _ _ => rfl) o x y
@[simp] theorem ledgerBase_rgl (b o x y : Nat) : (d.ledgerBase b o x y).rgl = d.rgl :=
  ledgerBase_keeps d (p := Device.rgl) (fun _ _ _ _ => rfl) (fun _ _ _ _ => rfl) (fun _ _ _ => rfl) (fun _ _ => rfl) o x y
@[simp] theorem ledgerBase_mot (b o x y : Nat) : (d.ledgerBase b o x y).mot = d.mot :=
  ledgerBase_keeps d (p := Device.mot) (fun _ _ _ _ => rfl) (fun _ _ _ _ => rfl) (fun _ _ _ => rfl) (fun _ _ => rfl) o x y
@[simp] theorem ledgerBase_axs (b o x y : Nat) : (d.ledgerBase b o x y).axs = d.axs :=
  ledgerBase_keeps d (p := Device.axs) (fun _ _ _ _ => rfl) (fun _ _ _ _ => rfl) (fun _ _ _ => rfl) (fun _ _ => rfl) o x y
@[simp] theorem ledgerBase_params (b o x y : Nat) : (d.ledgerBase b o x y).params = d.params :=
  ledgerBase_keeps d (p := Device.params) (fun _ _ _ _ => rfl) (fun _ _ _ _ => rfl) (fun _ _ _ => rfl) (fun _ _ => rfl) o x y
@[simp] theorem ledgerBase_arc (b o x y : Nat) : (d.ledgerBase b o x y).arc = d.arc :=
  ledgerBase_keeps d (p := Device.arc) (fun _ _ _ _ => rfl) (fun _ _ _ _ => rfl) (fun _ _ _ => rfl) (fun _ _ => rfl) o x y
@[simp] theorem ledgerBase_dma (b o x y : Nat) : (d.ledgerBase b o x y).dma = d.dma :=
  ledgerBase_keeps d (p := Device.dma) (fun _ _ _ _ => rfl) (fun _ _ _ _ => rfl) (fun _ _ _ => rfl) (fun _ _ => rfl) o x y
@[simp] theorem ledgerBase_frees (b o x y : Nat) : (d.ledgerBase b o x y).frees = d.frees :=
  ledgerBase_keeps d (p := Device.frees) (fun _ _ _ _ => rfl) (fun _ _ _ _ => rfl) (fun _ _ _ => rfl) (fun _ _ => rfl) o x y
@[simp] theorem ledgerBase_sramCe (b o x y : Nat) : (d.ledgerBase b o x y).sramCe = d.sramCe :=
  ledgerBase_keeps d (p := Device.sramCe) (fun _ _ _ _ => rfl) (fun _ _ _ _ => rfl) (fun _ _ _ => rfl) (fun _ _ => rfl) o x y

@[simp] theorem sheetJournal_now (k w c st : Nat) (re du : Bool) (h : Nat) : (d.sheetJournal k w c st re du h).now = d.now :=
  rfl
@[simp] theorem sheetJournal_startAt (k w c st : Nat) (re du : Bool) (h : Nat) : (d.sheetJournal k w c st re du h).startAt = d.startAt :=
  rfl
@[simp] theorem sheetJournal_st (k w c st : Nat) (re du : Bool) (h : Nat) : (d.sheetJournal k w c st re du h).st = d.st :=
  rfl
@[simp] theorem sheetJournal_regs (k w c st : Nat) (re du : Bool) (h : Nat) : (d.sheetJournal k w c st re du h).regs = d.regs :=
  rfl
@[simp] theorem sheetJournal_mem (k w c st : Nat) (re du : Bool) (h : Nat) : (d.sheetJournal k w c st re du h).mem = d.mem :=
  rfl
@[simp] theorem sheetJournal_tables (k w c st : Nat) (re du : Bool) (h : Nat) : (d.sheetJournal k w c st re du h).tables = d.tables :=
  rfl
@[simp] theorem sheetJournal_resp (k w c st : Nat) (re du : Bool) (h : Nat) : (d.sheetJournal k w c st re du h).resp = d.resp :=
  rfl
@[simp] theorem sheetJournal_data (k w c st : Nat) (re du : Bool) (h : Nat) : (d.sheetJournal k w c st re du h).data = d.data :=
  rfl
@[simp] theorem sheetJournal_rdata (k w c st : Nat) (re du : Bool) (h : Nat) : (d.sheetJournal k w c st re du h).rdata = d.rdata :=
  rfl
@[simp] theorem sheetJournal_hiLatch (k w c st : Nat) (re du : Bool) (h : Nat) : (d.sheetJournal k w c st re du h).hiLatch = d.hiLatch :=
  rfl
@[simp] theorem sheetJournal_loHold (k w c st : Nat) (re du : Bool) (h : Nat) : (d.sheetJournal k w c st re du h).loHold = d.loHold :=
  rfl
@[simp] theorem sheetJournal_token (k w c st : Nat) (re du : Bool) (h : Nat) : (d.sheetJournal k w c st re du h).token = d.token :=
  rfl
@[simp] theorem sheetJournal_north (k w c st : Nat) (re du : Bool) (h : Nat) : (d.sheetJournal k w c st re du h).north = d.north :=
  rfl
@[simp] theorem sheetJournal_south (k w c st : Nat) (re du : Bool) (h : Nat) : (d.sheetJournal k w c st re du h).south = d.south :=
  rfl
@[simp] theorem sheetJournal_transfer (k w c st : Nat) (re du : Bool) (h : Nat) : (d.sheetJournal k w c st re du h).transfer = d.transfer :=
  rfl
@[simp] theorem sheetJournal_planned (k w c st : Nat) (re du : Bool) (h : Nat) : (d.sheetJournal k w c st re du h).planned = d.planned :=
  rfl
@[simp] theorem sheetJournal_tokenAt (k w c st : Nat) (re du : Bool) (h : Nat) : (d.sheetJournal k w c st re du h).tokenAt = d.tokenAt :=
  rfl
@[simp] theorem sheetJournal_host (k w c st : Nat) (re du : Bool) (h : Nat) : (d.sheetJournal k w c st re du h).host = d.host :=
  rfl
@[simp] theorem sheetJournal_ledger (k w c st : Nat) (re du : Bool) (h : Nat) : (d.sheetJournal k w c st re du h).ledger = d.ledger :=
  rfl
@[simp] theorem sheetJournal_kerb (k w c st : Nat) (re du : Bool) (h : Nat) : (d.sheetJournal k w c st re du h).kerb = d.kerb :=
  rfl
@[simp] theorem sheetJournal_tml (k w c st : Nat) (re du : Bool) (h : Nat) : (d.sheetJournal k w c st re du h).tml = d.tml :=
  rfl
@[simp] theorem sheetJournal_sup (k w c st : Nat) (re du : Bool) (h : Nat) : (d.sheetJournal k w c st re du h).sup = d.sup :=
  rfl
@[simp] theorem sheetJournal_ps (k w c st : Nat) (re du : Bool) (h : Nat) : (d.sheetJournal k w c st re du h).ps = d.ps :=
  rfl
@[simp] theorem sheetJournal_flash (k w c st : Nat) (re du : Bool) (h : Nat) : (d.sheetJournal k w c st re du h).flash = d.flash :=
  rfl
@[simp] theorem sheetJournal_boot (k w c st : Nat) (re du : Bool) (h : Nat) : (d.sheetJournal k w c st re du h).boot = d.boot :=
  rfl
@[simp] theorem sheetJournal_clk (k w c st : Nat) (re du : Bool) (h : Nat) : (d.sheetJournal k w c st re du h).clk = d.clk :=
  rfl
@[simp] theorem sheetJournal_pwr (k w c st : Nat) (re du : Bool) (h : Nat) : (d.sheetJournal k w c st re du h).pwr = d.pwr :=
  rfl
@[simp] theorem sheetJournal_thm (k w c st : Nat) (re du : Bool) (h : Nat) : (d.sheetJournal k w c st re du h).thm = d.thm :=
  rfl
@[simp] theorem sheetJournal_cns (k w c st : Nat) (re du : Bool) (h : Nat) : (d.sheetJournal k w c st re du h).cns = d.cns :=
  rfl
@[simp] theorem sheetJournal_bmo (k w c st : Nat) (re du : Bool) (h : Nat) : (d.sheetJournal k w c st re du h).bmo = d.bmo :=
  rfl
@[simp] theorem sheetJournal_synth (k w c st : Nat) (re du : Bool) (h : Nat) : (d.sheetJournal k w c st re du h).synth = d.synth :=
  rfl
@[simp] theorem sheetJournal_ref (k w c st : Nat) (re du : Bool) (h : Nat) : (d.sheetJournal k w c st re du h).ref = d.ref :=
  rfl
@[simp] theorem sheetJournal_port (k w c st : Nat) (re du : Bool) (h : Nat) : (d.sheetJournal k w c st re du h).port = d.port :=
  rfl
@[simp] theorem sheetJournal_rgl (k w c st : Nat) (re du : Bool) (h : Nat) : (d.sheetJournal k w c st re du h).rgl = d.rgl :=
  rfl
@[simp] theorem sheetJournal_mot (k w c st : Nat) (re du : Bool) (h : Nat) : (d.sheetJournal k w c st re du h).mot = d.mot :=
  rfl
@[simp] theorem sheetJournal_axs (k w c st : Nat) (re du : Bool) (h : Nat) : (d.sheetJournal k w c st re du h).axs = d.axs :=
  rfl
@[simp] theorem sheetJournal_params (k w c st : Nat) (re du : Bool) (h : Nat) : (d.sheetJournal k w c st re du h).params = d.params :=
  rfl
@[simp] theorem sheetJournal_arc (k w c st : Nat) (re du : Bool) (h : Nat) : (d.sheetJournal k w c st re du h).arc = d.arc :=
  rfl
@[simp] theorem sheetJournal_dma (k w c st : Nat) (re du : Bool) (h : Nat) : (d.sheetJournal k w c st re du h).dma = d.dma :=
  rfl
@[simp] theorem sheetJournal_frees (k w c st : Nat) (re du : Bool) (h : Nat) : (d.sheetJournal k w c st re du h).frees = d.frees :=
  rfl
@[simp] theorem sheetJournal_sramCe (k w c st : Nat) (re du : Bool) (h : Nat) : (d.sheetJournal k w c st re du h).sramCe = d.sramCe :=
  rfl

end Sys2Proof.Machine
end

