-- ==== Sys2Proof/Laws/Kerb.lean ====
section
/-! SUPPORT. What a change of the device state, stranding, entry into Safe, a Kerb trigger and a ledger event can change, in the form of
the laws of events: whatever the named basic changes keep, the operation keeps. -/

namespace Sys2Proof.Machine

variable {β : Type} (d : Device)

theorem setSt_st (n : DevState) : (d.setSt n).st = n := by
  unfold Device.setSt
  split
  · assumption
  · simp

theorem setSt_keeps {p : Device → β} (hr : ∀ a ∈ postRegs, ∀ e v, p (Device.setReg e a v) = p e)
    (hm : ∀ e a b, 2 ^ 63 ≤ a → p (Device.setByte e a b) = p e) (hh : ∀ e f, EventsOnly f → p (Device.modHost e f) = p e)
    (hs : ∀ e v, p (Device.withSt e v) = p e) (n : DevState) : p (d.setSt n) = p d := by
  unfold Device.setSt
  split
  · rfl
  · exact (post_keeps _ hr hm hh _ _ _ _ _).trans (hs _ _)

theorem reg_setSt (n : DevState) {a : Nat} (h : a ∉ postRegs) : (d.setSt n).reg a = d.reg a :=
  setSt_keeps d (p := fun d => d.reg a) (reg_setReg_mem h) (fun _ _ _ _ => rfl) (fun _ _ _ => rfl) (fun _ _ => rfl) n

/-- Stranding posts events, and changes the sheets and the Timeline. -/
theorem strand_keeps {p : Device → β} (hr : ∀ a ∈ postRegs, ∀ e v, p (Device.setReg e a v) = p e)
    (hm : ∀ e a b, 2 ^ 63 ≤ a → p (Device.setByte e a b) = p e) (hh : ∀ e f, EventsOnly f → p (Device.modHost e f) = p e)
    (hd : ∀ e f, p (Device.modDlv e f) = p e) (ht : ∀ e f, p (Device.modTml e f) = p e) : p d.strand = p d := by
  unfold Device.strand
  extract_lets l d1 opened d2
  have h1 : p d1 = p d := each_keeps (p := p) (fun x e => (post_keeps _ hr hm hh _ _ _ _ _).trans (hd _ _)) l d
  exact (hd _ _).trans ((ht _ _).trans ((hd _ _).trans h1))

theorem st_strand : d.strand.st = d.st :=
  strand_keeps d (p := Device.st) (fun _ _ _ _ => rfl) (fun _ _ _ _ => rfl) (fun _ _ _ => rfl) (fun _ _ => rfl) (fun _ _ => rfl)

/-! Entry into Safe. -/

/-- Whether an address lies in a Quarter's Regulator, commutation or axis block: entry into Safe changes no other register of a
Quarter. -/
abbrev inLoops (a : Nat) : Prop := (0x01040000 ≤ a ∧ a < 0x010B0000) ∨ (0x02040000 ≤ a ∧ a < 0x020B0000)

theorem base_eq (q : Side) : q.base = 0x01000000 ∨ q.base = 0x02000000 := by cases q <;> decide

/-- What a projection must not look at to be kept by entry into Safe: registers of those blocks, those of the ledger's events and of the
event ring, and the parts of the device that entry into Safe changes. -/
structure SafeKeeps (p : Device → β) : Prop where
  quarter : ∀ a, inLoops a → ∀ e v, p (Device.setReg e a v) = p e
  ledger : ∀ a ∈ ledgerRegs lbRegFallback, ∀ e v, p (Device.setReg e a v) = p e
  mem : ∀ e a b, 2 ^ 63 ≤ a → p (Device.setByte e a b) = p e
  host : ∀ e f, EventsOnly f → p (Device.modHost e f) = p e
  ldg : ∀ e f, p (Device.modLedger e f) = p e
  rgl : ∀ e f, p (Device.modRgl e f) = p e
  mot : ∀ e f, p (Device.modMot e f) = p e
  axs : ∀ e f, p (Device.modAxs e f) = p e
  bmo : ∀ e f, p (Device.modBmo e f) = p e
  dlv : ∀ e f, p (Device.modDlv e f) = p e
  tml : ∀ e f, p (Device.modTml e f) = p e

variable {p : Device → β}

theorem SafeKeeps.post (h : SafeKeeps p) : ∀ a ∈ postRegs, ∀ e v, p (Device.setReg e a v) = p e :=
  fun a ha => h.ledger a (postRegs_sub _ a ha)

theorem each_keeps_mem {α : Type} {f : α → Device → Device} :
    ∀ (l : List α) (d : Device), (∀ x ∈ l, ∀ e, p (f x e) = p e) → p (d.each l f) = p d := by
  intro l
  induction l with
  | nil => intro d _; rfl
  | cons x r ih =>
    intro d h
    exact (ih (f x d) (fun y hy => h y (List.mem_cons_of_mem x hy))).trans (h x List.mem_cons_self d)

theorem putOut_keeps (h : SafeKeeps p) (q : Side) {n : Nat} (hn : n < 4096) (y : Int) : p (d.putOut q n y) = p d := by
  have hb := base_eq q
  unfold Device.putOut
  extract_lets dst i d1
  have hi : i < 4096 := Nat.mod_lt _ (by decide)
  have h1 : p d1 = p d := h.quarter _ (by unfold inLoops REG_SLOT_OUT; omega) _ _
  split
  · exact (h.mot d1 _).trans h1
  · exact (h.quarter _ (by unfold inLoops REG_SLOT_SP; omega) _ _).trans h1
  · exact (h.mot d1 _).trans h1
  · exact (h.mot d1 _).trans h1
  · exact h1

theorem setFallback_keeps (h : SafeKeeps p) (q : Side) {n : Nat} (hn : n < 4096) (b : Bool) (c : Nat) :
    p (d.setFallback q n b c) = p d := by
  have hb := base_eq q
  have hs : ∀ e f v, p (Device.setFld e (REG_SLOT_STATUS q n) f v) = p e :=
    fun e f v => h.quarter _ (by unfold inLoops REG_SLOT_STATUS; omega) _ _
  have hf : ∀ e f v, p (Device.setFld e (REG_FALLBACK q (n / 32)) f v) = p e :=
    fun e f v => h.quarter _ (by unfold inLoops REG_FALLBACK; omega) _ _
  unfold Device.setFallback
  extract_lets d1
  exact (hf d1 _ _).trans ((hs _ _ _).trans (hs d _ _))

theorem safeSlot_keeps (h : SafeKeeps p) (q : Side) {n : Nat} (hn : n < 4096) : p (d.safeSlot q n) = p d := by
  unfold Device.safeSlot
  extract_lets hd c d1 d2
  have h1 : p d1 = p d := setFallback_keeps d h q hn true 4
  have h2 : p d2 = p d := by
    unfold d2
    split
    · rfl
    · split
      · exact (ledgerBase_keeps d1 h.ledger h.mem h.host h.ldg _ _ _).trans h1
      · exact h1
  split
  · exact (putOut_keeps _ h q hn _).trans ((h.rgl d2 _).trans h2)
  · rfl

theorem safePoly_keeps (h : SafeKeeps p) (q : Side) {n : Nat} (hn : n < 8) : p (d.safePoly q n) = p d := by
  have hb := base_eq q
  unfold Device.safePoly
  refine (h.mot _ _).trans ((h.quarter _ ?_ _ _).trans ((h.quarter _ ?_ _ _).trans (h.quarter _ ?_ _ _)))
  · unfold inLoops MOT_POLY_SPEED; omega
  · unfold inLoops MOT_POLY_CTRL; omega
  · unfold inLoops MOT_POLY_STATUS; omega

theorem safePmsm_keeps (h : SafeKeeps p) (q : Side) {n : Nat} (hn : n < 4) : p (d.safePmsm q n) = p d := by
  have hb := base_eq q
  unfold Device.safePmsm
  refine (h.mot _ _).trans ((h.quarter _ ?_ _ _).trans (h.quarter _ ?_ _ _))
  · unfold inLoops MOT_PMSM_CTRL; omega
  · unfold inLoops MOT_PMSM_STATUS; omega

theorem axisRest_keeps (h : SafeKeeps p) (q : Side) {a : Nat} (ha : a < 32) (v : Nat) : p (d.axisRest q a v) = p d := by
  have hb := base_eq q
  have hs : ∀ e f b, p (Device.setFlag e (AXS_STATUS q a) f b) = p e :=
    fun e f b => h.quarter _ (by unfold inLoops AXS_STATUS; omega) _ _
  have hp : ∀ e w, p (Device.setReg e (AXS_POS q a) w) = p e := h.quarter _ (by unfold inLoops AXS_POS; omega)
  have ht : ∀ e w, p (Device.setReg e (AXS_TARGET q a) w) = p e := h.quarter _ (by unfold inLoops AXS_TARGET; omega)
  have hv : ∀ e w, p (Device.setReg e (AXS_VEL q a) w) = p e := h.quarter _ (by unfold inLoops AXS_VEL; omega)
  unfold Device.axisRest
  extract_lets inv w d1 d2 d3
  exact (h.axs d3 _).trans ((hs _ _ _).trans ((hs d2 _ _).trans ((hs _ _ _).trans ((hs d1 _ _).trans ((hv _ _).trans ((ht _ _).trans (hp d _)))))))

theorem safeQuarter_keeps (h : SafeKeeps p) (q : Side) : p (d.safeQuarter q) = p d := by
  unfold Device.safeQuarter
  extract_lets d1 d2 d3 d4
  have h1 : p d1 = p d := each_keeps_mem _ _ fun n hn e => by
    simp only [List.mem_filter, List.mem_range] at hn
    exact safeSlot_keeps e h q (by omega)
  have h2 : p d2 = p d1 := each_keeps_mem _ _ fun n hn e => safePoly_keeps e h q (by simpa using hn)
  have h3 : p d3 = p d2 := each_keeps_mem _ _ fun n hn e => safePmsm_keeps e h q (by simpa using hn)
  have h4 : p d4 = p d3 := each_keeps_mem _ _ fun n hn e => by
    simp only [List.mem_filter, List.mem_range] at hn
    exact axisRest_keeps e h q (by omega) _
  exact (h.mot d4 _).trans (h4.trans (h3.trans (h2.trans h1)))

theorem safeHooks_keeps (h : SafeKeeps p) : p d.safeHooks = p d :=
  (h.bmo _ _).trans (each_keeps_mem _ _ fun q _ e => safeQuarter_keeps e h q)

/-- The registers of the shared core that entry into Safe changes itself. -/
def safeRegs : List Nat := [KRB_STATUS, KRB_CAUSE, KRB_TIME_LO, KRB_TIME_LO + 4, LDG_NMI, RDB_PANIC]

/-- What a projection must not look at to be kept by a Kerb trigger of source `b`. -/
structure KerbKeeps (b : Nat) (p : Device → β) : Prop extends SafeKeeps p where
  own : ∀ a ∈ ledgerRegs b, ∀ e v, p (Device.setReg e a v) = p e
  safe : ∀ a ∈ safeRegs, ∀ e v, p (Device.setReg e a v) = p e
  st : ∀ e v, p (Device.withSt e v) = p e
  krb : ∀ e f, p (Device.modKerb e f) = p e
  stop : ∀ e, p (Device.stopTransmitting e) = p e

theorem enterSafe_keeps {b : Nat} (h : KerbKeeps b p) (t : Nat) : p (d.enterSafe t) = p d := by
  unfold Device.enterSafe
  extract_lets d1 d2 d3
  have s := h.toSafeKeeps
  have h1 : p d1 = p d := (h.safe _ (by simp [safeRegs]) _ _).trans (h.safe _ (by simp [safeRegs]) d _)
  have h2 : p d2 = p d1 := (h.safe (KRB_TIME_LO + 4) (by simp [safeRegs]) _ _).trans (h.safe KRB_TIME_LO (by simp [safeRegs]) d1 _)
  have h3 : p d3 = p d2 := by
    unfold d3
    split
    · exact h.safe _ (by simp [safeRegs]) d2 _
    · rfl
  refine (safeHooks_keeps _ s).trans ((h.stop _).trans ?_)
  refine (strand_keeps _ s.post s.mem s.host s.dlv s.tml).trans ?_
  exact (setSt_keeps _ s.post s.mem s.host h.st _).trans (h3.trans (h2.trans h1))

theorem latchCause_keeps {b : Nat} (h : KerbKeeps b p) (t : Nat) : p (d.latchCause t) = p d :=
  h.safe _ (by simp [safeRegs]) d _

/-- A Kerb trigger keeps what `KerbKeeps` of its ledger source asks. -/
theorem kerbTrigger_keeps (t : Nat) (h : KerbKeeps t p) (o x : Nat) : p (d.kerbTrigger t o x) = p d := by
  have s := h.toSafeKeeps
  have hl : ∀ e : Device, p (e.ledgerBase t o x 0) = p e := fun e => ledgerBase_keeps e h.own s.mem s.host s.ldg o x 0
  unfold Device.kerbTrigger
  extract_lets d1
  have h0 : p d1 = p d := h.krb d _
  refine Eq.trans ?_ h0
  split
  · rfl
  · exact (h.krb _ _).trans (h.own _ (by simp [ledgerRegs]) d1 _)
  · exact (h.krb _ _).trans ((h.safe _ (by simp [safeRegs]) _ _).trans ((latchCause_keeps _ h t).trans (hl d1)))
  · exact (latchCause_keeps _ h t).trans (hl d1)
  · exact (latchCause_keeps _ h t).trans ((enterSafe_keeps _ h t).trans (hl d1))

/-- A ledger event keeps what `KerbKeeps` of its source and of the LEDGER trigger ask. -/
theorem ledgerEvent_keeps {b : Nat} (h : KerbKeeps b p) (ht : KerbKeeps ktLedger p) (o x y : Nat) : p (d.ledgerEvent b o x y) = p d := by
  have h1 := ledgerBase_keeps d h.own h.mem h.host h.ldg o x y
  unfold Device.ledgerEvent
  extract_lets d1
  split
  · exact (kerbTrigger_keeps d1 ktLedger ht o b).trans h1
  · exact h1

end Sys2Proof.Machine
end

