-- ==== Sys2Proof/Laws/KerbFields.lean ====
section
/-! SUPPORT. What a Kerb trigger and a ledger event leave alone: registers outside their lists, and fields. -/

set_option Elab.async false

namespace Sys2Proof.Machine

variable (d : Device)

theorem kerbKeeps_reg {a b : Nat} (h : ¬ inLoops a) (h1 : a ∉ ledgerRegs lbRegFallback) (h2 : a ∉ ledgerRegs b) (h3 : a ∉ safeRegs) :
    KerbKeeps b (fun d : Device => d.reg a) where
  quarter _ hx e v := reg_setReg_ne e v (fun hh => h (hh ▸ hx))
  ledger := reg_setReg_mem h1
  mem _ _ _ _ := rfl
  host _ _ _ := rfl
  ldg _ _ := rfl
  rgl _ _ := rfl
  mot _ _ := rfl
  axs _ _ := rfl
  bmo _ _ := rfl
  dlv _ _ := rfl
  tml _ _ := rfl
  own := reg_setReg_mem h2
  safe := reg_setReg_mem h3
  st _ _ := rfl
  krb _ _ := rfl
  stop e := reg_setReg_mem h3 RDB_PANIC (by simp [safeRegs]) (Device.withTransfer ((e.modNorth QuarterS.quiet).modSouth QuarterS.quiet) none) 0

/-- A ledger event leaves every register outside inLoops and its lists, and every register of a Quarter outside inLoops. -/
theorem reg_ledgerEvent {a b : Nat} (h : ¬ inLoops a) (h1 : a ∉ ledgerRegs lbRegFallback) (h2 : a ∉ ledgerRegs b)
    (h3 : a ∉ ledgerRegs ktLedger) (h4 : a ∉ safeRegs) (o x y : Nat) : (d.ledgerEvent b o x y).reg a = d.reg a :=
  ledgerEvent_keeps d (kerbKeeps_reg h h1 h2 h4) (kerbKeeps_reg h h1 h3 h4) o x y

/-- A byte of the device's own memory is none of host memory (R45). -/
theorem byte_setByte_host {a x : Nat} (h : a < 2 ^ 63) (e : Device) (hx : 2 ^ 63 ≤ x) (b : Byte) : (e.setByte x b).byte a = e.byte a := by
  simp only [byte_setByte]
  exact if_neg (Nat.ne_of_lt (Nat.lt_of_lt_of_le h hx))

theorem kerbKeeps_byte {a : Nat} (h : a < 2 ^ 63) (b : Nat) : KerbKeeps b (fun d : Device => d.byte a) where
  quarter _ _ _ _ := rfl
  ledger _ _ _ _ := rfl
  mem e x b hx := byte_setByte_host h e hx b
  host _ _ _ := rfl
  ldg _ _ := rfl
  rgl _ _ := rfl
  mot _ _ := rfl
  axs _ _ := rfl
  bmo _ _ := rfl
  dlv _ _ := rfl
  tml _ _ := rfl
  own _ _ _ _ := rfl
  safe _ _ _ _ := rfl
  st _ _ := rfl
  krb _ _ := rfl
  stop _ := rfl

/-- A ledger event writes no memory of the device. -/
theorem byte_ledgerEvent {a : Nat} (h : a < 2 ^ 63) (b o x y : Nat) : (d.ledgerEvent b o x y).byte a = d.byte a :=
  ledgerEvent_keeps d (kerbKeeps_byte h b) (kerbKeeps_byte h ktLedger) o x y

theorem byte_kerbTrigger {a : Nat} (h : a < 2 ^ 63) (t o x : Nat) : (d.kerbTrigger t o x).byte a = d.byte a :=
  kerbTrigger_keeps d t (kerbKeeps_byte h t) o x

theorem reg_kerbTrigger {a t : Nat} (h : ¬ inLoops a) (h1 : a ∉ ledgerRegs lbRegFallback) (h2 : a ∉ ledgerRegs t)
    (h4 : a ∉ safeRegs) (o x : Nat) : (d.kerbTrigger t o x).reg a = d.reg a :=
  kerbTrigger_keeps d t (kerbKeeps_reg h h1 h2 h4) o x

theorem kerbKeeps_now (b : Nat) : KerbKeeps b Device.now := by constructor <;> (try constructor) <;> intros <;> rfl
@[simp] theorem kerbTrigger_now (t o x : Nat) : (d.kerbTrigger t o x).now = d.now := kerbTrigger_keeps d t (kerbKeeps_now t) o x
@[simp] theorem ledgerEvent_now (b o x y : Nat) : (d.ledgerEvent b o x y).now = d.now :=
  ledgerEvent_keeps d (kerbKeeps_now b) (kerbKeeps_now ktLedger) o x y
theorem kerbKeeps_startAt (b : Nat) : KerbKeeps b Device.startAt := by constructor <;> (try constructor) <;> intros <;> rfl
@[simp] theorem kerbTrigger_startAt (t o x : Nat) : (d.kerbTrigger t o x).startAt = d.startAt := kerbTrigger_keeps d t (kerbKeeps_startAt t) o x
@[simp] theorem ledgerEvent_startAt (b o x y : Nat) : (d.ledgerEvent b o x y).startAt = d.startAt :=
  ledgerEvent_keeps d (kerbKeeps_startAt b) (kerbKeeps_startAt ktLedger) o x y
theorem kerbKeeps_tables (b : Nat) : KerbKeeps b Device.tables := by constructor <;> (try constructor) <;> intros <;> rfl
@[simp] theorem kerbTrigger_tables (t o x : Nat) : (d.kerbTrigger t o x).tables = d.tables := kerbTrigger_keeps d t (kerbKeeps_tables t) o x
@[simp] theorem ledgerEvent_tables (b o x y : Nat) : (d.ledgerEvent b o x y).tables = d.tables :=
  ledgerEvent_keeps d (kerbKeeps_tables b) (kerbKeeps_tables ktLedger) o x y
theorem kerbKeeps_resp (b : Nat) : KerbKeeps b Device.resp := by constructor <;> (try constructor) <;> intros <;> rfl
@[simp] theorem kerbTrigger_resp (t o x : Nat) : (d.kerbTrigger t o x).resp = d.resp := kerbTrigger_keeps d t (kerbKeeps_resp t) o x
@[simp] theorem ledgerEvent_resp (b o x y : Nat) : (d.ledgerEvent b o x y).resp = d.resp :=
  ledgerEvent_keeps d (kerbKeeps_resp b) (kerbKeeps_resp ktLedger) o x y
theorem kerbKeeps_data (b : Nat) : KerbKeeps b Device.data := by constructor <;> (try constructor) <;> intros <;> rfl
@[simp] theorem kerbTrigger_data (t o x : Nat) : (d.kerbTrigger t o x).data = d.data := kerbTrigger_keeps d t (kerbKeeps_data t) o x
@[simp] theorem ledgerEvent_data (b o x y : Nat) : (d.ledgerEvent b o x y).data = d.data :=
  ledgerEvent_keeps d (kerbKeeps_data b) (kerbKeeps_data ktLedger) o x y
theorem kerbKeeps_rdata (b : Nat) : KerbKeeps b Device.rdata := by constructor <;> (try constructor) <;> intros <;> rfl
@[simp] theorem kerbTrigger_rdata (t o x : Nat) : (d.kerbTrigger t o x).rdata = d.rdata := kerbTrigger_keeps d t (kerbKeeps_rdata t) o x
@[simp] theorem ledgerEvent_rdata (b o x y : Nat) : (d.ledgerEvent b o x y).rdata = d.rdata :=
  ledgerEvent_keeps d (kerbKeeps_rdata b) (kerbKeeps_rdata ktLedger) o x y
theorem kerbKeeps_hiLatch (b : Nat) : KerbKeeps b Device.hiLatch := by constructor <;> (try constructor) <;> intros <;> rfl
@[simp] theorem kerbTrigger_hiLatch (t o x : Nat) : (d.kerbTrigger t o x).hiLatch = d.hiLatch := kerbTrigger_keeps d t (kerbKeeps_hiLatch t) o x
@[simp] theorem ledgerEvent_hiLatch (b o x y : Nat) : (d.ledgerEvent b o x y).hiLatch = d.hiLatch :=
  ledgerEvent_keeps d (kerbKeeps_hiLatch b) (kerbKeeps_hiLatch ktLedger) o x y
theorem kerbKeeps_loHold (b : Nat) : KerbKeeps b Device.loHold := by constructor <;> (try constructor) <;> intros <;> rfl
@[simp] theorem kerbTrigger_loHold (t o x : Nat) : (d.kerbTrigger t o x).loHold = d.loHold := kerbTrigger_keeps d t (kerbKeeps_loHold t) o x
@[simp] theorem ledgerEvent_loHold (b o x y : Nat) : (d.ledgerEvent b o x y).loHold = d.loHold :=
  ledgerEvent_keeps d (kerbKeeps_loHold b) (kerbKeeps_loHold ktLedger) o x y
theorem kerbKeeps_token (b : Nat) : KerbKeeps b Device.token := by constructor <;> (try constructor) <;> intros <;> rfl
@[simp] theorem kerbTrigger_token (t o x : Nat) : (d.kerbTrigger t o x).token = d.token := kerbTrigger_keeps d t (kerbKeeps_token t) o x
@[simp] theorem ledgerEvent_token (b o x y : Nat) : (d.ledgerEvent b o x y).token = d.token :=
  ledgerEvent_keeps d (kerbKeeps_token b) (kerbKeeps_token ktLedger) o x y
theorem kerbKeeps_planned (b : Nat) : KerbKeeps b Device.planned := by constructor <;> (try constructor) <;> intros <;> rfl
@[simp] theorem kerbTrigger_planned (t o x : Nat) : (d.kerbTrigger t o x).planned = d.planned := kerbTrigger_keeps d t (kerbKeeps_planned t) o x
@[simp] theorem ledgerEvent_planned (b o x y : Nat) : (d.ledgerEvent b o x y).planned = d.planned :=
  ledgerEvent_keeps d (kerbKeeps_planned b) (kerbKeeps_planned ktLedger) o x y
theorem kerbKeeps_tokenAt (b : Nat) : KerbKeeps b Device.tokenAt := by constructor <;> (try constructor) <;> intros <;> rfl
@[simp] theorem kerbTrigger_tokenAt (t o x : Nat) : (d.kerbTrigger t o x).tokenAt = d.tokenAt := kerbTrigger_keeps d t (kerbKeeps_tokenAt t) o x
@[simp] theorem ledgerEvent_tokenAt (b o x y : Nat) : (d.ledgerEvent b o x y).tokenAt = d.tokenAt :=
  ledgerEvent_keeps d (kerbKeeps_tokenAt b) (kerbKeeps_tokenAt ktLedger) o x y
theorem kerbKeeps_sup (b : Nat) : KerbKeeps b Device.sup := by constructor <;> (try constructor) <;> intros <;> rfl
@[simp] theorem kerbTrigger_sup (t o x : Nat) : (d.kerbTrigger t o x).sup = d.sup := kerbTrigger_keeps d t (kerbKeeps_sup t) o x
@[simp] theorem ledgerEvent_sup (b o x y : Nat) : (d.ledgerEvent b o x y).sup = d.sup :=
  ledgerEvent_keeps d (kerbKeeps_sup b) (kerbKeeps_sup ktLedger) o x y
theorem kerbKeeps_ps (b : Nat) : KerbKeeps b Device.ps := by constructor <;> (try constructor) <;> intros <;> rfl
@[simp] theorem kerbTrigger_ps (t o x : Nat) : (d.kerbTrigger t o x).ps = d.ps := kerbTrigger_keeps d t (kerbKeeps_ps t) o x
@[simp] theorem ledgerEvent_ps (b o x y : Nat) : (d.ledgerEvent b o x y).ps = d.ps :=
  ledgerEvent_keeps d (kerbKeeps_ps b) (kerbKeeps_ps ktLedger) o x y
theorem kerbKeeps_flash (b : Nat) : KerbKeeps b Device.flash := by constructor <;> (try constructor) <;> intros <;> rfl
@[simp] theorem kerbTrigger_flash (t o x : Nat) : (d.kerbTrigger t o x).flash = d.flash := kerbTrigger_keeps d t (kerbKeeps_flash t) o x
@[simp] theorem ledgerEvent_flash (b o x y : Nat) : (d.ledgerEvent b o x y).flash = d.flash :=
  ledgerEvent_keeps d (kerbKeeps_flash b) (kerbKeeps_flash ktLedger) o x y
theorem kerbKeeps_boot (b : Nat) : KerbKeeps b Device.boot := by constructor <;> (try constructor) <;> intros <;> rfl
@[simp] theorem kerbTrigger_boot (t o x : Nat) : (d.kerbTrigger t o x).boot = d.boot := kerbTrigger_keeps d t (kerbKeeps_boot t) o x
@[simp] theorem ledgerEvent_boot (b o x y : Nat) : (d.ledgerEvent b o x y).boot = d.boot :=
  ledgerEvent_keeps d (kerbKeeps_boot b) (kerbKeeps_boot ktLedger) o x y
theorem kerbKeeps_clk (b : Nat) : KerbKeeps b Device.clk := by constructor <;> (try constructor) <;> intros <;> rfl
@[simp] theorem kerbTrigger_clk (t o x : Nat) : (d.kerbTrigger t o x).clk = d.clk := kerbTrigger_keeps d t (kerbKeeps_clk t) o x
@[simp] theorem ledgerEvent_clk (b o x y : Nat) : (d.ledgerEvent b o x y).clk = d.clk :=
  ledgerEvent_keeps d (kerbKeeps_clk b) (kerbKeeps_clk ktLedger) o x y
theorem kerbKeeps_pwr (b : Nat) : KerbKeeps b Device.pwr := by constructor <;> (try constructor) <;> intros <;> rfl
@[simp] theorem kerbTrigger_pwr (t o x : Nat) : (d.kerbTrigger t o x).pwr = d.pwr := kerbTrigger_keeps d t (kerbKeeps_pwr t) o x
@[simp] theorem ledgerEvent_pwr (b o x y : Nat) : (d.ledgerEvent b o x y).pwr = d.pwr :=
  ledgerEvent_keeps d (kerbKeeps_pwr b) (kerbKeeps_pwr ktLedger) o x y
theorem kerbKeeps_thm (b : Nat) : KerbKeeps b Device.thm := by constructor <;> (try constructor) <;> intros <;> rfl
@[simp] theorem kerbTrigger_thm (t o x : Nat) : (d.kerbTrigger t o x).thm = d.thm := kerbTrigger_keeps d t (kerbKeeps_thm t) o x
@[simp] theorem ledgerEvent_thm (b o x y : Nat) : (d.ledgerEvent b o x y).thm = d.thm :=
  ledgerEvent_keeps d (kerbKeeps_thm b) (kerbKeeps_thm ktLedger) o x y
theorem kerbKeeps_cns (b : Nat) : KerbKeeps b Device.cns := by constructor <;> (try constructor) <;> intros <;> rfl
@[simp] theorem kerbTrigger_cns (t o x : Nat) : (d.kerbTrigger t o x).cns = d.cns := kerbTrigger_keeps d t (kerbKeeps_cns t) o x
@[simp] theorem ledgerEvent_cns (b o x y : Nat) : (d.ledgerEvent b o x y).cns = d.cns :=
  ledgerEvent_keeps d (kerbKeeps_cns b) (kerbKeeps_cns ktLedger) o x y
theorem kerbKeeps_synth (b : Nat) : KerbKeeps b Device.synth := by constructor <;> (try constructor) <;> intros <;> rfl
@[simp] theorem kerbTrigger_synth (t o x : Nat) : (d.kerbTrigger t o x).synth = d.synth := kerbTrigger_keeps d t (kerbKeeps_synth t) o x
@[simp] theorem ledgerEvent_synth (b o x y : Nat) : (d.ledgerEvent b o x y).synth = d.synth :=
  ledgerEvent_keeps d (kerbKeeps_synth b) (kerbKeeps_synth ktLedger) o x y
theorem kerbKeeps_ref (b : Nat) : KerbKeeps b Device.ref := by constructor <;> (try constructor) <;> intros <;> rfl
@[simp] theorem kerbTrigger_ref (t o x : Nat) : (d.kerbTrigger t o x).ref = d.ref := kerbTrigger_keeps d t (kerbKeeps_ref t) o x
@[simp] theorem ledgerEvent_ref (b o x y : Nat) : (d.ledgerEvent b o x y).ref = d.ref :=
  ledgerEvent_keeps d (kerbKeeps_ref b) (kerbKeeps_ref ktLedger) o x y
theorem kerbKeeps_port (b : Nat) : KerbKeeps b Device.port := by constructor <;> (try constructor) <;> intros <;> rfl
@[simp] theorem kerbTrigger_port (t o x : Nat) : (d.kerbTrigger t o x).port = d.port := kerbTrigger_keeps d t (kerbKeeps_port t) o x
@[simp] theorem ledgerEvent_port (b o x y : Nat) : (d.ledgerEvent b o x y).port = d.port :=
  ledgerEvent_keeps d (kerbKeeps_port b) (kerbKeeps_port ktLedger) o x y
theorem kerbKeeps_params (b : Nat) : KerbKeeps b Device.params := by constructor <;> (try constructor) <;> intros <;> rfl
@[simp] theorem kerbTrigger_params (t o x : Nat) : (d.kerbTrigger t o x).params = d.params := kerbTrigger_keeps d t (kerbKeeps_params t) o x
@[simp] theorem ledgerEvent_params (b o x y : Nat) : (d.ledgerEvent b o x y).params = d.params :=
  ledgerEvent_keeps d (kerbKeeps_params b) (kerbKeeps_params ktLedger) o x y
theorem kerbKeeps_arc (b : Nat) : KerbKeeps b Device.arc := by constructor <;> (try constructor) <;> intros <;> rfl
@[simp] theorem kerbTrigger_arc (t o x : Nat) : (d.kerbTrigger t o x).arc = d.arc := kerbTrigger_keeps d t (kerbKeeps_arc t) o x
@[simp] theorem ledgerEvent_arc (b o x y : Nat) : (d.ledgerEvent b o x y).arc = d.arc :=
  ledgerEvent_keeps d (kerbKeeps_arc b) (kerbKeeps_arc ktLedger) o x y
theorem kerbKeeps_dma (b : Nat) : KerbKeeps b Device.dma := by constructor <;> (try constructor) <;> intros <;> rfl
@[simp] theorem kerbTrigger_dma (t o x : Nat) : (d.kerbTrigger t o x).dma = d.dma := kerbTrigger_keeps d t (kerbKeeps_dma t) o x
@[simp] theorem ledgerEvent_dma (b o x y : Nat) : (d.ledgerEvent b o x y).dma = d.dma :=
  ledgerEvent_keeps d (kerbKeeps_dma b) (kerbKeeps_dma ktLedger) o x y
theorem kerbKeeps_frees (b : Nat) : KerbKeeps b Device.frees := by constructor <;> (try constructor) <;> intros <;> rfl
@[simp] theorem kerbTrigger_frees (t o x : Nat) : (d.kerbTrigger t o x).frees = d.frees := kerbTrigger_keeps d t (kerbKeeps_frees t) o x
@[simp] theorem ledgerEvent_frees (b o x y : Nat) : (d.ledgerEvent b o x y).frees = d.frees :=
  ledgerEvent_keeps d (kerbKeeps_frees b) (kerbKeeps_frees ktLedger) o x y
theorem kerbKeeps_sramCe (b : Nat) : KerbKeeps b Device.sramCe := by constructor <;> (try constructor) <;> intros <;> rfl
@[simp] theorem kerbTrigger_sramCe (t o x : Nat) : (d.kerbTrigger t o x).sramCe = d.sramCe := kerbTrigger_keeps d t (kerbKeeps_sramCe t) o x
@[simp] theorem ledgerEvent_sramCe (b o x y : Nat) : (d.ledgerEvent b o x y).sramCe = d.sramCe :=
  ledgerEvent_keeps d (kerbKeeps_sramCe b) (kerbKeeps_sramCe ktLedger) o x y

end Sys2Proof.Machine
end

