-- ==== Sys2Proof/WellFormed.lean ====
section
/-! DEFINITION. Well-formed commands: operands of the size and range that the command's rule gives them. What the device does with a
command does not depend on it; commands that arise outside the device are well-formed. -/

namespace Sys2Proof

/-- An address of the 32-bit map (R36). -/
def fits (a : Nat) : Bool := decide (a < 2 ^ 32)

/-- The alias of a Quarter (R43). -/
def inAlias (q : Side) (a : Nat) : Bool :=
  match q with
  | .north => decide (0x01000000 ≤ a) && decide (a < 0x01100000)
  | .south => decide (0x02000000 ≤ a) && decide (a < 0x02100000)

/-- The local memory of a Quarter (R36). -/
def inLocal (q : Side) (a : Nat) : Bool :=
  match q with
  | .north => decide (0x21000000 ≤ a) && decide (a < 0x21300000)
  | .south => decide (0x21300000 ≤ a) && decide (a < 0x21600000)

/-- On-chip SRAM (R36). -/
def inSramMap (a : Nat) : Bool := decide (0x20000000 ≤ a) && decide (a < 0x21800000)

/-- The shared-core masters of R47. -/
def sharedMaster : Master → Bool
  | .quarter _ => false
  | _ => true

/-- What a line brings: the decode times of the 8 decoders. -/
def lineOk (l : LineInfo) : Bool := l.unitTimes.length == 8

/-- Whether a command's operands have their sizes and ranges. -/
def Instr.wf : Instr → Bool
  | .imageCheckAndApply _ _ units challenge => units.length == 8 && challenge.length == 256
  | .pageStoreTrained _ attempts gib ranks _ => decide (attempts.length ≤ 4) && gib.length == 8 && ranks.length == 8
  | .narrowWrite _ _ addr len => fits addr && decide (1 ≤ len) && (len != 4 || addr % 4 != 0)
  | .lowWordRead _ _ addr len => fits (addr + len - 1) && decide (1 ≤ len)
  | .registerWrite _ _ addr _ => fits addr && addr % 4 == 0
  | .quarterViewHostWrite _ addr _ => decide (0x01000000 ≤ addr) && decide (addr < 0x03000000) && addr % 4 == 0
  | .crossWrite _ q addr _ => (inAlias q.other addr || inLocal q.other addr) && addr % 4 == 0
  | .quarterBaseSharedAccess _ m addr _ => decide (addr < 0x100000) && sharedMaster m
  | .decodeMiss _ _ addr _ => fits addr
  | .deviceOnlyAccess _ _ addr _ => inSramMap addr
  | .sramEccError _ addr _ => inSramMap addr
  | .ringEnable _ _ cfg => cfg.getLsbD 31
  | .ringDisable _ _ cfg => !cfg.getLsbD 31
  | .eventRingEnable _ cfg => cfg.getLsbD 31
  | .descriptorFetch _ _ slots => !slots.isEmpty && decide (slots.length ≤ 16) && slots.all (fun x => x.desc.length == 64)
  | .dmaChannelEnable _ _ _ ctrl => ctrl.getLsbD 31
  | .psEccUe _ addr _ _ => decide (0x1000000000 ≤ addr)
  | .psEccCe _ addr _ => decide (0x1000000000 ≤ addr)
  | .beamDetectEdge _ _ _ line => lineOk line
  | .windowClose _ _ _ line => lineOk line
  | .linePhaseWord _ _ _ line => lineOk line
  | .linePhaseTimeout _ _ line => lineOk line
  | .segmentSendWindow _ _ _ _ written => written.length == 8
  | .segmentDeadline _ _ _ _ written => written.length == 8
  | .regulatorTick _ _ codes _ _ => codes.length == 96
  | .driveFrameSlot _ _ => true
  | .riseEvaluation _ => true
  | .unitPoll _ units challenge => units.length == 8 && challenge.length == 256
  | .authResponseRead _ _ response => response.length == 32
  | .pcieLinkUp _ rate width cfg => decide (1 ≤ rate) && decide (rate ≤ 5) && [1, 2, 4, 8].contains width &&
    [128, 256, 512].contains cfg.payload && [128, 256, 512, 1024, 2048, 4096].contains cfg.readReq && cfg.bar0 % 2 ^ 26 == 0 &&
    decide (cfg.bar0 < 2 ^ 64)
  | .vinRise _ => true
  | .vinFail _ => true
  | .vinCollapse _ => true
  | .powerDownComplete _ => true
  | .pbtnPress _ => true
  | .pbtnHold8s _ => true
  | .mrstLow _ => true
  | .mrstRelease _ => true
  | .intRailsInRegulation _ _ => true
  | .intRailFail _ => true
  | .fusesRead _ _ => true
  | .memorySelfTest _ _ _ _ => true
  | .railSequenceComplete _ => true
  | .bootComplete _ => true
  | .hostStart _ => true
  | .hostHold _ => true
  | .hostStop _ => true
  | .park _ => true
  | .parkRetain _ => true
  | .fabricCodeViolation _ _ => true
  | .paceChangeRequest _ => true
  | .paceChangeDone _ => true
  | .windDownComplete _ _ => true
  | .domainPowerDown _ _ => true
  | .domainDmaAbort _ _ => true
  | .domainPowerUp _ _ => true
  | .d5IdleTimeout _ => true
  | .erase _ _ => true
  | .program _ _ _ => true
  | .verify _ _ _ => true
  | .validate _ _ => true
  | .updateAbort _ => true
  | .updateComplete _ _ => true
  | .updateDeferResume _ => true
  | .stackerDetect _ _ => true
  | .commitClear _ _ => true
  | .tollgateCheck _ => true
  | .jobDoorbell _ _ _ => true
  | .eventDoorbell _ _ => true
  | .ingestResume _ => true
  | .hostReadError _ _ => true
  | .retry _ _ => true
  | .skip _ _ => true
  | .pcieReset _ _ _ => true
  | .linkDown _ _ => true
  | .backlogDrain _ => true
  | .interruptModerationTimeout _ _ => true
  | .aspmL1Entry _ => true
  | .dmaChannelDisable _ _ _ => true
  | .dmaRunStart _ _ _ _ _ _ _ _ => true
  | .dmaReadbackDone _ _ _ _ => true
  | .driftTrackTick _ _ _ _ => true
  | .patrolScrub _ => true
  | .refreshDue _ _ _ => true
  | .activate _ _ => true
  | .rhTableClear _ _ => true
  | .actIntervalStart _ _ => true
  | .srEnter _ => true
  | .srExit _ => true
  | .srIdleTimeout _ => true
  | .srEntryComplete _ => true
  | .srExitComplete _ => true
  | .streamCheckDone _ _ _ _ _ _ => true
  | .chainCompressStart _ _ => true
  | .chainCompressDone _ _ _ _ => true
  | .jobEnqueue _ _ => true
  | .jobStart _ _ => true
  | .jobDone _ _ _ _ => true
  | .flush _ => true
  | .abort _ => true
  | .abortAll _ => true
  | .arcadeDisable _ _ => true
  | .decodeStreamError _ _ _ _ => true
  | .inspectionLine _ _ _ => true
  | .inspectImageDone _ _ _ => true
  | .inspAlignLoss _ _ => true
  | .acquireTimeout _ _ _ => true
  | .freqComplete _ _ _ => true
  | .synthEnable _ _ _ => true
  | .synthDisable _ _ _ => true
  | .indexEdge _ _ => true
  | .refPllEnable _ _ _ _ => true
  | .lockPinSample _ _ _ => true
  | .refLockTimeout _ _ => true
  | .coastEntry _ _ _ _ => true
  | .coastTimeout _ _ _ => true
  | .relock _ _ _ _ => true
  | .emitterMeasure _ _ => true
  | .spareMapWrite _ _ _ _ => true
  | .stationDisable _ _ _ => true
  | .stationEnable _ _ _ => true
  | .headTempTimeout _ _ => true
  | .stationSafeExit _ _ => true
  | .telemetryFrame _ _ _ _ => true
  | .telemetryTimeout _ _ _ => true
  | .tlmSyncLoss _ _ _ => true
  | .loopTick _ _ _ => true
  | .portEnable _ _ _ => true
  | .portDisable _ _ _ => true
  | .retrain _ _ _ => true
  | .bringupTimeout _ _ _ => true
  | .bringupRetry _ _ _ => true
  | .mirrorFrame _ _ => true
  | .mirrorTimeout _ => true
  | .stationCatchUp _ _ => true
  | .overlapEnd _ => true
  | .overlapBound _ => true
  | .selfTestDone _ _ _ => true
  | .retestTimer _ _ => true
  | .retest _ _ => true
  | .returnCaughtUp _ _ => true
  | .handoverTimer _ => true
  | .pitchStart _ => true
  | .tmlEnd _ _ => true
  | .tmlRelease _ _ => true
  | .tmlGap _ _ => true
  | .tmlGate _ _ => true
  | .tmlAcceptOpen _ _ => true
  | .tmlAcceptClose _ _ => true
  | .tmlInspectOpen _ _ => true
  | .tmlInspectClose _ _ => true
  | .tmlCommit _ _ => true
  | .tmlWasteMark _ _ => true
  | .tmlGpio _ _ => true
  | .tmlPulse _ _ => true
  | .pulseEnd _ _ => true
  | .tmlSetpoint _ _ => true
  | .tmlAxisMove _ _ => true
  | .clearout _ => true
  | .ackCleared _ => true
  | .timelineWatchdog _ _ _ => true
  | .timelineDisable _ _ => true
  | .supervisorSweep _ _ _ _ => true
  | .supervisorDisable _ _ => true
  | .modeWrite _ _ _ _ => true
  | .coefficientWrite _ _ _ _ _ _ => true
  | .setpointWrite _ _ _ _ => true
  | .resume _ _ _ => true
  | .fallback _ _ _ => true
  | .slotDisable _ _ _ => true
  | .pwmPeriodBoundary _ _ _ _ => true
  | .pwmDisable _ _ _ => true
  | .polyEnable _ _ _ => true
  | .polyDisable _ _ _ => true
  | .phaseComparatorEdge _ _ _ _ => true
  | .senseTimeout _ _ _ => true
  | .standstill _ _ _ => true
  | .brakeTimeout _ _ _ => true
  | .alignTimeout _ _ _ => true
  | .handoffTimeout _ _ _ => true
  | .startRetry _ _ _ => true
  | .resyncReleaseEnd _ _ _ => true
  | .resyncTimeout _ _ _ => true
  | .pmsmEnable _ _ _ => true
  | .pmsmDisable _ _ _ => true
  | .encoderIndex _ _ _ => true
  | .dcbusSample _ _ _ => true
  | .dcbusAverage _ _ _ => true
  | .dcbusHardLimit _ _ => true
  | .busHardRecovery _ _ => true
  | .clearChop _ => true
  | .encoderEdge _ _ _ _ _ => true
  | .axisTargetWrite _ _ _ _ => true
  | .axisControlWrite _ _ _ _ => true
  | .home _ _ _ => true
  | .stop _ _ _ => true
  | .clearFault _ _ _ => true
  | .homeSettleTimeout _ _ _ => true
  | .driveFrameReturn _ _ _ _ => true
  | .limitSwitchSample _ _ _ _ _ => true
  | .driveBusEnable _ _ => true
  | .driveBusDisable _ _ => true
  | .chainBringupTimeout _ _ _ => true
  | .chainBringupRetry _ _ _ => true
  | .clockMonitorWindow _ _ _ _ => true
  | .refclkMissingEdge _ => true
  | .ioscReady _ => true
  | .ioscRestart _ => true
  | .classAWaitEnd _ => true
  | .clockReturn _ _ => true
  | .muxSelect _ _ _ => true
  | .muxSwitchDone _ _ => true
  | .muxStallTimeout _ _ => true
  | .muxForce _ _ _ => true
  | .gateClose _ _ => true
  | .gateCloseTimeout _ _ => true
  | .opPointChange _ _ _ => true
  | .voltageStepDone _ _ => true
  | .railDelayExpiry _ => true
  | .railGood _ _ => true
  | .railPgTimeout _ => true
  | .railDrop _ _ => true
  | .railOff _ _ => true
  | .railOffTimeout _ => true
  | .marginRequest _ _ _ => true
  | .pmbusStatusPoll _ _ _ _ => true
  | .sensorSample _ _ _ _ => true
  | .graceEnd _ => true
  | .enforcementStop _ => true
  | .stoppedClear _ => true
  | .thermTrip _ => true
  | .writebackResume _ => true
  | .ledgerClearAll _ _ => true
  | .nmiFlagClear _ _ => true
  | .interlockOpen _ _ => true
  | .interlockRelease _ _ => true
  | .estop _ => true
  | .krbClear _ _ => true
  | .telemetryBlockLock _ _ _ => true
  | .inspectionPortAligned _ _ => true
  | .fullyOffTimeElapsed _ _ => true
  | .d0PowerOnResetReleased _ => true

/-- The address that an access carries. -/
def Instr.addr : Instr → Option Nat
  | .vinRise _ => none
  | .vinFail _ => none
  | .vinCollapse _ => none
  | .powerDownComplete _ => none
  | .pbtnPress _ => none
  | .pbtnHold8s _ => none
  | .mrstLow _ => none
  | .mrstRelease _ => none
  | .intRailsInRegulation _ _ => none
  | .intRailFail _ => none
  | .fusesRead _ _ => none
  | .imageCheckAndApply _ _ _ _ => none
  | .memorySelfTest _ _ _ _ => none
  | .railSequenceComplete _ => none
  | .pageStoreTrained _ _ _ _ _ => none
  | .bootComplete _ => none
  | .hostStart _ => none
  | .hostHold _ => none
  | .hostStop _ => none
  | .park _ => none
  | .parkRetain _ => none
  | .narrowWrite _ _ addr _ => some addr
  | .lowWordRead _ _ addr _ => some addr
  | .registerWrite _ _ addr _ => some addr
  | .quarterViewHostWrite _ addr _ => some addr
  | .crossWrite _ _ addr _ => some addr
  | .quarterBaseSharedAccess _ _ addr _ => some addr
  | .decodeMiss _ _ addr _ => some addr
  | .deviceOnlyAccess _ _ addr _ => some addr
  | .fabricCodeViolation _ _ => none
  | .sramEccError _ addr _ => some addr
  | .paceChangeRequest _ => none
  | .paceChangeDone _ => none
  | .windDownComplete _ _ => none
  | .domainPowerDown _ _ => none
  | .domainDmaAbort _ _ => none
  | .domainPowerUp _ _ => none
  | .d5IdleTimeout _ => none
  | .erase _ _ => none
  | .program _ _ _ => none
  | .verify _ _ _ => none
  | .validate _ _ => none
  | .updateAbort _ => none
  | .updateComplete _ _ => none
  | .updateDeferResume _ => none
  | .stackerDetect _ _ => none
  | .commitClear _ _ => none
  | .tollgateCheck _ => none
  | .jobDoorbell _ _ _ => none
  | .eventDoorbell _ _ => none
  | .ringEnable _ _ _ => none
  | .ringDisable _ _ _ => none
  | .eventRingEnable _ _ => none
  | .descriptorFetch _ _ _ => none
  | .ingestResume _ => none
  | .hostReadError _ _ => none
  | .retry _ _ => none
  | .skip _ _ => none
  | .pcieReset _ _ _ => none
  | .linkDown _ _ => none
  | .backlogDrain _ => none
  | .interruptModerationTimeout _ _ => none
  | .aspmL1Entry _ => none
  | .dmaChannelEnable _ _ _ _ => none
  | .dmaChannelDisable _ _ _ => none
  | .dmaRunStart _ _ _ _ _ _ _ _ => none
  | .dmaReadbackDone _ _ _ _ => none
  | .driftTrackTick _ _ _ _ => none
  | .psEccUe _ _ _ _ => none
  | .psEccCe _ _ _ => none
  | .patrolScrub _ => none
  | .refreshDue _ _ _ => none
  | .activate _ _ => none
  | .rhTableClear _ _ => none
  | .actIntervalStart _ _ => none
  | .srEnter _ => none
  | .srExit _ => none
  | .srIdleTimeout _ => none
  | .srEntryComplete _ => none
  | .srExitComplete _ => none
  | .streamCheckDone _ _ _ _ _ _ => none
  | .chainCompressStart _ _ => none
  | .chainCompressDone _ _ _ _ => none
  | .jobEnqueue _ _ => none
  | .jobStart _ _ => none
  | .jobDone _ _ _ _ => none
  | .flush _ => none
  | .abort _ => none
  | .abortAll _ => none
  | .arcadeDisable _ _ => none
  | .decodeStreamError _ _ _ _ => none
  | .inspectionLine _ _ _ => none
  | .inspectImageDone _ _ _ => none
  | .inspAlignLoss _ _ => none
  | .beamDetectEdge _ _ _ _ => none
  | .acquireTimeout _ _ _ => none
  | .freqComplete _ _ _ => none
  | .windowClose _ _ _ _ => none
  | .synthEnable _ _ _ => none
  | .synthDisable _ _ _ => none
  | .indexEdge _ _ => none
  | .linePhaseWord _ _ _ _ => none
  | .linePhaseTimeout _ _ _ => none
  | .refPllEnable _ _ _ _ => none
  | .lockPinSample _ _ _ => none
  | .refLockTimeout _ _ => none
  | .coastEntry _ _ _ _ => none
  | .coastTimeout _ _ _ => none
  | .relock _ _ _ _ => none
  | .emitterMeasure _ _ => none
  | .spareMapWrite _ _ _ _ => none
  | .stationDisable _ _ _ => none
  | .stationEnable _ _ _ => none
  | .headTempTimeout _ _ => none
  | .stationSafeExit _ _ => none
  | .segmentSendWindow _ _ _ _ _ => none
  | .segmentDeadline _ _ _ _ _ => none
  | .telemetryFrame _ _ _ _ => none
  | .telemetryTimeout _ _ _ => none
  | .tlmSyncLoss _ _ _ => none
  | .loopTick _ _ _ => none
  | .portEnable _ _ _ => none
  | .portDisable _ _ _ => none
  | .retrain _ _ _ => none
  | .bringupTimeout _ _ _ => none
  | .bringupRetry _ _ _ => none
  | .mirrorFrame _ _ => none
  | .mirrorTimeout _ => none
  | .stationCatchUp _ _ => none
  | .overlapEnd _ => none
  | .overlapBound _ => none
  | .selfTestDone _ _ _ => none
  | .retestTimer _ _ => none
  | .retest _ _ => none
  | .returnCaughtUp _ _ => none
  | .handoverTimer _ => none
  | .pitchStart _ => none
  | .tmlEnd _ _ => none
  | .tmlRelease _ _ => none
  | .tmlGap _ _ => none
  | .tmlGate _ _ => none
  | .tmlAcceptOpen _ _ => none
  | .tmlAcceptClose _ _ => none
  | .tmlInspectOpen _ _ => none
  | .tmlInspectClose _ _ => none
  | .tmlCommit _ _ => none
  | .tmlWasteMark _ _ => none
  | .tmlGpio _ _ => none
  | .tmlPulse _ _ => none
  | .pulseEnd _ _ => none
  | .tmlSetpoint _ _ => none
  | .tmlAxisMove _ _ => none
  | .clearout _ => none
  | .ackCleared _ => none
  | .timelineWatchdog _ _ _ => none
  | .timelineDisable _ _ => none
  | .supervisorSweep _ _ _ _ => none
  | .supervisorDisable _ _ => none
  | .regulatorTick _ _ _ _ _ => none
  | .modeWrite _ _ _ _ => none
  | .coefficientWrite _ _ _ _ _ _ => none
  | .setpointWrite _ _ _ _ => none
  | .resume _ _ _ => none
  | .fallback _ _ _ => none
  | .slotDisable _ _ _ => none
  | .pwmPeriodBoundary _ _ _ _ => none
  | .pwmDisable _ _ _ => none
  | .polyEnable _ _ _ => none
  | .polyDisable _ _ _ => none
  | .phaseComparatorEdge _ _ _ _ => none
  | .senseTimeout _ _ _ => none
  | .standstill _ _ _ => none
  | .brakeTimeout _ _ _ => none
  | .alignTimeout _ _ _ => none
  | .handoffTimeout _ _ _ => none
  | .startRetry _ _ _ => none
  | .resyncReleaseEnd _ _ _ => none
  | .resyncTimeout _ _ _ => none
  | .pmsmEnable _ _ _ => none
  | .pmsmDisable _ _ _ => none
  | .encoderIndex _ _ _ => none
  | .dcbusSample _ _ _ => none
  | .dcbusAverage _ _ _ => none
  | .dcbusHardLimit _ _ => none
  | .busHardRecovery _ _ => none
  | .clearChop _ => none
  | .encoderEdge _ _ _ _ _ => none
  | .axisTargetWrite _ _ _ _ => none
  | .axisControlWrite _ _ _ _ => none
  | .home _ _ _ => none
  | .stop _ _ _ => none
  | .clearFault _ _ _ => none
  | .homeSettleTimeout _ _ _ => none
  | .driveFrameSlot _ _ => none
  | .driveFrameReturn _ _ _ _ => none
  | .limitSwitchSample _ _ _ _ _ => none
  | .driveBusEnable _ _ => none
  | .driveBusDisable _ _ => none
  | .chainBringupTimeout _ _ _ => none
  | .chainBringupRetry _ _ _ => none
  | .clockMonitorWindow _ _ _ _ => none
  | .refclkMissingEdge _ => none
  | .ioscReady _ => none
  | .ioscRestart _ => none
  | .classAWaitEnd _ => none
  | .clockReturn _ _ => none
  | .muxSelect _ _ _ => none
  | .muxSwitchDone _ _ => none
  | .muxStallTimeout _ _ => none
  | .muxForce _ _ _ => none
  | .gateClose _ _ => none
  | .gateCloseTimeout _ _ => none
  | .opPointChange _ _ _ => none
  | .voltageStepDone _ _ => none
  | .railDelayExpiry _ => none
  | .railGood _ _ => none
  | .railPgTimeout _ => none
  | .railDrop _ _ => none
  | .railOff _ _ => none
  | .railOffTimeout _ => none
  | .marginRequest _ _ _ => none
  | .pmbusStatusPoll _ _ _ _ => none
  | .sensorSample _ _ _ _ => none
  | .riseEvaluation _ => none
  | .graceEnd _ => none
  | .enforcementStop _ => none
  | .stoppedClear _ => none
  | .thermTrip _ => none
  | .unitPoll _ _ _ => none
  | .authResponseRead _ _ _ => none
  | .writebackResume _ => none
  | .ledgerClearAll _ _ => none
  | .nmiFlagClear _ _ => none
  | .interlockOpen _ _ => none
  | .interlockRelease _ _ => none
  | .estop _ => none
  | .krbClear _ _ => none
  | .pcieLinkUp _ _ _ _ => none
  | .telemetryBlockLock _ _ _ => none
  | .inspectionPortAligned _ _ => none
  | .fullyOffTimeElapsed _ _ => none
  | .d0PowerOnResetReleased _ => none

end Sys2Proof
end

