-- ==== Sys2Proof/Laws/PerInstr.lean ====
section
/-! SUPPORT. For every command: the address of a well-formed access lies in the 32-bit map (R36). -/

set_option Elab.async false

namespace Sys2Proof.Laws.Addressed

/-- A well-formed access names an address of the 32-bit map. -/
def Statement (i : Instr) : Prop := i.wf = true → ∀ a, i.addr = some a → a < 2 ^ 32

theorem below {a b : Nat} (h : inSramMap a = true) (e : a = b) : b < 2 ^ 32 := by
  simp [inSramMap] at h; omega

theorem alias_below {q : Side} {a : Nat} (h : inAlias q a = true) : a < 2 ^ 32 := by
  cases q <;> simp [inAlias] at h <;> omega

theorem local_below {q : Side} {a : Nat} (h : inLocal q a = true) : a < 2 ^ 32 := by
  cases q <;> simp [inLocal] at h <;> omega

theorem vinRise : ∀ x0, Statement (.vinRise x0) :=
  fun _ _ _ e => nomatch (show none = some _ from e)

theorem vinFail : ∀ x0, Statement (.vinFail x0) :=
  fun _ _ _ e => nomatch (show none = some _ from e)

theorem vinCollapse : ∀ x0, Statement (.vinCollapse x0) :=
  fun _ _ _ e => nomatch (show none = some _ from e)

theorem powerDownComplete : ∀ x0, Statement (.powerDownComplete x0) :=
  fun _ _ _ e => nomatch (show none = some _ from e)

theorem pbtnPress : ∀ x0, Statement (.pbtnPress x0) :=
  fun _ _ _ e => nomatch (show none = some _ from e)

theorem pbtnHold8s : ∀ x0, Statement (.pbtnHold8s x0) :=
  fun _ _ _ e => nomatch (show none = some _ from e)

theorem mrstLow : ∀ x0, Statement (.mrstLow x0) :=
  fun _ _ _ e => nomatch (show none = some _ from e)

theorem mrstRelease : ∀ x0, Statement (.mrstRelease x0) :=
  fun _ _ _ e => nomatch (show none = some _ from e)

theorem intRailsInRegulation : ∀ x0 x1, Statement (.intRailsInRegulation x0 x1) :=
  fun _ _ _ _ e => nomatch (show none = some _ from e)

theorem intRailFail : ∀ x0, Statement (.intRailFail x0) :=
  fun _ _ _ e => nomatch (show none = some _ from e)

theorem fusesRead : ∀ x0 x1, Statement (.fusesRead x0 x1) :=
  fun _ _ _ _ e => nomatch (show none = some _ from e)

theorem imageCheckAndApply : ∀ x0 x1 x2 x3, Statement (.imageCheckAndApply x0 x1 x2 x3) :=
  fun _ _ _ _ _ _ e => nomatch (show none = some _ from e)

theorem memorySelfTest : ∀ x0 x1 x2 x3, Statement (.memorySelfTest x0 x1 x2 x3) :=
  fun _ _ _ _ _ _ e => nomatch (show none = some _ from e)

theorem railSequenceComplete : ∀ x0, Statement (.railSequenceComplete x0) :=
  fun _ _ _ e => nomatch (show none = some _ from e)

theorem pageStoreTrained : ∀ x0 x1 x2 x3 x4, Statement (.pageStoreTrained x0 x1 x2 x3 x4) :=
  fun _ _ _ _ _ _ _ e => nomatch (show none = some _ from e)

theorem bootComplete : ∀ x0, Statement (.bootComplete x0) :=
  fun _ _ _ e => nomatch (show none = some _ from e)

theorem hostStart : ∀ x0, Statement (.hostStart x0) :=
  fun _ _ _ e => nomatch (show none = some _ from e)

theorem hostHold : ∀ x0, Statement (.hostHold x0) :=
  fun _ _ _ e => nomatch (show none = some _ from e)

theorem hostStop : ∀ x0, Statement (.hostStop x0) :=
  fun _ _ _ e => nomatch (show none = some _ from e)

theorem park : ∀ x0, Statement (.park x0) :=
  fun _ _ _ e => nomatch (show none = some _ from e)

theorem parkRetain : ∀ x0, Statement (.parkRetain x0) :=
  fun _ _ _ e => nomatch (show none = some _ from e)

theorem narrowWrite : ∀ x0 x1 x2 x3, Statement (.narrowWrite x0 x1 x2 x3) := by
  intro x0 x1 x2 x3 h a e
  obtain rfl : x2 = a := Option.some.inj e
  simp [Instr.wf, fits] at h; omega

theorem lowWordRead : ∀ x0 x1 x2 x3, Statement (.lowWordRead x0 x1 x2 x3) := by
  intro x0 x1 x2 x3 h a e
  obtain rfl : x2 = a := Option.some.inj e
  simp [Instr.wf, fits] at h; omega

theorem registerWrite : ∀ x0 x1 x2 x3, Statement (.registerWrite x0 x1 x2 x3) := by
  intro x0 x1 x2 x3 h a e
  obtain rfl : x2 = a := Option.some.inj e
  simp [Instr.wf, fits] at h; omega

theorem quarterViewHostWrite : ∀ x0 x1 x2, Statement (.quarterViewHostWrite x0 x1 x2) := by
  intro x0 x1 x2 h a e
  obtain rfl : x1 = a := Option.some.inj e
  simp [Instr.wf] at h; omega

theorem crossWrite : ∀ x0 x1 x2 x3, Statement (.crossWrite x0 x1 x2 x3) := by
  intro x0 x1 x2 x3 h a e
  obtain rfl : x2 = a := Option.some.inj e
  simp [Instr.wf] at h; rcases h.1 with h | h
  · exact alias_below h
  · exact local_below h

theorem quarterBaseSharedAccess : ∀ x0 x1 x2 x3, Statement (.quarterBaseSharedAccess x0 x1 x2 x3) := by
  intro x0 x1 x2 x3 h a e
  obtain rfl : x2 = a := Option.some.inj e
  simp [Instr.wf] at h; omega

theorem decodeMiss : ∀ x0 x1 x2 x3, Statement (.decodeMiss x0 x1 x2 x3) := by
  intro x0 x1 x2 x3 h a e
  obtain rfl : x2 = a := Option.some.inj e
  simp [Instr.wf, fits] at h; omega

theorem deviceOnlyAccess : ∀ x0 x1 x2 x3, Statement (.deviceOnlyAccess x0 x1 x2 x3) := by
  intro x0 x1 x2 x3 h a e
  obtain rfl : x2 = a := Option.some.inj e
  exact below h rfl

theorem fabricCodeViolation : ∀ x0 x1, Statement (.fabricCodeViolation x0 x1) :=
  fun _ _ _ _ e => nomatch (show none = some _ from e)

theorem sramEccError : ∀ x0 x1 x2, Statement (.sramEccError x0 x1 x2) := by
  intro x0 x1 x2 h a e
  obtain rfl : x1 = a := Option.some.inj e
  exact below h rfl

theorem paceChangeRequest : ∀ x0, Statement (.paceChangeRequest x0) :=
  fun _ _ _ e => nomatch (show none = some _ from e)

theorem paceChangeDone : ∀ x0, Statement (.paceChangeDone x0) :=
  fun _ _ _ e => nomatch (show none = some _ from e)

theorem windDownComplete : ∀ x0 x1, Statement (.windDownComplete x0 x1) :=
  fun _ _ _ _ e => nomatch (show none = some _ from e)

theorem domainPowerDown : ∀ x0 x1, Statement (.domainPowerDown x0 x1) :=
  fun _ _ _ _ e => nomatch (show none = some _ from e)

theorem domainDmaAbort : ∀ x0 x1, Statement (.domainDmaAbort x0 x1) :=
  fun _ _ _ _ e => nomatch (show none = some _ from e)

theorem domainPowerUp : ∀ x0 x1, Statement (.domainPowerUp x0 x1) :=
  fun _ _ _ _ e => nomatch (show none = some _ from e)

theorem d5IdleTimeout : ∀ x0, Statement (.d5IdleTimeout x0) :=
  fun _ _ _ e => nomatch (show none = some _ from e)

theorem erase : ∀ x0 x1, Statement (.erase x0 x1) :=
  fun _ _ _ _ e => nomatch (show none = some _ from e)

theorem program : ∀ x0 x1 x2, Statement (.program x0 x1 x2) :=
  fun _ _ _ _ _ e => nomatch (show none = some _ from e)

theorem verify : ∀ x0 x1 x2, Statement (.verify x0 x1 x2) :=
  fun _ _ _ _ _ e => nomatch (show none = some _ from e)

theorem validate : ∀ x0 x1, Statement (.validate x0 x1) :=
  fun _ _ _ _ e => nomatch (show none = some _ from e)

theorem updateAbort : ∀ x0, Statement (.updateAbort x0) :=
  fun _ _ _ e => nomatch (show none = some _ from e)

theorem updateComplete : ∀ x0 x1, Statement (.updateComplete x0 x1) :=
  fun _ _ _ _ e => nomatch (show none = some _ from e)

theorem updateDeferResume : ∀ x0, Statement (.updateDeferResume x0) :=
  fun _ _ _ e => nomatch (show none = some _ from e)

theorem stackerDetect : ∀ x0 x1, Statement (.stackerDetect x0 x1) :=
  fun _ _ _ _ e => nomatch (show none = some _ from e)

theorem commitClear : ∀ x0 x1, Statement (.commitClear x0 x1) :=
  fun _ _ _ _ e => nomatch (show none = some _ from e)

theorem tollgateCheck : ∀ x0, Statement (.tollgateCheck x0) :=
  fun _ _ _ e => nomatch (show none = some _ from e)

theorem jobDoorbell : ∀ x0 x1 x2, Statement (.jobDoorbell x0 x1 x2) :=
  fun _ _ _ _ _ e => nomatch (show none = some _ from e)

theorem eventDoorbell : ∀ x0 x1, Statement (.eventDoorbell x0 x1) :=
  fun _ _ _ _ e => nomatch (show none = some _ from e)

theorem ringEnable : ∀ x0 x1 x2, Statement (.ringEnable x0 x1 x2) :=
  fun _ _ _ _ _ e => nomatch (show none = some _ from e)

theorem ringDisable : ∀ x0 x1 x2, Statement (.ringDisable x0 x1 x2) :=
  fun _ _ _ _ _ e => nomatch (show none = some _ from e)

theorem eventRingEnable : ∀ x0 x1, Statement (.eventRingEnable x0 x1) :=
  fun _ _ _ _ e => nomatch (show none = some _ from e)

theorem descriptorFetch : ∀ x0 x1 x2, Statement (.descriptorFetch x0 x1 x2) :=
  fun _ _ _ _ _ e => nomatch (show none = some _ from e)

theorem ingestResume : ∀ x0, Statement (.ingestResume x0) :=
  fun _ _ _ e => nomatch (show none = some _ from e)

theorem hostReadError : ∀ x0 x1, Statement (.hostReadError x0 x1) :=
  fun _ _ _ _ e => nomatch (show none = some _ from e)

theorem retry : ∀ x0 x1, Statement (.retry x0 x1) :=
  fun _ _ _ _ e => nomatch (show none = some _ from e)

theorem skip : ∀ x0 x1, Statement (.skip x0 x1) :=
  fun _ _ _ _ e => nomatch (show none = some _ from e)

theorem pcieReset : ∀ x0 x1 x2, Statement (.pcieReset x0 x1 x2) :=
  fun _ _ _ _ _ e => nomatch (show none = some _ from e)

theorem linkDown : ∀ x0 x1, Statement (.linkDown x0 x1) :=
  fun _ _ _ _ e => nomatch (show none = some _ from e)

theorem backlogDrain : ∀ x0, Statement (.backlogDrain x0) :=
  fun _ _ _ e => nomatch (show none = some _ from e)

theorem interruptModerationTimeout : ∀ x0 x1, Statement (.interruptModerationTimeout x0 x1) :=
  fun _ _ _ _ e => nomatch (show none = some _ from e)

theorem aspmL1Entry : ∀ x0, Statement (.aspmL1Entry x0) :=
  fun _ _ _ e => nomatch (show none = some _ from e)

theorem dmaChannelEnable : ∀ x0 x1 x2 x3, Statement (.dmaChannelEnable x0 x1 x2 x3) :=
  fun _ _ _ _ _ _ e => nomatch (show none = some _ from e)

theorem dmaChannelDisable : ∀ x0 x1 x2, Statement (.dmaChannelDisable x0 x1 x2) :=
  fun _ _ _ _ _ e => nomatch (show none = some _ from e)

theorem dmaRunStart : ∀ x0 x1 x2 x3 x4 x5 x6 x7, Statement (.dmaRunStart x0 x1 x2 x3 x4 x5 x6 x7) :=
  fun _ _ _ _ _ _ _ _ _ _ e => nomatch (show none = some _ from e)

theorem dmaReadbackDone : ∀ x0 x1 x2 x3, Statement (.dmaReadbackDone x0 x1 x2 x3) :=
  fun _ _ _ _ _ _ e => nomatch (show none = some _ from e)

theorem driftTrackTick : ∀ x0 x1 x2 x3, Statement (.driftTrackTick x0 x1 x2 x3) :=
  fun _ _ _ _ _ _ e => nomatch (show none = some _ from e)

theorem psEccUe : ∀ x0 x1 x2 x3, Statement (.psEccUe x0 x1 x2 x3) :=
  fun _ _ _ _ _ _ e => nomatch (show none = some _ from e)

theorem psEccCe : ∀ x0 x1 x2, Statement (.psEccCe x0 x1 x2) :=
  fun _ _ _ _ _ e => nomatch (show none = some _ from e)

theorem patrolScrub : ∀ x0, Statement (.patrolScrub x0) :=
  fun _ _ _ e => nomatch (show none = some _ from e)

theorem refreshDue : ∀ x0 x1 x2, Statement (.refreshDue x0 x1 x2) :=
  fun _ _ _ _ _ e => nomatch (show none = some _ from e)

theorem activate : ∀ x0 x1, Statement (.activate x0 x1) :=
  fun _ _ _ _ e => nomatch (show none = some _ from e)

theorem rhTableClear : ∀ x0 x1, Statement (.rhTableClear x0 x1) :=
  fun _ _ _ _ e => nomatch (show none = some _ from e)

theorem actIntervalStart : ∀ x0 x1, Statement (.actIntervalStart x0 x1) :=
  fun _ _ _ _ e => nomatch (show none = some _ from e)

theorem srEnter : ∀ x0, Statement (.srEnter x0) :=
  fun _ _ _ e => nomatch (show none = some _ from e)

theorem srExit : ∀ x0, Statement (.srExit x0) :=
  fun _ _ _ e => nomatch (show none = some _ from e)

theorem srIdleTimeout : ∀ x0, Statement (.srIdleTimeout x0) :=
  fun _ _ _ e => nomatch (show none = some _ from e)

theorem srEntryComplete : ∀ x0, Statement (.srEntryComplete x0) :=
  fun _ _ _ e => nomatch (show none = some _ from e)

theorem srExitComplete : ∀ x0, Statement (.srExitComplete x0) :=
  fun _ _ _ e => nomatch (show none = some _ from e)

theorem streamCheckDone : ∀ x0 x1 x2 x3 x4 x5, Statement (.streamCheckDone x0 x1 x2 x3 x4 x5) :=
  fun _ _ _ _ _ _ _ _ e => nomatch (show none = some _ from e)

theorem chainCompressStart : ∀ x0 x1, Statement (.chainCompressStart x0 x1) :=
  fun _ _ _ _ e => nomatch (show none = some _ from e)

theorem chainCompressDone : ∀ x0 x1 x2 x3, Statement (.chainCompressDone x0 x1 x2 x3) :=
  fun _ _ _ _ _ _ e => nomatch (show none = some _ from e)

theorem jobEnqueue : ∀ x0 x1, Statement (.jobEnqueue x0 x1) :=
  fun _ _ _ _ e => nomatch (show none = some _ from e)

theorem jobStart : ∀ x0 x1, Statement (.jobStart x0 x1) :=
  fun _ _ _ _ e => nomatch (show none = some _ from e)

theorem jobDone : ∀ x0 x1 x2 x3, Statement (.jobDone x0 x1 x2 x3) :=
  fun _ _ _ _ _ _ e => nomatch (show none = some _ from e)

theorem flush : ∀ x0, Statement (.flush x0) :=
  fun _ _ _ e => nomatch (show none = some _ from e)

theorem abort : ∀ x0, Statement (.abort x0) :=
  fun _ _ _ e => nomatch (show none = some _ from e)

theorem abortAll : ∀ x0, Statement (.abortAll x0) :=
  fun _ _ _ e => nomatch (show none = some _ from e)

theorem arcadeDisable : ∀ x0 x1, Statement (.arcadeDisable x0 x1) :=
  fun _ _ _ _ e => nomatch (show none = some _ from e)

theorem decodeStreamError : ∀ x0 x1 x2 x3, Statement (.decodeStreamError x0 x1 x2 x3) :=
  fun _ _ _ _ _ _ e => nomatch (show none = some _ from e)

theorem inspectionLine : ∀ x0 x1 x2, Statement (.inspectionLine x0 x1 x2) :=
  fun _ _ _ _ _ e => nomatch (show none = some _ from e)

theorem inspectImageDone : ∀ x0 x1 x2, Statement (.inspectImageDone x0 x1 x2) :=
  fun _ _ _ _ _ e => nomatch (show none = some _ from e)

theorem inspAlignLoss : ∀ x0 x1, Statement (.inspAlignLoss x0 x1) :=
  fun _ _ _ _ e => nomatch (show none = some _ from e)

theorem beamDetectEdge : ∀ x0 x1 x2 x3, Statement (.beamDetectEdge x0 x1 x2 x3) :=
  fun _ _ _ _ _ _ e => nomatch (show none = some _ from e)

theorem acquireTimeout : ∀ x0 x1 x2, Statement (.acquireTimeout x0 x1 x2) :=
  fun _ _ _ _ _ e => nomatch (show none = some _ from e)

theorem freqComplete : ∀ x0 x1 x2, Statement (.freqComplete x0 x1 x2) :=
  fun _ _ _ _ _ e => nomatch (show none = some _ from e)

theorem windowClose : ∀ x0 x1 x2 x3, Statement (.windowClose x0 x1 x2 x3) :=
  fun _ _ _ _ _ _ e => nomatch (show none = some _ from e)

theorem synthEnable : ∀ x0 x1 x2, Statement (.synthEnable x0 x1 x2) :=
  fun _ _ _ _ _ e => nomatch (show none = some _ from e)

theorem synthDisable : ∀ x0 x1 x2, Statement (.synthDisable x0 x1 x2) :=
  fun _ _ _ _ _ e => nomatch (show none = some _ from e)

theorem indexEdge : ∀ x0 x1, Statement (.indexEdge x0 x1) :=
  fun _ _ _ _ e => nomatch (show none = some _ from e)

theorem linePhaseWord : ∀ x0 x1 x2 x3, Statement (.linePhaseWord x0 x1 x2 x3) :=
  fun _ _ _ _ _ _ e => nomatch (show none = some _ from e)

theorem linePhaseTimeout : ∀ x0 x1 x2, Statement (.linePhaseTimeout x0 x1 x2) :=
  fun _ _ _ _ _ e => nomatch (show none = some _ from e)

theorem refPllEnable : ∀ x0 x1 x2 x3, Statement (.refPllEnable x0 x1 x2 x3) :=
  fun _ _ _ _ _ _ e => nomatch (show none = some _ from e)

theorem lockPinSample : ∀ x0 x1 x2, Statement (.lockPinSample x0 x1 x2) :=
  fun _ _ _ _ _ e => nomatch (show none = some _ from e)

theorem refLockTimeout : ∀ x0 x1, Statement (.refLockTimeout x0 x1) :=
  fun _ _ _ _ e => nomatch (show none = some _ from e)

theorem coastEntry : ∀ x0 x1 x2 x3, Statement (.coastEntry x0 x1 x2 x3) :=
  fun _ _ _ _ _ _ e => nomatch (show none = some _ from e)

theorem coastTimeout : ∀ x0 x1 x2, Statement (.coastTimeout x0 x1 x2) :=
  fun _ _ _ _ _ e => nomatch (show none = some _ from e)

theorem relock : ∀ x0 x1 x2 x3, Statement (.relock x0 x1 x2 x3) :=
  fun _ _ _ _ _ _ e => nomatch (show none = some _ from e)

theorem emitterMeasure : ∀ x0 x1, Statement (.emitterMeasure x0 x1) :=
  fun _ _ _ _ e => nomatch (show none = some _ from e)

theorem spareMapWrite : ∀ x0 x1 x2 x3, Statement (.spareMapWrite x0 x1 x2 x3) :=
  fun _ _ _ _ _ _ e => nomatch (show none = some _ from e)

theorem stationDisable : ∀ x0 x1 x2, Statement (.stationDisable x0 x1 x2) :=
  fun _ _ _ _ _ e => nomatch (show none = some _ from e)

theorem stationEnable : ∀ x0 x1 x2, Statement (.stationEnable x0 x1 x2) :=
  fun _ _ _ _ _ e => nomatch (show none = some _ from e)

theorem headTempTimeout : ∀ x0 x1, Statement (.headTempTimeout x0 x1) :=
  fun _ _ _ _ e => nomatch (show none = some _ from e)

theorem stationSafeExit : ∀ x0 x1, Statement (.stationSafeExit x0 x1) :=
  fun _ _ _ _ e => nomatch (show none = some _ from e)

theorem segmentSendWindow : ∀ x0 x1 x2 x3 x4, Statement (.segmentSendWindow x0 x1 x2 x3 x4) :=
  fun _ _ _ _ _ _ _ e => nomatch (show none = some _ from e)

theorem segmentDeadline : ∀ x0 x1 x2 x3 x4, Statement (.segmentDeadline x0 x1 x2 x3 x4) :=
  fun _ _ _ _ _ _ _ e => nomatch (show none = some _ from e)

theorem telemetryFrame : ∀ x0 x1 x2 x3, Statement (.telemetryFrame x0 x1 x2 x3) :=
  fun _ _ _ _ _ _ e => nomatch (show none = some _ from e)

theorem telemetryTimeout : ∀ x0 x1 x2, Statement (.telemetryTimeout x0 x1 x2) :=
  fun _ _ _ _ _ e => nomatch (show none = some _ from e)

theorem tlmSyncLoss : ∀ x0 x1 x2, Statement (.tlmSyncLoss x0 x1 x2) :=
  fun _ _ _ _ _ e => nomatch (show none = some _ from e)

theorem loopTick : ∀ x0 x1 x2, Statement (.loopTick x0 x1 x2) :=
  fun _ _ _ _ _ e => nomatch (show none = some _ from e)

theorem portEnable : ∀ x0 x1 x2, Statement (.portEnable x0 x1 x2) :=
  fun _ _ _ _ _ e => nomatch (show none = some _ from e)

theorem portDisable : ∀ x0 x1 x2, Statement (.portDisable x0 x1 x2) :=
  fun _ _ _ _ _ e => nomatch (show none = some _ from e)

theorem retrain : ∀ x0 x1 x2, Statement (.retrain x0 x1 x2) :=
  fun _ _ _ _ _ e => nomatch (show none = some _ from e)

theorem bringupTimeout : ∀ x0 x1 x2, Statement (.bringupTimeout x0 x1 x2) :=
  fun _ _ _ _ _ e => nomatch (show none = some _ from e)

theorem bringupRetry : ∀ x0 x1 x2, Statement (.bringupRetry x0 x1 x2) :=
  fun _ _ _ _ _ e => nomatch (show none = some _ from e)

theorem mirrorFrame : ∀ x0 x1, Statement (.mirrorFrame x0 x1) :=
  fun _ _ _ _ e => nomatch (show none = some _ from e)

theorem mirrorTimeout : ∀ x0, Statement (.mirrorTimeout x0) :=
  fun _ _ _ e => nomatch (show none = some _ from e)

theorem stationCatchUp : ∀ x0 x1, Statement (.stationCatchUp x0 x1) :=
  fun _ _ _ _ e => nomatch (show none = some _ from e)

theorem overlapEnd : ∀ x0, Statement (.overlapEnd x0) :=
  fun _ _ _ e => nomatch (show none = some _ from e)

theorem overlapBound : ∀ x0, Statement (.overlapBound x0) :=
  fun _ _ _ e => nomatch (show none = some _ from e)

theorem selfTestDone : ∀ x0 x1 x2, Statement (.selfTestDone x0 x1 x2) :=
  fun _ _ _ _ _ e => nomatch (show none = some _ from e)

theorem retestTimer : ∀ x0 x1, Statement (.retestTimer x0 x1) :=
  fun _ _ _ _ e => nomatch (show none = some _ from e)

theorem retest : ∀ x0 x1, Statement (.retest x0 x1) :=
  fun _ _ _ _ e => nomatch (show none = some _ from e)

theorem returnCaughtUp : ∀ x0 x1, Statement (.returnCaughtUp x0 x1) :=
  fun _ _ _ _ e => nomatch (show none = some _ from e)

theorem handoverTimer : ∀ x0, Statement (.handoverTimer x0) :=
  fun _ _ _ e => nomatch (show none = some _ from e)

theorem pitchStart : ∀ x0, Statement (.pitchStart x0) :=
  fun _ _ _ e => nomatch (show none = some _ from e)

theorem tmlEnd : ∀ x0 x1, Statement (.tmlEnd x0 x1) :=
  fun _ _ _ _ e => nomatch (show none = some _ from e)

theorem tmlRelease : ∀ x0 x1, Statement (.tmlRelease x0 x1) :=
  fun _ _ _ _ e => nomatch (show none = some _ from e)

theorem tmlGap : ∀ x0 x1, Statement (.tmlGap x0 x1) :=
  fun _ _ _ _ e => nomatch (show none = some _ from e)

theorem tmlGate : ∀ x0 x1, Statement (.tmlGate x0 x1) :=
  fun _ _ _ _ e => nomatch (show none = some _ from e)

theorem tmlAcceptOpen : ∀ x0 x1, Statement (.tmlAcceptOpen x0 x1) :=
  fun _ _ _ _ e => nomatch (show none = some _ from e)

theorem tmlAcceptClose : ∀ x0 x1, Statement (.tmlAcceptClose x0 x1) :=
  fun _ _ _ _ e => nomatch (show none = some _ from e)

theorem tmlInspectOpen : ∀ x0 x1, Statement (.tmlInspectOpen x0 x1) :=
  fun _ _ _ _ e => nomatch (show none = some _ from e)

theorem tmlInspectClose : ∀ x0 x1, Statement (.tmlInspectClose x0 x1) :=
  fun _ _ _ _ e => nomatch (show none = some _ from e)

theorem tmlCommit : ∀ x0 x1, Statement (.tmlCommit x0 x1) :=
  fun _ _ _ _ e => nomatch (show none = some _ from e)

theorem tmlWasteMark : ∀ x0 x1, Statement (.tmlWasteMark x0 x1) :=
  fun _ _ _ _ e => nomatch (show none = some _ from e)

theorem tmlGpio : ∀ x0 x1, Statement (.tmlGpio x0 x1) :=
  fun _ _ _ _ e => nomatch (show none = some _ from e)

theorem tmlPulse : ∀ x0 x1, Statement (.tmlPulse x0 x1) :=
  fun _ _ _ _ e => nomatch (show none = some _ from e)

theorem pulseEnd : ∀ x0 x1, Statement (.pulseEnd x0 x1) :=
  fun _ _ _ _ e => nomatch (show none = some _ from e)

theorem tmlSetpoint : ∀ x0 x1, Statement (.tmlSetpoint x0 x1) :=
  fun _ _ _ _ e => nomatch (show none = some _ from e)

theorem tmlAxisMove : ∀ x0 x1, Statement (.tmlAxisMove x0 x1) :=
  fun _ _ _ _ e => nomatch (show none = some _ from e)

theorem clearout : ∀ x0, Statement (.clearout x0) :=
  fun _ _ _ e => nomatch (show none = some _ from e)

theorem ackCleared : ∀ x0, Statement (.ackCleared x0) :=
  fun _ _ _ e => nomatch (show none = some _ from e)

theorem timelineWatchdog : ∀ x0 x1 x2, Statement (.timelineWatchdog x0 x1 x2) :=
  fun _ _ _ _ _ e => nomatch (show none = some _ from e)

theorem timelineDisable : ∀ x0 x1, Statement (.timelineDisable x0 x1) :=
  fun _ _ _ _ e => nomatch (show none = some _ from e)

theorem supervisorSweep : ∀ x0 x1 x2 x3, Statement (.supervisorSweep x0 x1 x2 x3) :=
  fun _ _ _ _ _ _ e => nomatch (show none = some _ from e)

theorem supervisorDisable : ∀ x0 x1, Statement (.supervisorDisable x0 x1) :=
  fun _ _ _ _ e => nomatch (show none = some _ from e)

theorem regulatorTick : ∀ x0 x1 x2 x3 x4, Statement (.regulatorTick x0 x1 x2 x3 x4) :=
  fun _ _ _ _ _ _ _ e => nomatch (show none = some _ from e)

theorem modeWrite : ∀ x0 x1 x2 x3, Statement (.modeWrite x0 x1 x2 x3) :=
  fun _ _ _ _ _ _ e => nomatch (show none = some _ from e)

theorem coefficientWrite : ∀ x0 x1 x2 x3 x4 x5, Statement (.coefficientWrite x0 x1 x2 x3 x4 x5) :=
  fun _ _ _ _ _ _ _ _ e => nomatch (show none = some _ from e)

theorem setpointWrite : ∀ x0 x1 x2 x3, Statement (.setpointWrite x0 x1 x2 x3) :=
  fun _ _ _ _ _ _ e => nomatch (show none = some _ from e)

theorem resume : ∀ x0 x1 x2, Statement (.resume x0 x1 x2) :=
  fun _ _ _ _ _ e => nomatch (show none = some _ from e)

theorem fallback : ∀ x0 x1 x2, Statement (.fallback x0 x1 x2) :=
  fun _ _ _ _ _ e => nomatch (show none = some _ from e)

theorem slotDisable : ∀ x0 x1 x2, Statement (.slotDisable x0 x1 x2) :=
  fun _ _ _ _ _ e => nomatch (show none = some _ from e)

theorem pwmPeriodBoundary : ∀ x0 x1 x2 x3, Statement (.pwmPeriodBoundary x0 x1 x2 x3) :=
  fun _ _ _ _ _ _ e => nomatch (show none = some _ from e)

theorem pwmDisable : ∀ x0 x1 x2, Statement (.pwmDisable x0 x1 x2) :=
  fun _ _ _ _ _ e => nomatch (show none = some _ from e)

theorem polyEnable : ∀ x0 x1 x2, Statement (.polyEnable x0 x1 x2) :=
  fun _ _ _ _ _ e => nomatch (show none = some _ from e)

theorem polyDisable : ∀ x0 x1 x2, Statement (.polyDisable x0 x1 x2) :=
  fun _ _ _ _ _ e => nomatch (show none = some _ from e)

theorem phaseComparatorEdge : ∀ x0 x1 x2 x3, Statement (.phaseComparatorEdge x0 x1 x2 x3) :=
  fun _ _ _ _ _ _ e => nomatch (show none = some _ from e)

theorem senseTimeout : ∀ x0 x1 x2, Statement (.senseTimeout x0 x1 x2) :=
  fun _ _ _ _ _ e => nomatch (show none = some _ from e)

theorem standstill : ∀ x0 x1 x2, Statement (.standstill x0 x1 x2) :=
  fun _ _ _ _ _ e => nomatch (show none = some _ from e)

theorem brakeTimeout : ∀ x0 x1 x2, Statement (.brakeTimeout x0 x1 x2) :=
  fun _ _ _ _ _ e => nomatch (show none = some _ from e)

theorem alignTimeout : ∀ x0 x1 x2, Statement (.alignTimeout x0 x1 x2) :=
  fun _ _ _ _ _ e => nomatch (show none = some _ from e)

theorem handoffTimeout : ∀ x0 x1 x2, Statement (.handoffTimeout x0 x1 x2) :=
  fun _ _ _ _ _ e => nomatch (show none = some _ from e)

theorem startRetry : ∀ x0 x1 x2, Statement (.startRetry x0 x1 x2) :=
  fun _ _ _ _ _ e => nomatch (show none = some _ from e)

theorem resyncReleaseEnd : ∀ x0 x1 x2, Statement (.resyncReleaseEnd x0 x1 x2) :=
  fun _ _ _ _ _ e => nomatch (show none = some _ from e)

theorem resyncTimeout : ∀ x0 x1 x2, Statement (.resyncTimeout x0 x1 x2) :=
  fun _ _ _ _ _ e => nomatch (show none = some _ from e)

theorem pmsmEnable : ∀ x0 x1 x2, Statement (.pmsmEnable x0 x1 x2) :=
  fun _ _ _ _ _ e => nomatch (show none = some _ from e)

theorem pmsmDisable : ∀ x0 x1 x2, Statement (.pmsmDisable x0 x1 x2) :=
  fun _ _ _ _ _ e => nomatch (show none = some _ from e)

theorem encoderIndex : ∀ x0 x1 x2, Statement (.encoderIndex x0 x1 x2) :=
  fun _ _ _ _ _ e => nomatch (show none = some _ from e)

theorem dcbusSample : ∀ x0 x1 x2, Statement (.dcbusSample x0 x1 x2) :=
  fun _ _ _ _ _ e => nomatch (show none = some _ from e)

theorem dcbusAverage : ∀ x0 x1 x2, Statement (.dcbusAverage x0 x1 x2) :=
  fun _ _ _ _ _ e => nomatch (show none = some _ from e)

theorem dcbusHardLimit : ∀ x0 x1, Statement (.dcbusHardLimit x0 x1) :=
  fun _ _ _ _ e => nomatch (show none = some _ from e)

theorem busHardRecovery : ∀ x0 x1, Statement (.busHardRecovery x0 x1) :=
  fun _ _ _ _ e => nomatch (show none = some _ from e)

theorem clearChop : ∀ x0, Statement (.clearChop x0) :=
  fun _ _ _ e => nomatch (show none = some _ from e)

theorem encoderEdge : ∀ x0 x1 x2 x3 x4, Statement (.encoderEdge x0 x1 x2 x3 x4) :=
  fun _ _ _ _ _ _ _ e => nomatch (show none = some _ from e)

theorem axisTargetWrite : ∀ x0 x1 x2 x3, Statement (.axisTargetWrite x0 x1 x2 x3) :=
  fun _ _ _ _ _ _ e => nomatch (show none = some _ from e)

theorem axisControlWrite : ∀ x0 x1 x2 x3, Statement (.axisControlWrite x0 x1 x2 x3) :=
  fun _ _ _ _ _ _ e => nomatch (show none = some _ from e)

theorem home : ∀ x0 x1 x2, Statement (.home x0 x1 x2) :=
  fun _ _ _ _ _ e => nomatch (show none = some _ from e)

theorem stop : ∀ x0 x1 x2, Statement (.stop x0 x1 x2) :=
  fun _ _ _ _ _ e => nomatch (show none = some _ from e)

theorem clearFault : ∀ x0 x1 x2, Statement (.clearFault x0 x1 x2) :=
  fun _ _ _ _ _ e => nomatch (show none = some _ from e)

theorem homeSettleTimeout : ∀ x0 x1 x2, Statement (.homeSettleTimeout x0 x1 x2) :=
  fun _ _ _ _ _ e => nomatch (show none = some _ from e)

theorem driveFrameSlot : ∀ x0 x1, Statement (.driveFrameSlot x0 x1) :=
  fun _ _ _ _ e => nomatch (show none = some _ from e)

theorem driveFrameReturn : ∀ x0 x1 x2 x3, Statement (.driveFrameReturn x0 x1 x2 x3) :=
  fun _ _ _ _ _ _ e => nomatch (show none = some _ from e)

theorem limitSwitchSample : ∀ x0 x1 x2 x3 x4, Statement (.limitSwitchSample x0 x1 x2 x3 x4) :=
  fun _ _ _ _ _ _ _ e => nomatch (show none = some _ from e)

theorem driveBusEnable : ∀ x0 x1, Statement (.driveBusEnable x0 x1) :=
  fun _ _ _ _ e => nomatch (show none = some _ from e)

theorem driveBusDisable : ∀ x0 x1, Statement (.driveBusDisable x0 x1) :=
  fun _ _ _ _ e => nomatch (show none = some _ from e)

theorem chainBringupTimeout : ∀ x0 x1 x2, Statement (.chainBringupTimeout x0 x1 x2) :=
  fun _ _ _ _ _ e => nomatch (show none = some _ from e)

theorem chainBringupRetry : ∀ x0 x1 x2, Statement (.chainBringupRetry x0 x1 x2) :=
  fun _ _ _ _ _ e => nomatch (show none = some _ from e)

theorem clockMonitorWindow : ∀ x0 x1 x2 x3, Statement (.clockMonitorWindow x0 x1 x2 x3) :=
  fun _ _ _ _ _ _ e => nomatch (show none = some _ from e)

theorem refclkMissingEdge : ∀ x0, Statement (.refclkMissingEdge x0) :=
  fun _ _ _ e => nomatch (show none = some _ from e)

theorem ioscReady : ∀ x0, Statement (.ioscReady x0) :=
  fun _ _ _ e => nomatch (show none = some _ from e)

theorem ioscRestart : ∀ x0, Statement (.ioscRestart x0) :=
  fun _ _ _ e => nomatch (show none = some _ from e)

theorem classAWaitEnd : ∀ x0, Statement (.classAWaitEnd x0) :=
  fun _ _ _ e => nomatch (show none = some _ from e)

theorem clockReturn : ∀ x0 x1, Statement (.clockReturn x0 x1) :=
  fun _ _ _ _ e => nomatch (show none = some _ from e)

theorem muxSelect : ∀ x0 x1 x2, Statement (.muxSelect x0 x1 x2) :=
  fun _ _ _ _ _ e => nomatch (show none = some _ from e)

theorem muxSwitchDone : ∀ x0 x1, Statement (.muxSwitchDone x0 x1) :=
  fun _ _ _ _ e => nomatch (show none = some _ from e)

theorem muxStallTimeout : ∀ x0 x1, Statement (.muxStallTimeout x0 x1) :=
  fun _ _ _ _ e => nomatch (show none = some _ from e)

theorem muxForce : ∀ x0 x1 x2, Statement (.muxForce x0 x1 x2) :=
  fun _ _ _ _ _ e => nomatch (show none = some _ from e)

theorem gateClose : ∀ x0 x1, Statement (.gateClose x0 x1) :=
  fun _ _ _ _ e => nomatch (show none = some _ from e)

theorem gateCloseTimeout : ∀ x0 x1, Statement (.gateCloseTimeout x0 x1) :=
  fun _ _ _ _ e => nomatch (show none = some _ from e)

theorem opPointChange : ∀ x0 x1 x2, Statement (.opPointChange x0 x1 x2) :=
  fun _ _ _ _ _ e => nomatch (show none = some _ from e)

theorem voltageStepDone : ∀ x0 x1, Statement (.voltageStepDone x0 x1) :=
  fun _ _ _ _ e => nomatch (show none = some _ from e)

theorem railDelayExpiry : ∀ x0, Statement (.railDelayExpiry x0) :=
  fun _ _ _ e => nomatch (show none = some _ from e)

theorem railGood : ∀ x0 x1, Statement (.railGood x0 x1) :=
  fun _ _ _ _ e => nomatch (show none = some _ from e)

theorem railPgTimeout : ∀ x0, Statement (.railPgTimeout x0) :=
  fun _ _ _ e => nomatch (show none = some _ from e)

theorem railDrop : ∀ x0 x1, Statement (.railDrop x0 x1) :=
  fun _ _ _ _ e => nomatch (show none = some _ from e)

theorem railOff : ∀ x0 x1, Statement (.railOff x0 x1) :=
  fun _ _ _ _ e => nomatch (show none = some _ from e)

theorem railOffTimeout : ∀ x0, Statement (.railOffTimeout x0) :=
  fun _ _ _ e => nomatch (show none = some _ from e)

theorem marginRequest : ∀ x0 x1 x2, Statement (.marginRequest x0 x1 x2) :=
  fun _ _ _ _ _ e => nomatch (show none = some _ from e)

theorem pmbusStatusPoll : ∀ x0 x1 x2 x3, Statement (.pmbusStatusPoll x0 x1 x2 x3) :=
  fun _ _ _ _ _ _ e => nomatch (show none = some _ from e)

theorem sensorSample : ∀ x0 x1 x2 x3, Statement (.sensorSample x0 x1 x2 x3) :=
  fun _ _ _ _ _ _ e => nomatch (show none = some _ from e)

theorem riseEvaluation : ∀ x0, Statement (.riseEvaluation x0) :=
  fun _ _ _ e => nomatch (show none = some _ from e)

theorem graceEnd : ∀ x0, Statement (.graceEnd x0) :=
  fun _ _ _ e => nomatch (show none = some _ from e)

theorem enforcementStop : ∀ x0, Statement (.enforcementStop x0) :=
  fun _ _ _ e => nomatch (show none = some _ from e)

theorem stoppedClear : ∀ x0, Statement (.stoppedClear x0) :=
  fun _ _ _ e => nomatch (show none = some _ from e)

theorem thermTrip : ∀ x0, Statement (.thermTrip x0) :=
  fun _ _ _ e => nomatch (show none = some _ from e)

theorem unitPoll : ∀ x0 x1 x2, Statement (.unitPoll x0 x1 x2) :=
  fun _ _ _ _ _ e => nomatch (show none = some _ from e)

theorem authResponseRead : ∀ x0 x1 x2, Statement (.authResponseRead x0 x1 x2) :=
  fun _ _ _ _ _ e => nomatch (show none = some _ from e)

theorem writebackResume : ∀ x0, Statement (.writebackResume x0) :=
  fun _ _ _ e => nomatch (show none = some _ from e)

theorem ledgerClearAll : ∀ x0 x1, Statement (.ledgerClearAll x0 x1) :=
  fun _ _ _ _ e => nomatch (show none = some _ from e)

theorem nmiFlagClear : ∀ x0 x1, Statement (.nmiFlagClear x0 x1) :=
  fun _ _ _ _ e => nomatch (show none = some _ from e)

theorem interlockOpen : ∀ x0 x1, Statement (.interlockOpen x0 x1) :=
  fun _ _ _ _ e => nomatch (show none = some _ from e)

theorem interlockRelease : ∀ x0 x1, Statement (.interlockRelease x0 x1) :=
  fun _ _ _ _ e => nomatch (show none = some _ from e)

theorem estop : ∀ x0, Statement (.estop x0) :=
  fun _ _ _ e => nomatch (show none = some _ from e)

theorem krbClear : ∀ x0 x1, Statement (.krbClear x0 x1) :=
  fun _ _ _ _ e => nomatch (show none = some _ from e)

theorem pcieLinkUp : ∀ x0 x1 x2 x3, Statement (.pcieLinkUp x0 x1 x2 x3) :=
  fun _ _ _ _ _ _ e => nomatch (show none = some _ from e)

theorem telemetryBlockLock : ∀ x0 x1 x2, Statement (.telemetryBlockLock x0 x1 x2) :=
  fun _ _ _ _ _ e => nomatch (show none = some _ from e)

theorem inspectionPortAligned : ∀ x0 x1, Statement (.inspectionPortAligned x0 x1) :=
  fun _ _ _ _ e => nomatch (show none = some _ from e)

theorem fullyOffTimeElapsed : ∀ x0 x1, Statement (.fullyOffTimeElapsed x0 x1) :=
  fun _ _ _ _ e => nomatch (show none = some _ from e)

theorem d0PowerOnResetReleased : ∀ x0, Statement (.d0PowerOnResetReleased x0) :=
  fun _ _ _ e => nomatch (show none = some _ from e)

end Sys2Proof.Laws.Addressed
end

