-- ==== Sys2Proof/Tests/Slice0.lean ====
section
/-! SUPPORT. Tests: ill-formed commands that WellFormed refuses, one or two small checks of single steps against the spec's own words, and for
every statement with hypotheses a witness: concrete states and operands that meet the hypotheses of each of its clauses. -/

set_option maxRecDepth 100000
set_option linter.unusedVariables false

namespace Sys2Proof.Tests

open Sys2Proof Sys2Proof.Machine

/-- The state whose device is `d`, with no command waiting. -/
def st (d : Device) : State := { dev := d, fuses := Fuses.reset, pending := [] }

/-- The device after reset with fields of registers set. -/
def dv (l : List (Nat × Fld × Nat)) : Device := l.foldl (fun d x => d.setFld x.1 x.2.1 x.2.2) Device.reset

/-! Witnesses: supply and power. -/

def wOff : Device := { Device.reset with st := .off, pwr := { vinValid := false } }
def wOffLong : Device := { Device.reset with st := .off, pwr := { vinValid := false, offAt := 5 } }
def wOffPress : Device := { Device.reset with st := .off, pwr := { needPress := true } }
def wParked : Device := { Device.reset with st := .parked }

theorem witness_StartsEnterBooting :
    (wOff.pwr.down = none ∧ wOff.st = .off ∧ wOff.pwr.vinValid = false ∧ wOff.pwr.offAt = 0 ∧ wOff.pwr.needPress = false) ∧
    (wOffLong.pwr.down = none ∧ wOffLong.st = .off ∧ 100 * tuPerMs ≤ max wOffLong.now (5 + 100 * tuPerMs) - wOffLong.pwr.offAt) ∧
    (wOffPress.pwr.down = none ∧ wOffPress.st = .off ∧ wOffPress.pwr.needPress = true ∧ wOffPress.pwr.vinValid = true) ∧
    (wParked.pwr.down = none ∧ wParked.st = .parked ∧ wParked.pwr.mrstLow = false) ∧
    (Device.reset.pwr.down = none ∧ Device.reset.st = .booting ∧ Device.reset.fld CFG_STATUS CFG_STATUS_STEP = 0) := by decide

def wHeld : Device := { Device.reset with st := .held }
def wDown : Device := { wHeld with pwr := { down := some .vinFail } }
def wForced : Device := { wHeld with pwr := { down := some .forced } }

theorem witness_ShutdownsReachTheirEnd :
    (wHeld.st ≠ .off ∧ wHeld.st ≠ .parked ∧ wHeld.pwr.down = none ∧ wHeld.boot.intFail = false ∧ wHeld.st = .held) ∧ (wParked.st ≠ .off ∧ wParked.pwr.down = none) ∧
    (wDown.pwr.down.isSome = true ∧ wDown.pwr.down = some .vinFail) ∧ wForced.pwr.down = some .forced := by decide

def wRails : Device := (Device.reset.setEntry 0x10 0 0 [0x80, 0]).setEntry 0x10 0 1 [0x97, 4]
def wRail0 : RailEntry := parseRail [0x80, 0]
def wRail23 : RailEntry := parseRail [0x97, 4]
def wDelay : Device := { wRails with pwr := { seq := .delay 1 } }
def wGood0 : Device := { wRails.setRen 0 true with pwr := { seq := .waitGood 0 } }
def wGood23 : Device := { (wRails.setRen 23 true).setGood 0 true with pwr := { seq := .waitGood 1 } }
def wFall : Device := { wRails with pwr := { falling := [0, 23] } }

theorem witness_RailSequencerAdvances :
    (wDelay.railEntries[1]? = some wRail23 ∧ wRail23.rail < 24 ∧ wDelay.pwr.seq = .delay 1) ∧
    (wGood23.railEntries[1]? = some wRail23 ∧ wGood23.pwr.seq = .waitGood 1 ∧ wRail23.rail = 23 ∧ wGood23.renHigh 23 = true ∧
      wGood23.railEntries[2]? = none) ∧
    (wGood0.railEntries[0]? = some wRail0 ∧ wRail0.rail < 24 ∧ wGood0.pwr.seq = .waitGood 0 ∧ wRail0.rail = 0 ∧ wGood0.renHigh 0 = true ∧
      wGood0.railEntries[1]? = some wRail23 ∧ wGood0.renHigh wRail23.rail = false) ∧
    (wGood23.pwr.down = none ∧ natBit (wGood23.fld PWR_RAIL_PG PWR_RAIL_PG_PG) 0 = true ∧
      (sget (fun _ => []) wGood23.pwr.drops 0).length < 3 ∧ wGood23.railEntries.findIdx? (fun e => e.rail == 0) = some 0) ∧
    (wFall.pwr.seq = .idle ∧ wFall.pwr.falling = (0 : Fin 24).val :: 23 :: [] ∧ 23 < 24 ∧ 23 ≠ (0 : Fin 24).val) := by decide

def wDomains : Device := dv [(PWR_DOM_STATUS, PWR_DOM_STATUS_ON, 0x3FFF), (PWR_CFG, PWR_CFG_D5_IDLE_MS, 10), (PWR_PACE, PWR_PACE_CHANGING, 1),
  (PWR_PACE, PWR_PACE_LEVEL, 2)]
def wDomHeld : Device := { wDomains with st := .held }
def wDomTesting : Device := { wDomains with st := .ready, north := { role := .testing }, south := { role := .testing } }
def wDomBusy : Device := { dv [(PWR_DOM_STATUS, PWR_DOM_STATUS_BUSY, 0x2000)] with st := .held }
def wMargin : Device := { wRails with st := .held }
def wMargined : Device := dv [(PWR_MGN_ACTIVE, PWR_MGN_ACTIVE_ACTIVE, 0x800000)]

theorem witness_DomainsPaceAndMargins :
    (natBit (wDomTesting.fld PWR_DOM_STATUS PWR_DOM_STATUS_ON) 8 = true ∧ wDomTesting.domainMayFall 8 = true ∧ wDomTesting.dmaIn 8 = [] ∧
      wDomTesting.domainMayFall 11 = true ∧ wDomTesting.dmaIn 11 = [] ∧ wDomHeld.domainMayFall 5 = true) ∧
    ((wDomTesting.paceDone).windingDown 8).mayOpen 8 = true ∧
    ((wDomTesting.setFlag (TML_CTRL .north) TML_CTRL_BUSY true).paceDone.windingDown 8).mayOpen 8 = false ∧
    (natBit (wDomBusy.fld PWR_DOM_STATUS PWR_DOM_STATUS_BUSY) 13 = true ∧ wDomBusy.blocksIdle 13 = true ∧ wDomBusy.domainMayRise 12 = true) ∧
    (natBit (wDomBusy.fld PWR_DOM_STATUS PWR_DOM_STATUS_BUSY) 12 = false ∧ natBit (wDomBusy.fld PWR_DOM_STATUS PWR_DOM_STATUS_ON) 12 = false ∧
      wDomBusy.st ≠ .off ∧ wDomBusy.st ≠ .parked) ∧
    (wDomHeld.st = .held ∧ wDomHeld.fld PWR_CFG PWR_CFG_D5_IDLE_MS ≠ 0 ∧ wDomHeld.codecIdle = true ∧
      natBit (wDomHeld.fld PWR_DOM_STATUS PWR_DOM_STATUS_ON) 5 = true ∧ ((wDomHeld.tick 0).windingDown 5).mayOpen 5 = true ∧
      wDomHeld.pwr.paceTo < 4) ∧
    (wDomHeld.paceNeeded < 4 ∧ wDomHeld.fld PWR_PACE PWR_PACE_LEVEL ≠ wDomHeld.paceNeeded) ∧ wDomHeld.flag PWR_PACE PWR_PACE_CHANGING = true ∧
    (wMargin.railEntries.find? (fun e => e.rail == PWR_MGN_CTRL_RAIL.get (PWR_MGN_CTRL_RAIL.put (PWR_MGN_CTRL_MODE.put 0 1) 23)) = some wRail23 ∧
      wRails.st ≠ .held ∧ wMargin.st = .held ∧ wRail23.marginInj = true ∧
      PWR_MGN_CTRL_MODE.get (PWR_MGN_CTRL_RAIL.put (PWR_MGN_CTRL_MODE.put 0 1) 23) = 1) ∧
    (natBit (wMargined.fld PWR_MGN_ACTIVE PWR_MGN_ACTIVE_ACTIVE) 23 = true ∧ (0x0001 : BitVec 16) &&& 0xF7FF ≠ 0) := by decide


/-! Witnesses: boot, host commands, Kerb and ledger. -/

def wStep1 : Device := dv [(CFG_STATUS, CFG_STATUS_STEP, 1)]
def wStep2 : Device := dv [(CFG_STATUS, CFG_STATUS_STEP, 2)]
def wStep4 : Device := (dv [(CFG_STATUS, CFG_STATUS_STEP, 4)]).setEntry 0x10 0 0 [0x80, 0]
def wStep5 : Device := { dv [(CFG_STATUS, CFG_STATUS_STEP, 5)] with pwr := { seq := .done } }
def wStep7 : Device := { dv [(CFG_STATUS, CFG_STATUS_STEP, 7)] with token := some .south }

theorem witness_BootStepsComplete :
    (wStep1.bootAt 1 = true ∧ wStep1.boot.d0Ready = true ∧ natBit wStep1.clk.failed 0 = false ∧
      wStep1.flag CLK_STATUS CLK_STATUS_CLASS_A_WAIT = false ∧ wStep1.sticky lbThermTrip = false ∧ wStep1.kerb.pinsLow = 0) ∧
    wStep2.bootAt 2 = true ∧
    (wStep4.bootAt 4 = true ∧ wStep4.railEntries[0]? = some wRail0 ∧ wStep4.renHigh wRail0.rail = false) ∧
    (wStep5.bootAt 5 = true ∧ wStep5.pwr.seq = .done) ∧ (wStep7.bootAt 7 = true ∧ wStep7.token ≠ none ∧ wStep7.kerb.latched = 0) := by decide

theorem witness_ImageAppliesAndStoreTrains :
    (dv [(CFG_STATUS, CFG_STATUS_STEP, 3)]).bootAt 3 = true ∧ (dv [(CFG_STATUS, CFG_STATUS_STEP, 6)]).bootAt 6 = true ∧
      geometryListed 1 1 = true ∧ geometryListed 8 2 = true := by decide

def wReady : Device := { Device.reset with st := .ready }
def wPrinting : Device := { Device.reset with st := .printing }
def wHeldStart : Device :=
  { dv [(CFG_STATUS, CFG_STATUS_STEP, 8), (PWR_DOM_STATUS, PWR_DOM_STATUS_ON, 0x3FFF), (RDB_STATUS, RDB_STATUS_TRAINED, 1)] with st := .held }

theorem witness_HostCommandsMoveTheState :
    (wHeldStart.st = .held ∧ wHeldStart.planned = none ∧ wHeldStart.startRefused = false) ∧
    ((wHeldStart.setFld PWR_MGN_ACTIVE PWR_MGN_ACTIVE_ACTIVE 1).st = .held ∧
      (wHeldStart.setFld PWR_MGN_ACTIVE PWR_MGN_ACTIVE_ACTIVE 1).startRefused = true) ∧
    (wReady.st = .ready ∧ wReady.planned = none) ∧ wPrinting.st = .printing := by decide

def wSafe : Device := { dv [(KRB_STATUS, KRB_STATUS_FORCING, 1), (KRB_CAUSE, KRB_CAUSE_CAUSE, 4)] with st := .safe }
def wSafeLive : Device := wSafe.setFld KRB_STATUS KRB_STATUS_LIVE 4

theorem witness_KerbTriggersAndClear :
    (wHeld.st = .held ∧ wReady.st = .ready ∧ wPrinting.st = .printing ∧ { Device.reset with st := DevState.draining }.st = .draining ∧
      (∀ pin : Fin 3, natBit (wHeld.fld KRB_STATUS KRB_STATUS_LIVE) pin = false ∧ natBit (wReady.fld KRB_STATUS KRB_STATUS_LIVE) pin = false ∧
        natBit (wPrinting.fld KRB_STATUS KRB_STATUS_LIVE) pin = false)) ∧
    (wSafeLive.st ≠ .off ∧ wSafeLive.st ≠ .parked ∧ natBit (wSafeLive.fld KRB_STATUS KRB_STATUS_LIVE) (2 : Fin 3) = true) ∧
    (wSafe.st = .safe ∧ wSafe.fld KRB_STATUS KRB_STATUS_LIVE = 0 ∧ wSafe.flag CLK_STATUS CLK_STATUS_CLASS_A_WAIT = false ∧
      wSafe.planned = none ∧ (wSafe.tick 0).firesNow = false ∧ ({ wSafe with kerb := { firedAt := some 0 } }.tick 0).firesNow = true) ∧
    (wSafeLive.st = .safe ∧ wSafeLive.fld KRB_STATUS KRB_STATUS_LIVE ≠ 0) := by decide

theorem witness_LedgerAndFlagsClear : (0x0000 : BitVec 16) ≠ 0xC1EA ∧ (0xC1EB : BitVec 16) ≠ 0xC1EA ∧ (0x1F : Word).getLsbD 0 = true := by decide

/-! Witnesses: accesses. -/

theorem witness_DeadAccessesAreAnswered :
    ¬(2 = 4 ∧ 0x10030000 % 4 = 0) ∧ ¬(4 = 4 ∧ 0x10030002 % 4 = 0) ∧ quarterView 0x01200000 = true ∧ quarterView 0x02FFFFFC = true ∧
    crossing (.quarter .south) 0x01000000 = true ∧ crossing (.quarter .north) 0x215FFFFC = true ∧
    (0x00FFFFFC < 0x01000000 ∧ Master.sharedDma ≠ .quarter .north ∧ Master.sharedDma ≠ .quarter .south) ∧
    Device.reset.reach .loader 0x206FFFFC = .deviceOnly ∧ Device.reset.reach .host 0x30000000 = .nothing ∧
    Device.reset.reach .sharedDma 0xFFFFFFFC = .nothing := by decide

def wHi : Device := { Device.reset with hiLatch := [(KRB_TIME_LO, some 7)] }

theorem witness_RegisterWritesAndWideReads :
    (QTR_CHK .north 0 ≠ QTR_CMD .north ∧ (regRow (QTR_CHK .north 0)).isSome = true ∧ isLow (QTR_CHK .north 0) = false ∧
      sget (fun _ => none) Device.reset.loHold (QTR_CHK .north 0 - 4) = none ∧ Device.reset.fenced (QTR_CHK .north 0) = false ∧
      (Side.north.base + 0x10 ≤ QTR_CHK .north 0 ∧ QTR_CHK .north 0 < Side.north.base + 0x10000 ∧ QTR_CHK .north 0 % 4 = 0) ∧
      (0x30 < 0x10000 ∧ Device.reset.locked = false)) ∧
    (Device.reset.reach .host KRB_TIME_LO = .reg KRB_TIME_LO ∧ isLow KRB_TIME_LO = true) ∧
    (wHi.reach .host (KRB_TIME_LO + 4) = .reg (KRB_TIME_LO + 4) ∧ isLow (KRB_TIME_LO + 4) = false ∧
      sget (fun _ => none) wHi.hiLatch (KRB_TIME_LO + 4 - 4) = some 7) ∧
    (Device.reset.reach .host (KRB_TIME_LO + 3 - (KRB_TIME_LO + 3) % 4) = .reg KRB_TIME_LO ∧ (KRB_TIME_LO + 3) % 4 + 1 ≤ 4) := by decide

theorem witness_FabricAndMemoryErrors : 0x20000000 < 0x20700000 ∧ 0x206FFFFF < 0x20700000 := by decide

/-! Witnesses: image update. -/

def wUpd : Update := { op := uoErase, copy := .b, offset := 0, len := 0, data := [] }
def wBootA : Device := dv [(CFG_STATUS, CFG_STATUS_BOOT_COPY, 0)]
def wBusyUpd (c : Nat) (op : Nat) : Device :=
  let d := dv [(CFG_UPD_STATUS, CFG_UPD_STATUS_STATE, c)]
  { d with boot := { d.boot with update := some { wUpd with op := op } } }

theorem witness_UpdateCommandsRunAndEnd :
    (wBootA.boot.update = none ∧ wBootA.fld CFG_STATUS CFG_STATUS_BOOT_COPY ≠ Copy.b.code ∧
      wBootA.updateRange { op := uoErase, copy := .b, offset := wBootA.nat CFG_UPD_OFFSET, len := wBootA.nat CFG_UPD_LEN, data := [] } = true ∧
      wBootA.updateRange { op := uoProgram, copy := .b, offset := wBootA.nat CFG_UPD_OFFSET, len := wBootA.nat CFG_UPD_LEN, data := [1] } = true ∧
      wBootA.updateRange { op := uoVerify, copy := .a, offset := wBootA.nat CFG_UPD_OFFSET, len := wBootA.nat CFG_UPD_LEN, data := [] } = true ∧
      wBootA.fld CFG_STATUS CFG_STATUS_BOOT_COPY = Copy.a.code ∧ wBootA.writesOut = false) ∧
    ((wBusyUpd 1 uoValidate).boot.update = some { wUpd with op := uoValidate } ∧
      (wBusyUpd 1 uoValidate).fld CFG_UPD_STATUS CFG_UPD_STATUS_STATE = 1 ∧ (wBusyUpd 1 uoValidate).flash.present = true) ∧
    ((wBusyUpd 2 uoErase).boot.update = some wUpd ∧ (wBusyUpd 2 uoErase).fld CFG_UPD_STATUS CFG_UPD_STATUS_STATE = 2 ∧
      (wBusyUpd 2 uoErase).flag THM_STATUS THM_STATUS_WRITE_HOLD = false) := by decide

/-! Witnesses: delivery and host rings. -/

def wRec : BandRec := { station := 0, band := 0, format := 1, rawPass := 0, addr := 0, lens := List.replicate 8 64, crc := 0, stored := true, checked := 255 }
def wSide : PageSide :=
  { wsn := 7, crcEn := false, lpi1200 := false, duplex := false, pace := 2, stations := 1, speed := 100, template := 0, dots := 16, bands := 1,
    recs := [wRec] }
def wPage : Page := { first := wSide, second := none, handle := 0x10001, chains := [[5], [], [], [], [], [], [], []] }
def wIngest : IngestS := { page := wPage, slot := 0 }
def wGate : Device :=
  let d := dv [(TML_GRID .north, wholeWord, 0x20000), (TML_PITCH .north, wholeWord, 100000), (PGS_TG_USABLE, PGS_TG_USABLE_U, 1000),
    (PGS_TG_CTRL, PGS_TG_CTRL_MAX_PACE, 3)]
  { d with host := { d.host with ingest := [wIngest] } }

def wDir : Device :=
  ((Device.reset.setEntry 0x01 1 0 [0, 0, 1, 0, 1, 0, 0, 0]).setEntry 0x01 0 0 [4, 0, 5, 0, 0, 0, 0, 0, 0, 0, 0, 0, 0, 0, 0, 0])
def wInst : Instance := { wsn := 7, wsn2 := 0, template := 0, origin := 0, startAt := 0, windowOpen := true, inFlight := true }
def wDetect : Device := { wDir with tml := { insts := [(0, some wInst)] } }

theorem witness_PagesAcceptedAndSheetsCommitted :
    (wGate.host.ingest = [wIngest] ∧ wIngest.live = true ∧ wIngest.awaits = false ∧ wIngest.page.ready = true ∧
      ((wGate.tick 0).gateCheck wIngest.page).kind = 0) ∧
    (leastBy (fun (x y : Nat × Instance) => decide (x.2.wsn < y.2.wsn)) (wDetect.openInsts.filter (fun x => wDetect.takesDetect 5 x.2)) =
      some (0, wInst) ∧ wDetect.inst 0 = some wInst ∧ wDetect.planned = none) ∧
    wDetect.openInsts.filter (fun x => wDetect.takesDetect 6 x.2) = [] ∧
    (wHeld.st = .held ∧ wHeld.dlv.pages = []) ∧ wReady.st ≠ .held := by decide

def wRingCfg : Word := HIF_RING_CFG_LOG2_SIZE.put 0 16
def wRing (en : Nat) (prod : Nat) (halted : Nat) : Device :=
  let d := dv [(HIF_RING_CFG 0, HIF_RING_CFG_ENABLE, en), (HIF_RING_CFG 1, HIF_RING_CFG_ENABLE, en), (HIF_RING_CFG 2, HIF_RING_CFG_ENABLE, en),
    (HIF_RING_PROD 0, wholeWord, prod), (HIF_RING_PROD 1, wholeWord, prod), (HIF_RING_PROD 2, wholeWord, prod),
    (HIF_RING_STATUS 0, HIF_RING_STATUS_HALTED, halted), (HIF_RING_STATUS 0, HIF_RING_STATUS_HALT_CAUSE, 3)]
  { d with host := { d.host with linkUp := true } }
def wEvt : Device := dv [(HIF_EVT_CFG, HIF_EVT_CFG_ENABLE, 1), (HIF_EVT_PROD, wholeWord, 2)]

theorem witness_RingsEnableAndRing :
    ((wRing 0 0 0).ringEnabled 0 = false ∧ (wRing 0 0 0).flag (HIF_RING_CFG 0) HIF_RING_CFG_BUSY = false ∧
      ringArgsOk ((wRing 0 0 0).nat64 (HIF_RING_BASE_LO 0)) (HIF_RING_CFG_LOG2_SIZE.get wRingCfg) = true ∧
      (wRing 0 0 0).nat64 (HIF_RING_WB_LO 0) % 8 = 0 ∧ (wRing 0 0 0).nat64 (HIF_RING_WB_LO 0) < 2 ^ 63) ∧
    ((wRing 1 0 0).ringEnabled 2 = true ∧ (wRing 1 0 0).flag (HIF_RING_CFG 2) HIF_RING_CFG_BUSY = false ∧
      (wRing 1 0 0).reg (HIF_RING_PROD 2) = (wRing 1 0 0).reg (HIF_RING_CONS 2) ∧ (wRing 1 0 0).ringIdle 2 = true) ∧
    (0 < (wRing 1 0 0).ringAhead 0 16 ∧ (wRing 1 0 0).ringAhead 0 16 ≤ 2 ^ ((wRing 1 0 0).force 0).log2 ∧
      2 ^ ((wRing 1 0 0).force 0).log2 < (wRing 1 0 0).ringAhead 0 17 ∧ (wRing 1 0 0).ringHalted 0 = false) ∧
    ((wRing 1 0 1).ringHalted 0 = true ∧ (0 : Fin 3) = 0 ∧ (wRing 1 0 1).fld (HIF_RING_STATUS 0) HIF_RING_STATUS_HALT_CAUSE ≠ 0xE) ∧
    (Device.reset.evtOn = false ∧ ringArgsOk (Device.reset.nat64 HIF_EVT_BASE_LO) (HIF_EVT_CFG_LOG2_SIZE.get (HIF_EVT_CFG_LOG2_SIZE.put 0 4)) = true) ∧
    (wEvt.evtOn = true ∧ ((2 : Word).toNat + 2 ^ 32 - wEvt.nat HIF_EVT_CONS) % 2 ^ 32 ≤ wEvt.evtUsed) := by decide

def wDesc (flags : Byte) : List Byte :=
  leBytes 8 1 ++ [1, flags, 2, 1] ++ leBytes 2 100 ++ [0, 0] ++ leBytes 4 1 ++ leBytes 2 1 ++ leBytes 2 0 ++ leBytes 8 0x1000 ++ List.replicate 32 0
def wBand : List Byte :=
  leBytes 8 0x2000 ++ [0, 0, 0, 0, 0, 0, 0, 0] ++ (List.replicate 8 (leBytes 4 4)).flatten ++ leBytes 4 0 ++ List.replicate 12 0
def wSlot : FetchedSlot := { desc := wDesc 1, descOk := true, table := [wBand], tableOk := true }
def wBadSlot : FetchedSlot := { wSlot with desc := wDesc 8 }
def wParam : List Byte := leBytes 8 5 ++ [2, 1] ++ List.replicate 6 0 ++ leBytes 4 3 ++ leBytes 4 9 ++ List.replicate 40 0
def wFetch : Device := (wRing 1 1 0).setEntry 0x01 1 0 [0, 0, 1, 0, 1, 0, 0, 0]
def wFetchParam : Device := (wFetch.setFld (HIF_PARAM_ADDR 3) wholeWord 0x10040000).setFld (HIF_PARAM_MAX 3) wholeWord 9
def wBufDesc : List Byte := leBytes 8 0x3000 ++ [3] ++ List.replicate 7 0 ++ leBytes 4 0x10000 ++ List.replicate 44 0

theorem witness_DescriptorsAreFetched :
    (wSlot.descOk = true ∧ wFetch.mayFetch 0 = true ∧ wFetch.host.ingest = [] ∧ wFetch.firstVerdict wSlot = none ∧
      (parseSide wSlot.desc).duplex = true) ∧
    (wFetch.firstVerdict wBadSlot = some psBadDescriptor ∧ haltsRing psBadDescriptor = true ∧ psBadDescriptor < 16) ∧
    (wFetchParam.mayFetch 1 = true ∧ paramFormOk wParam = true ∧ (paramEntries wParam).all (fun e => wFetchParam.paramOk e.1 e.2) = true ∧
      applyWsn wParam ≠ 0 ∧ wFetchParam.dlv.last < applyWsn wParam) ∧
    (wFetch.mayFetch 2 = true ∧ bytesAt wBufDesc 8 1 = 3 ∧ bytesAt wBufDesc 0 8 + bytesAt wBufDesc 16 4 ≤ 2 ^ 63 ∧
      bytesAt wBufDesc 0 8 < 2 ^ 63) := by decide

def wEvent : Event := { typ := 1, nmi := false, seq := 0, code := 0, wsn := 0, data := 0, time := 0 }
def wVector : Device :=
  let d := dv [(HIF_EVT_MOD, HIF_EVT_MOD_TIME, 10), (HIF_EVT_CFG, HIF_EVT_CFG_ENABLE, 1),
    (PWR_DOM_STATUS, PWR_DOM_STATUS_ON, 0x80)]
  { d with host := { d.host with linkUp := true, unsignalled := [(63, 1)], msix := [(255, 0)], backlog := [wEvent],
                                 cfgRetry := false, pcie := { msixOn := true, aspmL1 := true } } }

theorem witness_LinkAndInterrupts :
    (natBit (wVector.fld PWR_DOM_STATUS PWR_DOM_STATUS_ON) 7 = true ∧ wVector.host.linkUp = true ∧ wVector.pcie.aspmL1 = true ∧ wVector.hostBusy = false) ∧
    (wVector.fld HIF_EVT_MOD HIF_EVT_MOD_TIME ≠ 0 ∧ sget (fun _ => 0) wVector.host.unsignalled 63 ≠ 0 ∧
      wVector.pcie.msixOn = true ∧ wVector.pcie.msixMask = false ∧ (sget msixDefault wVector.host.msix (4 * 63 + 3)).getLsbD 0 = false) ∧
    (wVector.evtRoom = true ∧ wVector.host.backlog = [wEvent] ∧ wVector.host.lost = 0) := by decide

def wBlocks : Device := dv [(PGS_ALLOC_BLOCKS, PGS_ALLOC_BLOCKS_FREE, 1)]

theorem witness_IngestFailsAndResumes :
    (wGate.host.ingest = [wIngest] ∧ wIngest.live = true) ∧ (wBlocks.freeBlocks ≠ 0 ∧ wBlocks.ps.short ≤ wBlocks.freeBlocks ∧ wBlocks.newHandle.isSome = true ∧ wBlocks.host.ingest = []) := by decide

/-! Witnesses: DMA and the page store. -/

def wCh : Nat := aly .shared 15
def wDma (count busy en : Nat) (src dst : Nat) : Device :=
  let d := dv [(wCh + alyCount, wholeWord, count), (wCh + alyCtrl, ALYS_CTRL_BUSY, busy), (wCh + alyCtrl, ALYS_CTRL_ENABLE, en),
    (wCh + alySrc, wholeWord, src % 2 ^ 32), (wCh + alySrc + 4, wholeWord, src / 2 ^ 32),
    (wCh + alyDst, wholeWord, dst % 2 ^ 32), (wCh + alyDst + 4, wholeWord, dst / 2 ^ 32),
    (RDB_STATUS, RDB_STATUS_CAP_GIB, 1), (PGS_ALLOC_CFG, PGS_ALLOC_CFG_GEN_BLOCKS, 1), (PGS_ALLOC_CFG, PGS_ALLOC_CFG_INSP_BLOCKS, 0)]
  { d with host := { d.host with linkUp := true } }
def wGeneral : Nat := storeBase + 0x400000
def wRawRec : BandRec := { wRec with format := 0, stored := false, checked := 0 }
def wRawIngest : IngestS := { page := { wPage with first := { wSide with recs := [wRawRec] } }, slot := 0 }
def wBandCh : Device :=
  let d := dv [(aly .shared 6 + alyCtrl, ALYS_CTRL_BUSY, 1)]
  { d with host := { d.host with ingest := [wRawIngest] } }

theorem witness_DmaChannelsRun :
    deviceChannel .shared 15 = false ∧
    ((wDma 64 0 0 0 0).dmaBusy .shared 15 = false ∧ (wDma 64 0 0 0 0).flag (wCh + alyCtrl) ALYS_CTRL_ENABLE = false ∧
      (wDma 64 0 0 0 0).nat (wCh + alyCount) % max (widthBytes (ALYS_CTRL_SRC_W.get (4 : Word))) (widthBytes (ALYS_CTRL_DST_W.get (4 : Word))) = 0 ∧
      (wDma 4 0 0 0 0).nat (wCh + alyCount) % max (widthBytes (ALYS_CTRL_SRC_W.get (ALYS_CTRL_SRC_W.put 0 1)))
        (widthBytes (ALYS_CTRL_DST_W.get (ALYS_CTRL_SRC_W.put 0 1))) ≠ 0) ∧
    ((wDma 64 0 1 wGeneral (2 ^ 63)).mayRun .shared 15 = true ∧
      (wDma 64 0 1 wGeneral (2 ^ 63)).fld (wCh + alyCtrl) ALYS_CTRL_PACE_MODE = 0 ∧ (wDma 64 0 1 wGeneral (2 ^ 63)).nat (wCh + alyCount) ≠ 0 ∧
      (wDma 64 0 1 wGeneral (2 ^ 63)).nat64 (wCh + alySrc) = wGeneral ∧ (wDma 64 0 1 wGeneral (2 ^ 63)).nat64 (wCh + alyDst) = 2 ^ 63 ∧
      (wDma 64 0 1 wGeneral (2 ^ 63)).spanErr (engineMaster .shared) wGeneral 64 = none ∧
      (wDma 64 0 1 wGeneral (2 ^ 63)).spanErr (engineMaster .shared) (2 ^ 63) 64 = none ∧
      (wDma 64 0 1 storeBase (2 ^ 63)).mayRun .shared 15 = true ∧
      (wDma 64 0 1 storeBase (2 ^ 63)).spanErr (engineMaster .shared) storeBase 64 = some deDecode) ∧
    ((wDma 0 1 1 0 0).dmaBusy .shared 15 = true ∧ (wDma 0 1 1 0 0).nat (wCh + alyCount) = 0) ∧
    (wBandCh.dmaBusy .shared 6 = true ∧ wBandCh.nat (aly .shared 6 + alyCount) = 0 ∧ wBandCh.host.ingest = [wRawIngest] ∧
      wRawIngest.live = true ∧ wRawIngest.page.handle ≠ 0 ∧ (wRawIngest.page.sideOf 0).crcEn = false ∧
      wBandCh.paused = false ∧ (wBandCh.chan .shared 6).waits = false ∧ wBandCh.fld PWR_DOM_STATUS PWR_DOM_STATUS_BUSY = 0 ∧
      wRawIngest.page.recs.find? (fun r => r.station == (0 : Fin 8).val && r.band == 0 && (r.format == 0) == true) = some wRawRec ∧
      wRawRec.stored = false) ∧
    ((wDma 64 0 1 wGeneral (2 ^ 63)).readyBelow .shared 15 (0 : BitVec 16).toNat = false ∧
      (((wDma 64 0 1 wGeneral (2 ^ 63)).tick 0).runInStore .shared 15 && (channelPort .shared 15).any ((wDma 64 0 1 wGeneral (2 ^ 63)).tick 0).portWaits) = false ∧
      (wDma 64 0 1 wGeneral (2 ^ 63)).countFits .shared 15 = true ∧ ((wDma 64 0 1 wGeneral (2 ^ 63)).chan .shared 15).waits = false ∧
      2 ^ 32 ≤ wGeneral ∧ (wDma 64 0 1 storeBase (2 ^ 63)).inStore storeBase = true ∧
      (wDma 64 0 1 storeBase (2 ^ 63)).readyBelow .shared 15 (0 : BitVec 16).toNat = false ∧
      (((wDma 64 0 1 storeBase (2 ^ 63)).tick 0).runInStore .shared 15 && (channelPort .shared 15).any ((wDma 64 0 1 storeBase (2 ^ 63)).tick 0).portWaits) = false ∧
      (wDma 64 0 1 storeBase (2 ^ 63)).countFits .shared 15 = true ∧ ((wDma 64 0 1 storeBase (2 ^ 63)).chan .shared 15).waits = false) := by decide

def wStore : Device := dv [(RDB_STATUS, RDB_STATUS_TRAINED, 1), (RDB_STATUS, RDB_STATUS_CAP_GIB, 64)]
def wActs : Device := { wStore with ps := { acts := [((wStore.placeOf 0).bankNo, 2048)] } }

theorem witness_StoreTracksAndGuards :
    (wStore.storeOff = false ∧ wStore.flag RDB_STATUS RDB_STATUS_TRAINED = true ∧ wStore.scrubBlocks ≠ 0) ∧
    (storeBase ≤ storeBase ∧ storeBase < 2 ^ 64 ∧ storeBase ≤ 2 ^ 64 - 1 ∧ 2 ^ 64 - 1 < 2 ^ 64 ∧ (0 : Nat) ≠ 1 ∧ (0 : Nat) ≠ 2 ∧ (1 : Nat) ≠ 2) ∧
    ((wDma 0 1 1 0 0).dmaBusy .shared 15 = true ∧ ((wDma 0 1 1 0 0).chan .shared 15).waits = false) ∧
    (wStore.flag RDB_STATUS RDB_STATUS_SR = false ∧ wStore.inStore storeBase = true ∧ wActs.flag RDB_STATUS RDB_STATUS_SR = false ∧
      wActs.inStore storeBase = true) ∧
    (sget (fun _ => 0) wStore.ps.acts (wStore.placeOf (storeBase - storeBase)).bankNo < wStore.rhT ∧
      wActs.rhT ≤ sget (fun _ => 0) wActs.ps.acts (wActs.placeOf (storeBase - storeBase)).bankNo) := by decide

def wSr (e x : Bool) (sr : Nat) : Device :=
  let d := dv [(RDB_STATUS, RDB_STATUS_SR, sr), (RDB_SR_CTRL, RDB_SR_CTRL_IDLE_MS, 5)]
  { d with st := .held, ps := { entering := e, exiting := x } }

theorem witness_SelfRefreshGoesRound :
    ((wSr false false 0).st = .held ∧ (wSr false false 0).storeGated = false ∧ (wSr false false 0).fld RDB_SR_CTRL RDB_SR_CTRL_IDLE_MS ≠ 0) ∧
    wReady.st ≠ .held ∧ (wSr true false 0).ps.entering = true ∧
    ((wSr false false 1).ps.entering = false ∧ (wSr false false 1).flag RDB_STATUS RDB_STATUS_SR = true) ∧
    (wSr false true 1).ps.exiting = true := by decide

/-! Witnesses: the codec. -/

def wStored : List Byte := [1, 4, 0, 0xFB, 0xFF, 1, 2, 3, 4]
def wContainer : List Byte := withCrc (leBytes 2 0xC5A7 ++ leBytes 1 1 ++ leBytes 1 1 ++ leBytes 4 4 ++ leBytes 4 9) ++ wStored
def wArcade : Device := dv [(ARC_CTRL, ARC_CTRL_ENABLE, 1), (ARC_CTRL, ARC_CTRL_CMP_EN, 15), (PWR_DOM_STATUS, PWR_DOM_STATUS_ON, 0x3FFF),
  (RDB_STATUS, RDB_STATUS_CAP_GIB, 1), (PGS_ALLOC_CFG, PGS_ALLOC_CFG_GEN_BLOCKS, 1), (PGS_ALLOC_CFG, PGS_ALLOC_CFG_INSP_BLOCKS, 0),
  (PGS_ALLOC_BLOCKS, PGS_ALLOC_BLOCKS_FREE, 1000)]
def wCodecRec (f : Nat) : BandRec := { wRec with format := f, lens := List.replicate 8 (if f = 0 then 4 else 25), stored := f != 0, checked := 0 }
def wCodecIn (f : Nat) : IngestS :=
  { page := { first := { wSide with dots := 1, recs := [wCodecRec f] }, second := none, handle := 0x10000, chains := List.replicate 8 [] }, slot := 2 }
def wWith (l : List IngestS) : Device := { wArcade with host := { wArcade.host with ingest := l } }
def wNeed (d : Device) (x : IngestS) (st : Nat) : Nat := d.chainNeed x.page st
def wTight : Device := (wWith [wCodecIn 0]).setFld PGS_ALLOC_BLOCKS PGS_ALLOC_BLOCKS_FREE 0
def wChain : ChainRun := { slot := 2, station := 0, reserved := 1 }
def wChainIn : IngestS := { wCodecIn 0 with page := (wCodecIn 0).page.mapRecs (fun r => { r with checked := 255 }) }
def wChainDev : Device := { wWith [wChainIn] with arc := { chains := [(3, some wChain)] } }
def wChainBand : BandRec := { wCodecRec 0 with checked := 255 }
def wChainPage : Page := wChainIn.page.mapBand 0 0 (fun _ => wChainDev.compressed 1 wChainBand [])

theorem witness_BandsAreCheckedAndCompressed :
    ((wWith [wCodecIn 1]).arcOn = true ∧ (wCodecIn 1).live = true ∧
      (wCodecIn 1).page.recs.find? (fun r => r.station == 0 && r.band == 0 && r.format != 0) = some (wCodecRec 1) ∧
      natBit (wCodecRec 1).checked 7 = false ∧
      checkContainer 1 (4 * ((wCodecIn 1).page.sideOf 0).dots) ((wCodecRec 1).sub 7 wContainer) = jeNone ∧
      checkContainer 1 (4 * ((wCodecIn 1).page.sideOf 0).dots) ((wCodecRec 1).sub 7 (wContainer.set 0 0)) ≠ jeNone) ∧
    ((wWith [wCodecIn 0]).cmpOn 3 = true ∧ (wWith [wCodecIn 0]).arcChain 3 = none ∧ (wWith [wCodecIn 0]).jobOn 3 = false ∧
      (wWith [wCodecIn 0]).nextChain = some (wCodecIn 0, 0) ∧ wNeed (wWith [wCodecIn 0]) (wCodecIn 0) 0 ≤ (wWith [wCodecIn 0]).freeBlocks ∧
      wTight.cmpOn 3 = true ∧ wTight.nextChain = some (wCodecIn 0, 0) ∧ wTight.freeBlocks < wNeed wTight (wCodecIn 0) 0) ∧
    (wChainDev.arcChain 3 = some wChain ∧ wChain.waits = false ∧ wChainDev.host.ingest = [wChainIn] ∧ wChainIn.slot = wChain.slot ∧ wChain.station < 8 ∧
      wChainIn.page.rawBands wChain.station = [wChainBand] ∧ wChainBand.checked = 255 ∧ wChainDev.storeOff = false ∧ wChainDev.storeHeld = false ∧
      (∀ y ∈ [0], y ≤ bytesTime (32 * wChainIn.page.first.dots) (compressorRate wChainDev.paceNow)) ∧
      ((wChainPage.chains.set wChain.station []).map (fun l => l.length)).sum + blocksFor (wChainPage.chainBytes wChain.station) ≤
        wChainDev.pageBlocks ∧
      blocksFor (wChainPage.chainBytes wChain.station) - (wChainPage.chains.getD wChain.station []).length ≤ wChainDev.freeBlocks + wChain.reserved ∧
      wChainDev.freeBlocks + wChain.reserved < 65536) := by decide

def wJob (kind src : Nat) : Job :=
  { src, dst := wGeneral, srcLen := 25, dstLen := 64, kind, format := 1, tableId := 0, container := true, tables := 0, flush := 0, tag := 9 }
def wQueue (l : List Job) : Device := { wArcade with arc := { jobs := l } }
def wRunning (kind src : Nat) : Device := { wArcade with arc := { run := some { job := wJob kind src, unit := 0, input := wContainer } } }
def wRun1 : RunJob := { job := wJob 1 (2 ^ 63), unit := 0, input := wContainer }

theorem witness_GeneralJobsRunAndEnd :
    ((wQueue []).arc.jobs.length < 4 ∧ 4 ≤ (wQueue (List.replicate 4 (wJob 1 (2 ^ 63)))).arc.jobs.length) ∧
    ((wQueue [wJob 1 (2 ^ 63)]).arcOn = true ∧ (wQueue [wJob 1 (2 ^ 63)]).arc.run = none ∧
      (wQueue [wJob 1 (2 ^ 63)]).badJob (wJob 1 (2 ^ 63)) = false ∧ (wQueue [wJob 1 (2 ^ 63)]).freeCompressor = some 0) ∧
    ((wQueue [wJob 2 wGeneral]).arcOn = true ∧ (wQueue [wJob 2 wGeneral]).badJob (wJob 2 wGeneral) = false ∧ wGeneral < 2 ^ 63) ∧
    (wQueue [wJob 3 wGeneral]).badJob (wJob 3 wGeneral) = true ∧
    ((wRunning 2 wGeneral).arc.run = some { job := wJob 2 wGeneral, unit := 0, input := wContainer } ∧
      (wRunning 2 wGeneral).jobHeld (wJob 2 wGeneral) = false ∧ touchesCheck (wJob 2 wGeneral).src (wJob 2 wGeneral).srcLen = false ∧
      (wRunning 2 wGeneral).regionGated (wJob 2 wGeneral).src = false ∧ (wJob 2 wGeneral).verify wContainer = jeNone) ∧
    ((wRunning 1 (2 ^ 63)).arc.run = some (wRun1) ∧ (wRunning 1 (2 ^ 63)).jobHeld (wJob 1 (2 ^ 63)) = false ∧
      touchesCheck (wJob 1 (2 ^ 63)).src (wJob 1 (2 ^ 63)).srcLen = false ∧
      (wRunning 1 (2 ^ 63)).regionGated (wJob 1 (2 ^ 63)).src = false ∧
      ((wRunning 1 (2 ^ 63)).jobOutput wRun1 { flushAt := [], blocks := [] }).length ≤ (wJob 1 (2 ^ 63)).dstLen ∧
      touchesCheck (wJob 1 (2 ^ 63)).dst ((wRunning 1 (2 ^ 63)).jobOutput wRun1 { flushAt := [], blocks := [] }).length = false ∧
      (wRunning 1 (2 ^ 63)).regionGated (wJob 1 (2 ^ 63)).dst = false) ∧
    ARC_CTRL_ENABLE.get (0 : Word) = 0 := by decide

def wPort : Device :=
  let d := dv [(ENW_INSP_CTRL .south, ENW_INSP_CTRL_ENABLE, 1), (PWR_DOM_STATUS, PWR_DOM_STATUS_ON, 0x3FFF),
    (ENW_INSP_STATUS .south, ENW_INSP_STATUS_ALIGNED, 1), (ARC_CTRL, ARC_CTRL_ENABLE, 1), (ARC_CTRL, ARC_CTRL_INSP_EN, 3)]
  { d with token := some .south }
def wInspInst : Instance := { wInst with inspect := true }
def wBuf : InspBuf := { addr := 0x1000, len := 1000, tag := 3 }
def wFirstLine : InspectionLine :=
  { good := true, full := false, noBlock := false, first := true, last := false, lineNo := 4, lineBytes := 100 }
def wInsp : Device :=
  { wPort with host := { wPort.host with bufs := [wBuf] }, tml := { insts := [(2, some wInspInst)] }, arc := { port := .south } }
def wImg (ended : Bool) : InspImg :=
  { buf := wBuf, port := .south, inst := 2, wsn := 7, start := 0, lineBytes := 4, lineNo := 4, group := 1, ended, data := [[1, 2, 3, 4]] }
def wImgTight : InspImg := { wImg true with buf := { wBuf with len := 67 } }
def wImgDev (ended : Bool) : Device := { wInsp with arc := { port := .south, imgs := [wImg ended] } }

theorem witness_InspectionImagesAreTaken :
    (wPort.flag (ENW_INSP_CTRL .south) ENW_INSP_CTRL_ENABLE = true ∧ wPort.domainIsOn (laneDomain .south) = true) ∧
    (wPort.inspAligned .south = true ∧ { wFirstLine with good := false }.good = false) ∧
    (wFirstLine.good = true ∧ wFirstLine.first = true ∧ wFirstLine.last = false ∧ wFirstLine.full = false ∧ wFirstLine.noBlock = false ∧
      wInsp.inspAligned .south = true ∧ wInsp.inspPreferred = .south ∧ wInsp.arc.imgs = [] ∧ wInsp.inspWindow = some (2, wInspInst) ∧
      wInsp.host.bufs = [wBuf] ∧ wInsp.arcOn = true ∧ wInsp.fld ARC_CTRL ARC_CTRL_INSP_EN = 3) ∧
    ((wImgDev false).arc.port = .south ∧ (wImgDev false).arc.imgs = [wImg false] ∧ (wImg false).ended = false ∧
      (wImgDev false).inspWindow = some (2, wInspInst) ∧ (wImgDev false).inspAligned .south = true ∧
      { wFirstLine with first := false, lineNo := 5 }.lineNo = (wImg false).lineNo + 1 ∧
      { wFirstLine with first := false, lineNo := 5, lineBytes := 4 }.lineBytes = (wImg false).lineBytes) ∧
    (wPort.inspRouted = .south ∧ wPort.inspWindow = none) ∧
    ((wImgDev true).arc.imgs = [wImg true] ∧ (wImg true).ended = true ∧ (wImgDev true).storeHeld = false ∧ (wImgDev true).evtOn = false ∧
      64 + (((wImgDev true).imageGroups (wImg true) []).flatten.length + 3) / 4 * 4 + 4 * (wImg true).groups ≤ (wImg true).buf.len ∧
      wImgTight.ended = true ∧
      wImgTight.buf.len < 64 + (((wImgDev true).imageGroups wImgTight []).flatten.length + 3) / 4 * 4 + 4 * wImgTight.groups) ∧
    ((wImgDev false).arc.imgs = [wImg false] ∧ (wImg false).port = .south) := by decide

/-! Witnesses: pixel synthesis. -/

def wPx (state ppf period ctrl : Nat) : Device :=
  dv [(PXS_STATUS .south 7, PXS_STATUS_STATE, state), (PXS_PPF .south 7, wholeWord, ppf), (PXS_PERIOD .south 7, wholeWord, period),
    (PXS_CTRL .south 7, PXS_CTRL_ENABLE, ctrl)]
def wImaging (d : Device) (q : Side) : Device :=
  { d with token := some q, tml := { insts := [(0, some { wInst with imaging := 0xFF })] } }
def wEdge : Device := { wPx pxAcquire 1 1 1 with synth := [(15, { edge := some 5, ivals := [1, 2] })] }

theorem witness_SynthesizersStartAndStop :
    ((wPx pxOff 0x2000000 1 0).flag (PXS_CTRL .south 7) PXS_CTRL_ENABLE = false ∧
      (wPx pxOff 0x2000000 1 0).flag (PXS_CTRL .south 7) PXS_CTRL_BUSY = false ∧ (wPx pxOff 0x2000000 1 0).pxConfigOk .south 7 = true ∧
      (wPx pxOff 0 1 0).flag (PXS_CTRL .south 7) PXS_CTRL_ENABLE = false ∧ (wPx pxOff 0 1 0).pxConfigOk .south 7 = false) ∧
    ((wPx pxLocked 1 1 1).flag (PXS_CTRL .south 7) PXS_CTRL_ENABLE = true ∧ (wPx pxLocked 1 1 1).images 7 = false ∧
      (wImaging (wPx pxLocked 1 1 1) .south).owner = .south ∧ (wImaging (wPx pxLocked 1 1 1) .south).images 7 = true ∧
      (wImaging (wPx pxLocked 1 1 1) .south).flag (PXS_CTRL .south 7) PXS_CTRL_ENABLE = true) ∧
    (wEdge.pxState .south 7 = pxAcquire ∧ (wEdge.synthS .south 7).edge = some 5 ∧ (wEdge.synthS .south 7).ivals.length < 15) ∧
    ((wPx pxFreq 0x2000000 27962027 1).pxState .south 7 = pxFreq ∧
      ((wPx pxFreq 0x2000000 27962027 1).enterFreq .south 7).rangeBad .south 7
        (((wPx pxFreq 0x2000000 27962027 1).enterFreq .south 7).offsetOf .south 7) = false) ∧
    ((wPx pxFreq 0x2000000 0 1).enterFreq .south 7).rangeBad .south 7 (((wPx pxFreq 0x2000000 0 1).enterFreq .south 7).offsetOf .south 7) =
      true ∧
    ((Device.reset.setFlag (PXS_FACET_CFG .south 7) PXS_FACET_CFG_INDEX_EN true).flag (PXS_FACET_CFG .south 7) PXS_FACET_CFG_INDEX_EN = true ∧
      (Device.reset.setFlag (PXS_FACET_CFG .south 7) PXS_FACET_CFG_INDEX_EN true).fld (PXS_FACET_CFG .south 7) PXS_FACET_CFG_INDEX_GPIO = 0) := by
  decide

def wLocked (miss : Nat) (tok : Side) (own : Option Nat) : Device :=
  let d := dv [(PXS_STATUS .south 7, PXS_STATUS_STATE, pxLocked), (PXS_PERIOD .south 7, wholeWord, 1000), (PXS_STATUS .south 7, PXS_STATUS_MISS, miss)]
  { d with now := 1000, token := some tok, synth := [(15, { own })] }

theorem witness_LinesStart :
    ((wLocked 0 .south none).pxState .south 7 = pxLocked ∧ (wLocked 0 .south none).flag (PXS_CTRL .south 7) PXS_CTRL_BUSY = false ∧
      (wLocked 0 .south none).print 7 = none ∧ (wLocked 0 .south none).images 7 = false ∧ ((wLocked 0 .south none).synthS .south 7).own = none ∧
      ((wLocked 0 .south none).tick 0).inWindow .south 7 1000 = true ∧ ((wLocked 0 .south none).tick 1015).inWindow .south 7 1015 = true ∧
      (wLocked 0 .south none).shadows .south = false ∧ (wLocked 0 .north none).shadows .south = true) ∧
    ((wLocked 3 .south none).fld (PXS_STATUS .south 7) PXS_STATUS_MISS < 4 ∧ 4 ≤ (wLocked 4 .south none).fld (PXS_STATUS .south 7) PXS_STATUS_MISS ∧
      (wLocked 4 .south none).owner = .south ∧ (wLocked 4 .south none).flight = [] ∧ (wLocked 4 .north none).owner ≠ .south) ∧
    ((wLocked 0 .south none).synthS .south 7).refreq = false ∧ ((wLocked 4 .north none).synthS .south 7).refreq = false ∧
    (Side.south = (wLocked 0 .north none).shadowSide ∧ (wLocked 0 .north none).shadows .south = true ∧ (wLocked 0 .north none).images 7 = false ∧
      ((wLocked 0 .north (some 990)).synthS .south 7).own = some 990 ∧ (wLocked 0 .north (some 990)).pxState .south 7 = pxLocked) := by decide

def wRef (locked state : Nat) (s : SynthS) : Device :=
  let d := dv [(PXS_REF_CFG .north, PXS_REF_CFG_V_LOCK, 100), (PXS_REF_CFG .north, PXS_REF_CFG_HOLD_MS, 0),
    (PXS_REF_STATUS .north, PXS_REF_STATUS_LOCKED, locked), (PXS_STATUS .north 0, PXS_STATUS_STATE, state), (QTR_CHK .north ckSynthLock, QTR_CHK_N, 2)]
  { d with ref := [(0, { since := some 0 })], synth := [(0, s)] }

theorem witness_ReferencesLockAndSynthesizersCoast :
    ((550 ≤ 550 ∧ 550 ≤ 900 ∧ 1600 < 1601) ∧ ¬(550 ≤ 901 ∧ 901 ≤ 900 ∧ 1600 < 1601) ∧ ¬(550 ≤ 700 ∧ 700 ≤ 900 ∧ 1600 < 1600) ∧
      sget (fun _ => []) ((wRef 0 0 {}).q .north).times ckSynthLock = [] ∧ 2 ≤ (wRef 0 0 {}).fld (QTR_CHK .north ckSynthLock) QTR_CHK_N) ∧
    ((wRef 0 0 {}).refLocked .north = false ∧ 99 < (wRef 0 0 {}).fld (PXS_REF_CFG .north) PXS_REF_CFG_V_LOCK ∧
      ((wRef 0 0 {}).refS .north).since = some 0 ∧ peakToPeak ((99 :: ((wRef 0 0 {}).refS .north).samples).take 100) < 100 ∧
      0 + (wRef 0 0 {}).fld (PXS_REF_CFG .north) PXS_REF_CFG_HOLD_MS * tuPerMs ≤ max (wRef 0 0 {}).now 0 ∧
      (wRef 0 0 {}).flag (PXS_REF_STATUS .north) PXS_REF_STATUS_FILTER_FAULT = false) ∧
    ((wRef 1 pxLocked {}).pxState .north 0 = pxLocked ∧ (wRef 1 pxSlew {}).pxState .north 0 = pxSlew ∧
      (wRef 1 pxAcquire {}).pxState .north 0 = pxAcquire ∧ (wRef 1 pxFreq {}).pxState .north 0 = pxFreq) ∧
    ((wImaging (wRef 1 pxCoast {}) .north).pxState .north 0 = pxCoast ∧ (wImaging (wRef 1 pxCoast {}) .north).images 0 = true ∧
      (wImaging (wRef 1 pxCoast {}) .north).owner = .north) ∧
    ((wRef 1 pxCoast { refreq := true }).refLocked .north = true ∧ ((wRef 1 pxCoast { refreq := true }).synthS .north 0).refreq = true ∧
      ((wRef 1 pxCoast {}).synthS .north 0).refreq = false ∧ (32 : Int) ≠ 0) := by decide

/-! Witnesses: the beam output and segments. -/

def wBmo (en busy m : Nat) : Device :=
  dv [(BMO_CTRL .north 3, BMO_CTRL_ENABLE, en), (BMO_CTRL .north 3, BMO_CTRL_BUSY, busy), (BMO_PASS .north, BMO_PASS_M, m)]
def wPrint (d : Device) : Device := { d with bmo := { prints := [(3, some { inst := 0, total := 1 })] } }
def wMeasure : Device :=
  { dv [(PXS_STATUS .north 3, PXS_STATUS_STATE, pxLocked), (ENW_STATUS .north 3, ENW_STATUS_STATE, enUp), (ENW_CTRL .north 3, ENW_CTRL_ENABLE, 1)] with
    st := .ready, token := some .north, now := 2 * tuPerMs, north := { role := .active, transmits := true } }
def wCooled : Device :=
  { dv [(BMO_TEMP .north 3, BMO_TEMP_WARN, 90), (BMO_TEMP .north 3, BMO_TEMP_HYST, 5), (BMO_STATUS .north 3, BMO_STATUS_HEAD_TEMP, 84)] with
    st := .held, token := some .north, bmo := { headSafe := 8 } }

theorem witness_StationsAreEnabledAndKept :
    ((wBmo 0 0 0).flag (BMO_CTRL .north 3) BMO_CTRL_ENABLE = false ∧ (wBmo 0 0 0).flag (BMO_CTRL .north 3) BMO_CTRL_BUSY = false ∧
      (wBmo 0 0 0).masksOk .north 3 = true ∧ (wBmo 0 0 3).masksOk .north 3 = false ∧
      (wBmo 0 0 3).flag (BMO_CTRL .north 3) BMO_CTRL_ENABLE = false ∧
      (wBmo 0 1 0).flag (BMO_CTRL .north 3) BMO_CTRL_BUSY = true ∧ (wBmo 0 1 0).flag (BMO_CTRL .north 3) BMO_CTRL_ENABLE = false) ∧
    ((wBmo 1 0 0).flag (BMO_CTRL .north 3) BMO_CTRL_ENABLE = true ∧ { wBmo 1 0 0 with token := some .south }.owner ≠ .north ∧
      (wBmo 1 0 0).owner = .north ∧ (wBmo 1 0 0).print 3 = none ∧ ((wPrint (wBmo 1 0 0)).print 3).isSome = true ∧
      (wPrint (wBmo 1 0 0)).flag (BMO_CTRL .north 3) BMO_CTRL_ENABLE = true) ∧
    (wMeasure.st = .ready ∧ wMeasure.print 3 = none ∧ wMeasure.isSafe 3 = false ∧ wMeasure.portServes wMeasure.owner 3 = true ∧ wMeasure.pxState wMeasure.owner 3 = pxLocked ∧
      sget (fun _ => 0) wMeasure.bmo.lastLine 3 + 2 * tuPerMs ≤ max wMeasure.now 0) ∧
    (Device.reset.bmo.mapNext = [] ∧
      Device.reset.mapOk .north 3 ((0 : Word) &&& 0xBFBFBFBF) (Device.reset.reg (BMO_MAP0 .north 3 + 4)) = true ∧
      Device.reset.mapOk .north 3 ((0x80808080 : Word) &&& 0xBFBFBFBF) (Device.reset.reg (BMO_MAP0 .north 3 + 4)) = false) ∧
    (natBit wCooled.bmo.headSafe 3 = true ∧ natBit wCooled.bmo.otherSafe 3 = false ∧ wCooled.st = .held ∧
      toSigned 8 (wCooled.fld (BMO_STATUS wCooled.owner 3) BMO_STATUS_HEAD_TEMP) <
        toSigned 8 (wCooled.fld (BMO_TEMP wCooled.owner 3) BMO_TEMP_WARN) - (wCooled.fld (BMO_TEMP wCooled.owner 3) BMO_TEMP_HYST : Int)) := by
  decide

/-! Witnesses: segments and Enwell ports. -/

def wSeg : Device :=
  let d := dv [(ENW_STATUS .north 3, ENW_STATUS_STATE, enUp), (QTR_CHK .north ckLateSeg, QTR_CHK_N, 2),
    (BMO_CTRL .north 3, BMO_CTRL_LATE_DEFECT, 0), (ENW_CTRL .north 3, ENW_CTRL_ENABLE, 1)]
  { d with token := some .north, north := { role := .active, transmits := true }, tml := { insts := [(0, some wInst)] },
           dlv := { pages := [wPage] }, bmo := { prints := [(3, some { inst := 0, total := 1 })], lines := [(3, { image := true, dots := 256 })] } }
def wAll : List Nat := List.replicate 8 1024
def wUe : Device := { wSeg with bmo := { wSeg.bmo with lines := [(3, { image := true, dots := 256, ue := 1 })] } }
/-- The line of the witness with its decoders as far as `written`. -/
def wSegLine (d : Device) (written : List Nat) : LineS := (d.lineS .north 3).decodeTo written

theorem witness_SegmentsAreSentOrBlank :
    ((Device.reset.lineS .north 3).image = false ∧ (wSegLine wSeg wAll).image = true ∧ chunksOf (wSegLine wSeg wAll).dots ≤ 1) ∧
    (0 < chunksOf (wSegLine wSeg wAll).dots ∧ 0 = (wSegLine wSeg wAll).chunk ∧ wSeg.sends .north 3 = true ∧ (wSegLine wSeg wAll).group = 0 ∧
      wSeg.chunkStart .north 3 0 ≤ max wSeg.now 0 ∧ ((wSeg.tick 0).decodedTo .north 3 wAll).readyGroups .north 3 0 ≠ []) ∧
    (wSeg.chunkDeadline .north 3 0 ≤ max wSeg.now 0 ∧ (wSegLine wSeg wAll).dead = 0 ∧ (wSegLine wSeg wAll).missing 0 = 0 ∧
      (wSegLine wSeg wAll).blank = 0 ∧ (wSegLine wSeg wAll).ue = 0) ∧
    ((wSegLine wSeg []).missing 0 ≠ 0 ∧ (wSegLine wSeg []).cut = [] ∧ (wSegLine wSeg []).ue = 0 ∧ (wSegLine wSeg []).dead = 0 ∧
      wSeg.inOverlap = false ∧ (wSegLine wSeg []).late = false ∧ wSeg.flag (BMO_CTRL .north 3) BMO_CTRL_LATE_DEFECT = false ∧
      sget (fun _ => []) (wSeg.q .north).times ckLateSeg = [] ∧ 2 ≤ wSeg.fld (QTR_CHK .north ckLateSeg) QTR_CHK_N) ∧
    ((wSegLine wUe wAll).image = true ∧ 0 = (wSegLine wUe wAll).chunk ∧ wUe.sends .north 3 = true ∧ (wSegLine wUe wAll).dead = 0 ∧
      (wSegLine wUe wAll).missing 0 &&& (255 - (wSegLine wUe wAll).ue % 256) = 0 ∧ (wSegLine wUe wAll).cut = [] ∧
      (wSegLine wUe wAll).ue ≠ 0 ∧ wUe.inOverlap = false ∧ wUe.chunkDeadline .north 3 0 ≤ max wUe.now 0) ∧
    (Device.reset.print 3 = none ∧ (wSeg.print 3).isSome = true ∧ wSeg.ledgerAction lbDecodeErr ≠ 2 ∧
      ({ wSeg with bmo := { wSeg.bmo with lines := [(3, { late := true })] } }.lineS .north 3).late = true) := by decide

def wEn (state en : Nat) : Device :=
  let d := dv [(ENW_STATUS .south 0, ENW_STATUS_STATE, state), (ENW_CTRL .south 0, ENW_CTRL_ENABLE, en), (QTR_CHK .south ckTlmLoop, QTR_CHK_N, 2),
    (BMO_TEMP .south 0, BMO_TEMP_LIMIT, 60)]
  { d with port := [(8, { tableOk := true, token := 0x1234 })], now := 16 * tuPerUs }
def wFrame (loop temp : Nat) (locks : Byte) : List Byte :=
  withCrc ([0x11, 1, 0, 0] ++ leBytes 2 loop ++ leBytes 2 temp ++ leBytes 4 0 ++ leBytes 2 0 ++ leBytes 6 0 ++ [locks, 0] ++ List.replicate 34 0) ++
    leBytes 4 0
def wEnPrint (state : Nat) : Device :=
  { wEn state 1 with south := { transmits := true }, bmo := { prints := [(0, some { inst := 0, total := 1 })] } }

theorem witness_PortsComeUpAndGoDown :
    ((wEn enOff 0).flag (ENW_CTRL .south 0) ENW_CTRL_ENABLE = false ∧ (wEn enOff 0).flag (ENW_CTRL .south 0) ENW_CTRL_BUSY = false) ∧
    ((wEn enUp 1).flag (ENW_CTRL .south 0) ENW_CTRL_ENABLE = true ∧ (wEn enUp 1).sends .south 0 = false ∧
      (wEnPrint enUp).sends .south 0 = true ∧ (wEn enUp 1).enState .south 0 ≠ enOff ∧ (wEn enUp 1).print 0 = none ∧
      ((wEnPrint enUp).print 0).isSome = true ∧ (wEn enFailed 1).enState .south 0 = enFailed) ∧
    ((wEn enTraining 1).enState .south 0 = enTraining ∧ (wEn enConfig 1).enState .south 0 = enConfig) ∧
    ((wEn enUp 1).enState .south 0 = enUp ∧ sget (fun _ => []) ((wEn enUp 1).q .south).times ckTlmLoop = [] ∧
      2 ≤ (wEn enUp 1).fld (QTR_CHK .south ckTlmLoop) QTR_CHK_N) ∧
    ((wFrame 0 0 15).length = 64 ∧ bytesAt (wFrame 0 0 15) 0 1 = 0x11 ∧ crcGood ((wFrame 0 0 15).set 5 1) 56 = false ∧
      ((wFrame 0 0 15).set 5 1).length = 64 ∧ crcGood (wFrame 0 0 15) 56 = true ∧ (wEn enTraining 1).token ≠ some .south ∧
      bytesAt (wFrame 0 0 15) 20 1 % 16 = 15 ∧ bytesAt (wFrame 0 0 15) 1 1 = 1) ∧
    (((wEn enConfig 1).portS .south 0).tableOk = true ∧
      ((wEn enConfig 1).portS .south 0).tokenAt + 16 * tuPerUs ≤ max (wEn enConfig 1).now 0 ∧
      bytesAt (wFrame 0x1234 0 15) 4 2 = ((wEn enConfig 1).portS .south 0).token ∧ crcGood (wFrame 0x1234 0 15) 56 = true) ∧
    (bytesAt (wFrame 0 0 7) 20 1 % 16 ≠ 15 ∧ crcGood (wFrame 0 0 7) 56 = true) ∧
    ({ wEn enTraining 1 with token := some .south }.token = some .south ∧ natBit (bytesAt (wFrame 0 400 15) 21 1) 5 = false ∧
      bytesAt (wFrame 0 400 15) 12 2 = (wEn enTraining 1).fld (ENW_TLM_CNT1 .south 0) ENW_TLM_CNT1_HOLES ∧
      crcGood (wFrame 0 400 15) 56 = true ∧
      toSigned 16 (bytesAt (wFrame 0 400 15) 6 2) / 8 < toSigned 8 ((wEn enTraining 1).fld (BMO_TEMP .south 0) BMO_TEMP_LIMIT)) := by decide

/-! Witnesses: Quarters. -/

def wQ (n s : Role) (tok : Option Side) : Device :=
  { dv [(QTR_CHK .south ckMirror, QTR_CHK_N, 2), (QTR_TEST .south, QTR_TEST_RETRIES_LEFT, 3), (QTR_CFG .north, QTR_CFG_HANDOVER_H, 1)] with
    token := tok, north := { role := n }, south := { role := s } }
def wTransfer (waiting : Nat) (overlap : Bool) : Device :=
  { wQ .yielded .active (some .south) with transfer := some { at_ := 0, old := .north, kind := 1, waiting, overlap } }

theorem witness_TransfersComplete :
    ((wQ .active .standby (some .north)).token ≠ none ∧ (wQ .active .standby (some .north)).follows (wQ .active .standby (some .north)).owner.other = true ∧
      (wQ .active .standby (some .north)).checkFresh .south ckMirror) ∧
    ((wTransfer 0x80 true).transfer = some { at_ := 0, old := .north, kind := 1, waiting := 0x80, overlap := true } ∧
      natBit 0x80 7 = true ∧ (0x80 : Nat) ≠ 0) ∧
    (wTransfer 0 true).transfer = some { at_ := 0, old := .north, kind := 1, waiting := 0, overlap := true } := by
  unfold Device.checkFresh; decide

def wReturn (pref : Nat) : Device :=
  let d := (wQ .active .returning (some .north)).setFld (QTR_CFG .south) QTR_CFG_PREFERRED_SOUTH pref
  { d.setFld (QTR_CFG .south) QTR_CFG_RETURN_EN 1 with south := { role := .returning, mirrorAt := some 0 }, st := .printing }
def wHandover (st : DevState) : Device := { wQ .active .standby (some .north) with st, now := 3600000 * tuPerMs }

theorem witness_QuartersAreTestedAndReturn :
    ((wQ .active .yielded (some .north)).role .south = .yielded ∧ (wQ .active .yielded (some .north)).token ≠ none ∧
      ((wQ .active .yielded (some .north)).q .south).transmits = false ∧ ((wQ .active .yielded (some .north)).q .south).stuck = false ∧
      (wQ .active .yielded (some .north)).transfer = none ∧ (wQ .active .yielded (some .north)).fld (QTR_TEST .south) QTR_TEST_RETRIES_LEFT ≠ 0) ∧
    (wQ .active .testing (some .north)).role .south = .testing ∧
    ((wReturn 0).role .south = .returning ∧ (wReturn 0).returnDone .south = true ∧ (wReturn 0).preferred .south = false ∧
      (wReturn 1).returnDone .south = true ∧ (wReturn 1).preferred .south = true ∧ (wReturn 1).flag (QTR_CFG .south) QTR_CFG_RETURN_EN = true ∧
      (wReturn 1).st = .printing) ∧
    ((wHandover .printing).token = some .north ∧ (wHandover .printing).fld (QTR_CFG .north) QTR_CFG_HANDOVER_H ≠ 0 ∧
      (wHandover .printing).fld (QTR_CFG .north) QTR_CFG_HANDOVER_H * 3600000 * tuPerMs ≤
        max (wHandover .printing).now 0 - (wHandover .printing).tokenAt ∧
      (wHandover .printing).role (Side.other .north) = .standby ∧ (wHandover .printing).planned = none ∧ (wHandover .printing).st = .printing ∧
      (wHandover .held).st = .held ∧ (wHandover .held).openInsts = [] ∧ (wHandover .held).transfer = none) := by decide

/-! Witnesses: the Timeline. -/

def wAct (action arg value value2 : Nat) : List Byte :=
  leBytes 1 action ++ leBytes 1 0 ++ leBytes 2 arg ++ leBytes 4 0 ++ leBytes 4 value ++ leBytes 4 value2
/-- North holds the token and its Timeline runs; instance 15 stands at the given entry of template 0. -/
def wTl (entry : List Byte) (x : Instance) : Device :=
  let d := dv [(TML_CTRL .north, TML_CTRL_ENABLE, 1), (TML_CTRL .south, TML_CTRL_ENABLE, 1), (BMO_CTRL .north 7, BMO_CTRL_ENABLE, 1),
    (PXS_STATUS .north 7, PXS_STATUS_STATE, pxLocked), (ENW_STATUS .north 7, ENW_STATUS_STATE, enUp), (CNS_CFG, CNS_CFG_AUTH_REQ, 0)]
  { (d.setEntry 0x01 1 0 [0, 0, 1, 0, 1, 0, 0, 0]).setEntry 0x01 0 0 entry with
    token := some .north, north := { role := .active, transmits := true }, south := { role := .yielded }, st := .printing,
    tml := { insts := [(15, some x)] } }
def wSheet : Instance := { wInst with stations := 0x80, cursor := 0 }
def wSeen : Instance := { wInst with stations := 0x80, detected := true }
def wDivert : Instance := { wSheet with divert := true, cause := 2 }
def wEnt (entry : List Byte) : TmlEntry := parseEntry entry
def wPlanned (d : Device) : Device := { d with planned := some { newQ := .south, handover := true }, south := { role := .standby } }

theorem witness_SheetEntriesFire :
    (wTl (wAct taEnd 0 0 0) wSheet).canFire 0 15 taEnd wSheet 0 (wEnt (wAct taEnd 0 0 0)) ∧
    ((wTl (wAct taRelease 6 0 0) wSheet).canFire 0 15 taRelease wSheet 0 (wEnt (wAct taRelease 6 0 0)) ∧ wSheet.clearout = false ∧
      natBit wSheet.stations 6 = false) ∧
    ((wTl (wAct taRelease 7 0 0) wSheet).canFire 0 15 taRelease wSheet 0 (wEnt (wAct taRelease 7 0 0)) ∧ (wEnt (wAct taRelease 7 0 0)).arg = 7 ∧
      natBit wSheet.stations 7 = true ∧ (wEnt (wAct taRelease 7 0 0)).side = 0 ∧ wSheet.cause = 0 ∧
      (wTl (wAct taRelease 7 0 0) wSheet).web = false ∧ (wTl (wAct taRelease 7 0 0) wSheet).releasable 7 = true ∧
      (wTl (wAct taRelease 7 0 0) wSheet).print 7 = none ∧ (wTl (wAct taRelease 7 0 0) wSheet).host.bound = [] ∧
      (wTl (wAct taRelease 7 0 0) wSheet).nat (PXS_PERIOD (wTl (wAct taRelease 7 0 0) wSheet).owner 7) ≤
        2 * (max (wTl (wAct taRelease 7 0 0) wSheet).now 0 - ((wTl (wAct taRelease 7 0 0) wSheet).synthS (wTl (wAct taRelease 7 0 0) wSheet).owner 7).lastStart)) ∧
    ((wTl (wAct taGap 7 0 0) wSheet).canFire 0 15 taGap wSheet 0 (wEnt (wAct taGap 7 0 0)) ∧ (wTl (wAct taGap 7 0 0) wSheet).planned = none ∧ wSheet.clearout = false) ∧
    ((wPlanned (wTl (wAct taGap 7 0 0) wSheet)).canFire 0 15 taGap wSheet 0 (wEnt (wAct taGap 7 0 0)) ∧
      (wPlanned (wTl (wAct taGap 7 0 0) wSheet)).firstStation = some (wEnt (wAct taGap 7 0 0)).arg ∧
      (wPlanned (wTl (wAct taGap 7 0 0) wSheet)).st = .printing ∧ (wPlanned (wTl (wAct taGap 7 0 0) wSheet)).canTake .south = true ∧
      (wPlanned (wTl (wAct taGap 7 0 0) wSheet)).openInsts = [(15, wSheet)] ∧ wSheet.divert = false ∧
      (wPlanned (wTl (wAct taGap 7 0 0) wSheet)).token = some (Side.other .south) ∧
      (wPlanned (wTl (wAct taGap 7 0 0) wSheet)).transfer = none) ∧
    ((wTl (wAct taGate 63 1 0) wSheet).canFire 0 15 taGate wSheet 0 (wEnt (wAct taGate 63 1 0)) ∧
      (wTl (wAct taGate 63 1 0) wSheet).planned = none ∧ wSheet.divert = false ∧ (wTl (wAct taGate 63 1 0) wSheet).drivesPin 0 63 (wSheet.wsn + 1)) ∧
    ((wTl (wAct taGate 63 1 0) wDivert).canFire 0 15 taGate wDivert 0 (wEnt (wAct taGate 63 1 0)) ∧ wDivert.clearout = false ∧
      (wTl (wAct taGate 63 1 0) wDivert).planned = none ∧ wDivert.divert = true ∧ (wTl (wAct taGate 63 1 0) wDivert).drivesPin 0 63 (wDivert.wsn + 1)) ∧
    (wTl (wAct taAcceptOpen 0 0 0) wSheet).canFire 0 15 taAcceptOpen wSheet 0 (wEnt (wAct taAcceptOpen 0 0 0)) ∧
    ((wTl (wAct taAcceptClose 0 0 0) wSeen).canFire 0 15 taAcceptClose wSeen 0
        (wEnt (wAct taAcceptClose 0 0 0)) ∧ wSeen.onItsWay = false) ∧
    ((wTl (wAct taAcceptClose 0 0 0) wSheet).canFire 0 15 taAcceptClose wSheet 0 (wEnt (wAct taAcceptClose 0 0 0)) ∧ wSheet.onItsWay = true ∧
      (wTl (wAct taAcceptClose 0 0 0) wSheet).st = .printing) ∧
    ((wTl (wAct taCommit 0 0 0) wSheet).canFire 0 15 taCommit wSheet 0 (wEnt (wAct taCommit 0 0 0)) ∧
      (wTl (wAct taCommit 0 0 0) wSheet).planned = none ∧ wSheet.onItsWay = true ∧ wSheet.divert = false ∧
      (wTl (wAct taCommit 0 0 0) wDivert).canFire 0 15 taCommit wDivert 0 (wEnt (wAct taCommit 0 0 0))) ∧
    ((wTl (wAct taWasteMark 5 9 0) wDivert).canFire 0 15 taWasteMark wDivert 0 (wEnt (wAct taWasteMark 5 9 0)) ∧
      (wTl (wAct taWasteMark 5 9 0) wDivert).planned = none ∧ (wTl (wAct taWasteMark 5 9 0) wDivert).unranked 0 5 (wDivert.wsn + 1)) := by
  unfold Device.canFire Device.drivesPin Device.unranked; and_intros <;> decide

def wAxisDev : Device :=
  let d := wTl (wAct taAxisMove 31 0 5) wSheet
  let d := d.setFld (AXS_ACTL .north 31) AXS_ACTL_ENABLE 1
  let d := d.setFld (AXS_ACTL .south 31) AXS_ACTL_ENABLE 1
  let d := d.setFld (AXS_BUS_STATUS .north) ⟨1, 0⟩ 2
  { d with axs := { axis := [(31, { bound := true }), (63, { bound := true })] } }
def wPulse : Pulse := { gpio := 63, level := true, due := 5 }
def wPulses : Device := { Device.reset with st := .held, now := 400, tml := { pulses := [wPulse] } }

theorem witness_EngineEntriesFire :
    wSheet.clearout = false ∧
    (wTl (wAct taInspectOpen 0 0 0) wSheet).canFire 0 15 taInspectOpen wSheet 0 (wEnt (wAct taInspectOpen 0 0 0)) ∧
    (wTl (wAct taInspectClose 0 0 0) wSheet).canFire 0 15 taInspectClose wSheet 0 (wEnt (wAct taInspectClose 0 0 0)) ∧
    ((wTl (wAct taGpio 5 1 0) wSheet).drivesPin 0 5 (wSheet.wsn + 1) ∧ (wTl (wAct taGpio 5 1 0) wSheet).canFire 0 15 taGpio wSheet 0 (wEnt (wAct taGpio 5 1 0)) ∧
      (wTl (wAct taPulse 5 1 9) wSheet).drivesPin 0 5 (wSheet.wsn + 1) ∧
      (wTl (wAct taPulse 5 1 9) wSheet).canFire 0 15 taPulse wSheet 0 (wEnt (wAct taPulse 5 1 9))) ∧
    ((wTl (wAct taSetpoint 511 7 0) wSheet).canFire 0 15 taSetpoint wSheet 0 (wEnt (wAct taSetpoint 511 7 0)) ∧
      (wTl (wAct taSetpoint 511 7 0) wSheet).unranked 0 (64 + 511) (wSheet.wsn + 1) ∧ (wTl (wAct taSetpoint 511 7 0) wSheet).tmlRuns .north = true) ∧
    (wAxisDev.canFire 0 15 taAxisMove wSheet 0 (wEnt (wAct taAxisMove 31 0 5)) ∧ (wEnt (wAct taAxisMove 31 0 5)).arg < 32 ∧
      wAxisDev.unranked 0 (1024 + 31) (wSheet.wsn + 1) ∧ wAxisDev.tmlRuns .north = true ∧
      wAxisDev.moveRefused .north 31 (toSigned 32 5) = false ∧ wAxisDev.moveRefused .south 31 (toSigned 32 5) = false) ∧
    (wPulses.tml.pulses = [wPulse] ∧ wPulse.gpio = (63 : Fin 64).val ∧ (wPulses.tick 0).pulseOver wPulse = true ∧
      wPulses.drivesPin 0 63 wPulse.rank) := by
  unfold Device.canFire Device.drivesPin Device.unranked; and_intros <;> decide

def wPitch (pages : List Page) : Device :=
  { wTl (wAct taEnd 0 0 0) wSheet with st := .ready, tml := { pitchLen := 100, pitchAt := -100 }, dlv := { pages } }
def wDuePage : Page := { wPage with first := { wSide with stations := 0x80 } }
def wClear : Device := { wHeld with tables := (Device.reset.setEntry 0x01 1 31 [0, 0, 1, 0, 3, 0, 0, 0]).tables }

theorem witness_TimelineRuns :
    ((wPitch [wDuePage]).tmlOn = true ∧ (wPitch [wDuePage]).pitchReached (wPitch [wDuePage]).owner = true ∧ (wPitch []).tmlRuns .north = true ∧ (wPitch [wDuePage]).st = .ready ∧
      (wPitch [wDuePage]).duePage = some wDuePage ∧ (wPitch [wDuePage]).freeInst = some 0 ∧ (wPitch [wDuePage]).mayTake wDuePage = true ∧
      ((wPitch [wDuePage]).enforce wDuePage.first.speed).2 = true ∧ (wPitch []).duePage = none) ∧
    (wClear.st = .held ∧ wClear.clearingOut = false ∧ wClear.clearoutTemplate ≠ none) ∧ (wPitch []).st ≠ .held ∧
    ((wTl (wAct taEnd 0 0 0) wSheet).flag (TML_CTRL .north) TML_CTRL_ENABLE = true ∧
      ((wTl (wAct taEnd 0 0 0) wSheet).openInsts.any (fun x => ((wTl (wAct taEnd 0 0 0) wSheet).cursorEntry x.2).any
        (fun y => ((wTl (wAct taEnd 0 0 0) wSheet).tick 0).entryDue .north x.2 y.2))) = true ∧
      (((wPitch []).st == .ready || (wPitch []).st == .printing || (wPitch []).st == .draining) && (wPitch []).pitchReached .north) = true ∧
      ((wTl (wAct taEnd 0 0 0) wSheet).setFld (QTR_CHK .north ckTimelineWd) QTR_CHK_N 2).checkFresh .north ckTimelineWd ∧
      (wTl (wAct taEnd 0 0 0) wSheet).owner ≠ .south ∧ (wTl (wAct taEnd 0 0 0) wSheet).flag (TML_CTRL .south) TML_CTRL_ENABLE = true ∧
      (wPitch []).owner = .north ∧ (wPitch []).flight = []) := by
  unfold Device.checkFresh; decide

/-! Witnesses: Supervisor and Regulator. -/

def wRule (input op action persist : Nat) : List Byte :=
  leBytes 2 input ++ leBytes 1 op ++ [1] ++ leBytes 4 0 ++ List.replicate 8 0 ++ leBytes 1 action ++ leBytes 1 persist ++ List.replicate 6 0
def wSup : Device :=
  { (dv [(SUP_CTRL .north, SUP_CTRL_ENABLE, 1)]).setEntry 0x02 0 255 (wRule 0x6000 0 4 2) with
    token := some .north, north := { role := .active }, st := .printing, sup := [(255, { held := 1 })] }
def wSwept (gpio : BitVec 64) (took : Nat) : Device :=
  ((wSup.tick 0).modTml (fun v => { v with gpioIn := gpio.toNat })).maxFld (SUP_STATUS .north) SUP_STATUS_SWEEP_US_MAX (min 65535 took)

theorem witness_SupervisorSweeps :
    ((wQ .active .yielded (some .north)).role .south = .yielded ∧ (wQ .active .testing (some .north)).role .south = .testing ∧
      (wQ .active .standby (some .north)).role .south ≠ .yielded ∧ (wQ .active .standby (some .north)).role .south ≠ .testing ∧
      (wQ .active .standby (some .north)).supRules .south = []) ∧
    (wSup.role .north ≠ .yielded ∧ wSup.role .north ≠ .testing ∧ wSup.supRules .north = [255] ∧ wSup.token = some .north ∧
      wSup.st = .printing ∧ (parseRule (wSup.entry 0x02 0 255)).action = 4 ∧ (sget (fun _ => {}) wSup.sup 255).spent = false ∧
      (parseRule (wSup.entry 0x02 0 255)).persist ≤ min 255 ((sget (fun _ => {}) wSup.sup 255).held + 1) ∧
      (parseRule (wSup.entry 0x02 0 255)).holds ((wSwept 1 3).supInput .north 0x6000) ((wSwept 1 3).supInput .north 0)
        (sget (fun _ => {}) wSup.sup 255) = true) := by decide

def wSlotDev (en fb : Nat) (x : SlotS) : Device :=
  { (dv [(REG_CTRL .south, REG_CTRL_ENABLE, 1), (REG_SLOT_CTRL .south 511, REG_SLOT_CTRL_ENABLE, en),
      (REG_SLOT_STATUS .south 511, REG_SLOT_STATUS_IN_FALLBACK, fb)]).setEntry 0x03 0 511 (List.replicate 152 0) with rgl := { slots := [(1023, x)] } }

theorem witness_RegulatorSlotsAreDriven :
    ((wSlotDev 0 0 {}).slotRuns .south 511 = false ∧ (wSlotDev 1 0 {}).slotRuns .south 511 = true ∧
      ((wSlotDev 1 0 {}).slotS .south 511).queue.length < 8 ∧ 8 ≤ ((wSlotDev 1 0 { queue := List.replicate 8 (0, 0, 0) }).slotS .south 511).queue.length ∧
      (wSlotDev 1 0 { queue := List.replicate 8 (0, 0, 0) }).slotRuns .south 511 = true ∧ (wSlotDev 1 0 {}).ledgerAction lbRegQueueOvf ≠ 2) ∧
    ((wSlotDev 1 0 {}).inFallback .south 511 = false ∧ (wSlotDev 1 0 {}).ledgerAction lbRegFallback ≠ 2 ∧
      (wSlotDev 1 1 {}).inFallback .south 511 = true ∧ (wSlotDev 1 1 {}).openNow .south 511 = false ∧
      ((wSlotDev 1 0 {}).slotS .south 511).wind = 0) := by decide

/-! Witnesses: motors and buses. -/

/-- An entry of a motor: its kind, its bus, its retries and its encoder. -/
def wMotor (kind bus retries enc : Nat) : List Byte :=
  leBytes 1 kind ++ leBytes 1 1 ++ leBytes 2 1000 ++ leBytes 2 300 ++ List.replicate 24 0 ++ [1, 0] ++ leBytes 2 100 ++ [0, 0, 0] ++
    leBytes 1 retries ++ leBytes 1 bus ++ leBytes 1 enc ++ List.replicate 24 0
def wPoly (state en : Nat) (v : PolyS) : Device :=
  { (dv [(MOT_POLY_STATUS .north 0, MOT_POLY_STATUS_STATE, state), (MOT_POLY_CTRL .north 0, MOT_POLY_CTRL_ENABLE, en),
      (MOT_CTRL .north, MOT_CTRL_ENABLE, 1)]).setEntry 0x04 0 0 (wMotor 1 0 1 0) with st := .held, mot := { poly := [(0, v)] } }

theorem witness_PolygonsGoThroughTheirStates :
    ((wPoly poFault 0 {}).flag (MOT_POLY_CTRL .north 0) MOT_POLY_CTRL_ENABLE = false ∧
      (wPoly poFault 0 {}).flag (MOT_POLY_CTRL .north 0) MOT_POLY_CTRL_BUSY = false ∧ mKind ((wPoly poFault 0 {}).motorEntry 0) = 1 ∧
      (wPoly poFault 0 {}).motOn .north = true ∧ (wPoly poFault 0 {}).poState .north 0 = poFault ∧ (wPoly poOff 0 {}).poState .north 0 = poOff) ∧
    ((wPoly poOff 1 {}).flag (MOT_POLY_CTRL .north 0) MOT_POLY_CTRL_ENABLE = true ∧ (wPoly poOff 1 {}).poState .north 0 = poOff ∧
      { wPoly poRun 1 {} with token := some .south }.owner ≠ .north ∧ (wPoly poRun 1 {}).poState .north 0 = poRun) ∧
    ((wPoly poSense 1 {}).poState .north 0 = poSense ∧ ((wPoly poSense 1 {}).polyS .north 0).retrying = false ∧
      ((wPoly poSense 1 {}).polyS .north 0).coasting = false ∧ ((wPoly poSense 1 {}).polyS .north 0).cross.length < 2 ∧
      inOrder 1 [(1000000, 2), (500000, 1), (0, 0)] = true ∧
      ((wPoly poSense 1 { cross := [(500000, 1), (0, 0)] }).polyS .north 0).cross = [(500000, 1), (0, 0)] ∧
      (mCatch ((wPoly poSense 1 {}).motorEntry 0) : Int) * 4096 ≤ crossSpeed (mPairs ((wPoly poSense 1 {}).motorEntry 0)) 2 (1000000 - 0) ∧
      ((wPoly poSense 1 { retrying := true }).polyS .north 0).retrying = true) ∧
    ((wPoly poBrake 1 {}).poState .north 0 = poBrake ∧ ((wPoly poBrake 1 {}).polyS .north 0).winding = false ∧
      ((wPoly poBrake 1 {}).polyS .north 0).failed = false ∧ ((wPoly poBrake 0 { winding := true }).polyS .north 0).winding = true ∧
      (wPoly poBrake 0 { winding := true }).flag (MOT_POLY_CTRL .north 0) MOT_POLY_CTRL_ENABLE = false ∧
      (wPoly poBrake 1 {}).ledgerAction lbPolyBrakeFail ≠ 2) ∧
    ((wPoly poAlign 1 {}).poState .north 0 = poAlign ∧ (wPoly poRamp 1 {}).poState .north 0 = poRamp ∧
      ((wPoly poRamp 1 {}).polyS .north 0).fails + 1 ≤ mRetries ((wPoly poRamp 1 {}).motorEntry 0) ∧
      mRetries ((wPoly poRamp 1 {}).motorEntry 0) < ((wPoly poRamp 1 { fails := 1 }).polyS .north 0).fails + 1 ∧
      (wPoly poRamp 1 {}).ledgerAction lbPolyStartFail ≠ 2) ∧
    ((wPoly poResync 1 {}).poState .north 0 = poResync ∧ ((wPoly poResync 1 {}).polyS .north 0).coasting = false ∧
      ((wPoly poResync 1 { cross := (List.range 6).reverse.map (fun k => (k, k % 3)) }).polyS .north 0).cross.length = 6 ∧
      inOrder 1 ((6, 0) :: (List.range 6).reverse.map (fun k => (k, k % 3))) = true ∧ (wPoly poResync 1 {}).owner = .north ∧
      { wPoly poResync 1 {} with token := some .south }.owner ≠ .north) := by
  and_intros <;> decide

def wMotorSample : MotorSample := { iErr := 0, speed := 4096, reverse := false, onU := 0, onV := 0, onW := 0, id := 0, iq := 0 }
def wPmsm (run en : Nat) : Device :=
  (dv [(MOT_PMSM_STATUS .north 0, MOT_PMSM_STATUS_RUNNING, run), (MOT_PMSM_CTRL .north 0, MOT_PMSM_CTRL_ENABLE, en),
    (MOT_CTRL .north, MOT_CTRL_ENABLE, 1)]).setEntry 0x04 0 8 (wMotor 2 1 0 7) |>.withSt .held

theorem witness_DrivesRunAtPeriods :
    (mKind ((wPoly poRun 1 {}).motorEntry 0) = 1 ∧ (wPoly poRun 1 {}).poState .north 0 = poRun ∧ ((wPoly poRun 1 {}).polyS .north 0).winding = false ∧
      ((wPoly poRun 1 {}).polyS .north 0).handedOver = true ∧
      mConfTh ((wPoly poRun 1 {}).motorEntry 0) ≤
        nextConf ((wPoly poRun 1 {}).fld (MOT_POLY_STATUS .north 0) MOT_POLY_STATUS_CONF) wMotorSample.iErr (mIMax ((wPoly poRun 1 {}).motorEntry 0))) ∧
    (Device.reset.st = .booting ∧ (wPoly poRun 1 {}).st ≠ .booting ∧ (wPmsm 1 1).st ≠ .booting ∧ (wPoly poRun 1 {}).pwmOwner 0 = .north ∧
      natBit (wPoly poRun 1 {}).clk.tbOther Side.north.code = false ∧ (wPoly poRun 1 {}).busTripped .north ((wPoly poRun 1 {}).motorEntry 0) = false) ∧
    ((wPmsm 1 1).flag (MOT_PMSM_STATUS .north 0) MOT_PMSM_STATUS_RUNNING = true ∧ ((wPmsm 1 1).pmsmS .north 0).winding = false ∧
      (wPmsm 1 1).flag (MOT_PMSM_CTRL .north 0) MOT_PMSM_CTRL_ENABLE = true) ∧
    ((wPmsm 0 0).flag (MOT_PMSM_CTRL .north 0) MOT_PMSM_CTRL_ENABLE = false ∧ (wPmsm 0 0).flag (MOT_PMSM_CTRL .north 0) MOT_PMSM_CTRL_BUSY = false ∧
      mKind ((wPmsm 0 0).motorEntry 8) = 2 ∧ (wPmsm 0 0).motOn .north = true) ∧
    (∀ n < 4, mKind ((wPmsm 1 1).motorEntry (8 + n)) = 2 → mEncoder ((wPmsm 1 1).motorEntry (8 + n)) = 7 →
      (wPmsm 1 1).flag (MOT_PMSM_STATUS .north n) MOT_PMSM_STATUS_INDEXED = false) := by decide

def wBus (rises : Nat) : Device :=
  { dv [(MOT_BUS_THR .north 1, MOT_BUS_THR_CHOP_ON, 500), (MOT_BUS_THR .north 1, MOT_BUS_THR_CHOP_OFF, 400)] with
    st := .held, mot := { bus := [(1, { avg := 10, rises, onAll := true })] } }
def wTripped : Device := (wPoly poRun 1 {}).setFld (MOT_BUS_STATUS .north) MOT_BUS_STATUS_HARD_TRIP 1

theorem witness_BusesAreLimited :
    ((wBus 0).fld (MOT_BUS_THR .north 1) MOT_BUS_THR_CHOP_ON < 501 ∧ 399 ≤ (wBus 0).fld (MOT_BUS_THR .north 1) MOT_BUS_THR_CHOP_ON ∧
      399 < (wBus 0).fld (MOT_BUS_THR .north 1) MOT_BUS_THR_CHOP_OFF) ∧
    (((wBus 8).busS 1).rises < 9 ∧ ((wBus 9).busS 1).rises = 9 ∧ ((wBus 9).busS 1).onAll = true ∧ ((wBus 9).busS 1).avg < 11 ∧
      natBit ((wBus 9).fld (MOT_BUS_STATUS .north) MOT_BUS_STATUS_CHOP_FAULT) 1 = false ∧ (wBus 9).ledgerAction lbChopFault ≠ 2) ∧
    ((wBus 0).flight = [] ∧ (wBus 0).ledgerAction lbBusHard ≠ 2 ∧ (wBus 0).owner = .north ∧ (wBus 0).st = .held) ∧
    (natBit (wTripped.fld (MOT_BUS_STATUS wTripped.owner) MOT_BUS_STATUS_HARD_TRIP) 0 = true ∧ wTripped.polyDrives .north 0 0 = true ∧
      (wTripped.polyS .north 0).winding = false ∧ (wTripped.polyS .north 0).coasting = false) := by decide

/-! Witnesses: axes and the drive bus. -/

def wAx (en : Nat) (flags : Fld) (v : AxisS) : Device :=
  { dv [(AXS_ACTL .north 31, AXS_ACTL_ENABLE, en), (AXS_STATUS .north 31, flags, 1), (AXS_BUS_STATUS .north, ⟨1, 0⟩, 2)] with
    axs := { axis := [(31, v)] } }

theorem witness_AxesMoveStopAndHome :
    ((wAx 1 AXS_STATUS_HOMED { bound := true }).moveRefused .north 31 (toSigned 32 0) = false ∧
      (wAx 1 AXS_STATUS_FAULT { bound := true }).moveRefused .north 31 (toSigned 32 0) = true ∧ (5 : Word).toInt = 5) ∧
    (AXS_ACTL_ENABLE.get (AXS_ACTL_ENABLE.put 0 1) = 1 ∧ ((wAx 0 AXS_STATUS_HOMED {}).axisS .north 31).bound = false ∧
      ((wAx 0 AXS_STATUS_HOMED { bound := true }).axisS .north 31).bound = true ∧
      (wAx 0 AXS_STATUS_HOMED { bound := true }).flag (AXS_ACTL .north 31) AXS_ACTL_ENABLE = false ∧
      (wAx 1 AXS_STATUS_HOMED { bound := true }).flag (AXS_ACTL .north 31) AXS_ACTL_ENABLE = true ∧
      AXS_ACTL_PROFILE.get (AXS_ACTL_PROFILE.put 1 1) ≠ (wAx 1 AXS_STATUS_HOMED { bound := true }).fld (AXS_ACTL .north 31) AXS_ACTL_PROFILE ∧
      (wAx 1 AXS_STATUS_HOMED { bound := true }).moveRefused .north 31 ((wAx 1 AXS_STATUS_HOMED { bound := true }).int (AXS_TARGET .north 31)) =
        false ∧
      AXS_ACTL_ENABLE.get (0 : Word) ≠ 1 ∧ (wAx 1 AXS_STATUS_MOVING { bound := true }).flag (AXS_ACTL .north 31) AXS_ACTL_BUSY = false ∧ ((wAx 1 AXS_STATUS_MOVING { bound := true }).axisS .north 31).homing = 0) ∧
    (((wAx 1 AXS_STATUS_HOMED { bound := true }).setAx .north 31 AXS_STATUS_HOMED false).moveRefused .north 31
        ((wAx 1 AXS_STATUS_HOMED { bound := true }).int (AXS_POS .north 31) -
          ((wAx 1 AXS_STATUS_HOMED { bound := true }).nat (AXS_HOME_DIST .north 31) : Int)) = false ∧
      (wAx 1 AXS_STATUS_HOMED { bound := true }).flag (AXS_HOME_CFG .north 31) AXS_HOME_CFG_DIR = false) ∧
    ((wAx 1 AXS_STATUS_MOVING { bound := true }).moving .north 31 = true ∧ (wAx 1 AXS_STATUS_FAULT { bound := true }).moving .north 31 = false ∧
      chatters 0 ((wAx 1 AXS_STATUS_FAULT { bound := true }).axisS .north 31).neg = false ∧
      chatters 0 ((wAx 1 AXS_STATUS_FAULT { bound := true }).axisS .north 31).pos = false) ∧
    ((wAx 1 AXS_STATUS_HOMING { bound := true, homing := 3 }).axisS .north 31).homing = 3 := by
  and_intros <;> decide

def wEnc : Device := { Device.reset with axs := { enc := [(15, { a := true, b := false })] } }
def wSwitch (run : Nat) : Device :=
  { dv [(AXS_CFG .south 0, AXS_CFG_LIMP_EN, 1), (AXS_CFG .south 0, AXS_CFG_LIMP_LVL, 1)] with
    token := some .north, axs := { axis := [(32, { pos := { level := true, run } })] } }
def wSwitchLow (run : Nat) : Device := { wSwitch run with axs := { axis := [(32, { pos := { level := false, run } })] } }

theorem witness_EncodersCountAndSwitchesTrip :
    (sget (fun _ => ({} : EncS)) wEnc.axs.enc (8 * Side.south.code + 7) = { a := true, b := false } ∧
      (quadPos true true + 4 - quadPos true false) % 4 = 1 ∧ (quadPos false false + 4 - quadPos true false) % 4 = 3 ∧
      (quadPos true false + 4 - quadPos true false) % 4 = 0 ∧ (quadPos false true + 4 - quadPos true false) % 4 = 2 ∧
      (∀ k < 4, mKind (wEnc.motorEntry (8 + k)) ≠ 2 ∨ mEncoder (wEnc.motorEntry (8 + k)) ≠ 7)) ∧
    ((wSwitch 6).flag (AXS_CFG .south 0) AXS_CFG_LIMP_EN = true ∧ ((wSwitch 6).axisS .south 0).pos.level = true ∧
      chatters 0 ((wSwitch 6).axisS .south 0).pos = false ∧ ((wSwitch 6).axisS .south 0).pos.run < 7 ∧
      ((wSwitch 7).axisS .south 0).pos.run = 7 ∧ (wSwitch 7).flag (AXS_CFG .south 0) AXS_CFG_LIMP_LVL = true ∧ (wSwitch 7).owner ≠ .south ∧
      (wSwitch 7).axFlag .south 0 AXS_STATUS_LIM_POS = false ∧ 0 ≤ (wSwitch 7).int (AXS_VEL .south 0)) ∧
    (((wSwitchLow 7).axisS .south 0).pos.level = false ∧ ((wSwitchLow 7).axisS .south 0).pos.run = 7 ∧
      (wSwitchLow 7).flag (AXS_CFG .south 0) AXS_CFG_LIMP_EN = true ∧ false ≠ (wSwitchLow 7).flag (AXS_CFG .south 0) AXS_CFG_LIMP_LVL) := by decide

def wChainDev1 (state drivers : Nat) (tr : Bool) (good : List Nat) (axes : List Nat) : Device :=
  let d := dv ([(AXS_CTRL .north, AXS_CTRL_ENABLE, 1), (AXS_BUS_STATUS .north, (⟨7, 6⟩ : Fld), state),
    (AXS_CHAIN_CFG .north 3, AXS_CHAIN_CFG_DRIVERS, drivers)] ++ axes.map (fun a => (AXS_CFG .north a, AXS_CFG_CHAIN, 3)))
  { d with st := .held, north := { role := .active, transmits := tr }, axs := { good := [(3, good)], axis := axes.map (fun a => (a, { bound := true })) } }
def wReply : List Byte := withCrc ([0, 0, 9, 0, 0, 0, 0, 9])
def wBody : List Byte := withCrc ([0, 0, 9, 0] ++ List.replicate 68 0) ++ wReply
def wMoves : Device := wAx 1 AXS_STATUS_MOVING { bound := true }
def wStops : Device := wMoves.setAx .north 31 AXS_STATUS_STOPPING true
def wTravels : Device := wAx 1 AXS_STATUS_MOVING { bound := true, plan := { segs := [(10000000, 0)] } }
def wOldFrames (frames : Nat) : Device :=
  { wChainDev1 1 1 true [] [] with transfer := some { at_ := 0, old := .north, kind := 1, waiting := 0, overlap := true, frames } }

theorem witness_DriveChainsAreRun :
    ((∀ a < 32, (wChainDev1 1 1 true [] []).moving .north a = false) ∧ (wChainDev1 1 1 true [] []).sendsFrames .north = true ∧
      (wOldFrames 2).sendsFrames .north = true ∧ (wOldFrames 2).transfer.isSome = true ∧ (∀ a < 32, (wOldFrames 2).moving .north a = false) ∧
      (wOldFrames 0).transfer.isSome = true ∧ (wOldFrames 0).flag (AXS_CTRL .north) AXS_CTRL_BUSY = false ∧
      (∀ a < 32, (wOldFrames 0).moving .north a = false)) ∧
    ((wMoves.tick 0).comesToRest .north 31 = true ∧ wStops.axFlag .north 31 AXS_STATUS_STOPPING = true ∧ (wStops.tick 0).comesToRest .north 31 = true ∧
      wStops.moving .north 31 = true ∧ (wStops.axFlag .north 31 AXS_STATUS_LIMIT_DEFERRED = false) ∧ (∀ b < 32, (wStops.axisS .north b).homing = 0) ∧
      (∀ b < 32, (wMoves.axisS .north b).homing = 0) ∧ wTravels.moving .north 31 = true ∧ (wTravels.tick 0).comesToRest .north 31 = false ∧
      (∀ b < 32, (wTravels.axisS .north b).homing = 0) ∧ wTravels.axFlag .north 31 AXS_STATUS_LIMIT_DEFERRED = false) ∧
    ((wChainDev1 1 1 false [] []).st ≠ .safe ∧ 0 < 1) ∧
    ((wChainDev1 1 1 true [] []).flag (AXS_CTRL .north) AXS_CTRL_BUSY = false ∧ ((wChainDev1 1 1 true [] []).q .north).transmits = true ∧
      (wChainDev1 1 1 true [] []).flag (AXS_CTRL .north) AXS_CTRL_ENABLE = true ∧ (wChainDev1 1 1 true [] []).chainState .north 3 = 1) ∧
    (wMoves.moving .north 31 = true ∧ (wMoves.axisS .north 31).homing = 0 ∧ wMoves.axFlag .north 31 AXS_STATUS_LIMIT_DEFERRED = false ∧
      wMoves.axFlag .north 31 AXS_STATUS_STOPPING = false) ∧
    (((wChainDev1 1 1 false [] []).q .north).transmits = false ∧ crcGood (wBody.set 0 1) 72 = false ∧
      0 < min 8 ((wChainDev1 1 1 true [] []).fld (AXS_CHAIN_CFG .north 3) AXS_CHAIN_CFG_DRIVERS)) ∧
    (crcGood wBody 72 = true ∧ ((wBody.drop 76).take 12).length = 12 ∧ crcGood ((wBody.drop 76).take 12) 8 = true ∧
      bytesAt ((wBody.drop 76).take 12) 7 1 = bytesAt wBody 2 1 ∧ (wChainDev1 1 1 true [15] []).axisAt .north 3 0 = none ∧
      15 ≤ (sget (fun _ => []) (wChainDev1 1 1 true [15] []).axs.good 3).getD 0 0) ∧
    ((wChainDev1 2 1 true [] [31]).chainState .north 3 = 2 ∧ (wChainDev1 2 1 true [] [31]).axisAt .north 3 0 = some 31 ∧
      min 8 ((wChainDev1 2 1 true [] [31]).fld (AXS_CHAIN_CFG .north 3) AXS_CHAIN_CFG_DRIVERS) = 1 ∧
      natBit (bytesAt wReply 6 1) 0 = false ∧ natBit (bytesAt wReply 6 1) 6 = false) ∧
    (∀ a < 32, ((wChainDev1 2 1 true [] []).axisS .north a).homing = 0) ∧
    ((wChainDev1 1 1 true [] []).ledgerAction lbDriveBusFail ≠ 2 ∧ (wChainDev1 3 1 true [] []).chainState .north 3 = 3) := by
  and_intros <;> decide

/-! Witnesses: clocks. -/

def wClk (passing failed : Nat) (l : List (Nat × Fld × Nat)) : Device :=
  { dv ([(CLK_STATUS, CLK_STATUS_ARMED, 1), (CLK_STATUS, CLK_STATUS_IOSC_READY, 1), (CLK_MON_EN, CLK_MON_EN_EN, 0x1FF)] ++ l) with
    st := .held, clk := { passing, failed } }

def wWaited : Device := { wClk 0 0 [] with clk := { classA := 1, goodAt := [] } }

theorem witness_ClocksAreMonitored :
    ((Device.reset.flag CLK_STATUS CLK_STATUS_ARMED = false) ∧ (wClk 0 0 []).flag CLK_STATUS CLK_STATUS_ARMED = true ∧
      (wClk 0 0 [(CLK_MON_EN, CLK_MON_EN_EN, 0)]).monitored 8 = false ∧ (wClk 0 0 []).monitored 7 = true ∧
      (wClk 0 0 []).outOfTol 7 400 = false ∧ (wClk 0 0 []).outOfTol 7 0 = true ∧ windowKhz 7 400 < 2 ^ 32 ∧
      (wClk 0 0 []).flag CLK_STATUS CLK_STATUS_IOSC_READY = true ∧ natBit (wClk 0 0 []).clk.failed 7 = false) ∧
    (natBit (wClk 0 0 []).clk.failed 0 = false ∧ (wClk 0 0 []).st = .held ∧ natBit (wClk 0 1 []).clk.failed 0 = true ∧
      natBit (wClk 0 2 []).clk.failed 1 = true) ∧
    ((wClk 0 0 [(CLK_STATUS, CLK_STATUS_CLASS_A_WAIT, 1)]).flag CLK_STATUS CLK_STATUS_CLASS_A_WAIT = true ∧
      (maskList 9 (wClk 0 0 []).clk.classA).all ((wClk 0 0 []).tick 0).steadyFor10 = true ∧ (maskList 9 wWaited.clk.classA) = [0] ∧
      (maskList 9 wWaited.clk.classA).all (wWaited.tick (10 * tuPerMs)).steadyFor10 = true ∧
      (wClk 0 0 [(CLK_STATUS, CLK_STATUS_CLASS_A_WAIT, 1), (PXS_REF_STATUS .north, PXS_REF_STATUS_LOCKED, 1),
        (PXS_REF_STATUS .south, PXS_REF_STATUS_LOCKED, 1)]).flag (PXS_REF_STATUS .north) PXS_REF_STATUS_LOCKED = true ∧
      (wClk 0 0 [(PXS_REF_STATUS .south, PXS_REF_STATUS_LOCKED, 1)]).flag (PXS_REF_STATUS .south) PXS_REF_STATUS_LOCKED = true) := by decide

def wMux (pend : Nat) (l : List (Nat × Fld × Nat)) : Device :=
  wClk 0 0 ([(CLK_MUX 5, CLK_MUX_PENDING, pend), (CLK_MUX 5, CLK_MUX_RETURN_EN, 1), (CLK_MUX 5, CLK_MUX_ON_FALLBACK, 1),
    (CLK_GATE, CLK_GATE_CLOSE, 8)] ++ l)

theorem witness_MultiplexersSwitchAndGatesClose :
    ((wMux 0 []).flag (CLK_MUX 5) CLK_MUX_PENDING = false ∧ (CLK_MUX_SEL.get (CLK_MUX_SEL.put 0 1) == 1) ≠ natBit (wMux 0 []).clk.passing 5 ∧
      (wMux 1 []).flag (CLK_MUX 5) CLK_MUX_PENDING = true) ∧
    ((decide (2 ≤ 5) && natBit ((wMux 0 []).fld CLK_GATE_STATUS CLK_GATE_STATUS_CLOSED) (5 - 2) ||
        natBit (wMux 0 []).clk.failed ((wMux 0 []).muxSource 5)) = false ∧
      (decide (2 ≤ 5) && natBit ((wMux 0 [(CLK_GATE_STATUS, CLK_GATE_STATUS_CLOSED, 8)]).fld CLK_GATE_STATUS CLK_GATE_STATUS_CLOSED) (5 - 2) ||
        natBit (wMux 0 []).clk.failed ((wMux 0 []).muxSource 5)) = true) ∧
    ((wMux 0 []).flag (CLK_MUX 5) CLK_MUX_RETURN_EN = true ∧ (wMux 0 []).flag (CLK_MUX 5) CLK_MUX_ON_FALLBACK = true ∧
      (wMux 0 []).flag (CLK_MUX 5) CLK_MUX_PENDING = false ∧ ((wMux 0 []).tick (10 * tuPerMs)).steadyFor10 (muxPrimary 5) = true) ∧
    (natBit ((wMux 0 []).fld CLK_GATE CLK_GATE_CLOSE) (5 - 2) = true ∧
      (decide (2 ≤ 5) && natBit ((wMux 0 []).fld CLK_GATE_STATUS CLK_GATE_STATUS_CLOSED) (5 - 2)) = false) := by decide

def wOp (q : Option (OpDomain × Bool)) : Device := { Device.reset with clk := { seq := some (.pcie, true), queued := q } }
def wFast : Device := dv [(PXS_STATUS .south 7, PXS_STATUS_STATE, pxLocked), (PXS_STATUS .south 7, PXS_STATUS_MULT, 3)]

theorem witness_OperatingPointsFollowTheirVoltage :
    (Device.reset.clk.seq = none ∧ Device.reset.pixNeedsHigh .north = false ∧ Device.reset.pixNeedsHigh .south = false ∧
      wFast.clk.seq = none ∧ wFast.pixNeedsHigh .south = true) ∧
    ((wOp none).clk.seq = some (.pcie, true) ∧ (wOp none).clk.queued = none ∧
      (wOp (some (.pixel .south, true))).clk.queued = some (.pixel .south, true)) := by decide

/-! Witnesses: thermal management and imaging units. -/

def wSensor (x : SensorS) : Device := { Device.reset with thm := { sensors := [(15, x)] } }
def wRise (n : Nat) (above : Nat) : Device :=
  { Device.reset.setEntry 0x11 1 0 ([0xFF, 0xFF, 0, 0, 0, 0, 0, 0] ++ List.replicate 7 0 ++ [10, 0, 0, 1, 0]) with
    thm := { hist := [(0, List.replicate n 100)], above := [(0, above)], sums := [(0, (218, 2))] } }

theorem witness_SensorsAndRiseAreEvaluated :
    ((wSensor {}).sensorUnused 15 = false ∧ ((wSensor {}).tick 0).reading 15 200 true = some 200 ∧ (15 : Fin 40).val < 16 ∧
      SensorS.shows {} 0 15 200 true = false ∧ ((wSensor {}).sensor 15).broken = false ∧
      (wSensor {}).sensorUnused 31 = true ∧ ((wSensor {}).tick 0).reading 31 200 true = none ∧ ((wSensor {}).tick 0).reading 32 9 false = some 0 ∧
      ((wSensor {}).tick 0).reading 15 200 false = none ∧ SensorS.shows {} 0 15 0 false = true) ∧
    (((wSensor { broken := true }).sensor 15).broken = true ∧ ((wSensor { broken := true }).sensor 15).okSince = none ∧
      SensorS.shows { broken := true } 0 15 200 true = false ∧
      SensorS.shows { broken := true, okSince := some 0 } (1000 * tuPerMs) 15 200 true = false ∧
      ((wSensor { broken := true, okSince := some 0 }).sensor 15).okSince = some 0 ∧ 1000 * tuPerMs ≤ max (wSensor {}).now (1000 * tuPerMs) - 0) ∧
    (((wRise 9 0).readings 0).2 ≠ 0 ∧ (∀ z < 16, z ≠ 0 → ((wRise 9 0).readings z).2 = 0) ∧ ((wRise 10 2).readings 0).2 ≠ 0 ∧
      (∀ z < 16, z ≠ 0 → ((wRise 10 2).readings z).2 = 0) ∧ ((wRise 10 2).readings 0).1 / (((wRise 10 2).readings 0).2 : Int) = 109 ∧
      (sget (fun _ => ([] : List Int)) (wRise 9 0).thm.hist 0).length ≤ 9 ∧
      (sget (fun _ => ([] : List Int)) (wRise 10 2).thm.hist 0)[9]? = some 100 ∧ ((wRise 10 2).zone 0).rise ≠ 0 ∧
      (((wRise 10 2).zone 0).rise : Int) * 8 < (109 - 100) * 10 ∧ 2 ≤ sget (fun _ => 0) (wRise 10 2).thm.above 0) := by decide

def wThm (l : List (Nat × Fld × Nat)) : Device :=
  { dv l with st := .printing, tml := { insts := [(0, some wInst)] },
              tables := (Device.reset.setEntry 0x11 1 15 (List.replicate 17 0 ++ [9, 1])).tables }

theorem witness_EnforcementStartsAndStops :
    ((wThm [(THM_STATUS, THM_STATUS_GRACE, 1)]).flag THM_STATUS THM_STATUS_GRACE = true ∧ (wThm []).flag THM_STATUS THM_STATUS_GRACE = false) ∧
    ((∀ l ∈ [(THM_STATUS, THM_STATUS_F, 0), (THM_ZONE_STATUS 15, THM_ZONE_STATUS_LEVEL, 2)],
        (wThm [(THM_STATUS, THM_STATUS_ENFORCING, 1), l]).flag THM_STATUS THM_STATUS_ENFORCING = true ∧
        (wThm [(THM_STATUS, THM_STATUS_ENFORCING, 1), l]).flag THM_STATUS THM_STATUS_STOPPED = false) ∧
      (wThm [(THM_STATUS, THM_STATUS_F, 0)]).fld THM_STATUS THM_STATUS_F = 0 ∧ ((wThm []).zone 15).used = true ∧ ((wThm []).zone 15).stopS ≠ 0 ∧
      2 ≤ (wThm [(THM_ZONE_STATUS 15, THM_ZONE_STATUS_LEVEL, 2)]).fld (THM_ZONE_STATUS 15) THM_ZONE_STATUS_LEVEL ∧
      (wThm []).ledgerAction lbThermStop ≠ 2 ∧ (wThm []).flight ≠ [] ∧ (wThm []).st = .printing) ∧
    ((wThm []).throttled = false ∧ (wThm [(THM_ZONE_STATUS 15, THM_ZONE_STATUS_LEVEL, 2)]).throttled = true) := by decide

def wUnits (l : List (Nat × Fld × Nat)) : Device :=
  { dv ((CNS_CTRL, CNS_CTRL_ENABLE, 1) :: l) with st := .held, cns := { units := [(7, { challenge := some [1] })] } }
def wAnswer (serial : Nat) : UnitAnswer :=
  { block := withCrc (leBytes 2 0x4955 ++ [1, 3] ++ leBytes 4 50000 ++ leBytes 8 serial ++ List.replicate 236 0), slotA := [], slotB := [] }
def wKeys : Fuses := { Fuses.reset with keys := [[1], [1], [1], [1]] }

theorem witness_UnitsAreReadAndAuthenticated :
    (wReady.st ≠ .held ∧ (wUnits []).st = .held ∧ (wUnits []).flag CNS_CTRL CNS_CTRL_ENABLE = true ∧
      (List.replicate 8 (none : Option UnitAnswer))[7]? = some none ∧ (wUnits []).flag (CNS_STATUS 7) CNS_STATUS_NO_ANSWER = false ∧
      (List.replicate 8 (some (wAnswer 5)))[7]? = some (some (wAnswer 5)) ∧ (wUnits []).flag (CNS_STATUS 7) CNS_STATUS_PRESENT = false ∧
      (wUnits []).nat64 (CNS_UNIT_LO 7) ≠ blockSerial (wAnswer 5).block ∧ blockMagicOk (wAnswer 5).block = true ∧ blockMagicOk ((wAnswer 5).block.set 0 0) = false ∧ (wUnits []).cnsKind 7 = 0) ∧
    (((wUnits []).unit 7).challenge = some [1] ∧ keySet (wKeys.keys.getD ((wUnits []).fld CNS_CFG CNS_CFG_AUTH_SLOT) []) = true ∧
      keySet (Fuses.reset.keys.getD ((wUnits []).fld CNS_CFG CNS_CFG_AUTH_SLOT) []) = false ∧
      ∃ r, r = expectedResponse (wKeys.keys.getD ((wUnits []).fld CNS_CFG CNS_CFG_AUTH_SLOT) []) ((wUnits []).unit 7).block [1]) ∧
    ((wUnits [(THM_STATUS, THM_STATUS_WRITE_HOLD, 1)]).flag THM_STATUS THM_STATUS_WRITE_HOLD = true ∧
      (wUnits []).flag THM_STATUS THM_STATUS_WRITE_HOLD = false) := by
  refine ⟨by decide, ⟨by decide, by decide, by decide, _, rfl⟩, by decide⟩

/-! Witnesses: wind-downs, frames, whole-machine rules. -/

/-- The device with BUSY of one control register set and its ENABLE as it is given. -/
def wBusy (a en : Nat) : Device := dv [(a, ⟨30, 30⟩, 1), (a, ⟨31, 31⟩, en)]

def wDomWaits : Device := dv [(PWR_DOM_STATUS, PWR_DOM_STATUS_BUSY, 2 ^ 8), (PWR_DOM_STATUS, PWR_DOM_STATUS_ON, 0x3FFF)]

theorem witness_WindDownsEnd :
    (Device.reset.fld PWR_DOM_STATUS PWR_DOM_STATUS_BUSY = 0 ∧ ((wBusy (aly .shared 15 + alyCtrl) 0).chan .shared 15).waits = false) ∧
    (8 < 14 ∧ wDomWaits.fld PWR_DOM_STATUS PWR_DOM_STATUS_BUSY = 2 ^ 8 ∧ wDomWaits.busyAt (SUP_CTRL .north) = false ∧ wDomWaits.mayOpen 8 = true) ∧
    (((wBusy ARC_CTRL 1).reg ARC_CTRL).getLsbD 30 = true ∧ (Device.reset.reg (ENW_INSP_CTRL .south)).getLsbD 30 = false ∧
      (BlockId.timeline .south, TML_CTRL .south) ∈ [(BlockId.arcade, ARC_CTRL), (.inspection .south, ENW_INSP_CTRL .south),
        (.timeline .south, TML_CTRL .south), (.supervisor .south, SUP_CTRL .south), (.regulator .south, REG_CTRL .south), (.consumables, CNS_CTRL)]) ∧
    (((wBusy (AXS_ACTL .north 31) 0).reg (AXS_ACTL .north 31)).getLsbD 30 = true ∧
      ((wBusy (aly .shared 15 + alyCtrl) 0).reg (aly .shared 15 + alyCtrl)).getLsbD 30 = true) ∧
    (((wBusy (HIF_RING_CFG 0) 0).reg (HIF_RING_CFG 0)).getLsbD 30 = true ∧ (wBusy (HIF_RING_CFG 0) 0).ringIdle 0 = true ∧
      (wBusy (HIF_RING_CFG 0) 0).ringEnabled 0 = false) ∧
    (((wBusy (PXS_CTRL .north 0) 0).reg (PXS_CTRL .north 0)).getLsbD 30 = true ∧
      (wBusy (PXS_CTRL .north 0) 0).flag (PXS_CTRL .north 0) PXS_CTRL_ENABLE = false) ∧
    (((wBusy (BMO_CTRL .north 7) 0).reg (BMO_CTRL .north 7)).getLsbD 30 = true ∧
      (wBusy (BMO_CTRL .north 7) 0).flag (BMO_CTRL .north 7) BMO_CTRL_ENABLE = false ∧ (wBusy (BMO_CTRL .north 7) 0).print 7 = none) ∧
    (((wBusy (ENW_CTRL .south 7) 0).reg (ENW_CTRL .south 7)).getLsbD 30 = true ∧
      (wBusy (ENW_CTRL .south 7) 0).flag (ENW_CTRL .south 7) ENW_CTRL_ENABLE = false) ∧
    (((wBusy (MOT_POLY_CTRL .south 7) 0).reg (MOT_POLY_CTRL .south 7)).getLsbD 30 = true ∧
      (wBusy (MOT_POLY_CTRL .south 7) 0).flag (MOT_POLY_CTRL .south 7) MOT_POLY_CTRL_ENABLE = false) ∧
    (((wBusy (MOT_PMSM_CTRL .north 3) 0).reg (MOT_PMSM_CTRL .north 3)).getLsbD 30 = true ∧
      (wBusy (MOT_PMSM_CTRL .north 3) 0).flag (MOT_PMSM_CTRL .north 3) MOT_PMSM_CTRL_ENABLE = false) ∧
    ((wBusy (REG_SLOT_CTRL .south 511) 0).reg (REG_SLOT_CTRL .south 511)).getLsbD 30 = true ∧
    (((wBusy (MOT_CTRL .north) 0).reg (MOT_CTRL .north)).getLsbD 30 = true ∧ (wBusy (MOT_CTRL .north) 0).flag (MOT_CTRL .north) MOT_CTRL_ENABLE = false) ∧
    (((wBusy (AXS_CTRL .south) 0).reg (AXS_CTRL .south)).getLsbD 30 = true ∧
      (wBusy (AXS_CTRL .south) 0).flag (AXS_CTRL .south) AXS_CTRL_ENABLE = false) := by
  and_intros <;> decide

theorem witness_LoopCommandsKeepTheRest :
    (RDB_PANIC ≠ QTR_CMD .north ∧ sensesVin (.regulatorTick 0 .north [] 0 0) = true) ∧ ofLoopsAndAxes (.regulatorTick 0 .north [] 0 0) = true ∧ ofLoopsAndAxes (.chainBringupRetry 0 .south 3) = true ∧
      inControlLoops (QTR_CMD .north) = false ∧ showsEvents (QTR_CMD .north) = false ∧ inControlLoops 0x0103FFFC = false ∧
      inControlLoops 0x010B0000 = false ∧ (0x20C00000 : Nat) < 2 ^ 63 := by decide

theorem witness_UpkeepCommandsKeepTheQuarters :
    ofSharedUpkeep (.refclkMissingEdge 0) = true ∧ ofSharedUpkeep (.writebackResume 0) = true ∧ 0x01000000 ≤ QTR_CMD .south ∧
      QTR_CMD .south < 0x03000000 ∧ inControlLoops (QTR_CMD .south) = false := by decide

def wP0 : IngestS := { wIngest with page := { wPage with first := { wSide with pace := 0 } } }
def wP0Dev : Device := { Device.reset with host := { ingest := [wP0, wIngest] } }

theorem witness_PagesAtP0AreRejected :
    wP0.page.first.pace = 0 ∧ wP0Dev.host.ingest = wP0 :: [wIngest] ∧ wP0.live = true ∧ wP0.awaits = false ∧ wP0.page.ready = true := by decide

def wRailDone (good : Bool) : Device :=
  let d := (wRails.setRen 23 true).setGood 23 good
  { d with st := .held, pwr := { seq := .done } }
def wRailSafe : Device := { Device.reset.setLive ktRail true with st := .safe }

theorem witness_LostRailsForceSafe :
    ((wRailDone true).pwr.seq = .done ∧ (wRailDone true).pwr.down = none ∧ natBit ((wRailDone true).fld PWR_RAIL_PG PWR_RAIL_PG_PG) 23 = true ∧
      (wRailDone true).st = .held ∧ (wRailDone true).ledgerN lbRailLost = 1) ∧
    ((wRailDone false).pwr.seq = .done ∧ natBit ((wRailDone false).fld PWR_RAIL_PG PWR_RAIL_PG_PG) 23 = false ∧ (wRailDone false).renHigh 23 = true) ∧
    (wRailSafe.st = .safe ∧ natBit (wRailSafe.fld KRB_STATUS KRB_STATUS_LIVE) ktRail = true) := by decide

def wLow (a : Nat) : Device := { Device.reset with loHold := [(a, some 7)] }

theorem witness_WideValuesMoveWhole :
    (CFG_UPD_SRC_LO % 4 = 0 ∧ Device.reset.reach .host CFG_UPD_SRC_LO = .reg CFG_UPD_SRC_LO ∧ isLow CFG_UPD_SRC_LO = true ∧ aliasOf CFG_UPD_SRC_LO = none ∧
      Device.reset.reach .host (CFG_UPD_SRC_LO + 4) = .reg (CFG_UPD_SRC_LO + 4)) ∧
    ((wLow CFG_UPD_SRC_LO).reach .host (CFG_UPD_SRC_LO + 4) = .reg (CFG_UPD_SRC_LO + 4) ∧ aliasOf (CFG_UPD_SRC_LO + 4) = none ∧
      sget (fun _ => none) (wLow CFG_UPD_SRC_LO).loHold CFG_UPD_SRC_LO = some 7) ∧
    ((wLow (ALYQ_DST_LO .south 15)).reach (.quarter .south) (ALYQ_DST_LO .south 15 + 4 - Side.south.base) = .reg (ALYQ_DST_LO .south 15 + 4) ∧
      aliasOf (ALYQ_DST_LO .south 15 + 4 - Side.south.base) = none ∧
      sget (fun _ => none) (wLow (ALYQ_DST_LO .south 15)).loHold (ALYQ_DST_LO .south 15) = some 7) := by decide

/-! Witnesses: every step. -/

def wKeys2 : Fuses := { Fuses.reset with keys := [[2], [1], [1], [7, 0]] }

theorem witness_StepTakesTheFrontCommand :
    { State.reset with pending := [Instr.ledgerClearAll 0 0, .estop 1] }.pending = .ledgerClearAll 0 0 :: [.estop 1] ∧ State.reset.pending = [] := by
  decide

theorem witness_StepsKeepCanonicalForm :
    State.reset.dev.canonical = true ∧ { State.reset with pending := [Instr.ledgerClearAll 0 0] }.dev.canonical = true ∧
      (∃ u, step State.reset = .next u) ∧ ∃ u, step { State.reset with pending := [Instr.ledgerClearAll 0 0] } = .next u := by
  refine ⟨by decide, by decide, ⟨_, rfl⟩, ⟨_, rfl⟩⟩

theorem witness_KeysStaySecret :
    wKeys.alike wKeys2 ∧ wKeys.keys ≠ wKeys2.keys ∧ ofKeys (.lowWordRead 0 .host DEV_KEYS 4) = false ∧
      ofKeys (.unitPoll 0 [] []) = false := by
  unfold Fuses.alike; decide

/-! Each check of WellFormed refuses a term, and takes one that differs from it in what is checked. -/

def wLine : LineInfo := { unitTimes := List.replicate 8 0 }
def wBadLine : LineInfo := { wLine with unitTimes := List.replicate 7 0 }

theorem test_wf_images :
    (Instr.imageCheckAndApply 0 none (List.replicate 7 none) (List.replicate 256 0)).wf = false ∧
    (Instr.imageCheckAndApply 0 none (List.replicate 8 none) (List.replicate 255 0)).wf = false ∧
    (Instr.imageCheckAndApply 0 none (List.replicate 8 none) (List.replicate 256 0)).wf = true ∧
    (Instr.unitPoll 0 (List.replicate 9 none) (List.replicate 256 0)).wf = false ∧ (Instr.unitPoll 0 (List.replicate 8 none) []).wf = false ∧
    (Instr.unitPoll 0 (List.replicate 8 none) (List.replicate 256 0)).wf = true ∧
    (Instr.authResponseRead 0 0 (List.replicate 31 0)).wf = false ∧ (Instr.authResponseRead 0 0 (List.replicate 32 0)).wf = true ∧
    (Instr.pageStoreTrained 0 [{}, {}, {}, {}, {}] (List.replicate 8 1) (List.replicate 8 1) []).wf = false ∧
    (Instr.pageStoreTrained 0 [] (List.replicate 7 1) (List.replicate 8 1) []).wf = false ∧
    (Instr.pageStoreTrained 0 [] (List.replicate 8 1) (List.replicate 9 1) []).wf = false ∧
    (Instr.pageStoreTrained 0 [{}, {}, {}, {}] (List.replicate 8 1) (List.replicate 8 1) []).wf = true := by decide

theorem test_wf_accesses :
    (Instr.narrowWrite 0 .host 0x10030000 4).wf = false ∧ (Instr.narrowWrite 0 .host 0x10030000 0).wf = false ∧
    (Instr.narrowWrite 0 .host (2 ^ 32) 2).wf = false ∧ (Instr.narrowWrite 0 .host 0x10030002 4).wf = true ∧
    (Instr.lowWordRead 0 .host 0x10030000 0).wf = false ∧ (Instr.lowWordRead 0 .host (2 ^ 32 - 4) 5).wf = false ∧
    (Instr.lowWordRead 0 .host 0x10030002 2).wf = true ∧ (Instr.lowWordRead 0 .host (2 ^ 32 - 4) 4).wf = true ∧
    (Instr.registerWrite 0 .host 0x10030001 0).wf = false ∧ (Instr.registerWrite 0 .host (2 ^ 32) 0).wf = false ∧
    (Instr.registerWrite 0 .host 0x10030000 0).wf = true ∧
    (Instr.quarterViewHostWrite 0 0x03000000 0).wf = false ∧ (Instr.quarterViewHostWrite 0 0x01000002 0).wf = false ∧
    (Instr.quarterViewHostWrite 0 0x02FFFFFC 0).wf = true ∧
    (Instr.crossWrite 0 .north 0x01000000 0).wf = false ∧ (Instr.crossWrite 0 .north 0x02000001 0).wf = false ∧
    (Instr.crossWrite 0 .north 0x02000000 0).wf = true ∧ (Instr.crossWrite 0 .north 0x21000000 0).wf = false ∧
    (Instr.crossWrite 0 .north 0x21300000 0).wf = true ∧
    (Instr.quarterBaseSharedAccess 0 (.quarter .north) 0 false).wf = false ∧ (Instr.quarterBaseSharedAccess 0 .loader 0x100000 false).wf = false ∧
    (Instr.quarterBaseSharedAccess 0 .loader 0xFFFFF false).wf = true ∧ (Instr.decodeMiss 0 .host (2 ^ 32) false).wf = false ∧
    (Instr.decodeMiss 0 .host 0xFFFFFFFF false).wf = true ∧ (Instr.deviceOnlyAccess 0 .host 0x21800000 false).wf = false ∧
    (Instr.deviceOnlyAccess 0 .host 0x20000000 false).wf = true ∧ (Instr.sramEccError 0 0x1FFFFFFF true).wf = false ∧
    (Instr.sramEccError 0 0x217FFFFF true).wf = true := by and_intros <;> decide

theorem test_wf_rings :
    (Instr.ringEnable 0 0 0x7FFFFFFF).wf = false ∧ (Instr.ringEnable 0 0 0x80000000).wf = true ∧ (Instr.ringDisable 0 0 0x80000000).wf = false ∧
    (Instr.ringDisable 0 0 0).wf = true ∧ (Instr.eventRingEnable 0 0).wf = false ∧ (Instr.eventRingEnable 0 0x80000000).wf = true ∧
    (Instr.dmaChannelEnable 0 .shared 15 0).wf = false ∧ (Instr.dmaChannelEnable 0 .shared 15 0x80000000).wf = true ∧
    (Instr.descriptorFetch 0 0 []).wf = false ∧ (Instr.descriptorFetch 0 0 (List.replicate 17 wSlot)).wf = false ∧
    (Instr.descriptorFetch 0 0 [{ wSlot with desc := [] }]).wf = false ∧ (Instr.descriptorFetch 0 0 (List.replicate 16 wSlot)).wf = true ∧
    (Instr.psEccUe 0 0xFFFFFFFFF .wrongPlace .scrub).wf = false ∧ (Instr.psEccUe 0 0x1000000000 .wrongPlace .scrub).wf = true ∧
    (Instr.psEccCe 0 0xFFFFFFFFF (.symbols [0])).wf = false ∧ (Instr.psEccCe 0 0x1000000000 (.symbols [0])).wf = true ∧
    (Instr.pcieLinkUp 0 0 4 {}).wf = false ∧ (Instr.pcieLinkUp 0 6 4 {}).wf = false ∧ (Instr.pcieLinkUp 0 5 3 {}).wf = false ∧
    (Instr.pcieLinkUp 0 5 8 { payload := 1024 }).wf = false ∧ (Instr.pcieLinkUp 0 5 8 { readReq := 64 }).wf = false ∧
    (Instr.pcieLinkUp 0 5 8 { bar0 := 4096 }).wf = false ∧ (Instr.pcieLinkUp 0 5 8 {}).wf = true := by decide

theorem test_wf_lines :
    (Instr.beamDetectEdge 0 .north 0 wBadLine).wf = false ∧ (Instr.beamDetectEdge 0 .north 0 { wLine with unitTimes := [] }).wf = false ∧
    (Instr.beamDetectEdge 0 .north 0 wLine).wf = true ∧
    (Instr.windowClose 0 .north 0 wBadLine).wf = false ∧ (Instr.windowClose 0 .north 0 wLine).wf = true ∧
    (Instr.linePhaseWord 0 0 0 wBadLine).wf = false ∧ (Instr.linePhaseWord 0 0 0 wLine).wf = true ∧
    (Instr.linePhaseTimeout 0 0 wBadLine).wf = false ∧ (Instr.linePhaseTimeout 0 0 wLine).wf = true ∧
    (Instr.segmentSendWindow 0 .north 0 0 (List.replicate 7 0)).wf = false ∧ (Instr.segmentSendWindow 0 .north 0 0 (List.replicate 8 0)).wf = true ∧
    (Instr.regulatorTick 0 .north (List.replicate 95 0) 0 0).wf = false ∧ (Instr.regulatorTick 0 .north (List.replicate 96 0) 0 0).wf = true ∧
    (Instr.segmentDeadline 0 .north 0 0 (List.replicate 9 0)).wf = false ∧ (Instr.segmentDeadline 0 .north 0 0 (List.replicate 8 0)).wf = true := by
  decide


/-! Small tests. The expected values come from the worked examples, the tables and the rules of spec/, named at each. -/

/-- Station 3 at the reference geometry of 07_scan_timing.md: PPF 0x021A0A00, IN_SEL ÷2, a facet of 451.6 µs. -/
def tPx (l : List (Nat × Fld × Nat)) : Device :=
  dv ([(PXS_PPF .north 3, wholeWord, 0x021A0A00), (PXS_CTRL .north 3, PXS_CTRL_IN_SEL, 2), (PXS_PERIOD .north 3, wholeWord, 28902400),
    (PXS_BD_CFG .north 3, PXS_BD_CFG_WIN, 16)] ++ l)

/-- U is 97.0 GB/s at 8533 MT/s and 71.8 GB/s at 6400 MT/s (worked example of R113 to R118). -/
theorem test_usable : usableTenths 8533 = 970 ∧ usableTenths 6400 = 718 := by decide

/-- DELAY may be 33 273 pixels and no pixel more (R272, second worked example of 07_scan_timing.md). -/
theorem test_delay_limit : (tPx [(PXS_START .north 3, PXS_START_DELAY, 64 * 33273)]).pxConfigOk .north 3 = true ∧
    (tPx [(PXS_START .north 3, PXS_START_DELAY, 64 * 33274)]).pxConfigOk .north 3 = false := by decide

/-- MULT 6, and an OFFSET of +1.667 % (R263, first worked example of 07_scan_timing.md). -/
theorem test_mult : (tPx []).multOf .north 3 = 6 ∧
    ((tPx []).enterFreq .north 3).fld (PXS_STATUS .north 3) PXS_STATUS_RANGE = 0 ∧
    ((tPx []).enterFreq .north 3).int (PXS_OFFSET .north 3) / 100 = 174 := by decide

/-- With ×1 the 1200 dpi clock of 152.5 MHz is out of range (R263, the same example). -/
theorem test_range : (({ tPx [(PXS_CTRL .north 3, PXS_CTRL_IN_SEL, 0)] with synth := [(3, { res1200 := true })] }).enterFreq .north 3).flag
    (PXS_STATUS .north 3) PXS_STATUS_RANGE = true := by decide

/-- N_req is 261 (R339, worked example of 09_enwell_link.md). -/
theorem test_n_req : (((tPx [(ENW_TX_CFG .north 3, ENW_TX_CFG_LEAD, 40), (ENW_TX_CFG .north 3, ENW_TX_CFG_AHEAD, 40)]).enterFreq .north 3).lockPx
    .north 3).fld (ENW_MOD_BUF .north 3) ENW_MOD_BUF_REQUIRED = 261 := by decide

/-- Offset 0x0123_4ABC of an 8 GiB store (R171, worked example of 05_page_store.md). -/
theorem test_store_place : placeIn (rowBits 8 1) 0x01234ABC =
    { byte := 0x3C, sub := 0, channel := 2, col := 5, group := 1, bank := 3, row := 72, rank := 0 } := by decide

/-- Column 0 comes 15 535.2 ns after the edge (R268, second worked example of 07_scan_timing.md). -/
theorem test_column_zero : (((tPx [(PXS_START .north 3, PXS_START_DELAY, 302352)]).enterFreq .north 3).startTime .north 3 0 false) * 10 / 64 =
    155352 := by decide

/-- The homing limits of the worked example of 14_motion_axes.md: cruise after 90.0 ms, and the back-off of 1 600 microsteps takes 190.0 ms. -/
def tLim : Limits := { v := 16000, a := 200000, d := 200000, j := 20000000 }

theorem test_trajectory : (planTo tLim {} 1600).2 = 90 * 800000 ∧ ((planTo tLim {} 1600).1.map Prod.fst).sum = 190 * 800000 ∧
    ((({} : Kin).run (planTo tLim {} 1600).1).p = 1600 * (posScale : Int)) := by and_intros <;> decide

/-- Six bytes with a flush point after two: two fixed blocks about an empty stored one (R238); the container passes the checks of R221. -/
theorem test_flush :
    let c : Coding := { format := 1, limit := 32768, tables := 0, preset := [] }
    let bits := encode c [2] [] [1, 2, 3, 4, 5, 6]
    (bits.drop 3).take 5 = [0, 0, 0, 0xFF, 0xFF] ∧ checkContainer 1 6 (containerOf 1 6 bits) = 0 := by decide

/-- 385 600 bytes compress to at most 385 638 (R237). -/
theorem test_growth : growthBound 385600 0 = 385638 := by decide

/-- The scales of the worked example of R310 to R312, in ns. -/
theorem test_duty : dutyK 677400 0 316070 = 16 ∧ dutyK 677400 316070 316070 = 16 ∧ dutyK 677400 632140 316070 = 2 := by decide

/-- The code table W[c] = ⌊64c ÷ 15⌋ of the same example: code 15 at k = 2 is sent as code 2 (R312). -/
theorem test_scaled_code : (Device.reset.setEntry 0x07 1 8 ((List.range 16).flatMap (fun c => leBytes 4 (64 * c / 15)))).scaledCode 1 2 15 = 2 := by
  decide

/-- A speed of 1.50 m/s at 75 % is 1.12 m/s (worked example of 17_thermal.md). -/
theorem test_requested_speed : { Device.reset with thm := { lastSpeed := 150 } }.requestedSpeed 75 = 112 := by decide

/-- The CRC-32C of "123456789" (the check value of the polynomial that R75 and R137 name). -/
theorem test_crc32c : crc32c [0x31, 0x32, 0x33, 0x34, 0x35, 0x36, 0x37, 0x38, 0x39] = 0xE3069283 := by decide

/-- Slot 120 of the worked example of R439, its output at 0.820 and MODE just written: ERROR, PI and FF_VIN take over at VIN = 11.4 V; the
error of 2 °C gives p = 0.100. -/
def tReg : Device :=
  let h := [255, 0, 0x25, 0] ++ leBytes 2 0x9000 ++ leBytes 2 0 ++ leBytes 4 0 ++ leBytes 4 4294967 ++ leBytes 4 0 ++ leBytes 4 0x7FFFFFFF ++
    List.replicate 8 0 ++ [2, 0] ++ List.replicate 18 0 ++ [8, 0] ++ leBytes 2 0xA000 ++ List.replicate 16 0 ++ [1] ++ List.replicate 19 0 ++
    [5] ++ List.replicate 19 0 ++ [8, 0] ++ leBytes 2 0xA000 ++ List.replicate 16 0
  let d := dv [(REG_CTRL .north, REG_CTRL_ENABLE, 1), (REG_SLOT_CTRL .north 120, REG_SLOT_CTRL_ENABLE, 1), (REG_SLOT_CTRL .north 120, REG_SLOT_CTRL_MODE, 1),
    (REG_SLOT_OUT .north 120, wholeWord, 1760936591), (REG_SLOT_SP .north 120, wholeWord, 180 * 65536), (PWR_VIN, PWR_VIN_VIN, 11400),
    (REG_COEF_C0 .north 120 3, wholeWord, 1677722), (REG_COEF_SHIFT .north 120 3, REG_COEF_SHIFT_S0, 10),
    (REG_COEF_C0 .north 120 4, wholeWord, 786432000), (REG_COEF_C1 .north 120 4, wholeWord, 2)]
  { d.setEntry 0x03 0 120 h with params := [(0, 178 * 65536)] }

/-- The integrator is preloaded to 0.64005 to the nearest (it is 0.6400498) and the output stays 0.820 (R439, step 3 of the example). -/
theorem test_bumpless : (tReg.runSlot .north 120).int (REG_SLOT_INT .north 120) * 100000 / 2 ^ 31 + 1 = 64005 ∧
    (tReg.runSlot .north 120).int (REG_SLOT_OUT .north 120) = 1760936591 := by decide

/-- A door opens while four sheets are in flight: Safe, the four are stranded, the cause is the pin's (worked example of 19_faults_ledger.md). -/
def tFour : Device :=
  { Device.reset with st := .printing, token := some .north, tml := { insts := (List.range 4).map (fun k => (k, some { wInst with wsn := 10 + k })) } }

theorem test_door : ((tFour.kerbTrigger ktIntlkOp 0 0).st, (tFour.kerbTrigger ktIntlkOp 0 0).dlv.stranded,
    (tFour.kerbTrigger ktIntlkOp 0 0).fld KRB_CAUSE KRB_CAUSE_FIRST) = (.safe, 4, 0) := by decide

/-- Entry 3 of the worked example of 16_power.md is rail 7 with DELAY_US 200 and PG_USED; its first drop takes its enable away at once, and below
V_OFF the delay of entry 3 runs again. -/
def tRail : Device :=
  let d := (List.range 3).foldl (fun d k => d.setEntry 0x10 0 k [0x80 + BitVec.ofNat 8 k, 0]) Device.reset
  let d := (d.setEntry 0x10 0 3 [0x87, 0]).setEntry 0x10 0 4 [0x88, 0]
  let d := (d.setRen 7 true).setGood 7 true
  { d with pwr := { seq := .delay 4 } }

def devAfter (r : Result) : Device := (devOf r).getD Device.reset

theorem test_rail_drop : (devAfter (exec (.railDrop 0 7) (st tRail))).renHigh 7 = false ∧
    (devAfter (exec (.railDrop 0 7) (st tRail))).pwr.seq = .falling [7] 3 ∧
    (devAfter (exec (.railOff 1 7) (st (devAfter (exec (.railDrop 0 7) (st tRail)))))).pwr.seq = .delay 3 := by decide

/-- The state right after reset is what a cold start from Off leaves (R7, R58, R95, R102). -/
theorem test_reset_is_a_cold_start : ({ Device.reset with st := .off }).start 0 = State.reset.dev := by decide

/-- DEV_STATUS reads 2 in Booting, and a read by the host through BAR0 ends well (R3, R39). -/
theorem test_status_read : (devAfter (exec (.lowWordRead 0 .host DEV_STATUS 4) State.reset)).data = 2 ∧
    (devAfter (exec (.lowWordRead 0 .host DEV_STATUS 4) State.reset)).resp = .ok := by decide

/-- The back-off of the worked example of R499: from −1 600 in the positive direction by 1 600 microsteps to 0. -/
def tHome : Device :=
  { dv [(AXS_POS .north 5, wholeWord, 2 ^ 32 - 1600), (AXS_HOME_CFG .north 5, AXS_HOME_CFG_BACKOFF, 1600)] with
    axs := { axis := [(5, { bound := true, homing := 3 })] } }

theorem test_back_off : (devAfter (exec (.homeSettleTimeout 0 .north 5) (st tHome))).reg (AXS_TARGET .north 5) = 0 := by decide


end Sys2Proof.Tests
end

section

set_option Elab.async false

namespace Sys2Proof.Machine

/-! # The step and the state at reset -/

/-- Settles O1: the two cases are the branches of `step`. -/
theorem stepTakesTheFrontCommand : Obligations.StepTakesTheFrontCommand := by
  intro s
  constructor
  · intro c rest h
    rw [step, h]
  · intro h
    rw [step, h]

/-- The eight words of the ledger's sticky bits read 0 at reset. -/
theorem reset_ledgerWord : ∀ i : Fin 8, State.reset.dev.reg (LDG_STICKY i) = 0 := by decide

theorem reset_sticky (b : Fin 256) : State.reset.dev.sticky b = false := by
  have hb : b.val / 32 < 8 := by omega
  unfold Device.sticky
  rw [reset_ledgerWord ⟨b / 32, hb⟩]
  exact BitVec.getLsbD_zero

/-- The registers of a Quarter that the statement names, at reset. -/
theorem reset_quarterRegs (q : Side) :
    State.reset.dev.fld (PXS_FACET_CFG q 7) PXS_FACET_CFG_FACETS = 8 ∧ State.reset.dev.fld (PXS_REF_CFG q) PXS_REF_CFG_V_LOCK = 120 ∧
      State.reset.dev.fld (BMO_TEMP q 3) BMO_TEMP_LIMIT = 85 ∧ State.reset.dev.fld (BMO_MEAS_V q 0) BMO_MEAS_V_V_OPEN = 3000 ∧
      State.reset.dev.reg (BMO_HEALTH0 q 5) = 0xFFFFFFFF := by
  cases q
  · decide
  · decide

/-- Settles O2: the parts of the state are written in `State.reset`; a register reads its row of the register table. -/
theorem resetIsAsTheSpecGives : Obligations.ResetIsAsTheSpecGives := by
  refine ⟨rfl, rfl, ?_, rfl, rfl, rfl, rfl, rfl, ?_, ?_, ?_, ?_, ?_, ?_, ?_, reset_quarterRegs, ?_, rfl, ?_, reset_sticky⟩
  · decide
  · decide
  · decide
  · decide
  · decide
  · decide
  · decide
  · decide
  · decide
  · decide

/-- Settles O3, by evaluation of the state at reset. -/
theorem resetIsCanonical : Obligations.ResetIsCanonical := by
  unfold Obligations.ResetIsCanonical
  decide

end Sys2Proof.Machine

end

section

set_option Elab.async false

namespace Sys2Proof.Machine

/-! # Canonical form (R16, R45, R75)

`Device.canonical` says of the three sparse parts of a device that their keys rise strictly and that nothing is listed that
reads as its default. The basic updates keep that (`setReg` and `setByte` through `sput`, a power cycle through `filterMap`),
and so does every function of the model that is built of them: one lemma per function, whose proof follows the function's own
branches, named as the function so that a chain of updates has the same chain as its proof. -/

/-- The registers, the memory and the loaded tables of a device are in canonical form, part by part. -/
structure Canonical (d : Device) : Prop where
  regs : swf resetWord d.regs = true
  mem : swf memDefault d.mem = true
  tables : swf (fun _ => []) d.tables = true

theorem canonical_iff {d : Device} : d.canonical = true ↔ Canonical d := by
  constructor
  · intro h
    simp only [Device.canonical, Bool.and_eq_true] at h
    obtain ⟨⟨hregs, hmem⟩, htables⟩ := h
    exact ⟨hregs, hmem, htables⟩
  · intro h
    simp [Device.canonical, h.regs, h.mem, h.tables]

/-- Rewriting entries keeps the canonical form where every entry that stays keeps its key and differs from its default. -/
theorem swfAbove_filterMap {α : Type} [DecidableEq α] {dflt : Nat → α} {f : Nat × α → Option (Nat × α)}
    (hf : ∀ x y, x.2 ≠ dflt x.1 → f x = some y → y.1 = x.1 ∧ y.2 ≠ dflt y.1) (m : List (Nat × α)) :
    ∀ lo, swfAbove dflt lo m = true → swfAbove dflt lo (m.filterMap f) = true := by
  induction m with
  | nil => intro lo _; rfl
  | cons x r ih =>
    intro lo h
    simp only [swfAbove, Bool.and_eq_true, decide_eq_true_eq] at h
    obtain ⟨⟨hlo, hv⟩, hr⟩ := h
    rw [List.filterMap_cons]
    split
    · exact ih lo (swfAbove_mono (by omega) hr)
    · rename_i y hy
      obtain ⟨hk, hd⟩ := hf x y hv hy
      simp only [swfAbove, Bool.and_eq_true, decide_eq_true_eq]
      exact ⟨⟨hk ▸ hlo, hd⟩, hk ▸ ih _ hr⟩

theorem swf_filterMap {α : Type} [DecidableEq α] {dflt : Nat → α} {f : Nat × α → Option (Nat × α)} {m : List (Nat × α)}
    (h : swf dflt m = true) (hf : ∀ x y, x.2 ≠ dflt x.1 → f x = some y → y.1 = x.1 ∧ y.2 ≠ dflt y.1) :
    swf dflt (m.filterMap f) = true :=
  swfAbove_filterMap hf m 0 h

/-- Dropping entries keeps the canonical form. -/
theorem swf_filter {α : Type} [DecidableEq α] {dflt : Nat → α} {m : List (Nat × α)} (h : swf dflt m = true) (p : Nat × α → Bool) :
    swf dflt (m.filter p) = true := by
  rw [← List.filterMap_eq_filter]
  refine swf_filterMap h fun x y hx hy => ?_
  obtain ⟨rfl, _⟩ := Option.guard_eq_some_iff.mp hy
  exact ⟨rfl, hx⟩

/-- What a power cycle leaves of a register keeps its address and is listed only where it differs from the reset value (R41). -/
theorem cycleReg_listed {q : Side} {x y : Nat × Word} (hx : x.2 ≠ resetWord x.1) (h : cycleReg q x = some y) :
    y.1 = x.1 ∧ y.2 ≠ resetWord y.1 := by
  unfold cycleReg at h
  split at h
  · split at h
    · dsimp only at h
      split at h
      · cases h
      · cases h; exact ⟨rfl, ‹_›⟩
    · cases h
  · cases h; exact ⟨rfl, hx⟩

namespace Canonical

variable {d : Device}

/-! The basic updates. -/

theorem ite {c : Prop} [Decidable c] {a b : Device} (ha : Canonical a) (hb : Canonical b) : Canonical (if c then a else b) := by
  split
  · exact ha
  · exact hb

/-- A change of the other parts of the device. -/
theorem frame {e : Device} (h : Canonical d) (hr : e.regs = d.regs := by rfl) (hm : e.mem = d.mem := by rfl)
    (ht : e.tables = d.tables := by rfl) : Canonical e :=
  ⟨hr ▸ h.regs, hm ▸ h.mem, ht ▸ h.tables⟩

theorem each {α : Type} {l : List α} {f : α → Device → Device} (h : Canonical d) (hf : ∀ x e, Canonical e → Canonical (f x e)) :
    Canonical (d.each l f) := each_inv hf l d h

/-! One lemma per function of the device. -/

theorem withSt (h : Canonical d) {v : DevState} : Canonical (d.withSt v) := h.frame
theorem withHiLatch (h : Canonical d) {v : List (Nat × Option Word)} : Canonical (d.withHiLatch v) := h.frame
theorem withLoHold (h : Canonical d) {v : List (Nat × Option Word)} : Canonical (d.withLoHold v) := h.frame
theorem withRdata (h : Canonical d) {v : List Byte} : Canonical (d.withRdata v) := h.frame
theorem withToken (h : Canonical d) {v : Option Side} : Canonical (d.withToken v) := h.frame
theorem modNorth (h : Canonical d) {f : QuarterS → QuarterS} : Canonical (d.modNorth f) := h.frame
theorem modSouth (h : Canonical d) {f : QuarterS → QuarterS} : Canonical (d.modSouth f) := h.frame
theorem withTransfer (h : Canonical d) {v : Option Transfer} : Canonical (d.withTransfer v) := h.frame
theorem withPlanned (h : Canonical d) {v : Option Planned} : Canonical (d.withPlanned v) := h.frame
theorem withTokenAt (h : Canonical d) {v : Nat} : Canonical (d.withTokenAt v) := h.frame
theorem modHost (h : Canonical d) {f : HostIf → HostIf} : Canonical (d.modHost f) := h.frame
theorem modLedger (h : Canonical d) {f : LedgerS → LedgerS} : Canonical (d.modLedger f) := h.frame
theorem modKerb (h : Canonical d) {f : KerbS → KerbS} : Canonical (d.modKerb f) := h.frame
theorem modDlv (h : Canonical d) {f : DeliveryS → DeliveryS} : Canonical (d.modDlv f) := h.frame
theorem modTml (h : Canonical d) {f : TimelineS → TimelineS} : Canonical (d.modTml f) := h.frame
theorem withSup (h : Canonical d) {v : List (Nat × RuleS)} : Canonical (d.withSup v) := h.frame
theorem modPs (h : Canonical d) {f : StoreS → StoreS} : Canonical (d.modPs f) := h.frame
theorem modFlash (h : Canonical d) {f : Flash → Flash} : Canonical (d.modFlash f) := h.frame
theorem modBoot (h : Canonical d) {f : BootS → BootS} : Canonical (d.modBoot f) := h.frame
theorem modClk (h : Canonical d) {f : ClockS → ClockS} : Canonical (d.modClk f) := h.frame
theorem modPwr (h : Canonical d) {f : PowerS → PowerS} : Canonical (d.modPwr f) := h.frame
theorem modThm (h : Canonical d) {f : ThermS → ThermS} : Canonical (d.modThm f) := h.frame
theorem modCns (h : Canonical d) {f : CnsS → CnsS} : Canonical (d.modCns f) := h.frame
theorem modBmo (h : Canonical d) {f : BeamS → BeamS} : Canonical (d.modBmo f) := h.frame
theorem withSynth (h : Canonical d) {v : List (Nat × SynthS)} : Canonical (d.withSynth v) := h.frame
theorem withRef (h : Canonical d) {v : List (Nat × RefS)} : Canonical (d.withRef v) := h.frame
theorem withPort (h : Canonical d) {v : List (Nat × PortS)} : Canonical (d.withPort v) := h.frame
theorem modRgl (h : Canonical d) {f : RegulatorS → RegulatorS} : Canonical (d.modRgl f) := h.frame
theorem modMot (h : Canonical d) {f : MotorS → MotorS} : Canonical (d.modMot f) := h.frame
theorem modAxs (h : Canonical d) {f : AxesS → AxesS} : Canonical (d.modAxs f) := h.frame
theorem withParams (h : Canonical d) {v : List (Nat × Word)} : Canonical (d.withParams v) := h.frame
theorem modArc (h : Canonical d) {f : CodecS → CodecS} : Canonical (d.modArc f) := h.frame
theorem withDma (h : Canonical d) {v : List (Nat × ChanS)} : Canonical (d.withDma v) := h.frame
theorem withFrees (h : Canonical d) {v : Nat} : Canonical (d.withFrees v) := h.frame
theorem withSramCe (h : Canonical d) {v : Nat} : Canonical (d.withSramCe v) := h.frame
theorem tick (h : Canonical d) {t : Nat} : Canonical (d.tick t) := h.frame

theorem setReg (h : Canonical d) {a : Nat} {v : Word} : Canonical (d.setReg a v) :=
  ⟨swf_sput h.regs a v, h.mem, h.tables⟩

theorem setNat (h : Canonical d) {a v : Nat} : Canonical (d.setNat a v) := h.setReg
theorem setFld (h : Canonical d) {a : Nat} {f : Fld} {v : Nat} : Canonical (d.setFld a f v) := h.setReg
theorem setFlag (h : Canonical d) {a : Nat} {f : Fld} {b : Bool} : Canonical (d.setFlag a f b) := h.setFld
theorem addSat (h : Canonical d) {a : Nat} {f : Fld} {n : Nat} : Canonical (d.addSat a f n) := h.setFld
theorem count (h : Canonical d) {a : Nat} {f : Fld} : Canonical (d.count a f) := h.addSat
theorem maxFld (h : Canonical d) {a : Nat} {f : Fld} {v : Nat} : Canonical (d.maxFld a f v) := h.setFld
theorem setNat64 (h : Canonical d) {lo v : Nat} : Canonical (d.setNat64 lo v) := h.setNat.setNat

theorem setByte (h : Canonical d) {a : Nat} {b : Byte} : Canonical (d.setByte a b) :=
  ⟨h.regs, swf_sput h.mem a b, h.tables⟩

theorem setBytes {l : List Byte} : ∀ {d : Device} (_ : Canonical d) {a : Nat}, Canonical (d.setBytes a l) := by
  induction l with
  | nil => intro d h a; exact h
  | cons b r ih => intro d h a; exact ih h.setByte

theorem scramble (h : Canonical d) {a n : Nat} : Canonical (d.scramble a n) :=
  (h.setBytes (a := a) (l := (List.range n).map fun i => Config.freeByte d.frees (a + i))).frame

theorem setEntry (h : Canonical d) {code inst idx : Nat} {b : List Byte} : Canonical (d.setEntry code inst idx b) :=
  ⟨h.regs, h.mem, swf_sput h.tables _ b⟩

theorem answer (h : Canonical d) {r : Resp} {w : Word} : Canonical (d.answer r w) := h.frame
theorem reply (h : Canonical d) {r : Resp} : Canonical (d.reply r) := h.answer

theorem setQ (h : Canonical d) {q : Side} {v : QuarterS} : Canonical (d.setQ q v) := by
  cases q
  · exact h.frame
  · exact h.frame

-- FAILED Sys2Proof.Machine.Device.each

theorem setPort (h : Canonical d) {q : Side} {s : Nat} {v : PortS} : Canonical (d.setPort q s v) := h.withPort
theorem setLine (h : Canonical d) {q : Side} {s : Nat} {v : LineS} : Canonical (d.setLine q s v) := h.modBmo
theorem setEn (h : Canonical d) {q : Side} {s n : Nat} : Canonical (d.setEn q s n) := h.setFld
theorem sendBlocks (h : Canonical d) {q : Side} {s : Nat} {l : List Block} : Canonical (d.sendBlocks q s l) := h.setPort

theorem sendMessage (h : Canonical d) {q : Side} {s msg : Nat} {payload : List Byte} :
    Canonical (d.sendMessage q s msg payload) :=
  h.sendBlocks

theorem hostRead (h : Canonical d) {r : Nat} : Canonical (d.hostRead r) := h.modHost

theorem postedWrite (h : Canonical d) {a : Nat} {l : List Byte} {event : Bool} : Canonical (d.postedWrite a l event) :=
  h.modHost.setBytes

theorem unsend {l : List Posted} : ∀ {d : Device} (_ : Canonical d) {n : Nat}, Canonical (d.unsend l n) := by
  induction l with
  | nil => intro d h n; unfold Device.unsend; exact h
  | cons x r ih =>
    intro d h n
    cases n with
    | zero => exact h
    | succ n => exact ih h.setBytes

theorem sendIrq (h : Canonical d) {v : Nat} : Canonical (d.sendIrq v) := ite h (ite h.modHost h.modHost)
theorem announce (h : Canonical d) {e : Event} : Canonical (d.announce e) := ite h.sendIrq (ite h.modHost.sendIrq h.modHost)
theorem toRing (h : Canonical d) {e : Event} : Canonical (d.toRing e) := h.modHost.postedWrite.setNat.announce
theorem loseEvents (h : Canonical d) {n : Nat} : Canonical (d.loseEvents n) := h.addSat.modHost
theorem loseEvent (h : Canonical d) : Canonical d.loseEvent := h.loseEvents

theorem place (h : Canonical d) {e : Event} : Canonical (d.place e) := by
  unfold Device.place
  split
  · exact h.toRing
  · split
    · exact h.modHost
    · split
      · split
        · exact h.loseEvent.modHost
        · exact h.loseEvent
      · exact h.loseEvent

theorem post (h : Canonical d) {typ : Nat} {nmi : Bool} {code wsn data : Nat} : Canonical (d.post typ nmi code wsn data) :=
  h.modHost.place

theorem drain {n : Nat} : ∀ {d : Device} (_ : Canonical d), Canonical (d.drain n) := by
  induction n with
  | zero => intro d h; exact h
  | succ n ih =>
    intro d h
    unfold Device.drain
    split
    · exact h
    · exact ite (ih h.modHost.toRing) h

theorem overflow (h : Canonical d) : Canonical d.overflow := ite h h.modHost
theorem drainAll (h : Canonical d) : Canonical d.drainAll := h.drain.overflow.drain
theorem setSticky (h : Canonical d) {b : Nat} : Canonical (d.setSticky b) := h.setReg

theorem journal (h : Canonical d) {b origin detail detail2 : Nat} {kerb nmi yield : Bool} :
    Canonical (d.journal b origin detail detail2 kerb nmi yield) := by
  unfold Device.journal
  exact h.modLedger

theorem ledgerFlags (h : Canonical d) {b : Nat} : Canonical (d.ledgerFlags b) :=
  ite h.setFlag.setFlag (ite h.setFlag (ite h.setFlag (ite h (ite h.setFlag h))))

theorem ledgerCount (h : Canonical d) {b : Nat} : Canonical (d.ledgerCount b) := by
  unfold Device.ledgerCount
  exact h.count.modLedger

theorem ledgerLast (h : Canonical d) {b origin detail detail2 : Nat} : Canonical (d.ledgerLast b origin detail detail2) :=
  h.setSticky.count.journal.ledgerFlags.post

theorem ledgerBase (h : Canonical d) {b origin detail detail2 : Nat} : Canonical (d.ledgerBase b origin detail detail2) := by
  unfold Device.ledgerBase
  extract_lets d1
  have h1 : Canonical d1 := h.ledgerCount
  exact ite h1.ledgerLast h1

theorem setSt (h : Canonical d) {n : DevState} : Canonical (d.setSt n) := ite h h.withSt.post

theorem sheetJournal (h : Canonical d) {kind wsn cause stations : Nat} {reprint duplex : Bool} {handle : Nat} :
    Canonical (d.sheetJournal kind wsn cause stations reprint duplex handle) := by
  unfold Device.sheetJournal
  exact h.modDlv

theorem setInst (h : Canonical d) {n : Nat} {i : Option Instance} : Canonical (d.setInst n i) := h.modTml
theorem mapInsts (h : Canonical d) {f : Nat → Instance → Instance} : Canonical (d.mapInsts f) := h.modTml
theorem mapPages (h : Canonical d) {f : Page → Page} : Canonical (d.mapPages f) := h.modDlv
theorem freePage (h : Canonical d) {p : Page} : Canonical (d.freePage p) := h.setFld
theorem fixHorizon (h : Canonical d) : Canonical d.fixHorizon := ite h.modDlv h
theorem settle (h : Canonical d) : Canonical d.settle := ite h.setSt h
theorem enterDraining (h : Canonical d) : Canonical d.enterDraining := ite h.setSt.settle h

theorem withdrawFrom (h : Canonical d) {p : Page} : Canonical (d.withdrawFrom p) :=
  enterDraining (post (modDlv (each h.sheetJournal (fun _ _ h => h.freePage))))

theorem againFrom (h : Canonical d) {w : Nat} : Canonical (d.againFrom w) := by unfold Device.againFrom; exact h.mapPages.modDlv
theorem markFrom (h : Canonical d) {n w cause : Nat} {divert : Bool} : Canonical (d.markFrom n w cause divert) := h.mapInsts

theorem sheetDefective (h : Canonical d) {n cause : Nat} : Canonical (d.sheetDefective n cause) := by
  unfold Device.sheetDefective
  split
  · exact h
  · split
    · exact h
    · split
      · exact h.setInst
      · split
        · exact h.markFrom.enterDraining
        · extract_lets d1 d2
          have h1 : Canonical d1 := h.markFrom
          have h2 : Canonical d2 := h1.againFrom
          split
          · exact h1
          · exact ite h1.withdrawFrom (ite h2.mapPages h2)

theorem stationsDefective (h : Canonical d) {mask cause : Nat} : Canonical (d.stationsDefective mask cause) :=
  each h fun _ _ h => h.sheetDefective

theorem strand (h : Canonical d) : Canonical d.strand := by
  unfold Device.strand
  exact modDlv (modTml (mapPages (each h (fun _ _ h => h.sheetJournal.post))))

theorem drives (h : Canonical d) {key rank : Nat} {f : Device → Device} (hf : ∀ e, Canonical e → Canonical (f e)) :
    Canonical (d.drives key rank f) := by
  unfold Device.drives
  exact ite h (hf _ h.modTml)

theorem setAxis (h : Canonical d) {q : Side} {a : Nat} {v : AxisS} : Canonical (d.setAxis q a v) := h.modAxs
theorem setSlot (h : Canonical d) {q : Side} {n : Nat} {v : SlotS} : Canonical (d.setSlot q n v) := h.modRgl
theorem setPoly (h : Canonical d) {q : Side} {p : Nat} {v : PolyS} : Canonical (d.setPoly q p v) := h.modMot
theorem setPmsm (h : Canonical d) {q : Side} {n : Nat} {v : PmsmS} : Canonical (d.setPmsm q n v) := h.modMot

theorem putOut (h : Canonical d) {q : Side} {n : Nat} {y : Int} : Canonical (d.putOut q n y) := by
  unfold Device.putOut
  extract_lets _ _ d1
  have h1 : Canonical d1 := h.setReg
  split
  · exact h1.modMot
  · exact h1.setReg
  · exact h1.setPmsm
  · exact h1.setPoly
  · exact h1

theorem setFallback (h : Canonical d) {q : Side} {n : Nat} {b : Bool} {cause : Nat} : Canonical (d.setFallback q n b cause) :=
  h.setFlag.setFld.setFld

theorem safeSlot (h : Canonical d) {q : Side} {n : Nat} : Canonical (d.safeSlot q n) :=
  ite (putOut (setSlot (ite h (ite h.setFallback.ledgerBase h.setFallback)))) h

theorem axisRest (h : Canonical d) {q : Side} {a pos : Nat} : Canonical (d.axisRest q a pos) :=
  h.setReg.setReg.setReg.setFlag.setFlag.setFlag.setFlag.setAxis

theorem safePoly (h : Canonical d) {q : Side} {p : Nat} : Canonical (d.safePoly q p) := h.setFld.setFlag.setReg.setPoly
theorem safePmsm (h : Canonical d) {q : Side} {n : Nat} : Canonical (d.safePmsm q n) := h.setFlag.setFlag.setPmsm

theorem safeQuarter (h : Canonical d) {q : Side} : Canonical (d.safeQuarter q) := by
  unfold Device.safeQuarter
  extract_lets d1 d2 d3 d4
  have h1 : Canonical d1 := each h fun _ _ h => h.safeSlot
  have h2 : Canonical d2 := each h1 fun _ _ h => h.safePoly
  have h3 : Canonical d3 := each h2 fun _ _ h => h.safePmsm
  have h4 : Canonical d4 := each h3 fun _ _ h => h.axisRest
  exact h4.modMot

theorem safeHooks (h : Canonical d) : Canonical d.safeHooks := modBmo (each h (fun _ _ h => h.safeQuarter))
theorem domBusy (h : Canonical d) {n : Nat} {b : Bool} : Canonical (d.domBusy n b) := h.setFld
theorem domOn (h : Canonical d) {n : Nat} {b : Bool} : Canonical (d.domOn n b) := h.setFld

theorem cycleRegs (h : Canonical d) {q : Side} : Canonical (d.withRegs (d.regs.filterMap (cycleReg q))) :=
  ⟨swf_filterMap h.regs fun _ _ => cycleReg_listed, h.mem, h.tables⟩

theorem quarterReset (h : Canonical d) {q : Side} : Canonical (d.quarterReset q) := by
  unfold Device.quarterReset
  extract_lets d1 d2 d3 d4 d5 d6 d7 d8 d9
  have h1 : Canonical d1 := h.withSup
  have h2 : Canonical d2 := h1.withSynth
  have h3 : Canonical d3 := h2.withRef
  have h4 : Canonical d4 := h3.withPort
  have h5 : Canonical d5 := h4.withDma
  have h6 : Canonical d6 := h5.modBmo
  have h7 : Canonical d7 := h6.modRgl
  have h8 : Canonical d8 := h7.modMot
  have h9 : Canonical d9 := h8.modAxs
  exact h9.cycleRegs

theorem setLive (h : Canonical d) {t : Nat} {b : Bool} : Canonical (d.setLive t b) := h.setFld
theorem latchCause (h : Canonical d) {t : Nat} : Canonical (d.latchCause t) := h.setFld
theorem stopTransmitting (h : Canonical d) : Canonical d.stopTransmitting := h.modNorth.modSouth.withTransfer.setReg

theorem enterSafe (h : Canonical d) {t : Nat} : Canonical (d.enterSafe t) := by
  unfold Device.enterSafe
  extract_lets d1 d2 d3
  have h1 : Canonical d1 := h.setFlag.setFld
  have h2 : Canonical d2 := h1.setNat64
  have h3 : Canonical d3 := ite h2.setFlag h2
  exact h3.setSt.strand.stopTransmitting.safeHooks

theorem kerbTrigger (h : Canonical d) {t origin detail : Nat} : Canonical (d.kerbTrigger t origin detail) := by
  unfold Device.kerbTrigger
  extract_lets d1 d2
  have h1 : Canonical d1 := h.modKerb
  have h2 : Canonical d2 := h1.ledgerBase.latchCause
  split
  · exact h1
  · exact h1.setSticky.modKerb
  · exact h2.setFlag.modKerb
  · exact h1.ledgerBase.latchCause
  · exact h1.ledgerBase.enterSafe.latchCause

theorem ledgerEvent (h : Canonical d) {b origin detail detail2 : Nat} : Canonical (d.ledgerEvent b origin detail detail2) := by
  unfold Device.ledgerEvent
  extract_lets d1
  have h1 : Canonical d1 := h.ledgerBase
  exact ite h1.kerbTrigger h1

theorem setRole (h : Canonical d) {q : Side} {r : Role} : Canonical (d.setRole q r) := h.setQ
theorem setTransmits (h : Canonical d) {q : Side} {b : Bool} : Canonical (d.setTransmits q b) := h.setQ
theorem enterTesting (h : Canonical d) {q : Side} : Canonical (d.enterTesting q) := h.setQ.setFld.setFlag.quarterReset.domOn.domOn
theorem testIfYielded (h : Canonical d) {q : Side} : Canonical (d.testIfYielded q) := ite h.setFld.enterTesting h

theorem endOverlap (h : Canonical d) : Canonical d.endOverlap := by
  unfold Device.endOverlap
  split
  · exact h
  · exact h.setFld.withTransfer.setTransmits.testIfYielded

theorem holdPanic (h : Canonical d) {q : Side} {mask : Nat} : Canonical (d.holdPanic q mask) :=
  each h.setFld fun _ _ h => h.count

theorem rejoin (h : Canonical d) {q : Side} {mask : Nat} : Canonical (d.rejoin q mask) := each h fun _ _ h => h.setLine
theorem abortPacket (h : Canonical d) {q : Side} {s : Nat} : Canonical (d.abortPacket q s) := h.count.sendBlocks

theorem passToken (h : Canonical d) {old : Side} {kind : Nat} : Canonical (d.passToken old kind) := by
  unfold Device.passToken
  extract_lets _ _ _ d1 d2 d3 d4 d5 d6
  have h1 : Canonical d1 := h.withToken.withTokenAt.withPlanned
  have h2 : Canonical d2 := h1.setRole.setTransmits
  have h3 : Canonical d3 := h2.setFld.setFld
  have h4 : Canonical d4 := h3.setFld.setFld
  have h5 : Canonical d5 := ite (setTransmits (stationsDefective (each h4 (fun _ _ h => h.abortPacket)))) h4
  have h6 : Canonical d6 := h5.rejoin.withTransfer
  exact ite h6.endOverlap (ite h6.testIfYielded.holdPanic h6.holdPanic)

theorem noteYield (h : Canonical d) {q : Side} {n cls : Nat} {holder : Bool} : Canonical (d.noteYield q n cls holder) := by
  unfold Device.noteYield
  extract_lets _ d1 d2 d3 _ d4 d5 _ _ d6 d7 d8
  have h1 : Canonical d1 := h.setFld.setFld
  have h2 : Canonical d2 := h1.setNat64
  have h3 : Canonical d3 := h2.count
  have h4 : Canonical d4 := h3.setQ
  have h5 : Canonical d5 := h4.ledgerCount
  have h6 : Canonical d6 := h5.journal
  have h7 : Canonical d7 := ite h6.setSticky.count.ledgerFlags.post h6
  have h8 : Canonical d8 := ite h7.kerbTrigger h7
  exact ite h8.post h8

theorem doubleFailure (h : Canonical d) {q : Side} {cls : Nat} : Canonical (d.doubleFailure q cls) :=
  h.withToken.withPlanned.setFlag.setLive.kerbTrigger.ledgerBase.post

theorem goYielded (h : Canonical d) {q : Side} : Canonical (d.goYielded q) := h.setQ

theorem yield (h : Canonical d) {q : Side} {n : Nat} {hard : Bool} : Canonical (d.yield q n hard) := by
  unfold Device.yield
  extract_lets _ d1
  have h1 : Canonical d1 := h.noteYield.goYielded
  exact ite h1.passToken h1.doubleFailure

theorem yieldOther (h : Canonical d) {q : Side} {n : Nat} : Canonical (d.yieldOther q n) := h.noteYield.goYielded.testIfYielded

theorem testFailed (h : Canonical d) {q : Side} {step : Nat} : Canonical (d.testFailed q step) :=
  h.setFld.setFlag.setQ.ledgerEvent

theorem hardInOverlap (h : Canonical d) {q : Side} : Canonical (d.hardInOverlap q) := by
  unfold Device.hardInOverlap
  split
  · exact ite (withTransfer (setTransmits (each h (fun _ _ h => h.sheetDefective)))) h
  · exact h

theorem checkEvent (h : Canonical d) {q : Side} {n : Nat} {hard : Bool} : Canonical (d.checkEvent q n hard) := by
  unfold Device.checkEvent
  split
  · exact h
  · extract_lets _ _ d1 _ d2
    have h1 : Canonical d1 := h.setQ
    have h2 : Canonical d2 := h1.setFld
    split
    · split
      · exact h2.yield
      · exact h2.yieldOther
      · exact h2.yieldOther
      · exact h2.testFailed
      · exact ite h2.hardInOverlap h2
    · exact h1

theorem plannedTransfer (h : Canonical d) {new : Side} {handover : Bool} : Canonical (d.plannedTransfer new handover) :=
  h.count.setRole.post.passToken

theorem plannedNow (h : Canonical d) : Canonical d.plannedNow := by
  unfold Device.plannedNow
  split
  · exact ite h h.plannedTransfer
  · exact h

theorem slowDown (h : Canonical d) : Canonical d.slowDown := by
  unfold Device.slowDown
  extract_lets _ _ _ d1 d2 d3 d4
  have h1 : Canonical d1 := h.setFlag
  have h2 : Canonical d2 := h1.setFld
  have h3 : Canonical d3 := h2.setFlag.setFlag
  have h4 : Canonical d4 := h1.setFlag.setFlag.setFlag
  exact ite (ite (ite h2 h2.post) h3.modThm.post) (ite h4.setFld.post h1)

theorem holdWrites (h : Canonical d) : Canonical d.holdWrites := by
  unfold Device.holdWrites
  extract_lets d1
  have h1 : Canonical d1 := h.setFlag
  split
  · exact ite h1.setFld h1
  · exact h1

theorem writeHold (h : Canonical d) {z : Nat} {t : Option Int} {failed : Bool} : Canonical (d.writeHold z t failed) := by
  unfold Device.writeHold
  split
  · exact h
  · split
    · exact ite h.holdWrites h
    · exact ite h.holdWrites (ite h.setFlag h)

theorem setLevel (h : Canonical d) {z n : Nat} : Canonical (d.setLevel z n) := by
  unfold Device.setLevel
  extract_lets _ d1 d2 d3 d4
  have h1 : Canonical d1 := h.setFld
  have h2 : Canonical d2 := ite h1.ledgerEvent h1
  have h3 : Canonical d3 := ite h2.ledgerEvent h2
  have h4 : Canonical d4 := h3.slowDown
  exact ite (ite h4.setFlag.ledgerEvent.setLive.kerbTrigger h4) h4

theorem thermalLive (h : Canonical d) : Canonical d.thermalLive := ite h h.setLive

theorem addReading (h : Canonical d) {z : Nat} {t : Int} : Canonical (d.addReading z t) := by
  unfold Device.addReading
  exact h.modThm

theorem evalZone (h : Canonical d) {z : Nat} : Canonical (d.evalZone z) := by
  unfold Device.evalZone
  extract_lets _ d1
  have h1 : Canonical d1 := h.setFlag.writeHold
  split
  · exact h
  · split
    · exact h1.setLevel.thermalLive
    · split
      · exact h
      · extract_lets d2 d3 d4 d5
        have h2 : Canonical d2 := h.setFlag.setFld
        have h3 : Canonical d3 := h2.addReading
        have h4 : Canonical d4 := ite h3.setFld h3
        have h5 : Canonical d5 := h4.writeHold
        exact h5.setLevel.thermalLive

theorem evalStoreZone (h : Canonical d) : Canonical d.evalStoreZone := h.setLevel
theorem sensorFail (h : Canonical d) {k : Nat} {b : Bool} : Canonical (d.sensorFail k b) := ite h.setReg h.setReg
theorem setSensor (h : Canonical d) {k : Nat} {x : SensorS} : Canonical (d.setSensor k x) := h.modThm
theorem evalZonesOf (h : Canonical d) {k : Nat} : Canonical (d.evalZonesOf k) := each h fun _ _ h => h.evalZone

theorem breakSensor (h : Canonical d) {k : Nat} : Canonical (d.breakSensor k) := by
  unfold Device.breakSensor
  extract_lets _ d1
  have h1 : Canonical d1 := h.setSensor
  exact ite h1 h1.sensorFail.ledgerEvent.evalZonesOf

theorem sampleSensor (h : Canonical d) {k : Nat} {r : Int} {valid : Bool} : Canonical (d.sampleSensor k r valid) := by
  unfold Device.sampleSensor
  split
  · exact h
  · extract_lets _ d1 d2
    have h1 : Canonical d1 := h.setSensor.sensorFail
    have h2 : Canonical d2 := h.setSensor
    split
    · exact h.breakSensor
    · split
      · split
        · exact h.setSensor
        · exact ite h1.setFld.evalZonesOf h.setSensor
      · exact h2.setFld.evalZonesOf

theorem evalRise (h : Canonical d) {z : Nat} {m : Int} : Canonical (d.evalRise z m) := by
  unfold Device.evalRise
  extract_lets _ _ d1
  have h1 : Canonical d1 := h.modThm
  split
  · exact h
  · split
    · exact h1
    · extract_lets _ d2 _ _ _ d3 _ d4
      have h2 : Canonical d2 := h1.setFld
      have h3 : Canonical d3 := h2.modThm
      have h4 : Canonical d4 := ite h3.setFlag (ite h3.setFlag h3)
      exact h4.evalZone

theorem riseOf (h : Canonical d) {z : Nat} : Canonical (d.riseOf z) := ite h h.modThm.evalRise
theorem stoppedClear (h : Canonical d) : Canonical d.stoppedClear := ite h h.setFlag
theorem setUnit (h : Canonical d) {s : Nat} {u : UnitS} : Canonical (d.setUnit s u) := h.modCns

theorem resetEmitters (h : Canonical d) {s : Nat} {block : List Byte} : Canonical (d.resetEmitters s block) :=
  each (each h (fun _ _ h => h.setReg.setReg.setReg.setReg.setReg.setReg.setReg.setFlag.setFlag)) fun _ _ h => h.modBmo

theorem measStop (h : Canonical d) {s : Nat} : Canonical (d.measStop s) := each h.modBmo fun _ _ h => h.setFlag
theorem unitFault (h : Canonical d) {s : Nat} {f : Fld} : Canonical (d.unitFault s f) := h.setFlag.ledgerEvent

theorem detectUnit (h : Canonical d) {s : Nat} {a : UnitAnswer} {challenge : List Byte} :
    Canonical (d.detectUnit s a challenge) := by
  unfold Device.detectUnit
  extract_lets _ _ _ d1 d2 d3 d4 d5
  have h1 : Canonical d1 := h.setReg
  have h2 : Canonical d2 := h1.setFlag
  have h3 : Canonical d3 := h2.setNat64.setNat64
  have h4 : Canonical d4 := h3.setNat.setUnit
  have h5 : Canonical d5 := h4.modCns
  exact ite h5.unitFault (ite h5.unitFault h5.measStop.resetEmitters.setUnit)

theorem pollUnit (h : Canonical d) {s : Nat} {a : Option UnitAnswer} {challenge : List Byte} :
    Canonical (d.pollUnit s a challenge) := by
  unfold Device.pollUnit
  split
  · exact ite h h.setFlag.setFlag.unitFault
  · exact ite h h.detectUnit

theorem pollUnits (h : Canonical d) {units : List (Option UnitAnswer)} {challenge : List Byte} :
    Canonical (d.pollUnits units challenge) :=
  ite (each h (fun _ _ h => h.pollUnit)) h

theorem writeCount (h : Canonical d) {s : Nat} : Canonical (d.writeCount s) := by
  unfold Device.writeCount
  extract_lets _ _ _ _ d1
  have h1 : Canonical d1 := h.setFlag
  exact ite h1.setUnit h1.setUnit

theorem writeback (h : Canonical d) {s : Nat} {power : Bool} : Canonical (d.writeback s power) :=
  ite h (ite (ite h.setFlag.setFlag h.setFlag) h.writeCount)

theorem writebackAll (h : Canonical d) : Canonical d.writebackAll := each h fun _ _ h => h.writeback
theorem writebackHeld (h : Canonical d) : Canonical d.writebackHeld := each h fun _ _ h => h.writeback

theorem countBand (h : Canonical d) {s : Nat} : Canonical (d.countBand s) := by
  unfold Device.countBand
  split
  · exact h
  · extract_lets _ d1 _ d2 d3
    have h1 : Canonical d1 := h.setNat64
    have h2 : Canonical d2 := ite h1.setFlag.ledgerEvent h1
    have h3 : Canonical d3 := h2.setFlag
    exact ite h1 (ite (ite h3.enterDraining h3) h2)

theorem countSheet (h : Canonical d) {mask : Nat} : Canonical (d.countSheet mask) :=
  each h fun _ _ h => ite h.setUnit.writeback h.setUnit

theorem eolHeld (h : Canonical d) : Canonical d.eolHeld := by unfold Device.eolHeld; exact h.modCns
theorem setSynth (h : Canonical d) {q : Side} {s : Nat} {v : SynthS} : Canonical (d.setSynth q s v) := h.withSynth
theorem setPrint (h : Canonical d) {s : Nat} {p : Option PrintS} : Canonical (d.setPrint s p) := h.modBmo
theorem trainPort (h : Canonical d) {q : Side} {s : Nat} : Canonical (d.trainPort q s) := h.setFld.setPort

theorem scanOver (h : Canonical d) {q : Side} {s : Nat} : Canonical (d.scanOver q s) := by
  unfold Device.scanOver
  extract_lets _ d1
  have h1 : Canonical d1 := ite h.setFld h
  exact ite h1.setFld h1

theorem endPrint (h : Canonical d) {s : Nat} : Canonical (d.endPrint s) := by
  unfold Device.endPrint
  split
  · exact h
  · extract_lets d1 d2 d3
    have h1 : Canonical d1 := h.setPrint
    have h2 : Canonical d2 := by
      unfold d2
      split
      · exact h1.setInst
      · exact h1
    have h3 : Canonical d3 := h2.modBmo
    refine each ?_ ?_
    · exact h3
    · intro _ _ h
      extract_lets d4
      have h4 : Canonical d4 := h.scanOver
      exact ite h4.trainPort h4

theorem showSafe (h : Canonical d) {s : Nat} : Canonical (d.showSafe s) := setFld (each h (fun _ _ h => h.setFlag))
theorem nowSafe (h : Canonical d) {s : Nat} : Canonical (d.nowSafe s) := h.modBmo.endPrint.showSafe

theorem goSafe (h : Canonical d) {s cause : Nat} {head : Bool} : Canonical (d.goSafe s cause head) := by
  unfold Device.goSafe
  extract_lets d1 d2
  have h1 : Canonical d1 := h.stationsDefective
  have h2 : Canonical d2 := ite h1.modBmo h1.modBmo
  exact ite h2.modBmo h2.nowSafe

theorem stationsHeld (h : Canonical d) : Canonical d.stationsHeld := each h.modBmo fun _ _ h => h.showSafe
theorem paceStep (h : Canonical d) : Canonical d.paceStep := ite h h.setFlag.modPwr

theorem paceRequest (h : Canonical d) : Canonical d.paceRequest := by
  unfold Device.paceRequest
  extract_lets d1
  have h1 : Canonical d1 := h.setFld
  exact ite h1 h1.paceStep

theorem paceRaise (h : Canonical d) : Canonical d.paceRaise := ite h.paceRequest h
theorem paceDone (h : Canonical d) : Canonical d.paceDone := ite h.setFld.setFlag.paceStep h
theorem paceSettle (h : Canonical d) : Canonical d.paceSettle := ite h.paceDone h

theorem slowStage (h : Canonical d) {origin unit limit took : Nat} : Canonical (d.slowStage origin unit limit took) :=
  ite h.ledgerEvent h

theorem slowStages (h : Canonical d) {q : Side} {s : Nat} {b : BandRec} {dots : Nat} {times : List Nat} {port : Nat} :
    Canonical (d.slowStages q s b dots times port) :=
  slowStage (each h (fun _ _ h => h.slowStage))

theorem chargeIngest (h : Canonical d) {n : Nat} : Canonical (d.chargeIngest n) := h.modPs
theorem chargeStaging (h : Canonical d) {n : Nat} : Canonical (d.chargeStaging n) := h.modPs
theorem retrainHeld (h : Canonical d) : Canonical d.retrainHeld := ite h.modPs h
theorem storeUe (h : Canonical d) {addr : Nat} : Canonical (d.storeUe addr) := h.count.setNat64.ledgerEvent.reply

theorem realTimeUe (h : Canonical d) {q : Side} {s sub : Nat} : Canonical (d.realTimeUe q s sub) :=
  ite h.setLine.stationsDefective h

theorem activateNow (h : Canonical d) {bank r : Nat} : Canonical (d.activateNow bank r) := by
  unfold Device.activateNow
  extract_lets _ d1
  have h1 : Canonical d1 := h.modPs
  exact ite h1.setNat h1

theorem srBegin (h : Canonical d) : Canonical d.srBegin := ite h h.modPs
theorem storeClock (h : Canonical d) {closed : Bool} : Canonical (d.storeClock closed) := h.setFld
theorem finishWaiting (h : Canonical d) : Canonical d.finishWaiting := each h fun _ _ h => each h fun _ _ h => h.activateNow
theorem srFinish (h : Canonical d) : Canonical d.srFinish := h.finishWaiting.storeClock.setFlag.modPs
theorem srEnter (h : Canonical d) : Canonical d.srEnter := ite h.srBegin h.setFlag
theorem srExit (h : Canonical d) : Canonical d.srExit := ite h.modPs (ite h.storeClock.modPs h)
theorem lock (h : Canonical d) : Canonical d.lock := h.setFlag
theorem bootFail (h : Canonical d) {step : Nat} : Canonical (d.bootFail step) := h.setFld.ledgerEvent.lock
theorem updateEnd (h : Canonical d) {err : Nat} : Canonical (d.updateEnd err) := h.modBoot.setFld.setFld.post

theorem updateHostError (h : Canonical d) : Canonical d.updateHostError := by
  unfold Device.updateHostError
  split
  · exact ite h.updateEnd h
  · exact h

theorem setChan (h : Canonical d) {e : Engine} {c : Nat} {v : ChanS} : Canonical (d.setChan e c v) := h.withDma
theorem dmaHalt (h : Canonical d) {e : Engine} {c err : Nat} : Canonical (d.dmaHalt e c err) := h.setFld.setFlag.setChan

theorem dmaStart (h : Canonical d) {e : Engine} {c : Nat} : Canonical (d.dmaStart e c) := by
  unfold Device.dmaStart
  extract_lets d1
  have h1 : Canonical d1 := h.setFld.setChan
  exact ite h1 h1.dmaHalt

theorem dmaEnd (h : Canonical d) {e : Engine} {c err : Nat} : Canonical (d.dmaEnd e c err) := by
  unfold Device.dmaEnd
  extract_lets _ d1 d2
  have h1 : Canonical d1 := h.dmaHalt
  have h2 : Canonical d2 := ite h1.setFlag h1
  exact ite h2.dmaStart h2

theorem dmaAbort (h : Canonical d) {e : Engine} {c : Nat} : Canonical (d.dmaAbort e c) := h.dmaEnd
theorem dmaHostError (h : Canonical d) : Canonical d.dmaHostError := each h fun _ _ h => h.dmaEnd

theorem dmaOn (h : Canonical d) {e : Engine} {c : Nat} {ctrl : Word} : Canonical (d.dmaOn e c ctrl) := by
  unfold Device.dmaOn
  split
  · exact h
  · extract_lets _ _ _ d1
    have h1 : Canonical d1 := h.setReg.setFlag
    exact ite h1.setChan (ite h1.setChan h1.dmaStart)

theorem dmaOff (h : Canonical d) {e : Engine} {c : Nat} : Canonical (d.dmaOff e c) := ite h h.setFlag.setChan

theorem dmaStopped (h : Canonical d) {e : Engine} {c : Nat} : Canonical (d.dmaStopped e c) := by
  unfold Device.dmaStopped
  extract_lets _ d1
  have h1 : Canonical d1 := h.setFlag.setChan
  exact ite h1.dmaStart h1

theorem writeBack (h : Canonical d) {r : Nat} : Canonical (d.writeBack r) := ite h h.postedWrite
theorem haltRing (h : Canonical d) {r cause : Nat} : Canonical (d.haltRing r cause) := h.setFlag.setFld.post

theorem putChain {blocks : List Nat} {l : List Byte} :
    ∀ {d : Device} (_ : Canonical d) {c : Nat}, Canonical (d.putChain blocks c l) := by
  induction l with
  | nil => intro d h c; exact h
  | cons b r ih => intro d h c; exact ih h.setByte

theorem putBand (h : Canonical d) {blocks : List Nat} {x : BandRec × Nat} : Canonical (d.putBand blocks x) :=
  each h fun _ _ h => h.putChain

theorem ingestWait (h : Canonical d) {b : Bool} : Canonical (d.ingestWait b) := h.setFlag.modPs
theorem waitBlocks (h : Canonical d) {n : Nat} : Canonical (d.waitBlocks n) := h.ingestWait.modPs
theorem setFree (h : Canonical d) {n : Nat} : Canonical (d.setFree n) := h.setFld
theorem setIngest (h : Canonical d) {l : List IngestS} : Canonical (d.setIngest l) := h.modHost
theorem setIngestAt (h : Canonical d) {i : Nat} {x : IngestS} : Canonical (d.setIngestAt i x) := h.setIngest
theorem dropChains (h : Canonical d) : Canonical d.dropChains := each h fun _ _ h => h.setFld.setFree.modArc

theorem endHead (h : Canonical d) {v : Nat} : Canonical (d.endHead v) := by
  unfold Device.endHead
  split
  · exact h
  · extract_lets _ _ d1 d2 _ d3
    have h1 : Canonical d1 := ite (each h.setIngest (fun _ _ h => h.freePage)) h.setIngest
    have h2 : Canonical d2 := h1.dropChains.post
    have h3 : Canonical d3 := h2.modHost
    exact ite h3.setNat.writeBack.ingestWait.haltRing h2

theorem settleIngest {n : Nat} : ∀ {d : Device} (_ : Canonical d), Canonical (d.settleIngest n) := by
  induction n with
  | zero => intro d h; exact h
  | succ n ih =>
    intro d h
    unfold Device.settleIngest
    split
    · split
      · exact ite h (ih h.endHead)
      · exact h
    · exact h

theorem ingestFail (h : Canonical d) {i v : Nat} : Canonical (d.ingestFail i v) := by
  unfold Device.ingestFail
  split
  · exact ite h.setIngestAt.dropChains.settleIngest h
  · exact h

theorem growChain (h : Canonical d) {p p' : Page} {s n : Nat} {e : Device} (hg : d.growChain p s n = some (e, p')) : Canonical e := by
  unfold Device.growChain at hg
  extract_lets chain more at hg
  split at hg
  · cases hg; exact h.setFree
  · cases hg

theorem newHandle (h : Canonical d) {e : Device} {n : Nat} (hg : d.newHandle = some (e, n)) : Canonical e := by
  unfold Device.newHandle at hg
  split at hg
  · cases hg
  · cases hg; exact h.modPs

theorem ingestBegin (h : Canonical d) {i : Nat} : Canonical (d.ingestBegin i) := by
  unfold Device.ingestBegin
  split
  · exact h
  · split
    · exact h
    · split
      · exact h.ingestFail
      · split
        · rename_i hn
          exact (newHandle h hn).setIngestAt
        · exact h.ingestWait

theorem newPage (h : Canonical d) {slot : Nat} {x : FetchedSlot} : Canonical (d.newPage slot x) :=
  h.setIngest.settleIngest.ingestBegin

theorem fetchPage (h : Canonical d) {slot : Nat} {x : FetchedSlot} : Canonical (d.fetchPage slot x) := by
  unfold Device.fetchPage
  extract_lets
  split
  · exact ite h.setIngestAt.settleIngest.ingestBegin h.newPage
  · exact h.newPage

theorem storeBand (h : Canonical d) {i s b : Nat} : Canonical (d.storeBand i s b) := by
  fun_cases Device.storeBand d i s b with
  | case1 => exact h
  | case2 x hx p n e p' hg => exact (growChain h hg).setIngestAt
  | case3 => exact h.waitBlocks

theorem placeReady (h : Canonical d) {i : Nat} : Canonical (d.placeReady i) := by
  unfold Device.placeReady
  split
  · exact h
  · exact ite (setIngestAt (each h (fun _ _ h => each h (fun _ _ h => h.putBand)))) h

theorem bandRead (h : Canonical d) {x : BandStored} {raw : Bool} : Canonical (d.bandRead x raw) := by
  unfold Device.bandRead
  split
  · exact h
  · split
    · exact h
    · split
      · exact h
      · split
        · exact h.setFld
        · extract_lets _ _ d1
          have h1 : Canonical d1 := h.setIngestAt
          exact ite h.ingestFail (ite h1 h1.chargeIngest.storeBand.placeReady)

theorem setEmClass (h : Canonical d) {s e c : Nat} : Canonical (d.setEmClass s e c) := each h fun _ _ h => h.setFld

theorem rotorLine (h : Canonical d) {q : Side} {s at_ phase dots : Nat} {res1200 : Bool} :
    Canonical (d.rotorLine q s at_ phase dots res1200) :=
  h.setSynth

theorem showClasses (h : Canonical d) {q : Side} {s : Nat} : Canonical (d.showClasses q s) := h.setFlag.setFlag

theorem propose (h : Canonical d) {s e : Nat} : Canonical (d.propose s e) := by
  unfold Device.propose
  refine each h fun q x h => ?_
  dsimp only
  split
  · exact h
  · exact h.setReg.setReg.setFld

theorem mapWrite (h : Canonical d) {s m : Nat} {v : Word} {wsn : Nat} : Canonical (d.mapWrite s m v wsn) :=
  ite h.modBmo (each h (fun _ _ h => h.setFlag))

theorem takeMaps (h : Canonical d) {s wsn : Nat} : Canonical (d.takeMaps s wsn) :=
  each h.modBmo fun _ _ h => each h fun _ _ h => h.setReg

theorem lineEnds (h : Canonical d) {q : Side} {s : Nat} : Canonical (d.lineEnds q s) := h.setLine

theorem dutyLine (h : Canonical d) {q : Side} {s : Nat} {side : PageSide} : Canonical (d.dutyLine q s side) := by
  unfold Device.dutyLine
  extract_lets _ _ _ _ _ _ _ _ _ _ d1 d2 d3 d4
  have h1 : Canonical d1 := h.setLine
  have h2 : Canonical d2 := h1.setFld.setFld
  have h3 : Canonical d3 := ite h2.setFlag h2
  have h4 : Canonical d4 := ite h3.setFlag h3
  exact ite h4.count h4

theorem firstLine (h : Canonical d) {s wsn : Nat} : Canonical (d.firstLine s wsn) :=
  each h.takeMaps fun _ _ h => h.setLine.showClasses

theorem stationOn (h : Canonical d) {q : Side} {s : Nat} : Canonical (d.stationOn q s) := by
  unfold Device.stationOn
  split
  · exact h
  · split
    · exact h.setFlag
    · split
      · extract_lets d1
        have h1 : Canonical d1 := h.setFlag.setLine
        exact ite h1.modKerb h1
      · exact h.setFlag

theorem beamStopped (h : Canonical d) {q : Side} {s : Nat} : Canonical (d.beamStopped q s) := by
  unfold Device.beamStopped
  extract_lets d1
  have h1 : Canonical d1 := h.setFlag.endPrint
  exact ite h1.setFlag.stationOn h1

theorem nextBand (h : Canonical d) {s : Nat} : Canonical (d.nextBand s) := by
  unfold Device.nextBand
  split
  · exact h
  · extract_lets _ _ d1 d2
    have h1 : Canonical d1 := ite h h.firstLine
    have h2 : Canonical d2 := h1.setPrint
    exact ite h.endPrint (ite h2 h2.countBand)

theorem joinLine (h : Canonical d) {q : Side} {s : Nat} : Canonical (d.joinLine q s) := ite h.setLine (ite h.setLine h)
theorem sendLine (h : Canonical d) {q : Side} {s n : Nat} : Canonical (d.sendLine q s n) := ite h.setNat.sendBlocks h

theorem beamLine (h : Canonical d) {q : Side} {s : Nat} {line : LineInfo} : Canonical (d.beamLine q s line) := by
  unfold Device.beamLine
  split
  · exact h
  · extract_lets _ d1 d2 d3 d4 d5 d6 _ d7 d8
    have h1 : Canonical d1 := by
      unfold d1
      split
      · exact h.slowStages
      · exact h
    have h2 : Canonical d2 := h1.lineEnds
    have h3 : Canonical d3 := ite h2.beamStopped h2
    have h4 : Canonical d4 := ite h3.nowSafe h3
    have h5 : Canonical d5 := ite h4.nextBand h4
    have h6 : Canonical d6 := h5.scanOver.joinLine
    have h7 : Canonical d7 := h6.setLine
    have h8 : Canonical d8 := h7.sendLine
    split
    · exact h8
    · exact h8.dutyLine

theorem stationOff (h : Canonical d) {q : Side} {s : Nat} : Canonical (d.stationOff q s) := by
  unfold Device.stationOff
  split
  · exact h
  · extract_lets d1 d2
    have h1 : Canonical d1 := h.setFlag
    have h2 : Canonical d2 := h1.modKerb
    exact ite (ite h2.stationsDefective.setFlag h2) h1

theorem measured (h : Canonical d) {s e v1 v2 : Nat} : Canonical (d.measured s e v1 v2) := by
  unfold Device.measured
  split
  · exact h
  · extract_lets _ _ _ _ _ _ _ _ _ _ d1 d2 _ d3 d4
    have h1 : Canonical d1 := h.modBmo.measStop
    have h2 : Canonical d2 := each h1 fun _ _ h => h.setFld
    have h3 : Canonical d3 := h2.setEmClass
    have h4 : Canonical d4 := ite h3.propose h3
    exact ite h2 (ite h4.ledgerEvent (ite h3.ledgerEvent h3))

theorem headTemp (h : Canonical d) {q : Side} {s : Nat} {temp : Int} : Canonical (d.headTemp q s temp) := by
  unfold Device.headTemp
  extract_lets _ _ _ _ d1
  have h1 : Canonical d1 := by
    unfold d1
    refine each ?_ ?_
    · exact h
    · intro _ _ h
      extract_lets d2 d3
      have h2 : Canonical d2 := h.setFld
      have h3 : Canonical d3 := h2.setFlag
      exact ite h3.setFlag.setFld (ite h3.setFlag.setFld h3)
  exact ite h1.goSafe.enterDraining h1

theorem setReject (h : Canonical d) {p : Page} {g : GateResult} : Canonical (d.setReject p g) :=
  h.setNat.setReg.setFld.setFld.setFld.setFld.setFld.setFld

theorem gridsTo (h : Canonical d) {q : Side} {pos : Int} {n t0 t1 : Nat} : Canonical (d.gridsTo q pos n t0 t1) :=
  each h fun _ _ h => h.modTml

theorem pitchEdge (h : Canonical d) {q : Side} {src : Nat} {old : Int} : Canonical (d.pitchEdge q src old) := by
  unfold Device.pitchEdge
  extract_lets _ _ _ _ d1
  have h1 : Canonical d1 := h.modTml
  exact ite h (ite h1.gridsTo h1)

theorem gridOpen (h : Canonical d) : Canonical d.gridOpen := each h fun _ _ h => h.gridsTo
theorem setPx (h : Canonical d) {q : Side} {s n : Nat} : Canonical (d.setPx q s n) := h.setFld
theorem bufCompare (h : Canonical d) {q : Side} {s : Nat} : Canonical (d.bufCompare q s) := ite h.setFlag h

theorem bufferCheck (h : Canonical d) {q : Side} {s : Nat} : Canonical (d.bufferCheck q s) := by
  unfold Device.bufferCheck
  extract_lets _ _ _ _ _ d1
  have h1 : Canonical d1 := h.setFld
  exact ite h1 h1.bufCompare

theorem lockPx (h : Canonical d) {q : Side} {s : Nat} : Canonical (d.lockPx q s) := h.setPx.bufferCheck

theorem enterFreq (h : Canonical d) {q : Side} {s : Nat} : Canonical (d.enterFreq q s) := by
  unfold Device.enterFreq
  extract_lets d1 _ d2
  have h1 : Canonical d1 := h.setPx.setFld
  have h2 : Canonical d2 := h1.setReg
  exact ite h2.setFlag h2

theorem enterAcquire (h : Canonical d) {q : Side} {s : Nat} : Canonical (d.enterAcquire q s) := h.setPx.setSynth

theorem synthOn (h : Canonical d) {q : Side} {s : Nat} : Canonical (d.synthOn q s) := by
  unfold Device.synthOn
  split
  · exact h
  · extract_lets d1
    have h1 : Canonical d1 := h.setFlag
    exact ite h1 (ite h1.enterAcquire h1.setPx.setFlag)

theorem synthStopped (h : Canonical d) {q : Side} {s : Nat} : Canonical (d.synthStopped q s) := by
  unfold Device.synthStopped
  extract_lets d1
  have h1 : Canonical d1 := h.setFlag.setPx
  exact ite h1.setFlag.synthOn h1

theorem synthOff (h : Canonical d) {q : Side} {s : Nat} : Canonical (d.synthOff q s) := by
  unfold Device.synthOff
  split
  · exact h
  · extract_lets d1
    have h1 : Canonical d1 := h.setFlag
    exact ite h1.stationsDefective.setFlag h1.synthStopped

theorem filterPeriod (h : Canonical d) {q : Side} {s ival : Nat} : Canonical (d.filterPeriod q s ival) := h.setNat

theorem lineOffset (h : Canonical d) {q : Side} {s : Nat} : Canonical (d.lineOffset q s) := by
  unfold Device.lineOffset
  extract_lets _ d1 d2
  have h1 : Canonical d1 := h.setReg
  have h2 : Canonical d2 := h1.setFlag
  exact ite (ite (ite h2.goSafe h2) h2.enterFreq) h1

theorem slewLine (h : Canonical d) {q : Side} {s : Nat} {qual : Bool} : Canonical (d.slewLine q s qual) := by
  unfold Device.slewLine
  extract_lets _ _ d1 d2 d3
  have h1 : Canonical d1 := h.setFld
  have h2 : Canonical d2 := h1.count
  have h3 : Canonical d3 := h2.count
  exact ite (ite h1.lockPx h1) (ite (ite h3.stationsDefective h3) h2)

theorem phaseAtRelease (h : Canonical d) {q : Side} {s : Nat} : Canonical (d.phaseAtRelease q s) := by
  unfold Device.phaseAtRelease
  split
  · exact h
  · exact ite h.setFlag h

theorem driveStrobe (h : Canonical d) {q : Side} {s : Nat} : Canonical (d.driveStrobe q s) := ite h.setQ h

theorem lineStart (h : Canonical d) {q : Side} {s at_ : Nat} {qual : Bool} {line : LineInfo} :
    Canonical (d.lineStart q s at_ qual line) := by
  unfold Device.lineStart
  extract_lets _ _ _ d1 _ _ _ d2 d3 d4 d5 d6 d7 d8
  have h1 : Canonical d1 := ite h.filterPeriod h
  have h2 : Canonical d2 := h1.setSynth
  have h3 : Canonical d3 := h2.setFld
  have h4 : Canonical d4 := ite h3.setFld h3.setFld.count
  have h5 : Canonical d5 := by
    unfold d5
    split
    · exact h4.setFld
    · exact h4
  have h6 : Canonical d6 := h5.phaseAtRelease
  have h7 : Canonical d7 := ite h6.count.checkEvent (ite h6.lineOffset.slewLine h6.lineOffset)
  have h8 : Canonical d8 := h7.rotorLine
  exact ite h4.endPrint.synthStopped h8.driveStrobe.beamLine

theorem acquireEdge (h : Canonical d) {q : Side} {s at_ : Nat} : Canonical (d.acquireEdge q s at_) := by
  unfold Device.acquireEdge
  extract_lets _ _ d1 d2 _ d3
  have h1 : Canonical d1 := h.setSynth
  have h2 : Canonical d2 := h1.setNat
  have h3 : Canonical d3 := ite h2 h2.setSynth
  exact ite (ite h3.enterFreq h2.setPx.setFlag) h1

theorem indexRise (h : Canonical d) {gpio : Nat} : Canonical (d.indexRise gpio) :=
  each h fun _ _ h => each h fun _ _ h => ite h.setSynth h

theorem setRef (h : Canonical d) {q : Side} {v : RefS} : Canonical (d.setRef q v) := h.withRef
theorem refDrop (h : Canonical d) {q : Side} : Canonical (d.refDrop q) := h.setFlag.checkEvent
theorem refLost (h : Canonical d) {q : Side} : Canonical (d.refLost q) := refDrop (ite h.modClk h)

theorem fifoLevels (h : Canonical d) {q : Side} {s : Nat} : Canonical (d.fifoLevels q s) := by
  unfold Device.fifoLevels
  extract_lets _ _ _ _ _ _ _ d1 d2 d3
  have h1 : Canonical d1 := h.setFld
  have h2 : Canonical d2 := h1.setFld
  have h3 : Canonical d3 := ite h2.count h2
  exact ite h3.count h3

theorem sendSegments (h : Canonical d) {q : Side} {s k mask : Nat} {gs : List Nat} : Canonical (d.sendSegments q s k mask gs) := by
  unfold Device.sendSegments
  split
  · extract_lets _ _ d1 d2
    have h1 : Canonical d1 := ite h h.sendBlocks
    have h2 : Canonical d2 := h1.setNat
    exact ite h2 h2.addSat
  · exact h

theorem sentTo (h : Canonical d) {q : Side} {s chunk group : Nat} : Canonical (d.sentTo q s chunk group) := h.setLine
theorem decodedTo (h : Canonical d) {q : Side} {s : Nat} {written : List Nat} : Canonical (d.decodedTo q s written) := h.setLine
theorem countBlank (h : Canonical d) {q : Side} {s : Nat} : Canonical (d.countBlank q s) := ite h h.setLine.count

theorem lateLine (h : Canonical d) {q : Side} {s mask k : Nat} : Canonical (d.lateLine q s mask k) := by
  unfold Device.lateLine
  extract_lets _ _ d1 d2 d3 d4
  have h1 : Canonical d1 := h.setLine.countBlank
  have h2 : Canonical d2 := h1.setFlag
  have h3 : Canonical d3 := ite h2.stationsDefective h2
  have h4 : Canonical d4 := ite h1 (ite h3 h3.checkEvent)
  exact h4

theorem loopMismatch (h : Canonical d) {q : Side} {s : Nat} : Canonical (d.loopMismatch q s) := h.count.setFlag.checkEvent
theorem portDown (h : Canonical d) {q : Side} {s : Nat} : Canonical (d.portDown q s) := ite h.setEn.ledgerEvent h
theorem portAgain (h : Canonical d) {q : Side} {s : Nat} : Canonical (d.portAgain q s) := ite h.trainPort h

theorem portFrame (h : Canonical d) {q : Side} {s : Nat} {b : List Byte} : Canonical (d.portFrame q s b) := by
  unfold Device.portFrame
  extract_lets _ _ _ _ d1
  have h1 : Canonical d1 := h.setPort
  split
  · exact ite h.setEn.sendMessage.sendMessage h
  · exact ite h1.setEn h1
  · exact ite h.portDown (ite h.loopMismatch h)
  · exact h.loopMismatch
  · exact h

theorem ownFrame (h : Canonical d) {q : Side} {s : Nat} {b : List Byte} {holes : Nat} : Canonical (d.ownFrame q s b holes) := by
  unfold Device.ownFrame
  extract_lets d1 d2 d3
  have h1 : Canonical d1 := h.headTemp
  have h2 : Canonical d2 := ite h1.measured h1
  have h3 : Canonical d3 := h2.setFlag.ledgerEvent
  exact ite (ite h3 h3.checkEvent) h2

theorem portOn (h : Canonical d) {q : Side} {s : Nat} : Canonical (d.portOn q s) := by
  unfold Device.portOn
  split
  · exact h
  · extract_lets d1
    have h1 : Canonical d1 := h.setFlag
    exact ite h1 h1.trainPort

theorem portStopped (h : Canonical d) {q : Side} {s : Nat} : Canonical (d.portStopped q s) := by
  unfold Device.portStopped
  extract_lets d1
  have h1 : Canonical d1 := h.setFlag.setEn
  exact ite h1.setFlag.portOn h1

theorem portOff (h : Canonical d) {q : Side} {s : Nat} : Canonical (d.portOff q s) := by
  unfold Device.portOff
  split
  · exact h
  · extract_lets _ d1
    have h1 : Canonical d1 := h.setFlag
    exact ite h1.setFlag h1.portStopped

theorem portRetrain (h : Canonical d) {q : Side} {s : Nat} : Canonical (d.portRetrain q s) := ite h (ite h.setPort h.trainPort)
theorem lanesPowered (h : Canonical d) {q : Side} : Canonical (d.lanesPowered q) := each h fun _ _ h => ite h.trainPort h
theorem lanesStop (h : Canonical d) {q : Side} : Canonical (d.lanesStop q) := each h fun _ _ h => h.portDown
theorem lanesOff (h : Canonical d) {q : Side} : Canonical (d.lanesOff q) := each h fun _ _ h => h.setEn.setFlag.setFld
theorem lanesDown (h : Canonical d) {q : Side} : Canonical (d.lanesDown q) := h.lanesOff.setFlag.domOn
theorem lanesUp (h : Canonical d) {q : Side} : Canonical (d.lanesUp q) := ite h h.domOn.lanesPowered
theorem domainsReady (h : Canonical d) : Canonical d.domainsReady := each h.domOn fun _ _ h => h.lanesUp
theorem domainsHeld (h : Canonical d) : Canonical d.domainsHeld := each h fun _ _ h => h.lanesDown
theorem newCount (h : Canonical d) {q : Side} {e : Nat} {r : Int} : Canonical (d.newCount q e r) := h.setReg.setReg.pitchEdge
theorem ssiRead (h : Canonical d) {q : Side} {raw : Nat} : Canonical (d.ssiRead q raw) := ite h.addSat h.newCount

theorem slotFallback (h : Canonical d) {q : Side} {n cause : Nat} : Canonical (d.slotFallback q n cause) := by
  unfold Device.slotFallback
  split
  · exact h
  · extract_lets _ d1 d2
    have h1 : Canonical d1 := h.setFallback
    have h2 : Canonical d2 := ite h1.ledgerEvent h1
    exact ite h2.putOut h2

theorem leaveFallback (h : Canonical d) {q : Side} {n : Nat} : Canonical (d.leaveFallback q n) := h.setFallback.setSlot
theorem slotResume (h : Canonical d) {q : Side} {n : Nat} : Canonical (d.slotResume q n) := ite h h.leaveFallback.setSlot

theorem putCoef (h : Canonical d) {q : Side} {n p k : Nat} {v : Word} : Canonical (d.putCoef q n p k v) := by
  unfold Device.putCoef
  split
  · exact h.setReg
  · exact h.setReg
  · exact h.setReg
  · exact h.setReg

theorem coefWrite (h : Canonical d) {q : Side} {n p k : Nat} {v : Word} : Canonical (d.coefWrite q n p k v) := by
  unfold Device.coefWrite
  split
  · exact h.putCoef
  · extract_lets _ d1
    have h1 : Canonical d1 := h.setFlag
    exact ite (ite h1.ledgerEvent h1) h.setSlot.setFld

theorem applyQueued (h : Canonical d) {q : Side} {n : Nat} : Canonical (d.applyQueued q n) := by
  unfold Device.applyQueued
  extract_lets
  split
  · exact h
  · exact h.setSlot.putCoef.setFld

theorem countOpenShort (h : Canonical d) {q : Side} {n : Nat} : Canonical (d.countOpenShort q n) := ite h h.setSlot

theorem watchFeedback (h : Canonical d) {q : Side} {n : Nat} {hdr : List Byte} {fb : Int} :
    Canonical (d.watchFeedback q n hdr fb) := by
  unfold Device.watchFeedback
  extract_lets _ _ d1
  have h1 : Canonical d1 := h.setSlot
  exact ite h1.slotFallback (ite h1.slotFallback (ite h1.slotFallback h1))

theorem shareInt (h : Canonical d) {q : Side} {n : Nat} : Canonical (d.shareInt q n) := h.setSlot

theorem runSlot (h : Canonical d) {q : Side} {n : Nat} : Canonical (d.runSlot q n) := by
  unfold Device.runSlot
  extract_lets _ d1 _ d2 _ _ _ _ _ _ _ _ _ _ d3 _ _ _ _ d4 d5 d6
  have h1 : Canonical d1 := h.applyQueued
  have h2 : Canonical d2 := h1.setReg.watchFeedback
  have h3 : Canonical d3 := h2.setSlot
  have h4 : Canonical d4 := h2.setSlot
  have h5 : Canonical d5 := h4.setReg
  have h6 : Canonical d6 := ite h5.setFlag h5
  exact ite h2 (ite h3.setReg.putOut h6.setFlag.putOut)

theorem slotStopped (h : Canonical d) {q : Side} {n : Nat} : Canonical (d.slotStopped q n) := by
  unfold Device.slotStopped
  extract_lets _ d1
  have h1 : Canonical d1 := h.setSlot.setFlag
  exact ite h1.setFlag h1

theorem windSlot (h : Canonical d) {q : Side} {n : Nat} : Canonical (d.windSlot q n) := by
  unfold Device.windSlot
  extract_lets _ _ _ d1
  have h1 : Canonical d1 := h.putOut
  exact ite h.setSlot (ite h1.slotStopped h1)

theorem sampleSlot (h : Canonical d) {q : Side} {tick n : Nat} : Canonical (d.sampleSlot q tick n) :=
  ite h (ite h.windSlot (ite h.runSlot.shareInt.setFld h))

theorem takeVelocities (h : Canonical d) {q : Side} : Canonical (d.takeVelocities q) := each h fun _ _ h => h.modRgl
theorem senseVin (h : Canonical d) {mv : Nat} : Canonical (d.senseVin mv) := h.setFld.setFld

theorem slotWind (h : Canonical d) {q : Side} {n : Nat} : Canonical (d.slotWind q n) := by
  unfold Device.slotWind
  split
  · exact h
  · extract_lets _ _ d1
    have h1 : Canonical d1 := h.setSlot
    exact ite h1.slotStopped h1.setFlag

theorem slotOff (h : Canonical d) {q : Side} {n : Nat} : Canonical (d.slotOff q n) := by
  unfold Device.slotOff
  extract_lets _ d1
  have h1 : Canonical d1 := h.setFlag
  exact ite h1.slotWind h1

theorem slotOn (h : Canonical d) {q : Side} {n : Nat} : Canonical (d.slotOn q n) := by
  unfold Device.slotOn
  extract_lets d1
  have h1 : Canonical d1 := h.setFlag
  exact ite h1.leaveFallback h1

theorem regulatorOn (h : Canonical d) {q : Side} : Canonical (d.regulatorOn q) := each h.setFlag fun _ _ h => h.leaveFallback

theorem regulatorOff (h : Canonical d) {q : Side} : Canonical (d.regulatorOff q) := by
  unfold Device.regulatorOff
  extract_lets _ d1 d2
  have h1 : Canonical d1 := h.setFlag
  have h2 : Canonical d2 := each h1 fun _ _ h => h.slotWind
  exact ite h2.setFlag h2

theorem loadSlot (h : Canonical d) {n : Nat} : Canonical (d.loadSlot n) :=
  each h fun _ _ h => each h.setFlag.setReg fun _ _ h => h.putCoef.putCoef.putCoef.putCoef

theorem setPo (h : Canonical d) {q : Side} {p n : Nat} : Canonical (d.setPo q p n) := by
  unfold Device.setPo
  extract_lets d1 _ d2
  have h1 : Canonical d1 := h.setFld.setFlag
  have h2 : Canonical d2 := h1.setPoly
  exact ite h2.setReg h2

theorem ownEvent (h : Canonical d) {q : Side} {b detail : Nat} : Canonical (d.ownEvent q b detail) := ite h.ledgerEvent h
theorem enterSense (h : Canonical d) {q : Side} {p : Nat} : Canonical (d.enterSense q p) := h.setPo.setPoly
theorem polyStart (h : Canonical d) {q : Side} {p : Nat} : Canonical (d.polyStart q p) := ite h.setFld.setFld.setPoly.enterSense h
theorem pmsmStart (h : Canonical d) {q : Side} {n : Nat} : Canonical (d.pmsmStart q n) := ite h.setFlag.setFlag.setPmsm h

theorem motorsStart (h : Canonical d) {q : Side} : Canonical (d.motorsStart q) :=
  each (each h (fun _ _ h => ite h.polyStart h)) fun _ _ h => h.pmsmStart

theorem motSettle (h : Canonical d) {q : Side} : Canonical (d.motSettle q) := ite h h.setFlag.motorsStart

theorem polyOn (h : Canonical d) {q : Side} {p : Nat} : Canonical (d.polyOn q p) := by
  unfold Device.polyOn
  split
  · exact h
  · extract_lets d1
    have h1 : Canonical d1 := h.setFlag
    exact ite h1 h1.polyStart

theorem polyStopped (h : Canonical d) {q : Side} {p : Nat} : Canonical (d.polyStopped q p) := by
  unfold Device.polyStopped
  extract_lets d1 d2
  have h1 : Canonical d1 := h.setPo.setFlag
  have h2 : Canonical d2 := h1.setPoly.motSettle
  exact ite h2.polyStart h2

theorem polyWind (h : Canonical d) {q : Side} {p : Nat} : Canonical (d.polyWind q p) := by
  unfold Device.polyWind
  extract_lets _ d1 d2 _ d3
  have h1 : Canonical d1 := ite h.goSafe h
  have h2 : Canonical d2 := h1.setFlag
  have h3 : Canonical d3 := ite h2 h2.setPo
  exact ite h1 (ite h2.setPoly h3.setPoly)

theorem polyOff (h : Canonical d) {q : Side} {p : Nat} : Canonical (d.polyOff q p) := ite h.setFlag.polyWind h
theorem enterBrake (h : Canonical d) {q : Side} {p : Nat} : Canonical (d.enterBrake q p) := h.setPo.setPoly
theorem enterResync (h : Canonical d) {q : Side} {p from_ : Nat} : Canonical (d.enterResync q p from_) := h.setPo.setPoly
theorem enterRun (h : Canonical d) {q : Side} {p : Nat} {i : Int} : Canonical (d.enterRun q p i) := h.setPo.setPoly

theorem resyncFail (h : Canonical d) {q : Side} {p : Nat} : Canonical (d.resyncFail q p) := by
  unfold Device.resyncFail
  extract_lets d1 _ d2
  have h1 : Canonical d1 := h.setFlag.ownEvent
  have h2 : Canonical d2 := h1.setPoly
  exact ite h2.goSafe h2

theorem attemptFails (h : Canonical d) {q : Side} {p : Nat} : Canonical (d.attemptFails q p) := by
  unfold Device.attemptFails
  extract_lets _ _ d1 d2
  have h1 : Canonical d1 := h.setPoly.setFld
  have h2 : Canonical d2 := h1.setPo
  exact ite h1.setPo.ownEvent h2.setPoly

theorem senseDone (h : Canonical d) {q : Side} {p : Nat} {l : List (Nat × Nat)} {speed : Int} :
    Canonical (d.senseDone q p l speed) :=
  ite h.enterResync (enterBrake (ite h.setFlag h))

theorem setBridge (h : Canonical d) {q : Side} {k : Nat} {x : Option (List (Nat × Nat))} : Canonical (d.setBridge q k x) :=
  h.modMot

theorem polyBridge (h : Canonical d) {q : Side} {p : Nat} {m : MotorSample} : Canonical (d.polyBridge q p m) := h.setBridge

theorem polyPeriod (h : Canonical d) {q : Side} {p : Nat} {m : MotorSample} : Canonical (d.polyPeriod q p m) := by
  unfold Device.polyPeriod
  extract_lets _ _ _ d1 _ d2 _ _ _ d3 _ _ _ _ d4
  have h1 : Canonical d1 := h.addSat
  have h2 : Canonical d2 := h1.setFld.setReg
  have h3 : Canonical d3 := h2.setPoly
  have h4 : Canonical d4 := h2.setPoly
  exact ite h (ite (ite h2.attemptFails (ite h2.enterRun h2)) (ite (ite h3.enterBrake h3) (ite h4.setFlag.ownEvent.enterResync h4)))

theorem pmsmOn (h : Canonical d) {q : Side} {n : Nat} : Canonical (d.pmsmOn q n) := by
  unfold Device.pmsmOn
  split
  · exact h
  · extract_lets d1
    have h1 : Canonical d1 := h.setFlag
    exact ite h1 h1.pmsmStart

theorem pmsmStopped (h : Canonical d) {q : Side} {n : Nat} : Canonical (d.pmsmStopped q n) := by
  unfold Device.pmsmStopped
  extract_lets d1 _ d2 d3
  have h1 : Canonical d1 := h.setFlag.setFlag
  have h2 : Canonical d2 := h1.setPmsm
  have h3 : Canonical d3 := h2.motSettle
  exact ite h3.pmsmStart h3

theorem pmsmWind (h : Canonical d) {q : Side} {n : Nat} : Canonical (d.pmsmWind q n) := ite h.setPmsm.setFlag h
theorem pmsmOff (h : Canonical d) {q : Side} {n : Nat} : Canonical (d.pmsmOff q n) := ite h.setFlag.pmsmWind h

theorem pmsmPeriod (h : Canonical d) {q : Side} {n : Nat} {m : MotorSample} : Canonical (d.pmsmPeriod q n m) := by
  unfold Device.pmsmPeriod
  extract_lets _ _ d1 d2 _ _ _ _ d3
  have h1 : Canonical d1 := ite h.addSat h
  have h2 : Canonical d2 := h1.setFld.setFld
  have h3 : Canonical d3 := h2.setPmsm
  exact ite h (ite h3.pmsmStopped h3)

theorem pmsmBridge (h : Canonical d) {q : Side} {n : Nat} {m : MotorSample} : Canonical (d.pmsmBridge q n m) := h.setBridge

theorem latchPins (h : Canonical d) {q : Side} {g : Nat} : Canonical (d.latchPins q g) :=
  ite h (modMot (ite h (each h (fun _ _ h => h.modMot))))

theorem encoderFault (h : Canonical d) {q : Side} {e : Nat} : Canonical (d.encoderFault q e) := by
  unfold Device.encoderFault
  refine each ?_ ?_
  · exact h
  · intro _ _ h
    extract_lets d1 _ _ d2 d3 d4 _ d5
    have h1 : Canonical d1 := h.count
    have h2 : Canonical d2 := h1.setPmsm
    have h3 : Canonical d3 := h2.setFlag.ownEvent
    have h4 : Canonical d4 := h3.setFlag
    have h5 : Canonical d5 := h4.setPmsm
    exact ite h5.setFlag.motSettle h2

theorem setBus (h : Canonical d) {b : Nat} {v : BusS} : Canonical (d.setBus b v) := h.modMot
theorem busBit (h : Canonical d) {f : Fld} {b : Nat} {v : Bool} : Canonical (d.busBit f b v) := each h fun _ _ h => h.setFld

theorem clearChop (h : Canonical d) : Canonical d.clearChop :=
  ite (each h (fun _ _ h => setFld (each h (fun _ _ h => h.setFlag)))) h

theorem motorsOn (h : Canonical d) {q : Side} : Canonical (d.motorsOn q) := by
  unfold Device.motorsOn
  extract_lets d1
  have h1 : Canonical d1 := h.setFlag
  exact ite h1 h1.motorsStart

theorem motorsOff (h : Canonical d) {q : Side} : Canonical (d.motorsOff q) := by
  unfold Device.motorsOff
  extract_lets d1 d2 d3
  have h1 : Canonical d1 := h.setFlag
  have h2 : Canonical d2 := each h1 fun _ _ h => h.polyWind
  have h3 : Canonical d3 := each h2 fun _ _ h => h.pmsmWind
  exact ite h3.setFlag h3

theorem setAx (h : Canonical d) {q : Side} {a : Nat} {f : Fld} {b : Bool} : Canonical (d.setAx q a f b) := h.setFlag
theorem setChain (h : Canonical d) {q : Side} {c n : Nat} : Canonical (d.setChain q c n) := h.setFld
theorem replan (h : Canonical d) {q : Side} {a : Nat} : Canonical (d.replan q a) := h.setAxis

theorem takeLimits (h : Canonical d) {q : Side} {a prof : Nat} : Canonical (d.takeLimits q a prof) := by
  unfold Device.takeLimits
  extract_lets _ d1
  have h1 : Canonical d1 := h.setAx
  exact replan (ite h1 h1.setAxis)

theorem axisMove (h : Canonical d) {q : Side} {a : Nat} {target : Int} {prof : Nat} : Canonical (d.axisMove q a target prof) :=
  ite h.setAx h.setReg.setFld.takeLimits.setAx

theorem homeFault (h : Canonical d) {q : Side} {a : Nat} : Canonical (d.homeFault q a) := h.setAx.setAx.setAx.setAxis.ownEvent

theorem axisStop (h : Canonical d) {q : Side} {a : Nat} : Canonical (d.axisStop q a) := by
  unfold Device.axisStop
  extract_lets d1 _ d2
  have h1 : Canonical d1 := ite h.homeFault h
  have h2 : Canonical d2 := h1.setAx
  exact ite h1.setReg (ite h1 h2.setAxis)

theorem axisOff (h : Canonical d) {q : Side} {a : Nat} : Canonical (d.axisOff q a) :=
  ite h (ite h.setFlag h.setFlag.axisStop.setFlag)

theorem axisOn (h : Canonical d) {q : Side} {a : Nat} : Canonical (d.axisOn q a) := h.setAxis

theorem axisStopped (h : Canonical d) {q : Side} {a : Nat} : Canonical (d.axisStopped q a) := by
  unfold Device.axisStopped
  extract_lets d1
  have h1 : Canonical d1 := h.setFlag
  exact ite h1.axisOn h1

theorem axisControl (h : Canonical d) {q : Side} {a : Nat} {value : Word} : Canonical (d.axisControl q a value) := by
  unfold Device.axisControl
  extract_lets _ _ _ d1
  have h1 : Canonical d1 := h.setFlag.setFld
  exact ite h.setAx (ite (ite h1 h1.axisOn) (ite h.axisOff (ite h h.axisMove)))

theorem axisHome (h : Canonical d) {q : Side} {a : Nat} : Canonical (d.axisHome q a) := ite h.setAx h.setAx.setAx.axisMove.setAxis
theorem axisClear (h : Canonical d) {q : Side} {a : Nat} : Canonical (d.axisClear q a) := ite h h.setAx.setAx.setAxis
theorem restLimits (h : Canonical d) {q : Side} {a : Nat} : Canonical (d.restLimits q a) := h.setAx.setAxis

theorem axisAtRest (h : Canonical d) {q : Side} {a : Nat} : Canonical (d.axisAtRest q a) := by
  cases q
  all_goals
    unfold Device.axisAtRest
    extract_lets _ d1 d2 _ d3 d4 d5
    have h1 : Canonical d1 := ite h.setReg h.setReg
    have h2 : Canonical d2 := h1.setAx.setAx.setReg
    have h3 : Canonical d3 := h2.setAxis
    have h4 : Canonical d4 := ite h3.restLimits h3
    have h5 : Canonical d5 := h4.setAx.setAx
    split
    · exact h4.homeFault
    · exact h4.homeFault
    · exact h5.setAxis
    · exact h4

theorem axisSample (h : Canonical d) {q : Side} {a : Nat} : Canonical (d.axisSample q a) := by
  unfold Device.axisSample
  split
  · exact h
  · extract_lets _ _ _ _ d1 d2 _ d3
    have h1 : Canonical d1 := h.setReg.setReg
    have h2 : Canonical d2 := h1.pitchEdge
    have h3 : Canonical d3 := ite h2.setAxis h2
    exact ite h3.axisAtRest (ite h3.takeLimits h3)

theorem chainStart (h : Canonical d) {q : Side} {c : Nat} : Canonical (d.chainStart q c) := h.setChain.modAxs
theorem driveStart (h : Canonical d) {q : Side} : Canonical (d.driveStart q) := each h fun _ _ h => h.chainStart

theorem countOldFrame (h : Canonical d) {q : Side} : Canonical (d.countOldFrame q) := by
  unfold Device.countOldFrame
  split
  · exact ite h.withTransfer h
  · exact h

theorem driveStopped (h : Canonical d) {q : Side} : Canonical (d.driveStopped q) := by
  unfold Device.driveStopped
  extract_lets d1
  have h1 : Canonical d1 := h.setFlag.setReg
  exact ite h1.driveStart h1

theorem axisComm (h : Canonical d) {q : Side} {a : Nat} {lost : Option Nat} : Canonical (d.axisComm q a lost) := by
  unfold Device.axisComm
  extract_lets d1 _ d2
  have h1 : Canonical d1 := h.setAx.ownEvent
  have h2 : Canonical d2 := ite h1.homeFault h1
  split
  · exact h1.axisStop
  · extract_lets d3
    have h3 : Canonical d3 := h2.axisRest
    exact ite h3.setAx h3

theorem axisStall (h : Canonical d) {q : Side} {a : Nat} {stall : Bool} : Canonical (d.axisStall q a stall) := by
  unfold Device.axisStall
  extract_lets _ _ d1 _ d2 d3
  have h1 : Canonical d1 := h.setAxis
  have h2 : Canonical d2 := h1.setReg.setReg.setReg
  have h3 : Canonical d3 := h2.setAx
  exact ite h1 (ite h3.setAxis (ite h1.axisStop (ite h1.setAx.setAx.ownEvent.axisStop h1)))

theorem slotMissed (h : Canonical d) {q : Side} {c k : Nat} : Canonical (d.slotMissed q c k) := by
  unfold Device.slotMissed
  extract_lets d1
  have h1 : Canonical d1 := h.count
  split
  · exact h1
  · extract_lets _ _ d2
    have h2 : Canonical d2 := h1.setAxis
    exact ite h2.axisComm h2

theorem slotGood (h : Canonical d) {q : Side} {c k : Nat} {r : List Byte} : Canonical (d.slotGood q c k r) := by
  unfold Device.slotGood
  split
  · exact h
  · extract_lets d1 _ d2 _ d3
    have h1 : Canonical d1 := h.setNat.setNat
    have h2 : Canonical d2 := h1.setAxis
    have h3 : Canonical d3 := h2.axisStall
    exact ite h3.axisComm h3

theorem limitTrip (h : Canonical d) {q : Side} {a : Nat} {positive : Bool} : Canonical (d.limitTrip q a positive) :=
  ite h h.setAx.ownEvent.axisStop

theorem driveOn (h : Canonical d) {q : Side} : Canonical (d.driveOn q) := by
  unfold Device.driveOn
  extract_lets d1
  have h1 : Canonical d1 := h.setFlag
  exact ite h1 h1.driveStart

theorem driveOff (h : Canonical d) {q : Side} : Canonical (d.driveOff q) :=
  ite h (ite h.setFlag (each h.setFlag.setFlag (fun _ _ h => h.axisOff)))

theorem setArc (h : Canonical d) {f : CodecS → CodecS} : Canonical (d.setArc f) := h.modArc
theorem arcErr (h : Canonical d) {sub s band unit code : Nat} : Canonical (d.arcErr sub s band unit code) := h.setNat
theorem cmpBusy (h : Canonical d) {c : Nat} {b : Bool} : Canonical (d.cmpBusy c b) := h.setFld
theorem setArcChain (h : Canonical d) {c : Nat} {x : Option ChainRun} : Canonical (d.setArcChain c x) := h.setArc

theorem chainReserve (h : Canonical d) {c : Nat} {r : ChainRun} {p : Page} : Canonical (d.chainReserve c r p) :=
  ite h.setFree.setArcChain h.setArcChain.waitBlocks

theorem slowCompressor (h : Canonical d) {unit bytes : Nat} {times : List Nat} : Canonical (d.slowCompressor unit bytes times) :=
  each h fun _ _ h => h.slowStage

theorem chainBandDone (h : Canonical d) {c i : Nat} {r : ChainRun} {x : IngestS} {b : BandRec} {choices : List (List BlockChoice)} :
    Canonical (d.chainBandDone c i r x b choices) := by
  fun_cases Device.chainBandDone d c i r x b choices with
  | case1 => exact h.ingestFail
  | case2 => exact h.addSat.chargeIngest.setFree
  | case3 z p need others _ d1 d2 e p' hg =>
    have he : Canonical e := growChain h.addSat.chargeIngest.setFree hg
    exact he.setIngestAt.setArcChain.cmpBusy.placeReady
  | case4 z p need others _ d1 d2 e p' hg =>
    have he : Canonical e := growChain h.addSat.chargeIngest.setFree hg
    exact he.setIngestAt.chainReserve

theorem chainBands {c : Nat} {l : List (List (List BlockChoice))} :
    ∀ {d : Device} (_ : Canonical d), Canonical (d.chainBands c l) := by
  induction l with
  | nil => intro d h; exact h
  | cons choices rest ih =>
    intro d h
    unfold Device.chainBands
    split
    · exact h
    · split
      · exact h
      · split
        · exact h
        · split
          · exact h
          · extract_lets d1
            have h1 : Canonical d1 := ite h.chainReserve h
            split
            · exact ite h1 (ih h1.chainBandDone)
            · exact h1

theorem chainFail (h : Canonical d) {c code : Nat} : Canonical (d.chainFail c code) := by
  unfold Device.chainFail
  split
  · exact h
  · extract_lets d1
    have h1 : Canonical d1 := h.arcErr
    split
    · exact h1.ingestFail
    · exact h1

theorem showQueue (h : Canonical d) : Canonical d.showQueue := h.setFld

theorem jobEnqueue (h : Canonical d) {word7 : Word} : Canonical (d.jobEnqueue word7) := by
  unfold Device.jobEnqueue
  extract_lets d1 _ d2
  have h1 : Canonical d1 := h.setReg
  have h2 : Canonical d2 := h1.setArc.showQueue
  exact ite h1.setFlag (ite h2.setFld h2)

theorem jobEnd (h : Canonical d) {j : Job} {st err out : Nat} : Canonical (d.jobEnd j st err out) := by
  unfold Device.jobEnd
  extract_lets d1 d2 d3 d4
  have h1 : Canonical d1 := h.setFld.setFld
  have h2 : Canonical d2 := h1.setFld
  have h3 : Canonical d3 := h2.setNat.setNat
  have h4 : Canonical d4 := h3.setArc
  split
  · exact h3
  · extract_lets d5
    have h5 : Canonical d5 := ite h4.cmpBusy.setFld h4.setFld
    exact ite h5.scramble h5

theorem chargeJob (h : Canonical d) {j : Job} {out : Nat} : Canonical (d.chargeJob j out) := by
  unfold Device.chargeJob
  extract_lets d1
  have h1 : Canonical d1 := ite h.chargeIngest h
  exact ite h1.chargeIngest h1

theorem jobFlush (h : Canonical d) : Canonical d.jobFlush := by
  unfold Device.jobFlush
  split
  · exact ite h.setArc h
  · exact h

theorem jobAbort (h : Canonical d) : Canonical d.jobAbort := by
  unfold Device.jobAbort
  split
  · exact h.jobEnd
  · exact h

theorem jobAbortAll (h : Canonical d) : Canonical d.jobAbortAll := h.jobAbort.setArc.showQueue

theorem jobHostError (h : Canonical d) : Canonical d.jobHostError := by
  unfold Device.jobHostError
  split
  · exact h
  · exact ite h.jobEnd (ite h.jobEnd h)

theorem showImage (h : Canonical d) : Canonical d.showImage := each h fun _ _ h => h.setFlag
theorem showInsp (h : Canonical d) : Canonical d.showInsp := h.setFld
theorem closeImage (h : Canonical d) : Canonical d.closeImage := h.setArc.showImage

theorem imageFail (h : Canonical d) {x : InspImg} {code : Nat} : Canonical (d.imageFail x code) := by
  unfold Device.imageFail
  extract_lets d1 d2 d3 d4 d5
  have h1 : Canonical d1 := h.setArc
  have h2 : Canonical d2 := h1.arcErr
  have h3 : Canonical d3 := h2.count.scramble
  have h4 : Canonical d4 := h3.post
  have h5 : Canonical d5 := ite h4.ledgerEvent h4
  exact h5.showImage.showInsp

theorem imageSpace (h : Canonical d) {line : InspectionLine} : Canonical (d.imageSpace line) := by
  unfold Device.imageSpace
  split
  · exact h
  · exact ite h.imageFail (ite h.imageFail h)

theorem firstInsp (h : Canonical d) {q : Side} {line : InspectionLine} {n : Nat} {i : Instance} :
    Canonical (d.firstInsp q line n i) := by
  unfold Device.firstInsp
  extract_lets d1
  have h1 : Canonical d1 := h.setArc
  split
  · exact h1.addSat.setArc.ledgerEvent
  · extract_lets _ d2 d3
    have h2 : Canonical d2 := h1.modHost
    have h3 : Canonical d3 := h2.setArc.setFld
    exact ite h3.showImage.showInsp h3.imageFail

theorem nextInsp (h : Canonical d) {q : Side} {line : InspectionLine} {x : InspImg} : Canonical (d.nextInsp q line x) := by
  unfold Device.nextInsp
  split
  · exact h.count
  · split
    · exact h.imageFail
    · extract_lets _ d1
      have h1 : Canonical d1 := h.setArc
      exact ite h1 h1.addSat.ledgerEvent

theorem goodInsp (h : Canonical d) {q : Side} {line : InspectionLine} : Canonical (d.goodInsp q line) := by
  unfold Device.goodInsp
  extract_lets d1
  have h1 : Canonical d1 := ite h.closeImage h
  split
  · exact h1.count
  · extract_lets d2
    have h2 : Canonical d2 := by
      unfold d2
      split
      · exact h1.firstInsp.imageSpace
      · split
        · exact h1.nextInsp.imageSpace
        · exact ite h1 h1.count
    exact ite h2.closeImage.setArc h2

theorem imagesFail (h : Canonical d) {code : Nat} : Canonical (d.imagesFail code) := each h fun _ _ h => h.imageFail

theorem inspPortOff (h : Canonical d) {q : Side} : Canonical (d.inspPortOff q) := by
  unfold Device.inspPortOff
  extract_lets d1
  have h1 : Canonical d1 := h.setFlag
  split
  · exact ite h1.setFlag h1
  · exact h1

theorem arcCtrl (h : Canonical d) {v : Word} : Canonical (d.arcCtrl v) := by
  unfold Device.arcCtrl
  extract_lets _ _ _ _ _ _ _ d1 d2 d3 d4
  have h1 : Canonical d1 := h.setReg
  have h2 : Canonical d2 := each h1 fun _ _ h => h.chainFail
  have h3 : Canonical d3 := ite h2.jobAbort h2
  have h4 : Canonical d4 := ite h3.imagesFail h3
  exact h4.setFlag

theorem doorbell (h : Canonical d) {r v : Nat} : Canonical (d.doorbell r v) := by
  unfold Device.doorbell
  split
  · exact h
  · extract_lets d1
    have h1 : Canonical d1 := h.modHost
    exact ite h1.setNat (ite h1 h1.haltRing)

theorem evtDoorbell (h : Canonical d) {v : Nat} : Canonical (d.evtDoorbell v) := ite h.setNat h
theorem ringOn (h : Canonical d) {r : Nat} : Canonical (d.ringOn r) := ite h.setFlag h.setFlag.setReg.setReg.modHost

theorem ringOff (h : Canonical d) {r : Nat} : Canonical (d.ringOff r) := by
  unfold Device.ringOff
  extract_lets d1 d2
  have h1 : Canonical d1 := h.setFlag
  have h2 : Canonical d2 := ite h1.setIngest h1
  exact ite h2 h2.setFlag

theorem ringCfg (h : Canonical d) {r : Nat} {v : Word} : Canonical (d.ringCfg r v) := by
  unfold Device.ringCfg
  extract_lets _ _ _ d1 d2
  have h1 : Canonical d1 := h.setFld.setFld
  have h2 : Canonical d2 := ite h1 h1.setFld
  exact ite h2.setFlag (ite h2.ringOn (ite h2.ringOff h2))

theorem ringStopped (h : Canonical d) {r : Nat} : Canonical (d.ringStopped r) := by
  unfold Device.ringStopped
  split
  · extract_lets _ d1
    have h1 : Canonical d1 := h.setFlag.setFlag
    exact ite h1.ringOn h1
  · exact h

theorem evtCfg (h : Canonical d) {v : Word} : Canonical (d.evtCfg v) := by
  unfold Device.evtCfg
  extract_lets _ d1
  have h1 : Canonical d1 := h.setFld
  exact ite h.setFlag (ite h1.setFlag.setReg.setReg.modHost h1)

theorem ringCmd (h : Canonical d) {r op : Nat} : Canonical (d.ringCmd r op) := by
  unfold Device.ringCmd
  split
  · exact h
  · extract_lets _ d1 d2
    have h1 : Canonical d1 := h.setReg
    have h2 : Canonical d2 := h1.modHost
    exact ite h2.setNat.writeBack h1

theorem ringReset (h : Canonical d) : Canonical d.ringReset := ⟨swf_filter h.regs _, h.mem, h.tables⟩
theorem dropPosted (h : Canonical d) {n : Nat} : Canonical (d.dropPosted n) := h.unsend.loseEvents

theorem endpointReset (h : Canonical d) {unsent : Nat} : Canonical (d.endpointReset unsent) := by
  unfold Device.endpointReset
  extract_lets d1 _ d2 d3
  have h1 : Canonical d1 := h.dropPosted
  have h2 : Canonical d2 := h1.ringReset.dropChains
  have h3 : Canonical d3 := ingestWait (each h2 (fun _ _ h => h.freePage))
  exact h3.overflow.imagesFail.updateHostError.dmaHostError.jobHostError

theorem linkGoesDown (h : Canonical d) {unsent : Nat} : Canonical (d.linkGoesDown unsent) := h.modHost.setReg.endpointReset

theorem acceptPage (h : Canonical d) {p : Page} {rest : List IngestS} : Canonical (d.acceptPage p rest) :=
  h.setIngest.modDlv.modHost.sheetJournal.dropChains.post.paceRaise.ingestBegin

theorem tollgate (h : Canonical d) : Canonical d.tollgate := by
  unfold Device.tollgate
  split
  · exact h
  · exact ite h (ite h.acceptPage.settleIngest h.setReject.ingestFail)

theorem outOfFlight (h : Canonical d) {n : Nat} : Canonical (d.outOfFlight n) := by
  unfold Device.outOfFlight
  split
  · exact h.setInst
  · exact h

theorem settleSheets (h : Canonical d) : Canonical d.settleSheets := by
  unfold Device.settleSheets
  extract_lets d1
  have h1 : Canonical d1 := h.settle
  exact ite h1.plannedNow h1

theorem dropPage (h : Canonical d) {w : Nat} : Canonical (d.dropPage w) := fixHorizon (modDlv (each h (fun _ _ h => h.freePage)))

theorem deliver (h : Canonical d) {n : Nat} : Canonical (d.deliver n) := by
  unfold Device.deliver
  split
  · exact h
  · exact h.modDlv.sheetJournal.dropPage.post.setInst.outOfFlight.countSheet.settleSheets

theorem divertSheet (h : Canonical d) {n : Nat} : Canonical (d.divertSheet n) := by
  unfold Device.divertSheet
  split
  · exact h
  · exact h.sheetJournal.post.outOfFlight.countSheet.settleSheets

theorem stackerEdge (h : Canonical d) {g : Nat} : Canonical (d.stackerEdge g) := by
  unfold Device.stackerEdge
  split
  · exact h.deliver
  · exact h.ledgerEvent.post

theorem commitClear (h : Canonical d) {key : Nat} : Canonical (d.commitClear key) := ite h.reply (ite h.reply.modDlv h.reply)
theorem latchPitch (h : Canonical d) : Canonical d.latchPitch := h.modTml
theorem enterReady (h : Canonical d) : Canonical d.enterReady := h.setSt.domainsReady.latchPitch

theorem fired (h : Canonical d) {n : Nat} {i : Instance} {index : Nat} : Canonical (d.fired n i index) :=
  setInst (modTml (each (each h (fun _ _ h => h.setReg)) (fun _ _ h => ite h.setFlag.count h)))

theorem fire (h : Canonical d) {n action : Nat} {f : TmlEntry → Instance → Device → Device}
    (hf : ∀ e i x, Canonical x → Canonical (f e i x)) : Canonical (d.fire n action f) := by
  unfold Device.fire
  split
  · exact h
  · split
    · exact ite (hf _ _ _ h.fired) h
    · exact h

theorem onInst (h : Canonical d) {n : Nat} {f : Instance → Instance} : Canonical (d.onInst n f) := by
  unfold Device.onInst
  split
  · exact h.setInst
  · exact h

theorem driveGpio (h : Canonical d) {g : Nat} {b : Bool} : Canonical (d.driveGpio g b) := ite h h.modTml
theorem nextPitchIs (h : Canonical d) {len : Nat} : Canonical (d.nextPitchIs len) := h.modTml
theorem openInst (h : Canonical d) {n : Nat} {i : Instance} : Canonical (d.openInst n i) := h.setInst.gridOpen

theorem takePage (h : Canonical d) {n : Nat} {p : Page} : Canonical (d.takePage n p) := by
  unfold Device.takePage
  extract_lets d1 _ d2 d3 d4 d5 d6
  have h1 : Canonical d1 := h.nextPitchIs
  have h2 : Canonical d2 := h1.mapPages
  have h3 : Canonical d3 := h2.modDlv.modThm
  have h4 : Canonical d4 := each h3 fun _ _ h => each h fun _ _ h => h.setSynth
  have h5 : Canonical d5 := h4.openInst
  have h6 : Canonical d6 := h5.paceRaise
  exact ite h6.setSt h6

theorem blank (h : Canonical d) : Canonical d.blank := each h.nextPitchIs fun _ _ h => h.count

theorem clearoutPitch (h : Canonical d) : Canonical d.clearoutPitch := by
  unfold Device.clearoutPitch
  split
  · exact h.nextPitchIs.modTml.openInst
  · exact h.blank

theorem enforce (h : Canonical d) {v : Nat} : Canonical (d.enforce v).1 := by
  fun_cases Device.enforce d v with
  | case1 => dsimp only; exact h.modThm
  | case2 => dsimp only; exact h.count.modThm
  | case3 => exact h

theorem pitchStart (h : Canonical d) : Canonical d.pitchStart := by
  unfold Device.pitchStart
  split
  · exact h
  · split
    · exact ite h.clearoutPitch h
    · split
      · split
        · exact ite h.blank.enterDraining h.blank
        · split
          · exact ite h.enforce.takePage h.enforce.blank
          · exact h.blank
        · exact h.blank
      · exact h

theorem closeInst (h : Canonical d) {n : Nat} {i : Instance} : Canonical (d.closeInst n i) := by
  unfold Device.closeInst
  extract_lets d1
  have h1 : Canonical d1 := h.setInst
  exact ite h1.modDlv h1

theorem inspectEnd (h : Canonical d) {n : Nat} : Canonical (d.inspectEnd n) := by
  unfold Device.inspectEnd
  extract_lets d1
  have h1 : Canonical d1 := h.onInst
  split
  · exact ite h1.closeImage.setArc h1
  · exact ite h1.setArc h1

theorem pulse (h : Canonical d) {p : Pulse} {b : Bool} : Canonical (d.pulse p b) := drives h fun _ h => h.driveGpio.modTml
theorem startClearout (h : Canonical d) : Canonical d.startClearout := ite h.reply (ite h.reply h.reply.latchPitch.modTml)
theorem ackClear (h : Canonical d) : Canonical d.ackClear := ite h.reply h.reply.modTml.modDlv

theorem timelineOff (h : Canonical d) {q : Side} : Canonical (d.timelineOff q) := by
  unfold Device.timelineOff
  split
  · exact h
  · extract_lets d1
    have h1 : Canonical d1 := h.setFlag
    exact ite h1 h1.stationsDefective.setFlag

theorem unrelease (h : Canonical d) {s : Nat} : Canonical (d.unrelease s) := by
  unfold Device.unrelease
  split
  · exact ite (each h.stationsDefective.endPrint (fun _ _ h => h.setLine)) h
  · exact h

theorem supAct (h : Canonical d) {q : Side} {r : SupRule} {flight : List (Nat × Instance)} : Canonical (d.supAct q r flight) := by
  unfold Device.supAct
  split
  · exact h.ledgerEvent
  · exact each h fun _ _ h => h.sheetDefective
  · exact h.checkEvent
  · exact h.kerbTrigger
  · exact h.enterDraining
  · exact each h fun _ _ h => h.unrelease.goSafe
  · exact h.slotFallback
  · exact drives h fun _ h => h.axisStop
  · exact drives h fun _ h => h.driveGpio
  · exact h

theorem supRule (h : Canonical d) {q : Side} {k : Nat} {a b : Int} {flight : List (Nat × Instance)} :
    Canonical (d.supRule q k a b flight) := by
  unfold Device.supRule
  extract_lets _ _ _ _ _ d1 d2 d3 d4
  have h1 : Canonical d1 := h.withSup
  have h2 : Canonical d2 := h1.setFld
  have h3 : Canonical d3 := h2.setFld
  have h4 : Canonical d4 := h3.addSat.setFld
  exact ite (ite h4.supAct h4) h2

theorem sweep (h : Canonical d) {q : Side} {took : Nat} : Canonical (d.sweep q took) := by
  unfold Device.sweep
  split
  · exact h
  · extract_lets d1 _ _ d2
    have h1 : Canonical d1 := h.maxFld
    have h2 : Canonical d2 := each h1 fun _ _ h => h.supRule
    exact ite h2.setFlag h2

theorem supervisorOff (h : Canonical d) {q : Side} : Canonical (d.supervisorOff q) := h.setFlag

theorem quarterOff (h : Canonical d) {q : Side} : Canonical (d.quarterOff q) := by
  unfold Device.quarterOff
  extract_lets d1 d2 d3
  have h1 : Canonical d1 := each h fun _ _ h => h.dmaOff
  have h2 : Canonical d2 := h1.timelineOff.supervisorOff.regulatorOff.motorsOff
  have h3 : Canonical d3 := h2.driveOff
  exact each h3 fun _ _ h => h.synthOff.stationOff

theorem lanesWind (h : Canonical d) {q : Side} : Canonical (d.lanesWind q) := setFlag (lanesOff (each h (fun _ _ h => h.setFlag)))

theorem windDownDomain (h : Canonical d) {n : Nat} : Canonical (d.windDownDomain n) := by
  unfold Device.windDownDomain
  split
  · exact imagesFail (each h.jobAbort (fun _ _ h => h.chainFail))
  · exact h.linkGoesDown
  · exact h.quarterOff
  · exact h.quarterOff
  · exact h.lanesWind
  · exact h.lanesWind
  · exact h

theorem domainOff (h : Canonical d) {n : Nat} : Canonical (d.domainOff n) := by
  unfold Device.domainOff
  extract_lets d1
  have h1 : Canonical d1 := h.domOn.domBusy
  split
  · exact h1.quarterReset
  · exact h1.quarterReset
  · exact h1

theorem domainSettle (h : Canonical d) {n : Nat} : Canonical (d.domainSettle n) := ite h.domainOff h
theorem domainsSettle (h : Canonical d) : Canonical d.domainsSettle := ite h (each h (fun _ _ h => h.domainSettle))

theorem ifBusy (h : Canonical d) {a : Nat} {f : Device → Device} (hf : ∀ e, Canonical e → Canonical (f e)) :
    Canonical (d.ifBusy a f) := by
  unfold Device.ifBusy
  exact ite (hf _ h) h

theorem notBusy (h : Canonical d) {a : Nat} : Canonical (d.notBusy a) := h.setReg

theorem windDownEnds (h : Canonical d) {b : BlockId} : Canonical (d.windDownEnds b) := by
  unfold Device.windDownEnds
  split
  · exact ifBusy h fun _ h => h.ringStopped
  · exact ifBusy h fun _ h => h.dmaStopped
  · exact ifBusy h fun _ h => h.notBusy
  · exact ifBusy h fun _ h => h.synthStopped
  · exact ifBusy h fun _ h => h.beamStopped
  · exact ifBusy h fun _ h => h.portStopped
  · exact ifBusy h fun _ h => h.notBusy
  · exact ifBusy h fun _ h => h.notBusy
  · exact ifBusy h fun _ h => h.notBusy
  · exact ifBusy h fun _ h => h.notBusy
  · exact ifBusy h fun _ h => h.putOut.slotStopped
  · exact ifBusy h fun _ h => h.notBusy.motorsStart
  · exact ifBusy h fun _ h => h.polyStopped
  · exact ifBusy h fun _ h => h.pmsmStopped
  · exact ifBusy h fun _ h => h.driveStopped
  · exact ifBusy h fun _ h => h.axisStopped
  · exact ifBusy h fun _ h => h.notBusy

theorem setPassing (h : Canonical d) {n : Nat} {iosc : Bool} : Canonical (d.setPassing n iosc) := h.modClk

theorem forcePath (h : Canonical d) {n : Nat} : Canonical (d.forcePath n) := by
  unfold Device.forcePath
  extract_lets _ d1
  have h1 : Canonical d1 := h.setPassing.setFlag
  exact ite h1 h1.setFlag

theorem classA (h : Canonical d) {m : Nat} : Canonical (d.classA m) := h.modClk.setFlag.setLive.ledgerBase.kerbTrigger

theorem classB (h : Canonical d) {k : Nat} : Canonical (d.classB k) := by
  unfold Device.classB
  extract_lets d1 d2 d3
  have h1 : Canonical d1 := each h fun _ _ h => h.setFlag.setFlag.forcePath
  have h2 : Canonical d2 := h1.modClk
  have h3 : Canonical d3 := h2.ledgerBase
  split
  · exact h3.lanesStop
  · exact h3.lanesStop
  · exact h3.linkGoesDown
  · exact h3

theorem declareFailed (h : Canonical d) {k : Nat} : Canonical (d.declareFailed k) := by
  unfold Device.declareFailed
  split
  · exact h
  · extract_lets d1 d2 d3
    have h1 : Canonical d1 := h.modClk
    have h2 : Canonical d2 := h1.setFld
    have h3 : Canonical d3 := each h2 fun _ _ h => ite h.forcePath h
    split
    · exact h3.classA
    · exact h3.setFlag.ledgerBase
    · exact ite h3.classA h3.refLost
    · exact ite h3.classA h3.refLost
    · exact ite h3.classB h3.classA

theorem withinTol (h : Canonical d) {k : Nat} : Canonical (d.withinTol k) := by unfold Device.withinTol; exact h.modClk

theorem muxSelect (h : Canonical d) {n : Nat} {sel : Bool} : Canonical (d.muxSelect n sel) := by
  unfold Device.muxSelect
  split
  · exact h
  · extract_lets d1 d2
    have h1 : Canonical d1 := h.setFlag
    have h2 : Canonical d2 := h1.setFlag
    exact ite h1 (ite h2 h2.setFlag)

theorem muxForce (h : Canonical d) {n : Nat} {sel : Bool} : Canonical (d.muxForce n sel) :=
  ite (forcePath (ite h h.setFlag)) h.setFlag

theorem gateClose (h : Canonical d) {g : Nat} : Canonical (d.gateClose g) := by
  unfold Device.gateClose
  split
  · exact h
  · extract_lets d1
    have h1 : Canonical d1 := h.setFld
    exact ite h1 h1.setFld

theorem gateOpen (h : Canonical d) {g : Nat} : Canonical (d.gateOpen g) := by
  unfold Device.gateOpen
  split
  · exact h
  · extract_lets d1 d2
    have h1 : Canonical d1 := h.setFld
    have h2 : Canonical d2 := h1.modClk
    split
    · exact h1
    · split
      · exact h2.lanesStop
      · exact h2.lanesStop
      · exact h2.modPs
      · exact h2

theorem opStart (h : Canonical d) {x : OpDomain} {high : Bool} : Canonical (d.opStart x high) := by
  unfold Device.opStart
  extract_lets _ d1 d2
  have h1 : Canonical d1 := h.modClk
  have h2 : Canonical d2 := h1.setFlag
  exact ite h (ite h2 h2.setFlag)

theorem setRen (h : Canonical d) {r : Nat} {b : Bool} : Canonical (d.setRen r b) := h.setFld
theorem setGood (h : Canonical d) {r : Nat} {b : Bool} : Canonical (d.setGood r b) := h.setFld
theorem writeOper (h : Canonical d) {r code : Nat} : Canonical (d.writeOper r code) := h.modPwr

theorem marginsOff (h : Canonical d) : Canonical d.marginsOff := by
  unfold Device.marginsOff
  exact modPwr (setFlag (setFld (each h (fun _ _ h => h.writeOper))))

theorem forceOutputs (h : Canonical d) : Canonical d.forceOutputs := h.setFlag

theorem railsDown (h : Canonical d) {k : DownKind} {hold : Nat} : Canonical (d.railsDown k hold) := by
  unfold Device.railsDown
  extract_lets l now d1 d2
  have h2 : Canonical d2 := h.modPwr.setFlag.setFlag
  clear_value d2 d1 now l
  split
  · exact h2.setRen
  · exact h2

theorem startBase (h : Canonical d) {kind : Nat} : Canonical (d.startBase kind) :=
  ⟨swf_filter h.regs _, swf_filter h.mem _, rfl⟩

theorem start (h : Canonical d) {kind : Nat} : Canonical (d.start kind) := by
  unfold Device.start
  extract_lets _ _ d1 d2 d3 d4 d5 d6 d7 d8 d9
  have h1 : Canonical d1 := h.startBase
  have h2 : Canonical d2 := h1.setFld
  have h3 : Canonical d3 := h2.setFlag
  have h4 : Canonical d4 := h3.modDlv
  have h5 : Canonical d5 := each h4 fun _ _ h => h.setLive
  have h6 : Canonical d6 := ite h5.setFlag.storeClock h5
  have h7 : Canonical d7 := h6.sheetJournal
  have h8 : Canonical d8 := h7.setSt
  have h9 : Canonical d9 := each h8 fun _ _ h => h.latchCause.setFlag
  exact h9.setFld.setFld

theorem wake (h : Canonical d) : Canonical d.wake := h.start

theorem downEnds (h : Canonical d) : Canonical d.downEnds := by
  unfold Device.downEnds
  extract_lets d1 d2
  have h1 : Canonical d1 := h.setFlag
  have h2 : Canonical d2 := h1.modPwr
  split
  · exact ite h2.wake h2
  · exact h1.modPwr
  · exact h1

theorem goParked (h : Canonical d) {retain : Bool} : Canonical (d.goParked retain) := by
  unfold Device.goParked
  extract_lets d1 d2 d3 _ d4 d5 d6 d7 d8
  have h1 : Canonical d1 := h.forceOutputs.strand.stopTransmitting.writebackAll
  have h2 : Canonical d2 := each h1 fun _ _ h => h.windDownDomain
  have h3 : Canonical d3 := h2.marginsOff
  have h4 : Canonical d4 := h3.modBoot
  have h5 : Canonical d5 := h4.railsDown
  have h6 : Canonical d6 := h5.setSt.windDownDomain
  have h7 : Canonical d7 := h6.setFld.setFld
  have h8 : Canonical d8 := h7.modPwr.withToken
  exact ite h8.downEnds h8

theorem fallEnds (h : Canonical d) : Canonical d.fallEnds := by
  unfold Device.fallEnds
  extract_lets _ d1
  have h1 : Canonical d1 := h.downEnds
  exact ite h1.goParked h1

theorem nextFall (h : Canonical d) : Canonical d.nextFall := by
  unfold Device.nextFall
  split
  · exact h
  · extract_lets d1
    have h1 : Canonical d1 := h.setGood.modPwr
    split
    · exact h1.setRen
    · exact ite h1.fallEnds h1

theorem goOff (h : Canonical d) {needPress : Bool} : Canonical (d.goOff needPress) := by
  unfold Device.goOff
  exact h.setSt.setFlag.setFld.withToken.modPwr

theorem park (h : Canonical d) : Canonical d.park := ite h.reply.goParked h.reply
theorem parkRetain (h : Canonical d) : Canonical d.parkRetain := ite h.reply.srFinish.goParked h.reply
theorem windingDown (h : Canonical d) {n : Nat} : Canonical (d.windingDown n) := h.domBusy.windDownDomain
theorem domainDown (h : Canonical d) {n : Nat} : Canonical (d.domainDown n) := ite h h.windingDown.domainSettle

theorem seqFrom {n : Nat} : ∀ {d : Device} (_ : Canonical d) {i : Nat}, Canonical (d.seqFrom i n) := by
  induction n with
  | zero => intro d h i; exact h
  | succ n ih =>
    intro d h i
    unfold Device.seqFrom
    split
    · exact h.setFlag.modPwr
    · exact ite (ih h.setGood.setFld) h.setFlag.modPwr

theorem seqStart (h : Canonical d) : Canonical d.seqStart := seqFrom (each h (fun _ _ h => h.writeOper))
theorem seqFault (h : Canonical d) {rail cause : Nat} : Canonical (d.seqFault rail cause) := h.setFld.setFld.ledgerEvent.bootFail

theorem bootFailRails (h : Canonical d) {step : Nat} : Canonical (d.bootFailRails step) := by
  unfold Device.bootFailRails
  extract_lets d1
  have h1 : Canonical d1 := h.bootFail.railsDown
  exact ite h1.downEnds h1

theorem railIsOff (h : Canonical d) {r : Nat} : Canonical (d.railIsOff r) := by
  unfold Device.railIsOff
  split
  · split
    · extract_lets d1
      have h1 : Canonical d1 := h.setGood
      split
      · exact h1.setRen.modPwr
      · exact h1.modPwr
    · exact h
  · split
    · exact ite h.nextFall h
    · exact h

theorem pmbMargin (h : Canonical d) {r mode : Nat} : Canonical (d.pmbMargin r mode) := by
  unfold Device.pmbMargin
  extract_lets
  split
  · exact h.modPwr.writeOper
  · exact h.modPwr.writeOper
  · exact h.writeOper

theorem marginRequest (h : Canonical d) {value : Word} {nack : Bool} : Canonical (d.marginRequest value nack) := by
  unfold Device.marginRequest
  extract_lets d1 _ _ d2 _ d3 d4 d5
  have h1 : Canonical d1 := h.setReg
  have h2 : Canonical d2 := h1.setFlag
  have h3 : Canonical d3 := h1.setFld
  have h4 : Canonical d4 := h3.setFlag
  have h5 : Canonical d5 := h4.modPwr
  split
  · exact h2
  · split
    · exact h2
    · extract_lets d6
      have h6 : Canonical d6 := ite h5.pmbMargin h5
      exact ite h6.setFlag h6

theorem mirrorReg (h : Canonical d) {q : Side} {f : Side → Nat} : Canonical (d.mirrorReg q f) := h.setReg

theorem mirrorFallback (h : Canonical d) {q : Side} {n : Nat} : Canonical (d.mirrorFallback q n) := by
  cases q
  all_goals
    unfold Device.mirrorFallback
    extract_lets d1
    have h1 : Canonical d1 := h.setFlag
    split
    · exact h1.slotFallback
    · exact h1.leaveFallback.setSlot
    · exact h1

theorem mirrorInt (h : Canonical d) {q : Side} {n : Nat} : Canonical (d.mirrorInt q n) := by
  unfold Device.mirrorInt
  split
  · exact h.setReg.setSlot
  · exact h

theorem mirrorCopy (h : Canonical d) {q : Side} : Canonical (d.mirrorCopy q) := by
  unfold Device.mirrorCopy
  extract_lets d1 d2 d3
  have h1 : Canonical d1 := each h fun _ _ h => h.setLine
  have h2 : Canonical d2 := each h1 fun _ _ h => h.mirrorReg.mirrorReg
  have h3 : Canonical d3 := each h2 fun _ _ h => h.mirrorReg.mirrorReg.mirrorReg.setFlag.setAxis
  exact each h3 fun _ _ h => h.mirrorReg.mirrorFallback.mirrorInt

theorem badMirror (h : Canonical d) {q : Side} : Canonical (d.badMirror q) := h.count.checkEvent
theorem endPanic (h : Canonical d) {q : Side} : Canonical (d.endPanic q) := h.setFld

theorem caughtUp (h : Canonical d) {s : Nat} : Canonical (d.caughtUp s) := by
  unfold Device.caughtUp
  split
  · exact h
  · split
    · exact h
    · extract_lets _ _ d1 d2 d3
      have h1 : Canonical d1 := h.maxFld
      have h2 : Canonical d2 := h1.withTransfer.sendLine
      have h3 : Canonical d3 := h2.endPanic
      exact ite (ite h3 h3.endOverlap) h2

theorem retest (h : Canonical d) {q : Side} : Canonical (d.retest q) := ite h.setQ.testIfYielded h

theorem planTransfer (h : Canonical d) {q : Side} {handover : Bool} : Canonical (d.planTransfer q handover) := by
  unfold Device.planTransfer
  extract_lets d1
  have h1 : Canonical d1 := h.withPlanned
  exact ite h1.plannedNow h1

theorem enterHeld (h : Canonical d) : Canonical d.enterHeld :=
  h.setSt.domainsHeld.writebackHeld.eolHeld.stationsHeld.retrainHeld.plannedNow

theorem ledgerClear (h : Canonical d) : Canonical d.ledgerClear := each (each h (fun _ _ h => h.setReg)) fun _ _ h => h.setReg

theorem nmiClear (h : Canonical d) {mask : Word} : Canonical (d.nmiClear mask) := by
  unfold Device.nmiClear
  extract_lets d1
  have h1 : Canonical d1 := h.setReg
  exact ite h1.setFlag h1

theorem estop (h : Canonical d) : Canonical d.estop := h.kerbTrigger

theorem krbClear (h : Canonical d) {key : Nat} : Canonical (d.krbClear key) := by
  unfold Device.krbClear
  split
  · exact h
  · split
    · exact h.setFlag
    · extract_lets d1 d2
      have h1 : Canonical d1 := h.setReg.setFlag.modKerb
      have h2 : Canonical d2 := by
        unfold d2
        split
        · exact h1.setTransmits
        · exact h1
      exact h2.enterHeld

theorem setFlash (h : Canonical d) {a : Nat} {l : List Byte} : Canonical (d.setFlash a l) := h.modFlash

theorem updateRun (h : Canonical d) {u : Update} : Canonical (d.updateRun u) := by
  unfold Device.updateRun
  extract_lets d1 d2
  have h1 : Canonical d1 := h.setFld
  have h2 : Canonical d2 := h1.setFlash
  exact ite h2.withFrees h1

theorem updateIssue (h : Canonical d) {op : Nat} {c : Copy} {data : List Byte} : Canonical (d.updateIssue op c data) := by
  unfold Device.updateIssue
  split
  · exact h.setFld
  · extract_lets _ d1 d2
    have h1 : Canonical d1 := h.setFld
    have h2 : Canonical d2 := h1.modBoot
    exact ite h1.updateEnd (ite h1.updateEnd (ite h2.setFld h2.updateRun))

theorem updateDone (h : Canonical d) {f : Fuses} {u : Update} {flashOk : Bool} : Canonical (d.updateDone f u flashOk) :=
  ite h.updateEnd (ite h.updateEnd (ite h.setFlash.updateEnd (ite h.setFlash.updateEnd (ite h.updateEnd h.setFld.updateEnd))))

theorem updateAbort (h : Canonical d) : Canonical d.updateAbort := ite h.updateEnd h

theorem updateResume (h : Canonical d) : Canonical d.updateResume := by
  unfold Device.updateResume
  split
  · exact ite h.updateRun h
  · exact h

theorem readReg (h : Canonical d) {f : Fuses} {a : Nat} : Canonical (d.readReg f a) := by
  unfold Device.readReg
  split
  · exact h.withHiLatch.answer
  · split
    · exact h.withHiLatch.answer
    · exact h.answer

theorem writePlain (h : Canonical d) {a : Nat} {v : Word} : Canonical (d.writePlain a v) := by
  unfold Device.writePlain
  split
  · exact h
  · extract_lets _ d1
    have h1 : Canonical d1 := h.setReg
    exact ite h1.ledgerEvent h1

theorem writeCtrl (h : Canonical d) {a : Nat} {v : Word} {on off : Device → Device} (hon : ∀ e, Canonical e → Canonical (on e))
    (hoff : ∀ e, Canonical e → Canonical (off e)) : Canonical (d.writeCtrl a v on off) := by
  unfold Device.writeCtrl
  extract_lets _ d1
  have h1 : Canonical d1 := h.writePlain
  exact ite h1 (ite (hon _ h1) (hoff _ h1))

theorem writeChannel (h : Canonical d) {e : Engine} {c o : Nat} {v : Word} : Canonical (d.writeChannel e c o v) :=
  ite h (ite (ite h.dmaOn h.writePlain.dmaOff) (ite h.writePlain.setChan h.writePlain))

theorem writeRegulator (h : Canonical d) {q : Side} {o : Nat} {v : Word} : Canonical (d.writeRegulator q o v) := by
  unfold Device.writeRegulator
  extract_lets
  split
  · exact writeCtrl h (fun _ h => h.regulatorOn) fun _ h => h.regulatorOff
  · split
    · exact ite h.coefWrite h
    · split
      · split
        · exact writeCtrl h (fun _ h => h.slotOn) fun _ h => h.slotOff
        · split
          · exact h.slotResume
          · exact h.slotFallback
          · exact h
        · exact h.writePlain
      · exact h.writePlain

theorem writeMotor (h : Canonical d) {q : Side} {o : Nat} {v : Word} : Canonical (d.writeMotor q o v) := by
  unfold Device.writeMotor
  extract_lets
  split
  · exact writeCtrl h (fun _ h => h.motorsOn) fun _ h => h.motorsOff
  · split
    · exact ite h.clearChop h
    · split
      · exact writeCtrl h (fun _ h => h.polyOn) fun _ h => h.polyOff
      · exact ite (writeCtrl h (fun _ h => h.pmsmOn) (fun _ h => h.pmsmOff)) h.writePlain

theorem writeAxes (h : Canonical d) {q : Side} {o : Nat} {v : Word} : Canonical (d.writeAxes q o v) := by
  unfold Device.writeAxes
  extract_lets
  split
  · exact writeCtrl h (fun _ h => h.driveOn) fun _ h => h.driveOff
  · split
    · split
      · exact h.axisControl
      · exact h.axisMove
      · split
        · exact h.axisHome
        · exact h.axisStop
        · exact h.axisClear
        · exact h
      · exact h.writePlain
    · exact h.writePlain

theorem writeBeam (h : Canonical d) {q : Side} {o wsn : Nat} {v : Word} : Canonical (d.writeBeam q o wsn v) := by
  unfold Device.writeBeam
  extract_lets _ _ d1
  have h1 : Canonical d1 := h.mapWrite
  exact ite (writeCtrl h (fun _ h => h.stationOn) (fun _ h => h.stationOff)) (ite (ite h1.takeMaps h1) h.writePlain)

theorem writeEnwell (h : Canonical d) {q : Side} {o : Nat} {v : Word} : Canonical (d.writeEnwell q o v) := by
  unfold Device.writeEnwell
  extract_lets _ _ d1
  have h1 : Canonical d1 := writeCtrl h (fun _ h => h.portOn) fun _ h => h.portOff
  exact ite (ite h1.portRetrain h1) (ite (writeCtrl h (fun _ h => h.setFlag) (fun _ h => h.inspPortOff)) h.writePlain)

theorem writeQuarter (h : Canonical d) {q : Side} {o wsn : Nat} {v : Word} : Canonical (d.writeQuarter q o wsn v) := by
  unfold Device.writeQuarter
  extract_lets
  split
  · exact ite (ite h.retest h) h.writePlain
  · split
    · exact writeCtrl h (fun _ h => h.setFlag) fun _ h => h.timelineOff
    · split
      · split
        · exact h.startClearout
        · exact h.ackClear
        · exact h
      · exact h.writePlain
  · exact ite (writeCtrl h (fun _ h => h.setFlag) (fun _ h => h.supervisorOff)) h.writePlain
  · exact h.writeRegulator
  · exact h.writeRegulator
  · exact h.writeMotor
  · exact h.writeAxes
  · exact ite (writeCtrl h (fun _ h => h.synthOn) (fun _ h => h.synthOff)) h.writePlain
  · exact h.writeBeam
  · exact h.writeEnwell
  · exact ite h.writeChannel h
  · exact h.writePlain

theorem writeUpdCmd (h : Canonical d) {v : Word} : Canonical (d.writeUpdCmd v) :=
  ite h.updateAbort (ite h.updateIssue (ite h.updateIssue h))

theorem writeMux (h : Canonical d) {n : Nat} {v : Word} : Canonical (d.writeMux n v) := by
  unfold Device.writeMux
  extract_lets _ d1
  have h1 : Canonical d1 := h.writePlain
  exact ite h1.muxForce (ite h1 h1.muxSelect)

theorem writeGates (h : Canonical d) {v : Word} : Canonical (d.writeGates v) := by
  unfold Device.writeGates
  refine each ?_ ?_
  · exact h
  · intro _ _ h
    extract_lets _ d1
    have h1 : Canonical d1 := h.setFld
    exact ite (ite h h.gateClose) (ite h1 h1.gateOpen)

theorem writeArcade (h : Canonical d) {a : Nat} {v : Word} : Canonical (d.writeArcade a v) := by
  unfold Device.writeArcade
  split
  · exact h.arcCtrl
  · split
    · exact h.jobEnqueue
    · split
      · exact h.setReg
      · split
        · split
          · exact h.jobFlush
          · exact h.jobAbort
          · exact h.jobAbortAll
          · exact h
        · exact h.writePlain

theorem writeRings (h : Canonical d) {a : Nat} {v : Word} : Canonical (d.writeRings a v) :=
  ite h.ringCfg (ite h.ringCmd (ite h.evtCfg h.writePlain))

theorem writeShared (h : Canonical d) {a : Nat} {v : Word} : Canonical (d.writeShared a v) := by
  unfold Device.writeShared
  split
  · exact ite h.writeUpdCmd h.writePlain
  · exact ite h.writeMux (ite h.writeGates (ite (ite h.nmiClear h) h.writePlain))
  · split
    · split
      · exact h.park
      · exact h.parkRetain
      · exact h
    · exact ite h.marginRequest h.writePlain
  · exact h.writeArcade
  · split
    · extract_lets d1
      have h1 : Canonical d1 := h.writePlain
      split
      · exact h1.srEnter
      · exact h1.srExit
      · exact h1
    · exact h.writePlain
  · exact ite h.commitClear h.writePlain
  · exact h.writeRings
  · exact ite (ite h.stoppedClear h) h.writePlain
  · exact ite h.nmiClear (ite (ite h.ledgerClear h) h.writePlain)
  · exact ite h.writeChannel h
  · split
    · split
      · exact h.estop
      · exact h.krbClear
      · exact h
    · exact h.writePlain
  · exact h.writePlain

theorem writeNow (h : Canonical d) {a wsn : Nat} {v : Word} : Canonical (d.writeNow a wsn v) := by
  unfold Device.writeNow
  split
  · exact h.writeQuarter
  · exact h.writeShared

theorem writeReg (h : Canonical d) {a wsn : Nat} {v : Word} : Canonical (d.writeReg a wsn v) := by
  unfold Device.writeReg
  split
  · exact h.withLoHold
  · split
    · exact h.withLoHold.writeNow.writeNow
    · exact h.writeNow

theorem rmw (h : Canonical d) {f : Fuses} {a wsn : Nat} {mask v : Word} : Canonical (d.rmw f a wsn mask v) := by
  unfold Device.rmw
  split
  · exact h
  · exact h.writeReg

theorem rmwBoth (h : Canonical d) {f : Fuses} {a wsn : Nat} {mask v : Word} : Canonical (d.rmwBoth f a wsn mask v) := by
  unfold Device.rmwBoth
  split
  · extract_lets d1
    have h1 : Canonical d1 := h.rmw
    exact ite h1 h1.rmw
  · exact h.rmw

theorem miss (h : Canonical d) {m : Master} {addr : Nat} : Canonical (d.miss m addr) := h.ledgerEvent.reply

theorem writeMsix (h : Canonical d) {i : Nat} {v : Word} : Canonical (d.writeMsix i v) := by
  unfold Device.writeMsix
  extract_lets d1
  have h1 : Canonical d1 := h.modHost
  exact ite h1.modHost.sendIrq h1

theorem writeWindow (h : Canonical d) {a : Nat} {v : Word} : Canonical (d.writeWindow a v) :=
  ite h.doorbell (ite h.doorbell (ite h.doorbell (ite h.evtDoorbell (ite h.writeMsix h))))

theorem readAny (h : Canonical d) {f : Fuses} {m : Master} {addr : Nat} : Canonical (d.readAny f m addr) := by
  unfold Device.readAny
  split
  · exact h.readReg
  · exact h.answer
  · exact h.answer
  · exact h.reply
  · exact h.reply
  · exact h.reply
  · exact h.reply
  · exact h.miss

theorem writePlace (h : Canonical d) {m : Master} {addr : Nat} {v : Word} : Canonical (d.writePlace m addr v) := by
  unfold Device.writePlace
  split
  · exact h.reply.writeReg
  · exact h.reply.setBytes
  · exact h.reply.writeWindow
  · exact h.reply
  · exact h.reply
  · exact h.reply
  · exact h.reply
  · exact h.miss

theorem crossWrite (h : Canonical d) {q : Side} {addr : Nat} : Canonical (d.crossWrite q addr) := h.ledgerEvent.reply

theorem writeAny (h : Canonical d) {m : Master} {addr : Nat} {v : Word} : Canonical (d.writeAny m addr v) := by
  unfold Device.writeAny
  split
  · exact ite h.reply h.writePlace
  · exact ite h.crossWrite h.writePlace
  · exact h.writePlace

theorem readWords {f : Fuses} {m : Master} {n : Nat} :
    ∀ {d : Device} (_ : Canonical d) {a : Nat}, Canonical (d.readWords f m a n).2.2 := by
  induction n with
  | zero => intro d h a; exact h
  | succ n ih => intro d h a; exact ih h.readAny

theorem readSpan (h : Canonical d) {f : Fuses} {m : Master} {addr len : Nat} : Canonical (d.readSpan f m addr len) := by
  unfold Device.readSpan
  exact ite h.readAny.withRdata h.readWords.answer.withRdata

theorem narrow (h : Canonical d) {m : Master} {addr len : Nat} : Canonical (d.narrow m addr len) :=
  ite h.reply h.ledgerEvent.reply

theorem deadAccess (h : Canonical d) {m : Master} {addr : Nat} : Canonical (d.deadAccess m addr) := by
  unfold Device.deadAccess
  split
  · exact h.reply
  · exact h.reply
  · exact h.reply
  · exact h.reply
  · exact h.miss
  · exact h.reply

theorem compressorUe (h : Canonical d) {c : Nat} : Canonical (d.compressorUe c) := by
  unfold Device.compressorUe
  split
  · exact h.chainFail
  · split
    · exact ite h.jobEnd h
    · exact h

theorem oldestImageFail (h : Canonical d) {code : Nat} : Canonical (d.oldestImageFail code) := by
  unfold Device.oldestImageFail
  split
  · exact h.imageFail
  · exact h

theorem codecUe (h : Canonical d) {a : Nat} : Canonical (d.codecUe a) := by
  unfold Device.codecUe
  split
  · exact h.compressorUe
  · split
    · exact h.oldestImageFail
    · split
      · split
        · exact ite h.oldestImageFail h.jobEnd
        · exact h.oldestImageFail
      · exact ite h.oldestImageFail h

theorem sramUe (h : Canonical d) {a : Nat} : Canonical (d.sramUe a) := by
  unfold Device.sramUe
  extract_lets d1 _ d2
  have h1 : Canonical d1 := ite h.modLedger h
  have h2 : Canonical d2 := h1.ledgerEvent.codecUe.reply
  split
  · exact h2.checkEvent
  · exact h2

theorem bootStep (h : Canonical d) {n : Nat} : Canonical (d.bootStep n) := h.setFld

theorem railsInRegulation (h : Canonical d) : Canonical d.railsInRegulation :=
  each h.bootStep.modPwr.setFld.withToken.modNorth.modSouth fun _ _ h => h.kerbTrigger

theorem flashInfo (h : Canonical d) : Canonical d.flashInfo := by
  unfold Device.flashInfo
  extract_lets d1 d2 d3 d4
  have h1 : Canonical d1 := h.modFlash
  have h2 : Canonical d2 := h1.setFlag
  have h3 : Canonical d3 := h2.setFld
  have h4 : Canonical d4 := h3.setFld
  exact ite h1 h4.setFld

theorem rejectCopy (h : Canonical d) {c : Copy} {code record : Nat} : Canonical (d.rejectCopy c code record) := by
  unfold Device.rejectCopy
  extract_lets d1
  have h1 : Canonical d1 := h.setFld
  exact ite h1 h1.setFld.setFld.setFld

theorem imageWord (h : Canonical d) {a : Nat} {v : Word} : Canonical (d.imageWord a v) := by
  unfold Device.imageWord
  split
  · extract_lets d1
    have h1 : Canonical d1 := h.writeReg
    exact ite h1 h1.writeReg
  · exact h.writeReg

theorem bindAxis (h : Canonical d) {a : Nat} : Canonical (d.bindAxis a) := by
  unfold Device.bindAxis
  split
  · exact each h fun _ _ h => h.setAxis
  · exact h

theorem noteReg (h : Canonical d) {a : Nat} : Canonical (d.noteReg a) := ite h.modBoot h

theorem applyRecord (h : Canonical d) {f : Fuses} {r : ImgRecord} : Canonical (d.applyRecord f r) := by
  unfold Device.applyRecord
  extract_lets
  split
  · exact each h fun _ _ h => h.imageWord.bindAxis.noteReg
  · split
    · exact each h fun _ _ h => h.rmwBoth.bindAxis.noteReg
    · split
      · split
        · exact h
        · refine each ?_ ?_
          · exact h
          · intro _ _ h
            extract_lets d1
            have h1 : Canonical d1 := h.setEntry
            exact ite h1.loadSlot h1
      · exact ite h.setBytes h

theorem applyRecords {f : Fuses} {img : List Byte} {stop : Option Nat} {n : Nat} :
    ∀ {d : Device} (_ : Canonical d) {i pos : Nat}, Canonical (d.applyRecords f img stop n i pos) := by
  induction n with
  | zero => intro d h i pos; exact h
  | succ n ih => intro d h i pos; exact ite h (ih h.applyRecord)

theorem preferToken (h : Canonical d) : Canonical d.preferToken := ite h.withToken.modNorth.modSouth h

theorem applyCopy (h : Canonical d) {f : Fuses} {c : Copy} {reread : Option Nat} : Canonical (d.applyCopy f c reread) := by
  unfold Device.applyCopy
  extract_lets _ _ d1 d2 _ _ d3 d4 d5
  have h1 : Canonical d1 := h.modBoot
  have h2 : Canonical d2 := h1.applyRecords
  have h3 : Canonical d3 := h2.setReg.setReg
  have h4 : Canonical d4 := h3.setFld.setFld
  have h5 : Canonical d5 := h4.setFlag.setNat
  split
  · exact h2.rejectCopy.bootFailRails
  · exact ite h3.rejectCopy.bootFailRails h5.lock.preferToken.bootStep

theorem chooseCopy (h : Canonical d) {f : Fuses} {reread : Option Nat} : Canonical (d.chooseCopy f reread) := by
  unfold Device.chooseCopy
  extract_lets _ _ d1
  have h1 : Canonical d1 := h.rejectCopy
  exact ite h.applyCopy (ite h1.applyCopy h1.rejectCopy.bootFailRails)

theorem quarterBootFail (h : Canonical d) {q : Side} : Canonical (d.quarterBootFail q) := by
  unfold Device.quarterBootFail
  extract_lets _ d1
  have h1 : Canonical d1 := h.setQ.ledgerEvent
  exact ite (ite h1.setQ.withToken h1.withToken) h1

theorem recover (h : Canonical d) {bad : List Nat} : Canonical (d.recover bad) :=
  setFlag (setFld (setFld (each (each h.modDlv (fun _ _ h => h.ledgerEvent)) (fun _ _ h => h.sheetJournal))))

theorem storeTrained (h : Canonical d) {rate gib ranks : Nat} {ecc : List Nat} : Canonical (d.storeTrained rate gib ranks ecc) := by
  unfold Device.storeTrained
  extract_lets d1 d2 d3 d4 d5 d6
  have h1 : Canonical d1 := h.setFld.setFlag
  have h2 : Canonical d2 := h1.setFld.setFlag.setFlag
  have h3 : Canonical d3 := h2.storeClock
  have h4 : Canonical d4 := h3.setFld
  have h5 : Canonical d5 := ite h4.recover h4
  have h6 : Canonical d6 := h5.setFld
  exact h6.setFld

theorem bootSafe (h : Canonical d) : Canonical d.bootSafe := by unfold Device.bootSafe; exact h.enterSafe.modKerb

theorem spanLedger (h : Canonical d) {m : Master} {a n : Nat} : Canonical (d.spanLedger m a n) :=
  ite (ite h.miss h) (ite h.miss (ite h.miss h))

theorem writeWords {m : Master} {n : Nat} :
    ∀ {d : Device} (_ : Canonical d) {a : Nat} {l : List Byte}, Canonical (d.writeWords m a n l) := by
  induction n with
  | zero => intro d h a l; exact h
  | succ n ih => intro d h a l; exact ite h (ite h.narrow (ih h.writeAny))

theorem dmaWrite (h : Canonical d) {m : Master} {a0 : Nat} {l : List Byte} : Canonical (d.dmaWrite m a0 l) :=
  ite (ite h.writeWords h.narrow) h.setBytes

theorem chargeRun (h : Canonical d) {e : Engine} {c n : Nat} : Canonical (d.chargeRun e c n) := by
  unfold Device.chargeRun
  exact ite (ite h.chargeIngest h).chargeIngest (ite h.chargeIngest h)

theorem dmaRead (h : Canonical d) {f : Fuses} {m : Master} {a0 n : Nat} {data : List Byte} :
    Canonical (d.dmaRead f m a0 n data).2 := by
  unfold Device.dmaRead
  extract_lets a x
  split
  · exact h
  · split
    · exact h.readWords
    · split
      · exact h
      · exact h

theorem moveBytes (h : Canonical d) {f : Fuses} {e : Engine} {c n : Nat} {data : List Byte} :
    Canonical (d.moveBytes f e c n data) := by
  unfold Device.moveBytes
  extract_lets a m src dst x d1 left d2 d3
  have h2 : Canonical d2 := h.dmaRead.setNat64.setNat64.setNat
  have h3 : Canonical d3 := ite h2.setFlag.setChan h2
  exact h3.dmaWrite

theorem runUe (h : Canonical d) {e : Engine} {c a : Nat} : Canonical (d.runUe e c a) := dmaEnd (ite h (ite h.storeUe h.sramUe))

theorem dmaRun (h : Canonical d) {f : Fuses} {e : Engine} {c n : Nat} {data : List Byte} {fault : RunFault} :
    Canonical (d.dmaRun f e c n data fault) := by
  unfold Device.dmaRun
  extract_lets
  split
  · exact h.spanLedger.dmaEnd
  · split
    · exact h.crossWrite.dmaEnd
    · split
      · exact h.spanLedger.dmaEnd
      · split
        · exact h.runUe
        · exact h.dmaEnd
        · exact h.dmaEnd
        · exact h.moveBytes

theorem paramWrite (h : Canonical d) {f : Fuses} {wsn : Nat} {e : Nat × Nat} : Canonical (d.paramWrite f wsn e) := by
  unfold Device.paramWrite
  extract_lets a lsb d1 write
  have h1 : Canonical d1 := h.withParams
  split
  · exact h1.drives fun _ h => h.rmwBoth
  · exact h1.rmwBoth

theorem applyParams (h : Canonical d) {f : Fuses} {x : BoundParam} : Canonical (d.applyParams f x) :=
  post (each h (fun _ _ h => h.paramWrite))

theorem applyBound (h : Canonical d) {f : Fuses} {wsn : Nat} : Canonical (d.applyBound f wsn) :=
  each h fun _ _ h => h.applyParams

theorem fetchParam (h : Canonical d) {f : Fuses} {slot : Nat} {x : FetchedSlot} : Canonical (d.fetchParam f slot x) :=
  ite h.post (ite h.post (ite h.applyParams (ite h.post h.modHost)))

theorem fetchBuffer (h : Canonical d) {x : FetchedSlot} : Canonical (d.fetchBuffer x) := ite h.post (ite h.post h.modHost)

theorem fetchSlots {f : Fuses} {r : Nat} {l : List FetchedSlot} :
    ∀ {d : Device} (_ : Canonical d), Canonical (d.fetchSlots f r l) := by
  induction l with
  | nil => intro d h; exact h
  | cons x rest ih =>
    intro d h
    unfold Device.fetchSlots
    split
    · exact h
    · extract_lets c slot d1 d2
      have h1 : Canonical d1 := h.setNat
      have h2 : Canonical d2 := by
        unfold d2
        split
        · exact h1.fetchPage
        · exact h1.fetchParam
        · exact h1.fetchBuffer
      exact ih h2

theorem fetchRing (h : Canonical d) {f : Fuses} {r : Nat} {slots : List FetchedSlot} : Canonical (d.fetchRing f r slots) :=
  ite h h.modHost.hostRead.fetchSlots.writeBack

theorem joinFirst (h : Canonical d) {q : Side} {s : Nat} : Canonical (d.joinFirst q s) := by
  unfold Device.joinFirst
  split
  · exact ite h.setSynth.sendLine.dutyLine h
  · exact h

theorem startNear (h : Canonical d) {s : Nat} : Canonical (d.startNear s) :=
  ite (each h.phaseAtRelease.nextBand (fun _ _ h => h.joinFirst)) h

theorem startPrint (h : Canonical d) {n s side total : Nat} {tail : Bool} : Canonical (d.startPrint n s side total tail) :=
  h.endPrint.onInst.setPrint.startNear

theorem suppressed (h : Canonical d) {n s side : Nat} : Canonical (d.suppressed n s side) := ite h.startPrint h

theorem released (h : Canonical d) {f : Fuses} {n s side : Nat} {i : Instance} : Canonical (d.released f n s side i) :=
  startPrint (ite h.applyBound h)

theorem releaseStation (h : Canonical d) {f : Fuses} {n s side : Nat} : Canonical (d.releaseStation f n s side) := by
  unfold Device.releaseStation
  split
  · exact h
  · split
    · exact h
    · extract_lets d1 d2 d3
      have h1 : Canonical d1 := ite h.plannedNow h
      have h2 : Canonical d2 := h1.paceSettle.onInst
      have h3 : Canonical d3 := ite h2.measStop h2
      exact ite h3.suppressed (ite h3.sheetDefective h3.released)

theorem restoreReg (h : Canonical d) {f : Fuses} {q : Side} {o : Nat} : Canonical (d.restoreReg f q o) :=
  ite h.setReg h.writeQuarter

theorem restoreSlot (h : Canonical d) {q : Side} {n : Nat} : Canonical (d.restoreSlot q n) :=
  each h.setFlag.setReg fun _ _ h => h.setReg

theorem restore (h : Canonical d) {f : Fuses} {q : Side} : Canonical (d.restore f q) :=
  lock (each (each h.setFlag (fun _ _ h => h.restoreSlot)) (fun _ _ h => h.restoreReg))

theorem testPassed (h : Canonical d) {q : Side} : Canonical (d.testPassed q) := h.setFld.setFlag.setRole

theorem finishTest (h : Canonical d) {f : Fuses} {q : Side} {failStep : Nat} : Canonical (d.finishTest f q failStep) := by
  unfold Device.finishTest
  extract_lets d1
  have h1 : Canonical d1 := h.restore
  exact ite h1.testFailed (ite h1.testFailed h1.testPassed)

theorem testPower (h : Canonical d) {q : Side} : Canonical (d.testPower q) := by
  unfold Device.testPower
  extract_lets d1
  have h1 : Canonical d1 := ite h h.domOn
  exact ite h1 h1.lanesUp

end Canonical

end Sys2Proof.Machine

end

section

set_option Elab.async false

namespace Sys2Proof.Machine

namespace Canonical

/-! One lemma per instruction: every next state that it answers has a canonical device. -/

/-- Every next state that a result answers is canonical. -/
def Ends (r : Result) : Prop := ∀ u, r = .next u → Canonical u.dev

variable {s : State}

theorem run (h : Canonical s.dev) {t : Nat} {f : Device → Device} (hf : ∀ e, Canonical e → Canonical (f e)) : Ends (s.run t f) := by
  intro u hu
  cases hu
  exact hf _ h.tick

theorem runF (h : Canonical s.dev) {t : Nat} {f : Fuses → Device → Device} (hf : ∀ e, Canonical e → Canonical (f s.fuses e)) :
    Ends (s.runF t f) := by
  intro u hu
  cases hu
  exact hf _ h.tick

theorem execSensorSample_ends (h : Canonical s.dev) {t : Nat} {k : Fin 40} {reading : Int} {valid : Bool} :
    Ends (execSensorSample t k reading valid s) := by
  unfold execSensorSample
  refine run h fun _ h => ?_
  split
  · exact h.sampleSensor
  · exact h.sampleSensor

theorem execRiseEvaluation_ends (h : Canonical s.dev) {t : Nat} : Ends (execRiseEvaluation t s) :=
  run h fun _ h => each h fun _ _ h => h.riseOf

theorem execGraceEnd_ends (h : Canonical s.dev) {t : Nat} : Ends (execGraceEnd t s) :=
  run h fun _ h => ite h.setFlag.setFlag.modThm.post h

theorem execEnforcementStop_ends (h : Canonical s.dev) {t : Nat} : Ends (execEnforcementStop t s) :=
  run h fun _ h => ite h.setFlag.count.ledgerEvent.enterDraining h

theorem execStoppedClear_ends (h : Canonical s.dev) {t : Nat} : Ends (execStoppedClear t s) := run h fun _ h => h.stoppedClear

theorem execUnitPoll_ends (h : Canonical s.dev) {t : Nat} {units : List (Option UnitAnswer)} {challenge : List Byte} :
    Ends (execUnitPoll t units challenge s) :=
  run h fun _ h => ite h.pollUnits h

theorem execAuthResponseRead_ends (h : Canonical s.dev) {t : Nat} {st : Station} {response : List Byte} :
    Ends (execAuthResponseRead t st response s) := by
  unfold execAuthResponseRead
  refine runF h fun _ h => ?_
  extract_lets _ _ d1
  have h1 : Canonical d1 := h.setUnit
  split
  · exact h
  · exact ite h1.setFlag h1.unitFault

theorem execWritebackResume_ends (h : Canonical s.dev) {t : Nat} : Ends (execWritebackResume t s) :=
  run h fun _ h => ite h (each h (fun _ _ h => h.writeCount))

theorem execDriftTrackTick_ends (h : Canonical s.dev) {t : Nat} {ch : Fin 4} {drift : Int} {mr4 : BitVec 5} :
    Ends (execDriftTrackTick t ch drift mr4 s) := by
  unfold execDriftTrackTick
  refine run h fun _ h => ?_
  split
  · exact h
  · extract_lets d1 d2 d3 _ d4 d5
    have h1 : Canonical d1 := h.modPs
    have h2 : Canonical d2 := ite h1 h1.modPs.ledgerEvent
    have h3 : Canonical d3 := h2.setFld
    have h4 : Canonical d4 := h3.modPs
    have h5 : Canonical d5 := ite h4.ledgerEvent h4
    exact h5.evalStoreZone

theorem execPsEccCe_ends (h : Canonical s.dev) {t addr : Nat} {e : BlockError} : Ends (execPsEccCe t addr e s) :=
  run h fun _ h => ite h h.addSat

theorem execPatrolScrub_ends (h : Canonical s.dev) {t : Nat} : Ends (execPatrolScrub t s) := run h fun _ h => ite h h.modPs

theorem execRefreshDue_ends (h : Canonical s.dev) {t : Nat} {bank : Fin 256} {granted : Nat} :
    Ends (execRefreshDue t bank granted s) :=
  run h fun _ h => ite h h.modPs

theorem execActivate_ends (h : Canonical s.dev) {t addr : Nat} : Ends (execActivate t addr s) :=
  run h fun _ h => ite h (ite h.activateNow h.addSat.modPs)

theorem execRhTableClear_ends (h : Canonical s.dev) {t : Nat} {bank : Fin 256} : Ends (execRhTableClear t bank s) :=
  run h fun _ h => h.modPs

theorem execActIntervalStart_ends (h : Canonical s.dev) {t : Nat} {bank : Fin 256} : Ends (execActIntervalStart t bank s) :=
  run h fun _ h => each h.modPs fun _ _ h => h.activateNow

theorem execSrEnter_ends (h : Canonical s.dev) {t : Nat} : Ends (execSrEnter t s) := run h fun _ h => h.srEnter
theorem execSrExit_ends (h : Canonical s.dev) {t : Nat} : Ends (execSrExit t s) := run h fun _ h => h.srExit
theorem execSrIdleTimeout_ends (h : Canonical s.dev) {t : Nat} : Ends (execSrIdleTimeout t s) := run h fun _ h => ite h.srBegin h

theorem execSrEntryComplete_ends (h : Canonical s.dev) {t : Nat} : Ends (execSrEntryComplete t s) := by
  unfold execSrEntryComplete
  refine run h fun _ h => ?_
  split
  · extract_lets _ d1 d2
    have h1 : Canonical d1 := h.srFinish
    have h2 : Canonical d2 := ite h1.storeClock h1
    exact h2.modPs
  · exact h

theorem execSrExitComplete_ends (h : Canonical s.dev) {t : Nat} : Ends (execSrExitComplete t s) :=
  run h fun _ h => ite h.setFlag.modPs h

theorem execDmaChannelEnable_ends (h : Canonical s.dev) {t : Nat} {e : Engine} {c : Fin 16} {ctrl : Word} :
    Ends (execDmaChannelEnable t e c ctrl s) :=
  run h fun _ h => h.dmaOn

theorem execDmaChannelDisable_ends (h : Canonical s.dev) {t : Nat} {e : Engine} {c : Fin 16} :
    Ends (execDmaChannelDisable t e c s) :=
  run h fun _ h => h.dmaOff

theorem execPsEccUe_ends (h : Canonical s.dev) {t addr : Nat} {e : BlockError} {r : StoreReader} :
    Ends (execPsEccUe t addr e r s) := by
  unfold execPsEccUe
  refine run h fun _ h => ?_
  split
  · exact h
  · extract_lets d1
    have h1 : Canonical d1 := h.storeUe
    split
    · exact h1.realTimeUe
    · exact ite h1.dmaEnd h1
    · exact h1
    · exact h1

theorem execIngestResume_ends (h : Canonical s.dev) {t : Nat} : Ends (execIngestResume t s) :=
  run h fun _ h => ite h (each h.ingestWait (fun _ _ h => h.ingestBegin))

theorem execSpareMapWrite_ends (h : Canonical s.dev) {t : Nat} {st : Station} {m : Fin 2} {value : Word} :
    Ends (execSpareMapWrite t st m value s) :=
  run h fun _ h => h.mapWrite

theorem execStationEnable_ends (h : Canonical s.dev) {t : Nat} {q : Side} {st : Station} : Ends (execStationEnable t q st s) :=
  run h fun _ h => h.stationOn

theorem execStationDisable_ends (h : Canonical s.dev) {t : Nat} {q : Side} {st : Station} : Ends (execStationDisable t q st s) :=
  run h fun _ h => h.stationOff

theorem execEmitterMeasure_ends (h : Canonical s.dev) {t : Nat} {st : Station} : Ends (execEmitterMeasure t st s) := by
  unfold execEmitterMeasure
  refine run h fun _ h => ?_
  extract_lets _ _ _ d1 d2
  have h1 : Canonical d1 := h.modBmo
  have h2 : Canonical d2 := ite h1.sendMessage h1
  exact ite (each h2 (fun _ _ h => h.setFlag)) h

theorem execHeadTempTimeout_ends (h : Canonical s.dev) {t : Nat} {st : Station} : Ends (execHeadTempTimeout t st s) :=
  run h fun _ h => each h fun _ _ h => h.setFlag.setFld

theorem execStationSafeExit_ends (h : Canonical s.dev) {t : Nat} {st : Station} : Ends (execStationSafeExit t st s) :=
  run h fun _ h => ite (showSafe (each h.modBmo (fun _ _ h => h.setFld))) h

theorem execSynthEnable_ends (h : Canonical s.dev) {t : Nat} {q : Side} {st : Station} : Ends (execSynthEnable t q st s) :=
  run h fun _ h => h.synthOn

theorem execSynthDisable_ends (h : Canonical s.dev) {t : Nat} {q : Side} {st : Station} : Ends (execSynthDisable t q st s) :=
  run h fun _ h => h.synthOff

theorem execBeamDetectEdge_ends (h : Canonical s.dev) {t : Nat} {q : Side} {st : Station} {line : LineInfo} :
    Ends (execBeamDetectEdge t q st line s) :=
  run h fun _ h => ite h.acquireEdge (ite h.setSynth (ite (ite h (ite h.setSynth h.lineStart)) h))

theorem execAcquireTimeout_ends (h : Canonical s.dev) {t : Nat} {q : Side} {st : Station} : Ends (execAcquireTimeout t q st s) :=
  run h fun _ h => ite h.setFlag h

theorem execFreqComplete_ends (h : Canonical s.dev) {t : Nat} {q : Side} {st : Station} : Ends (execFreqComplete t q st s) := by
  unfold execFreqComplete
  refine run h fun _ h => ?_
  split
  · extract_lets d1
    have h1 : Canonical d1 := h.enterFreq
    exact ite h1 h1.lockPx
  · exact h

theorem execWindowClose_ends (h : Canonical s.dev) {t : Nat} {q : Side} {st : Station} {line : LineInfo} :
    Ends (execWindowClose t q st line s) := by
  unfold execWindowClose
  refine run h fun _ h => ?_
  extract_lets _ d1
  have h1 : Canonical d1 := h.setFld.setPx
  exact ite (ite (ite h1.goSafe.nowSafe h1) h.lineStart) h

theorem execIndexEdge_ends (h : Canonical s.dev) {t : Nat} {gpio : Fin 64} : Ends (execIndexEdge t gpio s) :=
  run h fun _ h => h.indexRise

theorem execLinePhaseWord_ends (h : Canonical s.dev) {t : Nat} {st : Station} {stamp : Nat} {line : LineInfo} :
    Ends (execLinePhaseWord t st stamp line s) := by
  unfold execLinePhaseWord
  refine run h fun _ h => ?_
  extract_lets _ _ d1
  have h1 : Canonical d1 := by
    unfold d1
    split
    · exact h
    · extract_lets _ d2 d3 _ _ d4
      have h2 : Canonical d2 := h.maxFld
      have h3 : Canonical d3 := ite h2.count h2
      have h4 : Canonical d4 := h3.setSynth
      exact ite h4.checkEvent h4
  exact ite h1.lineStart h

theorem execLinePhaseTimeout_ends (h : Canonical s.dev) {t : Nat} {st : Station} {line : LineInfo} :
    Ends (execLinePhaseTimeout t st line s) := by
  unfold execLinePhaseTimeout
  refine run h fun _ h => ?_
  extract_lets
  split
  · exact h
  · exact h.count.lineStart

theorem execRefPllEnable_ends (h : Canonical s.dev) {t : Nat} {q : Side} {mv50 mv300 : Nat} :
    Ends (execRefPllEnable t q mv50 mv300 s) := by
  unfold execRefPllEnable
  refine run h fun _ h => ?_
  extract_lets _ d1
  have h1 : Canonical d1 := h.setFlag.setFlag.setRef
  exact ite h1 h1.checkEvent

theorem execLockPinSample_ends (h : Canonical s.dev) {t : Nat} {q : Side} {mv : Nat} : Ends (execLockPinSample t q mv s) := by
  unfold execLockPinSample
  refine run h fun _ h => ?_
  extract_lets v samples ripple d1 since above d2 hold
  have h2 : Canonical d2 := h.setFld.setFld.setRef
  clear_value d2 since
  refine ite (ite h2.refDrop h2) ?_
  split
  · exact ite h2.setFlag h2
  · exact h2

theorem execRefLockTimeout_ends (h : Canonical s.dev) {t : Nat} {q : Side} : Ends (execRefLockTimeout t q s) :=
  run h fun _ h => ite h h.checkEvent

theorem execCoastEntry_ends (h : Canonical s.dev) {t : Nat} {q : Side} {st : Station} {cause : CoastCause} :
    Ends (execCoastEntry t q st cause s) := by
  unfold execCoastEntry
  refine run h fun _ h => ?_
  split
  · exact ite (ite h.setPx.setSynth.measStop h.setPx.setSynth) (ite h.setPx.setSynth h)
  · exact ite (ite h.setPx.setSynth.measStop h.setPx.setSynth) (ite h.setPx.setSynth h)

theorem execCoastTimeout_ends (h : Canonical s.dev) {t : Nat} {q : Side} {st : Station} : Ends (execCoastTimeout t q st s) :=
  run h fun _ h => ite h.goSafe h

theorem execRelock_ends (h : Canonical s.dev) {t : Nat} {q : Side} {st : Station} {delta : Int} :
    Ends (execRelock t q st delta s) := by
  unfold execRelock
  refine run h fun _ h => ?_
  split
  · split
    · exact h.setSynth.enterFreq
    · extract_lets _ d1
      have h1 : Canonical d1 := h.setFld.setFld
      exact ite h1.lockPx h1.setPx
  · exact h

theorem execSegmentSendWindow_ends (h : Canonical s.dev) {t : Nat} {q : Side} {st : Station} {chunk : Nat} {written : List Nat} :
    Ends (execSegmentSendWindow t q st chunk written s) := by
  unfold execSegmentSendWindow
  refine run h fun _ h => ?_
  split
  · exact h.fifoLevels
  · extract_lets d1
    have h1 : Canonical d1 := h.decodedTo.fifoLevels
    exact ite h1 h1.sendSegments.sentTo

theorem execSegmentDeadline_ends (h : Canonical s.dev) {t : Nat} {q : Side} {st : Station} {chunk : Nat} {written : List Nat} :
    Ends (execSegmentDeadline t q st chunk written s) := by
  unfold execSegmentDeadline
  refine run h fun _ h => ?_
  split
  · exact h
  · extract_lets d1 _ _ _ _ _ _ d2 d3
    have h1 : Canonical d1 := h.decodedTo.fifoLevels
    have h2 : Canonical d2 := h1.sendSegments.sentTo
    have h3 : Canonical d3 := h2.setLine
    exact ite h1 (ite h2 (ite h3.countBlank h3.lateLine))

theorem execDecodeStreamError_ends (h : Canonical s.dev) {t : Nat} {q : Side} {st : Station} {sub : Fin 8} :
    Ends (execDecodeStreamError t q st sub s) := by
  unfold execDecodeStreamError
  refine run h fun _ h => ?_
  extract_lets _ d1
  have h1 : Canonical d1 := h.ledgerEvent
  exact ite h1.setLine.lateLine h1

theorem execTelemetryFrame_ends (h : Canonical s.dev) {t : Nat} {q : Side} {st : Station} {frame : List Byte} :
    Ends (execTelemetryFrame t q st frame s) := by
  unfold execTelemetryFrame
  refine run h fun _ h => ?_
  split
  · exact h
  · split
    · extract_lets d1
      have h1 : Canonical d1 := h.count
      exact ite h1.loopMismatch h1
    · extract_lets _ _ _ d1 d2 d3 d4 d5 d6 d7 d8 d9
      have h1 : Canonical d1 := h.setPort
      have h2 : Canonical d2 := h1.setFld.setFld
      have h3 : Canonical d3 := ite h2.setFlag h2
      have h4 : Canonical d4 := h3.setFld
      have h5 : Canonical d5 := ite h4.bufCompare h4
      have h6 : Canonical d6 := h5.setFld.setFld
      have h7 : Canonical d7 := h6.setFld.setFld
      have h8 : Canonical d8 := h7.setFld.setFld
      have h9 : Canonical d9 := ite h8.ownFrame h8
      exact h9.portFrame

theorem execTelemetryTimeout_ends (h : Canonical s.dev) {t : Nat} {q : Side} {st : Station} :
    Ends (execTelemetryTimeout t q st s) :=
  run h fun _ h => ite h.portDown.loopMismatch h

theorem execTlmSyncLoss_ends (h : Canonical s.dev) {t : Nat} {q : Side} {st : Station} : Ends (execTlmSyncLoss t q st s) :=
  run h fun _ h => h.setFlag.portDown

theorem execTelemetryBlockLock_ends (h : Canonical s.dev) {t : Nat} {q : Side} {st : Station} :
    Ends (execTelemetryBlockLock t q st s) :=
  run h fun _ h => ite h h.setFlag

theorem execLoopTick_ends (h : Canonical s.dev) {t : Nat} {q : Side} {st : Station} : Ends (execLoopTick t q st s) := by
  unfold execLoopTick
  refine run h fun _ h => ?_
  extract_lets d1
  have h1 : Canonical d1 := h.portAgain
  exact ite h1.setPort.sendBlocks h1

theorem execPortEnable_ends (h : Canonical s.dev) {t : Nat} {q : Side} {st : Station} : Ends (execPortEnable t q st s) :=
  run h fun _ h => h.portOn

theorem execPortDisable_ends (h : Canonical s.dev) {t : Nat} {q : Side} {st : Station} : Ends (execPortDisable t q st s) :=
  run h fun _ h => h.portOff

theorem execRetrain_ends (h : Canonical s.dev) {t : Nat} {q : Side} {st : Station} : Ends (execRetrain t q st s) :=
  run h fun _ h => h.portRetrain

theorem execBringupTimeout_ends (h : Canonical s.dev) {t : Nat} {q : Side} {st : Station} : Ends (execBringupTimeout t q st s) :=
  run h fun _ h => ite h.setEn.ledgerEvent h

theorem execBringupRetry_ends (h : Canonical s.dev) {t : Nat} {q : Side} {st : Station} : Ends (execBringupRetry t q st s) :=
  run h fun _ h => ite h.trainPort h

theorem execRegulatorTick_ends (h : Canonical s.dev) {t : Nat} {q : Side} {codes : List Nat} {ssi vin : Nat} :
    Ends (execRegulatorTick t q codes ssi vin s) := by
  unfold execRegulatorTick
  refine run h fun _ h => ?_
  extract_lets d1 d2 d3 _ d4 _ d5 d6 d7
  have h1 : Canonical d1 := h.senseVin
  have h2 : Canonical d2 := ite (each h1 (fun _ _ h => h.modRgl)) h1
  have h3 : Canonical d3 := h2.ssiRead.takeVelocities
  have h4 : Canonical d4 := h3.setFld
  have h5 : Canonical d5 := each h4 fun _ _ h => h.setSlot.countOpenShort
  have h6 : Canonical d6 := each h5 fun _ _ h => h.sampleSlot
  have h7 : Canonical d7 := h6.maxFld
  exact h7.modRgl

theorem execModeWrite_ends (h : Canonical s.dev) {t : Nat} {q : Side} {n : Fin 512} {value : Word} :
    Ends (execModeWrite t q n value s) :=
  run h fun _ h => h.setFld

theorem execCoefficientWrite_ends (h : Canonical s.dev) {t : Nat} {q : Side} {n : Fin 512} {p : Fin 6} {which : Fin 4} {value : Word} :
    Ends (execCoefficientWrite t q n p which value s) :=
  run h fun _ h => h.coefWrite

theorem execSetpointWrite_ends (h : Canonical s.dev) {t : Nat} {q : Side} {n : Fin 512} {value : Word} :
    Ends (execSetpointWrite t q n value s) :=
  run h fun _ h => h.setReg

theorem execResume_ends (h : Canonical s.dev) {t : Nat} {q : Side} {n : Fin 512} : Ends (execResume t q n s) :=
  run h fun _ h => h.slotResume

theorem execFallback_ends (h : Canonical s.dev) {t : Nat} {q : Side} {n : Fin 512} : Ends (execFallback t q n s) :=
  run h fun _ h => h.slotFallback

theorem execSlotDisable_ends (h : Canonical s.dev) {t : Nat} {q : Side} {n : Fin 512} : Ends (execSlotDisable t q n s) :=
  run h fun _ h => h.slotOff

theorem execPolyEnable_ends (h : Canonical s.dev) {t : Nat} {q : Side} {p : Fin 8} : Ends (execPolyEnable t q p s) :=
  run h fun _ h => h.polyOn

theorem execPolyDisable_ends (h : Canonical s.dev) {t : Nat} {q : Side} {p : Fin 8} : Ends (execPolyDisable t q p s) :=
  run h fun _ h => h.polyOff

theorem execPhaseComparatorEdge_ends (h : Canonical s.dev) {t : Nat} {q : Side} {p : Fin 8} {phase : Fin 3} :
    Ends (execPhaseComparatorEdge t q p phase s) := by
  unfold execPhaseComparatorEdge
  refine run h fun _ h => ?_
  extract_lets _ _ _ d1 _ _ _ d2 d3 _ d4
  have h1 : Canonical d1 := h.setPoly
  have h2 : Canonical d2 := h1.setReg
  have h3 : Canonical d3 := h2.setFld.count
  have h4 : Canonical d4 := h3.setPoly
  exact ite h1 (ite (ite h2.enterBrake h2) (ite (ite h2.senseDone h2) (ite h4.enterRun (ite h2.resyncFail.enterBrake h2))))

theorem execSenseTimeout_ends (h : Canonical s.dev) {t : Nat} {q : Side} {p : Fin 8} : Ends (execSenseTimeout t q p s) :=
  run h fun _ h => ite h.setPo h

theorem execStandstill_ends (h : Canonical s.dev) {t : Nat} {q : Side} {p : Fin 8} : Ends (execStandstill t q p s) :=
  run h fun _ h => ite (ite h.polyStopped h.setPo) h

theorem execBrakeTimeout_ends (h : Canonical s.dev) {t : Nat} {q : Side} {p : Fin 8} : Ends (execBrakeTimeout t q p s) :=
  run h fun _ h => ite h.setPo.setFlag.motSettle.ownEvent h

theorem execAlignTimeout_ends (h : Canonical s.dev) {t : Nat} {q : Side} {p : Fin 8} : Ends (execAlignTimeout t q p s) :=
  run h fun _ h => ite h.setPo.setPoly h

theorem execHandoffTimeout_ends (h : Canonical s.dev) {t : Nat} {q : Side} {p : Fin 8} : Ends (execHandoffTimeout t q p s) :=
  run h fun _ h => ite h.attemptFails h

theorem execStartRetry_ends (h : Canonical s.dev) {t : Nat} {q : Side} {p : Fin 8} : Ends (execStartRetry t q p s) :=
  run h fun _ h => ite h.enterSense h

theorem execResyncReleaseEnd_ends (h : Canonical s.dev) {t : Nat} {q : Side} {p : Fin 8} : Ends (execResyncReleaseEnd t q p s) :=
  run h fun _ h => ite h.setPoly h

theorem execResyncTimeout_ends (h : Canonical s.dev) {t : Nat} {q : Side} {p : Fin 8} : Ends (execResyncTimeout t q p s) :=
  run h fun _ h => ite h.resyncFail h

theorem execPmsmEnable_ends (h : Canonical s.dev) {t : Nat} {q : Side} {n : Fin 4} : Ends (execPmsmEnable t q n s) :=
  run h fun _ h => h.pmsmOn

theorem execPmsmDisable_ends (h : Canonical s.dev) {t : Nat} {q : Side} {n : Fin 4} : Ends (execPmsmDisable t q n s) :=
  run h fun _ h => h.pmsmOff

theorem execPwmPeriodBoundary_ends (h : Canonical s.dev) {t : Nat} {q : Side} {g : Fin 4} {samples : List MotorSample} :
    Ends (execPwmPeriodBoundary t q g samples s) := by
  unfold execPwmPeriodBoundary
  refine run h fun _ h => ?_
  split
  · exact h
  · extract_lets d1 d2
    have h1 : Canonical d1 := each h fun _ _ h => h.modMot
    have h2 : Canonical d2 := by
      unfold d2
      split
      · exact each h1 fun _ _ h => h.polyPeriod.polyBridge
      · exact each h1 fun _ _ h => h.pmsmPeriod.pmsmBridge
      · exact h1
    exact h2.latchPins

theorem execPwmDisable_ends (h : Canonical s.dev) {t : Nat} {q : Side} {ch : Fin 128} : Ends (execPwmDisable t q ch s) :=
  run h fun _ h => h.modMot

theorem execEncoderIndex_ends (h : Canonical s.dev) {t : Nat} {q : Side} {e : Fin 8} : Ends (execEncoderIndex t q e s) := by
  unfold execEncoderIndex
  refine run h fun _ h => ?_
  extract_lets _ _ _ d1
  have h1 : Canonical d1 := each h fun _ _ h => ite h h.setFlag.setPmsm
  exact ite h1.encoderFault h1

theorem execDcbusSample_ends (h : Canonical s.dev) {t : Nat} {b : Fin 2} {dv : Nat} : Ends (execDcbusSample t b dv s) := by
  unfold execDcbusSample
  refine run h fun _ h => ?_
  extract_lets d1 _ _ _ _ d2
  have h1 : Canonical d1 := each h fun _ _ h => h.setFld
  have h2 : Canonical d2 := ite h1 h1.setBus
  exact h2.busBit

theorem execDcbusAverage_ends (h : Canonical s.dev) {t : Nat} {b : Fin 2} {dv : Nat} : Ends (execDcbusAverage t b dv s) := by
  unfold execDcbusAverage
  refine run h fun _ h => ?_
  extract_lets _ _ _ d1 d2
  have h1 : Canonical d1 := h.setBus
  have h2 : Canonical d2 := h1.busBit.ledgerEvent
  exact ite (each h2 (fun _ _ h => each h (fun _ _ h => h.setFlag))) h1

theorem execDcbusHardLimit_ends (h : Canonical s.dev) {t : Nat} {b : Fin 2} : Ends (execDcbusHardLimit t b s) :=
  run h fun _ h => h.setBus.busBit.setFld.ledgerEvent.stationsDefective

theorem execBusHardRecovery_ends (h : Canonical s.dev) {t : Nat} {b : Fin 2} : Ends (execBusHardRecovery t b s) :=
  run h fun _ h => ite h (each h.busBit.setFld (fun _ _ h => each h (fun _ _ h => h.enterResync)))

theorem execClearChop_ends (h : Canonical s.dev) {t : Nat} : Ends (execClearChop t s) := run h fun _ h => h.clearChop

theorem execEncoderEdge_ends (h : Canonical s.dev) {t : Nat} {q : Side} {e : Fin 8} {a b : Bool} : Ends (execEncoderEdge t q e a b s) := by
  unfold execEncoderEdge
  refine run h fun _ h => ?_
  extract_lets k o d1 n up
  have h1 : Canonical d1 := h.modAxs
  clear_value n d1
  split
  · exact h1.newCount
  · exact h1.newCount
  · exact h1.addSat.encoderFault
  · exact h1

theorem execAxisTargetWrite_ends (h : Canonical s.dev) {t : Nat} {q : Side} {a : Fin 32} {value : Word} :
    Ends (execAxisTargetWrite t q a value s) :=
  run h fun _ h => h.axisMove

theorem execStop_ends (h : Canonical s.dev) {t : Nat} {q : Side} {a : Fin 32} : Ends (execStop t q a s) :=
  run h fun _ h => h.axisStop

theorem execAxisControlWrite_ends (h : Canonical s.dev) {t : Nat} {q : Side} {a : Fin 32} {value : Word} :
    Ends (execAxisControlWrite t q a value s) :=
  run h fun _ h => h.axisControl

theorem execHome_ends (h : Canonical s.dev) {t : Nat} {q : Side} {a : Fin 32} : Ends (execHome t q a s) :=
  run h fun _ h => h.axisHome

theorem execClearFault_ends (h : Canonical s.dev) {t : Nat} {q : Side} {a : Fin 32} : Ends (execClearFault t q a s) :=
  run h fun _ h => h.axisClear

theorem execHomeSettleTimeout_ends (h : Canonical s.dev) {t : Nat} {q : Side} {a : Fin 32} :
    Ends (execHomeSettleTimeout t q a s) :=
  run h fun _ h => ite h.setReg.replan.setAx.setAxis h

theorem execDriveFrameSlot_ends (h : Canonical s.dev) {t : Nat} {q : Side} : Ends (execDriveFrameSlot t q s) := by
  unfold execDriveFrameSlot
  refine run h fun _ h => ?_
  extract_lets _ d1 d2 d3 d4
  have h1 : Canonical d1 := h.setFld
  have h2 : Canonical d2 := each h1 fun _ _ h => h.axisSample
  have h3 : Canonical d3 := ite (countOldFrame (each h2 (fun _ _ h => h.modAxs))) h2
  have h4 : Canonical d4 := by
    unfold d4
    refine each ?_ ?_
    · exact h3
    · intro _ _ h
      extract_lets _ d5
      have h5 : Canonical d5 := ite h.setAxis h
      exact ite h5.axisStopped h5
  exact ite h4.driveStopped h4

theorem execDriveFrameReturn_ends (h : Canonical s.dev) {t : Nat} {q : Side} {c : Fin 4} {body : List Byte} :
    Ends (execDriveFrameReturn t q c body s) := by
  unfold execDriveFrameReturn
  refine run h fun _ h => ?_
  extract_lets _ _ _ d1 _ d2 _ _ _ d3
  have h1 : Canonical d1 := ite h h.count
  have h2 : Canonical d2 := each h1 fun _ _ h => ite h.slotGood h.slotMissed
  have h3 : Canonical d3 := h2.modAxs
  exact ite h (ite (ite h3.setChain h3) h2)

theorem execLimitSwitchSample_ends (h : Canonical s.dev) {t : Nat} {q : Side} {a : Fin 32} {positive level : Bool} :
    Ends (execLimitSwitchSample t q a positive level s) := by
  unfold execLimitSwitchSample
  refine run h fun _ h => ?_
  extract_lets _ _ _ _ _ d1 _ _ d2 d3
  have h1 : Canonical d1 := h.setAxis
  have h2 : Canonical d2 := ite h1.setAx h1
  have h3 : Canonical d3 := ite h2.limitTrip h2
  exact ite h (ite h3.setAx.ownEvent.axisStop.setAx h3)

theorem execDriveBusEnable_ends (h : Canonical s.dev) {t : Nat} {q : Side} : Ends (execDriveBusEnable t q s) :=
  run h fun _ h => h.driveOn

theorem execDriveBusDisable_ends (h : Canonical s.dev) {t : Nat} {q : Side} : Ends (execDriveBusDisable t q s) :=
  run h fun _ h => h.driveOff

theorem execChainBringupTimeout_ends (h : Canonical s.dev) {t : Nat} {q : Side} {c : Fin 4} :
    Ends (execChainBringupTimeout t q c s) :=
  run h fun _ h => ite h.setChain.ownEvent h

theorem execChainBringupRetry_ends (h : Canonical s.dev) {t : Nat} {q : Side} {c : Fin 4} :
    Ends (execChainBringupRetry t q c s) :=
  run h fun _ h => ite h.chainStart h

theorem execStreamCheckDone_ends (h : Canonical s.dev) {t : Nat} {page : Fin 2} {st : Station} {band : Nat} {sub : Fin 8} {bytes : List Byte} :
    Ends (execStreamCheckDone t page st band sub bytes s) := by
  unfold execStreamCheckDone
  refine run h fun _ h => ?_
  split
  · exact h
  · split
    · exact h
    · exact ite h (ite h.setIngestAt.placeReady h.arcErr.ingestFail)

theorem execChainCompressStart_ends (h : Canonical s.dev) {t : Nat} {c : Fin 4} : Ends (execChainCompressStart t c s) := by
  unfold execChainCompressStart
  refine run h fun _ h => ?_
  split
  · exact h
  · split
    · exact h
    · exact ite h.setFree.setArcChain.cmpBusy h.waitBlocks

theorem execChainCompressDone_ends (h : Canonical s.dev) {t : Nat} {c : Fin 4} {bands : List (List (List BlockChoice))} {times : List Nat} :
    Ends (execChainCompressDone t c bands times s) := by
  unfold execChainCompressDone
  refine run h fun _ h => ?_
  split
  · exact h
  · split
    · exact h
    · exact h.slowCompressor.chainBands

theorem execJobEnqueue_ends (h : Canonical s.dev) {t : Nat} {word7 : Word} : Ends (execJobEnqueue t word7 s) :=
  run h fun _ h => h.jobEnqueue

theorem execJobStart_ends (h : Canonical s.dev) {t : Nat} {input : List Byte} : Ends (execJobStart t input s) := by
  unfold execJobStart
  refine run h fun _ h => ?_
  split
  · exact h
  · refine ite h ?_
    extract_lets pop bytes go
    have hpop : Canonical pop := h.setArc.showQueue
    have hgo (unit : Nat) : Canonical (go unit) := hpop.setArc.setFld.setFld.setNat.setNat
    refine ite hpop.jobEnd (ite (hgo 4).setFld ?_)
    split
    · exact (hgo _).cmpBusy.setFld
    · exact h

theorem execJobDone_ends (h : Canonical s.dev) {t : Nat} {x : Encoding} {srcOk dstOk : Bool} :
    Ends (execJobDone t x srcOk dstOk s) := by
  unfold execJobDone
  refine run h fun _ h => ?_
  split
  · exact h
  · extract_lets _ _ d1
    have h1 : Canonical d1 := h.chargeJob
    exact ite h (ite h.jobEnd (ite (ite h1.jobEnd h1.jobEnd) (ite h.jobEnd (ite h.jobEnd h.chargeJob.jobEnd.setBytes))))

theorem execFlush_ends (h : Canonical s.dev) {t : Nat} : Ends (execFlush t s) := run h fun _ h => h.jobFlush
theorem execAbort_ends (h : Canonical s.dev) {t : Nat} : Ends (execAbort t s) := run h fun _ h => h.jobAbort
theorem execAbortAll_ends (h : Canonical s.dev) {t : Nat} : Ends (execAbortAll t s) := run h fun _ h => h.jobAbortAll

theorem execInspectionLine_ends (h : Canonical s.dev) {t : Nat} {q : Side} {line : InspectionLine} :
    Ends (execInspectionLine t q line s) :=
  run h fun _ h => ite h (ite h.count (ite h.goodInsp h))

theorem execInspectImageDone_ends (h : Canonical s.dev) {t : Nat} {choices : List (List BlockChoice)} {times : List Nat} :
    Ends (execInspectImageDone t choices times s) := by
  unfold execInspectImageDone
  refine run h fun _ h => ?_
  split
  · exact h
  · split
    · exact h
    · extract_lets _ _ _ _ _ d1 d2 d3 d4
      have h1 : Canonical d1 := h.chargeStaging.setArc
      have h2 : Canonical d2 := each h1 fun _ _ h => h.slowCompressor
      have h3 : Canonical d3 := h2.setBytes.setBytes
      have h4 : Canonical d4 := h3.setBytes.setFld
      exact ite h.imageFail h4.post.showInsp

theorem execInspAlignLoss_ends (h : Canonical s.dev) {t : Nat} {q : Side} : Ends (execInspAlignLoss t q s) := by
  unfold execInspAlignLoss
  refine run h fun _ h => ?_
  extract_lets d1
  have h1 : Canonical d1 := h.setFlag
  split
  · exact ite h1.imageFail h1
  · exact h1

theorem execInspectionPortAligned_ends (h : Canonical s.dev) {t : Nat} {q : Side} : Ends (execInspectionPortAligned t q s) :=
  run h fun _ h => ite h.setFlag.setFld h

theorem execArcadeDisable_ends (h : Canonical s.dev) {t : Nat} {ctrl : Word} : Ends (execArcadeDisable t ctrl s) :=
  run h fun _ h => h.arcCtrl

theorem execJobDoorbell_ends (h : Canonical s.dev) {t : Nat} {r : Fin 3} {v : Word} : Ends (execJobDoorbell t r v s) :=
  run h fun _ h => h.doorbell

theorem execEventDoorbell_ends (h : Canonical s.dev) {t : Nat} {v : Word} : Ends (execEventDoorbell t v s) :=
  run h fun _ h => h.evtDoorbell

theorem execRingEnable_ends (h : Canonical s.dev) {t : Nat} {r : Fin 3} {cfg : Word} : Ends (execRingEnable t r cfg s) :=
  run h fun _ h => h.ringCfg

theorem execRingDisable_ends (h : Canonical s.dev) {t : Nat} {r : Fin 3} {cfg : Word} : Ends (execRingDisable t r cfg s) :=
  run h fun _ h => h.ringCfg

theorem execEventRingEnable_ends (h : Canonical s.dev) {t : Nat} {cfg : Word} : Ends (execEventRingEnable t cfg s) :=
  run h fun _ h => h.evtCfg

theorem execRetry_ends (h : Canonical s.dev) {t : Nat} {r : Fin 3} : Ends (execRetry t r s) := run h fun _ h => h.ringCmd
theorem execSkip_ends (h : Canonical s.dev) {t : Nat} {r : Fin 3} : Ends (execSkip t r s) := run h fun _ h => h.ringCmd

theorem execHostReadError_ends (h : Canonical s.dev) {t : Nat} {r : HostReader} : Ends (execHostReadError t r s) := by
  unfold execHostReadError
  refine run h fun _ h => ?_
  split
  · exact h.ingestFail
  · split
    · exact h.imageFail
    · exact h
  · exact h.updateHostError
  · exact h.jobHostError
  · exact ite h.dmaEnd h

theorem execBacklogDrain_ends (h : Canonical s.dev) {t : Nat} : Ends (execBacklogDrain t s) := run h fun _ h => h.drainAll

theorem execInterruptModerationTimeout_ends (h : Canonical s.dev) {t : Nat} {vector : Fin 64} :
    Ends (execInterruptModerationTimeout t vector s) :=
  run h fun _ h => ite h h.modHost.sendIrq

theorem execAspmL1Entry_ends (h : Canonical s.dev) {t : Nat} : Ends (execAspmL1Entry t s) := run h fun _ h => ite h.modHost h

theorem execPcieReset_ends (h : Canonical s.dev) {t : Nat} {kind : PcieResetKind} {unsent : Nat} :
    Ends (execPcieReset t kind unsent s) := by
  unfold execPcieReset
  refine run h fun _ h => ?_
  split
  · exact h.modHost.linkGoesDown
  · exact h.linkGoesDown
  · exact h.endpointReset

theorem execLinkDown_ends (h : Canonical s.dev) {t unsent : Nat} : Ends (execLinkDown t unsent s) :=
  run h fun _ h => h.linkGoesDown

theorem execPcieLinkUp_ends (h : Canonical s.dev) {t rate width : Nat} {cfg : PcieCfg} :
    Ends (execPcieLinkUp t rate width cfg s) :=
  run h fun _ h => ite h h.setFld.setFld.setFlag.modHost

theorem execTollgateCheck_ends (h : Canonical s.dev) {t : Nat} : Ends (execTollgateCheck t s) := run h fun _ h => h.tollgate

theorem execStackerDetect_ends (h : Canonical s.dev) {t : Nat} {gpio : Fin 64} : Ends (execStackerDetect t gpio s) :=
  run h fun _ h => h.stackerEdge

theorem execCommitClear_ends (h : Canonical s.dev) {t : Nat} {key : BitVec 16} : Ends (execCommitClear t key s) :=
  run h fun _ h => h.commitClear

theorem execPitchStart_ends (h : Canonical s.dev) {t : Nat} : Ends (execPitchStart t s) := run h fun _ h => h.pitchStart

theorem execTmlEnd_ends (h : Canonical s.dev) {t : Nat} {i : Fin 16} : Ends (execTmlEnd t i s) :=
  run h fun _ h => fire h fun _ _ _ h => h.inspectEnd.closeInst

theorem execTmlGap_ends (h : Canonical s.dev) {t : Nat} {i : Fin 16} : Ends (execTmlGap t i s) :=
  run h fun _ h => fire h fun _ _ _ h => ite h.plannedNow h

theorem execTmlGate_ends (h : Canonical s.dev) {t : Nat} {i : Fin 16} : Ends (execTmlGate t i s) := by
  unfold execTmlGate
  refine run h fun _ h => ?_
  refine fire ?_ ?_
  · exact h
  · intro _ _ _ h
    extract_lets d1 d2
    have h1 : Canonical d1 := drives h fun _ h => h.driveGpio
    have h2 : Canonical d2 := h1.onInst
    exact ite h2.divertSheet h2

theorem execTmlAcceptOpen_ends (h : Canonical s.dev) {t : Nat} {i : Fin 16} : Ends (execTmlAcceptOpen t i s) :=
  run h fun _ h => fire h fun _ _ _ h => h.onInst

theorem execTmlAcceptClose_ends (h : Canonical s.dev) {t : Nat} {i : Fin 16} : Ends (execTmlAcceptClose t i s) := by
  unfold execTmlAcceptClose
  refine run h fun _ h => ?_
  refine fire ?_ ?_
  · exact h
  · intro _ _ _ h
    extract_lets d1
    have h1 : Canonical d1 := h.onInst
    exact ite h1.ledgerEvent.kerbTrigger h1

theorem execTmlInspectOpen_ends (h : Canonical s.dev) {t : Nat} {i : Fin 16} : Ends (execTmlInspectOpen t i s) :=
  run h fun _ h => fire h fun _ _ _ h => h.onInst

theorem execTmlInspectClose_ends (h : Canonical s.dev) {t : Nat} {i : Fin 16} : Ends (execTmlInspectClose t i s) :=
  run h fun _ h => fire h fun _ _ _ h => h.inspectEnd

theorem execTmlCommit_ends (h : Canonical s.dev) {t : Nat} {i : Fin 16} : Ends (execTmlCommit t i s) :=
  run h fun _ h => fire h fun _ _ _ h => ite h.deliver h

theorem execTmlWasteMark_ends (h : Canonical s.dev) {t : Nat} {i : Fin 16} : Ends (execTmlWasteMark t i s) := by
  unfold execTmlWasteMark
  refine run h fun _ h => ?_
  refine fire ?_ ?_
  · exact h
  · intro _ _ _ h
    extract_lets d1 d2
    have h1 : Canonical d1 := h.onInst
    have h2 : Canonical d2 := h1.pulse
    exact ite (ite h2 h2.divertSheet) h1

theorem execTmlGpio_ends (h : Canonical s.dev) {t : Nat} {i : Fin 16} : Ends (execTmlGpio t i s) :=
  run h fun _ h => fire h fun _ _ _ h => drives h fun _ h => h.driveGpio

theorem execTmlPulse_ends (h : Canonical s.dev) {t : Nat} {i : Fin 16} : Ends (execTmlPulse t i s) :=
  run h fun _ h => fire h fun _ _ _ h => h.pulse

theorem execPulseEnd_ends (h : Canonical s.dev) {t : Nat} {gpio : Fin 64} : Ends (execPulseEnd t gpio s) := by
  unfold execPulseEnd
  refine run h fun _ h => ?_
  split
  · exact h
  · extract_lets d1 d2
    have h1 : Canonical d1 := drives h fun _ h => h.driveGpio
    have h2 : Canonical d2 := h1.modTml
    exact ite (each h2 (fun _ _ h => h.setFlag)) h2

theorem execTmlSetpoint_ends (h : Canonical s.dev) {t : Nat} {i : Fin 16} : Ends (execTmlSetpoint t i s) :=
  run h fun _ h => fire h fun _ _ _ h => drives h fun _ h => each h fun _ _ h => h.setNat

theorem execTmlAxisMove_ends (h : Canonical s.dev) {t : Nat} {i : Fin 16} : Ends (execTmlAxisMove t i s) :=
  run h fun _ h => fire h fun _ _ _ h => drives h fun _ h => each h fun _ _ h => h.axisMove

theorem execClearout_ends (h : Canonical s.dev) {t : Nat} : Ends (execClearout t s) := run h fun _ h => h.startClearout
theorem execAckCleared_ends (h : Canonical s.dev) {t : Nat} : Ends (execAckCleared t s) := run h fun _ h => h.ackClear

theorem execTimelineWatchdog_ends (h : Canonical s.dev) {t : Nat} {q : Side} {kind : StallKind} :
    Ends (execTimelineWatchdog t q kind s) :=
  run h fun _ h => ite h.setFlag.checkEvent h

theorem execTimelineDisable_ends (h : Canonical s.dev) {t : Nat} {q : Side} : Ends (execTimelineDisable t q s) :=
  run h fun _ h => h.timelineOff

theorem execSupervisorSweep_ends (h : Canonical s.dev) {t : Nat} {q : Side} {took : Nat} {gpio : BitVec 64} :
    Ends (execSupervisorSweep t q took gpio s) :=
  run h fun _ h => h.modTml.sweep

theorem execSupervisorDisable_ends (h : Canonical s.dev) {t : Nat} {q : Side} : Ends (execSupervisorDisable t q s) :=
  run h fun _ h => h.supervisorOff

theorem execWindDownComplete_ends (h : Canonical s.dev) {t : Nat} {b : BlockId} : Ends (execWindDownComplete t b s) :=
  run h fun _ h => h.windDownEnds.domainsSettle

theorem execClockMonitorWindow_ends (h : Canonical s.dev) {t : Nat} {k : Fin 9} {edges : Nat} {d0Deviates : Bool} :
    Ends (execClockMonitorWindow t k edges d0Deviates s) := by
  unfold execClockMonitorWindow
  refine run h fun _ h => ?_
  extract_lets d1 d2
  have h1 : Canonical d1 := h.setNat
  have h2 : Canonical d2 := h1.modClk
  exact ite h1 (ite (ite h2.declareFailed h2.declareFailed) h1.withinTol)

theorem execRefclkMissingEdge_ends (h : Canonical s.dev) {t : Nat} : Ends (execRefclkMissingEdge t s) :=
  run h fun _ h => h.declareFailed

theorem execIoscReady_ends (h : Canonical s.dev) {t : Nat} : Ends (execIoscReady t s) := run h fun _ h => h.modClk.setFlag.setFlag
theorem execIoscRestart_ends (h : Canonical s.dev) {t : Nat} : Ends (execIoscRestart t s) := run h fun _ h => ite h.setFlag h

theorem execClassAWaitEnd_ends (h : Canonical s.dev) {t : Nat} : Ends (execClassAWaitEnd t s) :=
  run h fun _ h => ite h.setFlag.setLive.modClk h

theorem execClockReturn_ends (h : Canonical s.dev) {t : Nat} {n : Fin 6} : Ends (execClockReturn t n s) :=
  run h fun _ h => ite h.setFlag.setFlag.setFlag h

theorem execMuxSelect_ends (h : Canonical s.dev) {t : Nat} {n : Fin 6} {value : Word} : Ends (execMuxSelect t n value s) :=
  run h fun _ h => h.muxSelect

theorem execMuxSwitchDone_ends (h : Canonical s.dev) {t : Nat} {n : Fin 6} : Ends (execMuxSwitchDone t n s) :=
  run h fun _ h => ite h.forcePath h

theorem execMuxStallTimeout_ends (h : Canonical s.dev) {t : Nat} {n : Fin 6} : Ends (execMuxStallTimeout t n s) :=
  run h fun _ h => ite h.setFlag.ledgerEvent h

theorem execMuxForce_ends (h : Canonical s.dev) {t : Nat} {n : Fin 6} {value : Word} : Ends (execMuxForce t n value s) :=
  run h fun _ h => h.muxForce

theorem execGateClose_ends (h : Canonical s.dev) {t : Nat} {g : Fin 6} : Ends (execGateClose t g s) :=
  run h fun _ h => h.gateClose

theorem execGateCloseTimeout_ends (h : Canonical s.dev) {t : Nat} {g : Fin 6} : Ends (execGateCloseTimeout t g s) :=
  run h fun _ h => ite h.setFld.setFld.modClk.ledgerEvent.reply h

theorem execOpPointChange_ends (h : Canonical s.dev) {t : Nat} {x : OpDomain} {high : Bool} :
    Ends (execOpPointChange t x high s) :=
  run h fun _ h => ite h.setFlag.modClk h.opStart

theorem execVoltageStepDone_ends (h : Canonical s.dev) {t took : Nat} : Ends (execVoltageStepDone t took s) := by
  unfold execVoltageStepDone
  refine run h fun _ h => ?_
  split
  · exact h
  · extract_lets d1 d2 next d3 d4
    have h2 : Canonical d2 := ite h.maxFld.setFlag h.maxFld
    have h4 : Canonical d4 := h2.modClk.setFlag.setFlag
    clear_value next d4
    split
    · exact h4.opStart
    · exact h4

theorem execVinRise_ends (h : Canonical s.dev) {t : Nat} : Ends (execVinRise t s) := by
  unfold execVinRise
  refine run h fun _ h => ?_
  extract_lets _ d1
  have h1 : Canonical d1 := h.modPwr
  exact ite h1.start h1

theorem execVinFail_ends (h : Canonical s.dev) {t : Nat} : Ends (execVinFail t s) := by
  unfold execVinFail
  refine run h fun _ h => ?_
  extract_lets d1
  have h1 : Canonical d1 := h.modPwr
  exact ite h1 (ite h1.modPwr h1.forceOutputs.modPwr.railsDown)

theorem execVinCollapse_ends (h : Canonical s.dev) {t : Nat} : Ends (execVinCollapse t s) :=
  run h fun _ h => ite h.setFld.setFld.modPwr.modKerb.modTml.modMot h

theorem execPowerDownComplete_ends (h : Canonical s.dev) {t : Nat} : Ends (execPowerDownComplete t s) := by
  unfold execPowerDownComplete
  refine run h fun _ h => ?_
  split
  · exact h.goOff
  · exact h.goOff
  · exact h

theorem execFullyOffTimeElapsed_ends (h : Canonical s.dev) {t : Nat} {vinValid : Bool} :
    Ends (execFullyOffTimeElapsed t vinValid s) := by
  unfold execFullyOffTimeElapsed
  refine run h fun _ h => ?_
  extract_lets d1
  have h1 : Canonical d1 := h.modPwr
  exact ite h1.start h1

theorem execPbtnPress_ends (h : Canonical s.dev) {t : Nat} : Ends (execPbtnPress t s) := by
  unfold execPbtnPress
  refine run h fun _ h => ?_
  split
  · exact ite h h.goParked
  · exact ite h (ite h.modPwr h.wake)
  · exact ite h.start h
  · exact h.setFlag.ledgerEvent

theorem execPbtnHold8s_ends (h : Canonical s.dev) {t : Nat} : Ends (execPbtnHold8s t s) :=
  run h fun _ h => ite h (ite h.modPwr h.forceOutputs.stopTransmitting.writebackAll.marginsOff.railsDown)

theorem execMrstLow_ends (h : Canonical s.dev) {t : Nat} : Ends (execMrstLow t s) := by
  unfold execMrstLow
  refine run h fun _ h => ?_
  extract_lets d1
  have h1 : Canonical d1 := h.modPwr
  exact ite h1 h1.goParked

theorem execMrstRelease_ends (h : Canonical s.dev) {t : Nat} : Ends (execMrstRelease t s) := by
  unfold execMrstRelease
  refine run h fun _ h => ?_
  extract_lets d1
  have h1 : Canonical d1 := h.modPwr
  exact ite h1 (ite h1.modPwr h1.wake)

theorem execThermTrip_ends (h : Canonical s.dev) {t : Nat} : Ends (execThermTrip t s) :=
  run h fun _ h => ite h (ite h.setSticky h.goParked.setSticky)

theorem execPark_ends (h : Canonical s.dev) {t : Nat} : Ends (execPark t s) := run h fun _ h => h.park
theorem execParkRetain_ends (h : Canonical s.dev) {t : Nat} : Ends (execParkRetain t s) := run h fun _ h => h.parkRetain

theorem execD0PowerOnResetReleased_ends (h : Canonical s.dev) {t : Nat} : Ends (execD0PowerOnResetReleased t s) :=
  run h fun _ h => ite h.setFld.modBoot h

theorem execPaceChangeRequest_ends (h : Canonical s.dev) {t : Nat} : Ends (execPaceChangeRequest t s) :=
  run h fun _ h => h.paceRequest

theorem execPaceChangeDone_ends (h : Canonical s.dev) {t : Nat} : Ends (execPaceChangeDone t s) := run h fun _ h => h.paceDone

theorem execDomainPowerDown_ends (h : Canonical s.dev) {t : Nat} {n : Fin 14} : Ends (execDomainPowerDown t n s) :=
  run h fun _ h => h.paceDone.domainDown

theorem execDomainDmaAbort_ends (h : Canonical s.dev) {t : Nat} {n : Fin 14} : Ends (execDomainDmaAbort t n s) :=
  run h fun _ h => ite (domainOff (each h (fun _ _ h => h.dmaAbort.count))) h

theorem execDomainPowerUp_ends (h : Canonical s.dev) {t : Nat} {n : Fin 14} : Ends (execDomainPowerUp t n s) := by
  unfold execDomainPowerUp
  refine run h fun _ h => ?_
  split
  · exact h
  · split
    · exact h.lanesUp
    · exact h.lanesUp
    · exact h.domOn

theorem execD5IdleTimeout_ends (h : Canonical s.dev) {t : Nat} : Ends (execD5IdleTimeout t s) :=
  run h fun _ h => ite h.domainDown h

theorem execRailDelayExpiry_ends (h : Canonical s.dev) {t : Nat} : Ends (execRailDelayExpiry t s) := by
  unfold execRailDelayExpiry
  refine run h fun _ h => ?_
  split
  · split
    · exact h.setRen.modPwr
    · exact h
  · exact h

theorem execRailGood_ends (h : Canonical s.dev) {t : Nat} {r : Fin 24} : Ends (execRailGood t r s) := by
  unfold execRailGood
  refine run h fun _ h => ?_
  split
  · exact h
  · extract_lets d1
    have h1 : Canonical d1 := h.setGood
    split
    · split
      · exact ite h1.setFld.seqFrom h1
      · exact h1
    · exact ite h1.setLive h1
    · exact h1

theorem execRailPgTimeout_ends (h : Canonical s.dev) {t : Nat} : Ends (execRailPgTimeout t s) := by
  unfold execRailPgTimeout
  refine run h fun _ h => ?_
  split
  · split
    · exact h.seqFault.railsDown
    · exact h
  · exact h

theorem execRailDrop_ends (h : Canonical s.dev) {t : Nat} {r : Fin 24} : Ends (execRailDrop t r s) := by
  unfold execRailDrop
  refine run h fun _ h => ite h ?_
  extract_lets d1 _ old d2
  have h1 : Canonical d1 := h.setGood
  have h2 : Canonical d2 := h1.count.modPwr
  split
  · exact h1
  · exact h1.setFld.setFld.ledgerEvent.setLive.kerbTrigger
  · refine ite h1.seqFault.railsDown ?_
    split
    · exact h2
    · extract_lets l d3
      have h3 : Canonical d3 := h2.setFld.modPwr
      clear_value l d3
      split
      · exact h3.setRen
      · exact h3

theorem execRailOff_ends (h : Canonical s.dev) {t : Nat} {r : Fin 24} : Ends (execRailOff t r s) := run h fun _ h => h.railIsOff

theorem execRailOffTimeout_ends (h : Canonical s.dev) {t : Nat} : Ends (execRailOffTimeout t s) := by
  unfold execRailOffTimeout
  refine run h fun _ h => ?_
  extract_lets stuck
  have hstuck {d : Device} (h : Canonical d) {x : Nat} : Canonical (stuck d x) := h.setFld.setFld.ledgerEvent
  split
  · exact (hstuck h).railIsOff
  · exact (hstuck h).nextFall
  · exact h

theorem execMarginRequest_ends (h : Canonical s.dev) {t : Nat} {value : Word} {nack : Bool} :
    Ends (execMarginRequest t value nack s) :=
  run h fun _ h => h.marginRequest

theorem execPmbusStatusPoll_ends (h : Canonical s.dev) {t : Nat} {r : Fin 24} {status : BitVec 16} {nack : Bool} :
    Ends (execPmbusStatusPoll t r status nack s) :=
  run h fun _ h => ite h (ite h.setFlag (ite h h.setFld.setFld.ledgerEvent))

theorem execMirrorFrame_ends (h : Canonical s.dev) {t : Nat} {good : Bool} : Ends (execMirrorFrame t good s) :=
  run h fun _ h => ite h (ite h.mirrorCopy.setQ h.badMirror)

theorem execMirrorTimeout_ends (h : Canonical s.dev) {t : Nat} : Ends (execMirrorTimeout t s) :=
  run h fun _ h => ite h h.badMirror

theorem execStationCatchUp_ends (h : Canonical s.dev) {t : Nat} {st : Station} : Ends (execStationCatchUp t st s) :=
  run h fun _ h => h.caughtUp

theorem execOverlapEnd_ends (h : Canonical s.dev) {t : Nat} : Ends (execOverlapEnd t s) := by
  unfold execOverlapEnd
  refine run h fun _ h => ?_
  split
  · exact ite h.endOverlap h
  · exact h

theorem execOverlapBound_ends (h : Canonical s.dev) {t : Nat} : Ends (execOverlapBound t s) := by
  unfold execOverlapBound
  refine run h fun _ h => ?_
  split
  · exact h
  · extract_lets _ d1 d2
    have h1 : Canonical d1 := h.endPanic
    have h2 : Canonical d2 := ite h1.setFld.ledgerEvent h1
    exact h2.endOverlap

theorem execRetestTimer_ends (h : Canonical s.dev) {t : Nat} {q : Side} : Ends (execRetestTimer t q s) :=
  run h fun _ h => ite h.setFld.enterTesting h

theorem execRetest_ends (h : Canonical s.dev) {t : Nat} {q : Side} : Ends (execRetest t q s) := run h fun _ h => h.retest

theorem execReturnCaughtUp_ends (h : Canonical s.dev) {t : Nat} {q : Side} : Ends (execReturnCaughtUp t q s) := by
  unfold execReturnCaughtUp
  refine run h fun _ h => ?_
  split
  · exact h
  · extract_lets _ d1
    have h1 : Canonical d1 := h.setQ
    exact ite h1.planTransfer h1.setRole

theorem execHandoverTimer_ends (h : Canonical s.dev) {t : Nat} : Ends (execHandoverTimer t s) := by
  unfold execHandoverTimer
  refine run h fun _ h => ?_
  extract_lets _ _ _ d1
  have h1 : Canonical d1 := h.planTransfer
  exact ite h (ite h1.withPlanned h1)

theorem execHostStart_ends (h : Canonical s.dev) {t : Nat} : Ends (execHostStart t s) :=
  run h fun _ h => ite h.reply (ite h.reply h.reply.enterReady.plannedNow)

theorem execHostHold_ends (h : Canonical s.dev) {t : Nat} : Ends (execHostHold t s) :=
  run h fun _ h => ite h.reply.enterHeld h.reply

theorem execHostStop_ends (h : Canonical s.dev) {t : Nat} : Ends (execHostStop t s) :=
  run h fun _ h => ite h.reply.enterDraining h.reply

theorem execLedgerClearAll_ends (h : Canonical s.dev) {t : Nat} {key : BitVec 16} : Ends (execLedgerClearAll t key s) :=
  run h fun _ h => ite h.ledgerClear h

theorem execNmiFlagClear_ends (h : Canonical s.dev) {t : Nat} {mask : Word} : Ends (execNmiFlagClear t mask s) :=
  run h fun _ h => h.nmiClear

theorem execInterlockOpen_ends (h : Canonical s.dev) {t : Nat} {pin : Fin 3} : Ends (execInterlockOpen t pin s) := by
  unfold execInterlockOpen
  refine run h fun _ h => ?_
  extract_lets d1
  have h1 : Canonical d1 := h.modKerb
  exact ite h1.kerbTrigger (ite h1 h1.setLive.kerbTrigger)

theorem execInterlockRelease_ends (h : Canonical s.dev) {t : Nat} {pin : Fin 3} : Ends (execInterlockRelease t pin s) :=
  run h fun _ h => h.modKerb.setLive

theorem execEstop_ends (h : Canonical s.dev) {t : Nat} : Ends (execEstop t s) := run h fun _ h => h.estop

theorem execKrbClear_ends (h : Canonical s.dev) {t : Nat} {key : BitVec 16} : Ends (execKrbClear t key s) :=
  run h fun _ h => h.krbClear

theorem execErase_ends (h : Canonical s.dev) {t : Nat} {c : Copy} : Ends (execErase t c s) := run h fun _ h => h.updateIssue

theorem execProgram_ends (h : Canonical s.dev) {t : Nat} {c : Copy} {data : List Byte} : Ends (execProgram t c data s) :=
  run h fun _ h => h.updateIssue

theorem execVerify_ends (h : Canonical s.dev) {t : Nat} {c : Copy} {data : List Byte} : Ends (execVerify t c data s) :=
  run h fun _ h => h.updateIssue

theorem execValidate_ends (h : Canonical s.dev) {t : Nat} {c : Copy} : Ends (execValidate t c s) := run h fun _ h => h.updateIssue
theorem execUpdateAbort_ends (h : Canonical s.dev) {t : Nat} : Ends (execUpdateAbort t s) := run h fun _ h => h.updateAbort

theorem execUpdateComplete_ends (h : Canonical s.dev) {t : Nat} {flashOk : Bool} : Ends (execUpdateComplete t flashOk s) := by
  unfold execUpdateComplete
  refine runF h fun _ h => ?_
  split
  · exact ite h.updateDone h
  · exact h

theorem execUpdateDeferResume_ends (h : Canonical s.dev) {t : Nat} : Ends (execUpdateDeferResume t s) :=
  run h fun _ h => h.updateResume

theorem execNarrowWrite_ends (h : Canonical s.dev) {t : Nat} {m : Master} {addr len : Nat} :
    Ends (execNarrowWrite t m addr len s) :=
  run h fun _ h => h.narrow

theorem execLowWordRead_ends (h : Canonical s.dev) {t : Nat} {m : Master} {addr len : Nat} :
    Ends (execLowWordRead t m addr len s) :=
  runF h fun _ h => h.readSpan

theorem execRegisterWrite_ends (h : Canonical s.dev) {t : Nat} {m : Master} {addr : Nat} {value : Word} :
    Ends (execRegisterWrite t m addr value s) :=
  run h fun _ h => h.writeAny

theorem execQuarterViewHostWrite_ends (h : Canonical s.dev) {t addr : Nat} {value : Word} :
    Ends (execQuarterViewHostWrite t addr value s) :=
  run h fun _ h => h.writeAny

theorem execCrossWrite_ends (h : Canonical s.dev) {t : Nat} {q : Side} {addr : Nat} {value : Word} :
    Ends (execCrossWrite t q addr value s) :=
  run h fun _ h => h.writeAny

theorem execQuarterBaseSharedAccess_ends (h : Canonical s.dev) {t : Nat} {m : Master} {addr : Nat} {write : Bool} :
    Ends (execQuarterBaseSharedAccess t m addr write s) :=
  run h fun _ h => h.deadAccess

theorem execDecodeMiss_ends (h : Canonical s.dev) {t : Nat} {m : Master} {addr : Nat} {write : Bool} :
    Ends (execDecodeMiss t m addr write s) :=
  run h fun _ h => ite h.reply h.deadAccess

theorem execDeviceOnlyAccess_ends (h : Canonical s.dev) {t : Nat} {m : Master} {addr : Nat} {write : Bool} :
    Ends (execDeviceOnlyAccess t m addr write s) :=
  run h fun _ h => h.deadAccess

theorem execFabricCodeViolation_ends (h : Canonical s.dev) {t : Nat} {place : FabricPlace} :
    Ends (execFabricCodeViolation t place s) := by
  unfold execFabricCodeViolation
  refine run h fun _ h => ?_
  split
  · exact h.ledgerEvent.reply
  · exact h.ledgerEvent.compressorUe.reply
  · exact h.ledgerEvent.oldestImageFail.reply
  · exact h.ledgerEvent.checkEvent
  · exact h.ledgerEvent.checkEvent

theorem execSramEccError_ends (h : Canonical s.dev) {t addr : Nat} {double : Bool} : Ends (execSramEccError t addr double s) :=
  run h fun _ h => ite h.sramUe h.withSramCe.reply

theorem execIntRailsInRegulation_ends (h : Canonical s.dev) {t : Nat} {dieTemp : Int} :
    Ends (execIntRailsInRegulation t dieTemp s) :=
  run h fun _ h => ite h (ite (ite h.withSt h.railsInRegulation.ledgerBase) h.railsInRegulation)

theorem execIntRailFail_ends (h : Canonical s.dev) {t : Nat} : Ends (execIntRailFail t s) :=
  run h fun _ h => ite h.ledgerEvent.modBoot h

theorem execFusesRead_ends (h : Canonical s.dev) {t : Nat} {ok : Bool} : Ends (execFusesRead t ok s) :=
  run h fun _ h => ite h (ite h.bootStep h.bootFailRails)

theorem execImageCheckAndApply_ends (h : Canonical s.dev) {t : Nat} {reread : Option Nat} {units : List (Option UnitAnswer)} {challenge : List Byte} :
    Ends (execImageCheckAndApply t reread units challenge s) := by
  unfold execImageCheckAndApply
  refine runF h fun _ h => ?_
  split
  · exact h
  · extract_lets d1
    have h1 : Canonical d1 := h.flashInfo.chooseCopy
    exact ite h1 h1.pollUnits

theorem execMemorySelfTest_ends (h : Canonical s.dev) {t : Nat} {plazaOk northOk southOk : Bool} :
    Ends (execMemorySelfTest t plazaOk northOk southOk s) := by
  unfold execMemorySelfTest
  refine run h fun _ h => ?_
  split
  · exact h
  · extract_lets d1 d2
    have h1 : Canonical d1 := ite h h.quarterBootFail
    have h2 : Canonical d2 := ite h1 h1.quarterBootFail
    exact ite h2.bootFailRails h2.bootStep.seqStart

theorem execRailSequenceComplete_ends (h : Canonical s.dev) {t : Nat} : Ends (execRailSequenceComplete t s) :=
  run h fun _ h => ite h.bootStep h

theorem execPageStoreTrained_ends (h : Canonical s.dev) {t : Nat} {attempts : List TrainingAttempt} {gib ranks ecc : List Nat} :
    Ends (execPageStoreTrained t attempts gib ranks ecc s) := by
  unfold execPageStoreTrained
  refine run h fun _ h => ?_
  split
  · exact h
  · extract_lets _ _ _ _ d1 d2 d3
    have h1 : Canonical d1 := h.modPs
    have h2 : Canonical d2 := h1.setFld
    have h3 : Canonical d3 := h2.setFld
    split
    · exact h3.bootFailRails
    · extract_lets d4 d5
      have h4 : Canonical d4 := h3.setFlag
      have h5 : Canonical d5 := ite h4 h4.ledgerEvent
      exact ite h5.storeTrained.bootStep h5.setFlag.bootFailRails

theorem execBootComplete_ends (h : Canonical s.dev) {t : Nat} : Ends (execBootComplete t s) := by
  unfold execBootComplete
  refine run h fun _ h => ?_
  split
  · exact h
  · extract_lets d1 d2
    have h1 : Canonical d1 := h.bootStep.setNat.modHost
    have h2 : Canonical d2 := ite h1.setLive.kerbTrigger h1
    exact ite h2.bootSafe (ite h2.enterHeld h2.enterReady)

theorem execDmaRunStart_ends (h : Canonical s.dev) {t : Nat} {e : Engine} {c : Fin 16} {ready : BitVec 16} {level : Nat} {mark : Bool} {data : List Byte} {fault : RunFault} :
    Ends (execDmaRunStart t e c ready level mark data fault s) :=
  runF h fun _ h => ite h (ite h.dmaHalt h.chargeRun.dmaRun)

theorem execDmaReadbackDone_ends (h : Canonical s.dev) {t : Nat} {e : Engine} {c : Fin 16} {band : Option BandStored} :
    Ends (execDmaReadbackDone t e c band s) := by
  unfold execDmaReadbackDone
  refine run h fun _ h => ?_
  extract_lets d1
  have h1 : Canonical d1 := by
    unfold d1
    split
    · exact ite h.bandRead.setFlag h
    · exact h
  exact ite h1.dmaEnd.domainsSettle h1

theorem execDescriptorFetch_ends (h : Canonical s.dev) {t : Nat} {r : Fin 3} {slots : List FetchedSlot} :
    Ends (execDescriptorFetch t r slots s) :=
  runF h fun _ h => h.fetchRing

theorem execTmlRelease_ends (h : Canonical s.dev) {t : Nat} {i : Fin 16} : Ends (execTmlRelease t i s) :=
  runF h fun _ h => fire h fun _ _ _ h => h.releaseStation

theorem execSelfTestDone_ends (h : Canonical s.dev) {t : Nat} {q : Side} {failStep : Nat} :
    Ends (execSelfTestDone t q failStep s) :=
  runF h fun _ h => ite h (ite h.testFailed (ite h.testPower.testFailed h.testPower.finishTest))

/-- Every instruction, from a state in canonical form. -/
theorem exec_ends (h : Canonical s.dev) (i : Instr) : Ends (exec i s) := by
  cases i with
  | vinRise _ => exact execVinRise_ends h
  | vinFail _ => exact execVinFail_ends h
  | vinCollapse _ => exact execVinCollapse_ends h
  | powerDownComplete _ => exact execPowerDownComplete_ends h
  | pbtnPress _ => exact execPbtnPress_ends h
  | pbtnHold8s _ => exact execPbtnHold8s_ends h
  | mrstLow _ => exact execMrstLow_ends h
  | mrstRelease _ => exact execMrstRelease_ends h
  | intRailsInRegulation _ _ => exact execIntRailsInRegulation_ends h
  | intRailFail _ => exact execIntRailFail_ends h
  | fusesRead _ _ => exact execFusesRead_ends h
  | imageCheckAndApply _ _ _ _ => exact execImageCheckAndApply_ends h
  | memorySelfTest _ _ _ _ => exact execMemorySelfTest_ends h
  | railSequenceComplete _ => exact execRailSequenceComplete_ends h
  | pageStoreTrained _ _ _ _ _ => exact execPageStoreTrained_ends h
  | bootComplete _ => exact execBootComplete_ends h
  | hostStart _ => exact execHostStart_ends h
  | hostHold _ => exact execHostHold_ends h
  | hostStop _ => exact execHostStop_ends h
  | park _ => exact execPark_ends h
  | parkRetain _ => exact execParkRetain_ends h
  | narrowWrite _ _ _ _ => exact execNarrowWrite_ends h
  | lowWordRead _ _ _ _ => exact execLowWordRead_ends h
  | registerWrite _ _ _ _ => exact execRegisterWrite_ends h
  | quarterViewHostWrite _ _ _ => exact execQuarterViewHostWrite_ends h
  | crossWrite _ _ _ _ => exact execCrossWrite_ends h
  | quarterBaseSharedAccess _ _ _ write => exact execQuarterBaseSharedAccess_ends (write := write) h
  | decodeMiss _ _ _ _ => exact execDecodeMiss_ends h
  | deviceOnlyAccess _ _ _ write => exact execDeviceOnlyAccess_ends (write := write) h
  | fabricCodeViolation _ _ => exact execFabricCodeViolation_ends h
  | sramEccError _ _ _ => exact execSramEccError_ends h
  | paceChangeRequest _ => exact execPaceChangeRequest_ends h
  | paceChangeDone _ => exact execPaceChangeDone_ends h
  | windDownComplete _ _ => exact execWindDownComplete_ends h
  | domainPowerDown _ _ => exact execDomainPowerDown_ends h
  | domainDmaAbort _ _ => exact execDomainDmaAbort_ends h
  | domainPowerUp _ _ => exact execDomainPowerUp_ends h
  | d5IdleTimeout _ => exact execD5IdleTimeout_ends h
  | erase _ _ => exact execErase_ends h
  | program _ _ _ => exact execProgram_ends h
  | verify _ _ _ => exact execVerify_ends h
  | validate _ _ => exact execValidate_ends h
  | updateAbort _ => exact execUpdateAbort_ends h
  | updateComplete _ _ => exact execUpdateComplete_ends h
  | updateDeferResume _ => exact execUpdateDeferResume_ends h
  | stackerDetect _ _ => exact execStackerDetect_ends h
  | commitClear _ _ => exact execCommitClear_ends h
  | tollgateCheck _ => exact execTollgateCheck_ends h
  | jobDoorbell _ _ _ => exact execJobDoorbell_ends h
  | eventDoorbell _ _ => exact execEventDoorbell_ends h
  | ringEnable _ _ _ => exact execRingEnable_ends h
  | ringDisable _ _ _ => exact execRingDisable_ends h
  | eventRingEnable _ _ => exact execEventRingEnable_ends h
  | descriptorFetch _ _ _ => exact execDescriptorFetch_ends h
  | ingestResume _ => exact execIngestResume_ends h
  | hostReadError _ _ => exact execHostReadError_ends h
  | retry _ _ => exact execRetry_ends h
  | skip _ _ => exact execSkip_ends h
  | pcieReset _ _ _ => exact execPcieReset_ends h
  | linkDown _ _ => exact execLinkDown_ends h
  | backlogDrain _ => exact execBacklogDrain_ends h
  | interruptModerationTimeout _ _ => exact execInterruptModerationTimeout_ends h
  | aspmL1Entry _ => exact execAspmL1Entry_ends h
  | dmaChannelEnable _ _ _ _ => exact execDmaChannelEnable_ends h
  | dmaChannelDisable _ _ _ => exact execDmaChannelDisable_ends h
  | dmaRunStart _ _ _ _ _ _ _ _ => exact execDmaRunStart_ends h
  | dmaReadbackDone _ _ _ _ => exact execDmaReadbackDone_ends h
  | driftTrackTick _ _ _ _ => exact execDriftTrackTick_ends h
  | psEccUe _ _ _ _ => exact execPsEccUe_ends h
  | psEccCe _ _ _ => exact execPsEccCe_ends h
  | patrolScrub _ => exact execPatrolScrub_ends h
  | refreshDue _ _ _ => exact execRefreshDue_ends h
  | activate _ _ => exact execActivate_ends h
  | rhTableClear _ _ => exact execRhTableClear_ends h
  | actIntervalStart _ _ => exact execActIntervalStart_ends h
  | srEnter _ => exact execSrEnter_ends h
  | srExit _ => exact execSrExit_ends h
  | srIdleTimeout _ => exact execSrIdleTimeout_ends h
  | srEntryComplete _ => exact execSrEntryComplete_ends h
  | srExitComplete _ => exact execSrExitComplete_ends h
  | streamCheckDone _ _ _ _ _ _ => exact execStreamCheckDone_ends h
  | chainCompressStart _ _ => exact execChainCompressStart_ends h
  | chainCompressDone _ _ _ _ => exact execChainCompressDone_ends h
  | jobEnqueue _ _ => exact execJobEnqueue_ends h
  | jobStart _ _ => exact execJobStart_ends h
  | jobDone _ _ _ _ => exact execJobDone_ends h
  | flush _ => exact execFlush_ends h
  | abort _ => exact execAbort_ends h
  | abortAll _ => exact execAbortAll_ends h
  | arcadeDisable _ _ => exact execArcadeDisable_ends h
  | decodeStreamError _ _ _ _ => exact execDecodeStreamError_ends h
  | inspectionLine _ _ _ => exact execInspectionLine_ends h
  | inspectImageDone _ _ _ => exact execInspectImageDone_ends h
  | inspAlignLoss _ _ => exact execInspAlignLoss_ends h
  | beamDetectEdge _ _ _ _ => exact execBeamDetectEdge_ends h
  | acquireTimeout _ _ _ => exact execAcquireTimeout_ends h
  | freqComplete _ _ _ => exact execFreqComplete_ends h
  | windowClose _ _ _ _ => exact execWindowClose_ends h
  | synthEnable _ _ _ => exact execSynthEnable_ends h
  | synthDisable _ _ _ => exact execSynthDisable_ends h
  | indexEdge _ _ => exact execIndexEdge_ends h
  | linePhaseWord _ _ _ _ => exact execLinePhaseWord_ends h
  | linePhaseTimeout _ _ _ => exact execLinePhaseTimeout_ends h
  | refPllEnable _ _ _ _ => exact execRefPllEnable_ends h
  | lockPinSample _ _ _ => exact execLockPinSample_ends h
  | refLockTimeout _ _ => exact execRefLockTimeout_ends h
  | coastEntry _ _ _ _ => exact execCoastEntry_ends h
  | coastTimeout _ _ _ => exact execCoastTimeout_ends h
  | relock _ _ _ _ => exact execRelock_ends h
  | emitterMeasure _ _ => exact execEmitterMeasure_ends h
  | spareMapWrite _ _ _ _ => exact execSpareMapWrite_ends h
  | stationDisable _ _ _ => exact execStationDisable_ends h
  | stationEnable _ _ _ => exact execStationEnable_ends h
  | headTempTimeout _ _ => exact execHeadTempTimeout_ends h
  | stationSafeExit _ _ => exact execStationSafeExit_ends h
  | segmentSendWindow _ _ _ _ _ => exact execSegmentSendWindow_ends h
  | segmentDeadline _ _ _ _ _ => exact execSegmentDeadline_ends h
  | telemetryFrame _ _ _ _ => exact execTelemetryFrame_ends h
  | telemetryTimeout _ _ _ => exact execTelemetryTimeout_ends h
  | tlmSyncLoss _ _ _ => exact execTlmSyncLoss_ends h
  | loopTick _ _ _ => exact execLoopTick_ends h
  | portEnable _ _ _ => exact execPortEnable_ends h
  | portDisable _ _ _ => exact execPortDisable_ends h
  | retrain _ _ _ => exact execRetrain_ends h
  | bringupTimeout _ _ _ => exact execBringupTimeout_ends h
  | bringupRetry _ _ _ => exact execBringupRetry_ends h
  | mirrorFrame _ _ => exact execMirrorFrame_ends h
  | mirrorTimeout _ => exact execMirrorTimeout_ends h
  | stationCatchUp _ _ => exact execStationCatchUp_ends h
  | overlapEnd _ => exact execOverlapEnd_ends h
  | overlapBound _ => exact execOverlapBound_ends h
  | selfTestDone _ _ _ => exact execSelfTestDone_ends h
  | retestTimer _ _ => exact execRetestTimer_ends h
  | retest _ _ => exact execRetest_ends h
  | returnCaughtUp _ _ => exact execReturnCaughtUp_ends h
  | handoverTimer _ => exact execHandoverTimer_ends h
  | pitchStart _ => exact execPitchStart_ends h
  | tmlEnd _ _ => exact execTmlEnd_ends h
  | tmlRelease _ _ => exact execTmlRelease_ends h
  | tmlGap _ _ => exact execTmlGap_ends h
  | tmlGate _ _ => exact execTmlGate_ends h
  | tmlAcceptOpen _ _ => exact execTmlAcceptOpen_ends h
  | tmlAcceptClose _ _ => exact execTmlAcceptClose_ends h
  | tmlInspectOpen _ _ => exact execTmlInspectOpen_ends h
  | tmlInspectClose _ _ => exact execTmlInspectClose_ends h
  | tmlCommit _ _ => exact execTmlCommit_ends h
  | tmlWasteMark _ _ => exact execTmlWasteMark_ends h
  | tmlGpio _ _ => exact execTmlGpio_ends h
  | tmlPulse _ _ => exact execTmlPulse_ends h
  | pulseEnd _ _ => exact execPulseEnd_ends h
  | tmlSetpoint _ _ => exact execTmlSetpoint_ends h
  | tmlAxisMove _ _ => exact execTmlAxisMove_ends h
  | clearout _ => exact execClearout_ends h
  | ackCleared _ => exact execAckCleared_ends h
  | timelineWatchdog _ _ _ => exact execTimelineWatchdog_ends h
  | timelineDisable _ _ => exact execTimelineDisable_ends h
  | supervisorSweep _ _ _ _ => exact execSupervisorSweep_ends h
  | supervisorDisable _ _ => exact execSupervisorDisable_ends h
  | regulatorTick _ _ _ _ _ => exact execRegulatorTick_ends h
  | modeWrite _ _ _ _ => exact execModeWrite_ends h
  | coefficientWrite _ _ _ _ _ _ => exact execCoefficientWrite_ends h
  | setpointWrite _ _ _ _ => exact execSetpointWrite_ends h
  | resume _ _ _ => exact execResume_ends h
  | fallback _ _ _ => exact execFallback_ends h
  | slotDisable _ _ _ => exact execSlotDisable_ends h
  | pwmPeriodBoundary _ _ _ _ => exact execPwmPeriodBoundary_ends h
  | pwmDisable _ _ _ => exact execPwmDisable_ends h
  | polyEnable _ _ _ => exact execPolyEnable_ends h
  | polyDisable _ _ _ => exact execPolyDisable_ends h
  | phaseComparatorEdge _ _ _ _ => exact execPhaseComparatorEdge_ends h
  | senseTimeout _ _ _ => exact execSenseTimeout_ends h
  | standstill _ _ _ => exact execStandstill_ends h
  | brakeTimeout _ _ _ => exact execBrakeTimeout_ends h
  | alignTimeout _ _ _ => exact execAlignTimeout_ends h
  | handoffTimeout _ _ _ => exact execHandoffTimeout_ends h
  | startRetry _ _ _ => exact execStartRetry_ends h
  | resyncReleaseEnd _ _ _ => exact execResyncReleaseEnd_ends h
  | resyncTimeout _ _ _ => exact execResyncTimeout_ends h
  | pmsmEnable _ _ _ => exact execPmsmEnable_ends h
  | pmsmDisable _ _ _ => exact execPmsmDisable_ends h
  | encoderIndex _ _ _ => exact execEncoderIndex_ends h
  | dcbusSample _ _ _ => exact execDcbusSample_ends h
  | dcbusAverage _ _ _ => exact execDcbusAverage_ends h
  | dcbusHardLimit _ _ => exact execDcbusHardLimit_ends h
  | busHardRecovery _ _ => exact execBusHardRecovery_ends h
  | clearChop _ => exact execClearChop_ends h
  | encoderEdge _ _ _ _ _ => exact execEncoderEdge_ends h
  | axisTargetWrite _ _ _ _ => exact execAxisTargetWrite_ends h
  | axisControlWrite _ _ _ _ => exact execAxisControlWrite_ends h
  | home _ _ _ => exact execHome_ends h
  | stop _ _ _ => exact execStop_ends h
  | clearFault _ _ _ => exact execClearFault_ends h
  | homeSettleTimeout _ _ _ => exact execHomeSettleTimeout_ends h
  | driveFrameSlot _ _ => exact execDriveFrameSlot_ends h
  | driveFrameReturn _ _ _ _ => exact execDriveFrameReturn_ends h
  | limitSwitchSample _ _ _ _ _ => exact execLimitSwitchSample_ends h
  | driveBusEnable _ _ => exact execDriveBusEnable_ends h
  | driveBusDisable _ _ => exact execDriveBusDisable_ends h
  | chainBringupTimeout _ _ _ => exact execChainBringupTimeout_ends h
  | chainBringupRetry _ _ _ => exact execChainBringupRetry_ends h
  | clockMonitorWindow _ _ _ _ => exact execClockMonitorWindow_ends h
  | refclkMissingEdge _ => exact execRefclkMissingEdge_ends h
  | ioscReady _ => exact execIoscReady_ends h
  | ioscRestart _ => exact execIoscRestart_ends h
  | classAWaitEnd _ => exact execClassAWaitEnd_ends h
  | clockReturn _ _ => exact execClockReturn_ends h
  | muxSelect _ _ _ => exact execMuxSelect_ends h
  | muxSwitchDone _ _ => exact execMuxSwitchDone_ends h
  | muxStallTimeout _ _ => exact execMuxStallTimeout_ends h
  | muxForce _ _ _ => exact execMuxForce_ends h
  | gateClose _ _ => exact execGateClose_ends h
  | gateCloseTimeout _ _ => exact execGateCloseTimeout_ends h
  | opPointChange _ _ _ => exact execOpPointChange_ends h
  | voltageStepDone _ _ => exact execVoltageStepDone_ends h
  | railDelayExpiry _ => exact execRailDelayExpiry_ends h
  | railGood _ _ => exact execRailGood_ends h
  | railPgTimeout _ => exact execRailPgTimeout_ends h
  | railDrop _ _ => exact execRailDrop_ends h
  | railOff _ _ => exact execRailOff_ends h
  | railOffTimeout _ => exact execRailOffTimeout_ends h
  | marginRequest _ _ _ => exact execMarginRequest_ends h
  | pmbusStatusPoll _ _ _ _ => exact execPmbusStatusPoll_ends h
  | sensorSample _ _ _ _ => exact execSensorSample_ends h
  | riseEvaluation _ => exact execRiseEvaluation_ends h
  | graceEnd _ => exact execGraceEnd_ends h
  | enforcementStop _ => exact execEnforcementStop_ends h
  | stoppedClear _ => exact execStoppedClear_ends h
  | thermTrip _ => exact execThermTrip_ends h
  | unitPoll _ _ _ => exact execUnitPoll_ends h
  | authResponseRead _ _ _ => exact execAuthResponseRead_ends h
  | writebackResume _ => exact execWritebackResume_ends h
  | ledgerClearAll _ _ => exact execLedgerClearAll_ends h
  | nmiFlagClear _ _ => exact execNmiFlagClear_ends h
  | interlockOpen _ _ => exact execInterlockOpen_ends h
  | interlockRelease _ _ => exact execInterlockRelease_ends h
  | estop _ => exact execEstop_ends h
  | krbClear _ _ => exact execKrbClear_ends h
  | pcieLinkUp _ _ _ _ => exact execPcieLinkUp_ends h
  | telemetryBlockLock _ _ _ => exact execTelemetryBlockLock_ends h
  | inspectionPortAligned _ _ => exact execInspectionPortAligned_ends h
  | fullyOffTimeElapsed _ _ => exact execFullyOffTimeElapsed_ends h
  | d0PowerOnResetReleased _ => exact execD0PowerOnResetReleased_ends h

end Canonical

/-- Settles O4: a step with nothing waiting leaves the state, and one that runs an instruction keeps the form by `exec_ends`. -/
theorem stepsKeepCanonicalForm : Obligations.StepsKeepCanonicalForm := by
  intro s u h hu
  rw [canonical_iff] at h ⊢
  unfold step at hu
  split at hu
  · cases hu
    exact h
  · rename_i c rest _
    exact Canonical.exec_ends (s := { s with pending := rest }) h c u hu

end Sys2Proof.Machine

end

section

set_option Elab.async false

namespace Sys2Proof.Machine

/-! # Shutdowns (R548 to R562)

The device parks in the middle of `goParked`: from there on only the wind-down of the link follows. `AtRest` is what it must keep. -/

/-- Parked, with a shutdown to rest in progress, and the page store retained or not. -/
structure AtRest (kept : Bool) (d : Device) : Prop where
  st : d.st = .parked
  down : d.pwr.down = some .park
  retained : d.boot.retained = kept

namespace AtRest

variable {kept : Bool} {d : Device}

theorem ite {c : Prop} [Decidable c] {a b : Device} (ha : AtRest kept a) (hb : AtRest kept b) : AtRest kept (if c then a else b) := by
  split
  · exact ha
  · exact hb

/-- A change of other parts of the device. -/
theorem frame {e : Device} (h : AtRest kept d) (hst : e.st = d.st) (hpwr : e.pwr = d.pwr) (hboot : e.boot = d.boot) : AtRest kept e :=
  ⟨hst ▸ h.st, hpwr ▸ h.down, hboot ▸ h.retained⟩

theorem each {α : Type} {l : List α} {f : α → Device → Device} (h : AtRest kept d) (hf : ∀ x e, AtRest kept e → AtRest kept (f x e)) :
    AtRest kept (d.each l f) := each_inv hf l d h

theorem setBytes (h : AtRest kept d) {a : Nat} {l : List Byte} : AtRest kept (d.setBytes a l) := by
  obtain ⟨m, hm⟩ := setBytes_only l d a
  rw [hm]
  exact ⟨h.st, h.down, h.retained⟩

theorem unsend {l : List Posted} : ∀ {d : Device} (_ : AtRest kept d) {n : Nat}, AtRest kept (d.unsend l n) := by
  induction l with
  | nil => intro d h n; unfold Device.unsend; exact h
  | cons x r ih =>
    intro d h n
    cases n with
    | zero => exact h
    | succ n => exact ih h.setBytes

theorem scramble (h : AtRest kept d) {a n : Nat} : AtRest kept (d.scramble a n) :=
  frame (h.setBytes (a := a) (l := (List.range n).map fun i => Config.freeByte d.frees (a + i))) rfl rfl rfl

theorem post (h : AtRest kept d) {typ : Nat} {nmi : Bool} {code wsn data : Nat} : AtRest kept (d.post typ nmi code wsn data) :=
  h.frame (post_st ..) (post_pwr ..) (post_boot ..)

/-- In Parked a trigger of the Kerb only waits for the next start (R600). -/
theorem kerbTrigger (h : AtRest kept d) {t origin detail : Nat} : AtRest kept (d.kerbTrigger t origin detail) := by
  have hst : (d.modKerb fun v => { v with firedAt := some d.now }).st = .parked := h.st
  unfold Device.kerbTrigger
  dsimp only
  rw [hst]
  exact ⟨h.st, h.down, h.retained⟩

theorem ledgerEvent (h : AtRest kept d) {b origin detail detail2 : Nat} : AtRest kept (d.ledgerEvent b origin detail detail2) := by
  have hbase : AtRest kept (d.ledgerBase b origin detail detail2) := h.frame (ledgerBase_st ..) (ledgerBase_pwr ..) (ledgerBase_boot ..)
  unfold Device.ledgerEvent
  exact ite hbase.kerbTrigger hbase

/-! What the wind-down of the link calls. -/

theorem setReg (h : AtRest kept d) {a : Nat} {v : Word} : AtRest kept (d.setReg a v) := ⟨h.st, h.down, h.retained⟩

theorem setNat (h : AtRest kept d) {a v : Nat} : AtRest kept (d.setNat a v) := h.setReg

theorem setFld (h : AtRest kept d) {a : Nat} {f : Fld} {v : Nat} : AtRest kept (d.setFld a f v) := h.setReg

theorem setFlag (h : AtRest kept d) {a : Nat} {f : Fld} {b : Bool} : AtRest kept (d.setFlag a f b) := h.setFld

theorem modHost (h : AtRest kept d) {f : HostIf → HostIf} : AtRest kept (d.modHost f) := ⟨h.st, h.down, h.retained⟩

theorem modPs (h : AtRest kept d) {f : StoreS → StoreS} : AtRest kept (d.modPs f) := ⟨h.st, h.down, h.retained⟩

theorem setArc (h : AtRest kept d) {f : CodecS → CodecS} : AtRest kept (d.setArc f) := ⟨h.st, h.down, h.retained⟩

theorem setChan (h : AtRest kept d) {e : Engine} {c : Nat} {v : ChanS} : AtRest kept (d.setChan e c v) := ⟨h.st, h.down, h.retained⟩

theorem loseEvents (h : AtRest kept d) {n : Nat} : AtRest kept (d.loseEvents n) := modHost h.setFld

theorem modBoot (h : AtRest kept d) {f : BootS → BootS} (hf : ∀ b, (f b).retained = b.retained) : AtRest kept (d.modBoot f) :=
  ⟨h.st, h.down, (hf _).trans h.retained⟩

theorem updateEnd (h : AtRest kept d) {err : Nat} : AtRest kept (d.updateEnd err) := by
  unfold Device.updateEnd
  extract_lets d1 d2
  have h1 : AtRest kept d1 := h.modBoot fun _ => rfl
  exact h1.setFld.setFld.post

theorem updateHostError (h : AtRest kept d) : AtRest kept d.updateHostError := by
  unfold Device.updateHostError
  split
  · exact ite h.updateEnd h
  · exact h

theorem dmaHalt (h : AtRest kept d) {e : Engine} {c err : Nat} : AtRest kept (d.dmaHalt e c err) := h.setFld.setFlag.setChan

theorem dmaStart (h : AtRest kept d) {e : Engine} {c : Nat} : AtRest kept (d.dmaStart e c) := by
  unfold Device.dmaStart
  extract_lets d1
  have h1 : AtRest kept d1 := h.setFld.setChan
  exact ite h1 h1.dmaHalt

theorem dmaEnd (h : AtRest kept d) {e : Engine} {c err : Nat} : AtRest kept (d.dmaEnd e c err) := by
  unfold Device.dmaEnd
  extract_lets _ d1 d2
  have h1 : AtRest kept d1 := h.dmaHalt
  have h2 : AtRest kept d2 := ite h1.setFlag h1
  exact ite h2.dmaStart h2

theorem dmaHostError (h : AtRest kept d) : AtRest kept d.dmaHostError := each h fun _ _ h => h.dmaEnd

theorem freePage (h : AtRest kept d) {p : Page} : AtRest kept (d.freePage p) := h.setFld

theorem dropChains (h : AtRest kept d) : AtRest kept d.dropChains := each h fun _ _ h => setArc (setFld h.setFld)

theorem cmpBusy (h : AtRest kept d) {c : Nat} {b : Bool} : AtRest kept (d.cmpBusy c b) := h.setFld

theorem jobEnd (h : AtRest kept d) {j : Job} {st err out : Nat} : AtRest kept (d.jobEnd j st err out) := by
  unfold Device.jobEnd
  extract_lets d1 d2 d3 d4
  have h1 : AtRest kept d1 := h.setFld.setFld
  have h2 : AtRest kept d2 := h1.setFld
  have h3 : AtRest kept d3 := h2.setNat.setNat
  have h4 : AtRest kept d4 := h3.setArc
  split
  · exact h3
  · extract_lets d5
    have h5 : AtRest kept d5 := ite h4.cmpBusy.setFld h4.setFld
    exact ite h5.scramble h5

theorem jobHostError (h : AtRest kept d) : AtRest kept d.jobHostError := by
  unfold Device.jobHostError
  split
  · exact h
  · exact ite h.jobEnd (ite h.jobEnd h)

theorem showImage (h : AtRest kept d) : AtRest kept d.showImage := each h fun _ _ h => h.setFlag

theorem showInsp (h : AtRest kept d) : AtRest kept d.showInsp := h.setFld

theorem imageFail (h : AtRest kept d) {x : InspImg} {code : Nat} : AtRest kept (d.imageFail x code) := by
  unfold Device.imageFail
  extract_lets d1 d2 d3 d4 d5
  have h2 : AtRest kept d2 := h.setArc.setNat
  have h3 : AtRest kept d3 := scramble h2.setFld
  have h4 : AtRest kept d4 := h3.post
  have h5 : AtRest kept d5 := ite h4.ledgerEvent h4
  exact h5.showImage.showInsp

theorem imagesFail (h : AtRest kept d) {code : Nat} : AtRest kept (d.imagesFail code) := each h fun _ _ h => h.imageFail

theorem overflow (h : AtRest kept d) : AtRest kept d.overflow := ite h h.modHost

theorem ringReset (h : AtRest kept d) : AtRest kept d.ringReset := ⟨h.st, h.down, h.retained⟩

theorem endpointReset (h : AtRest kept d) {unsent : Nat} : AtRest kept (d.endpointReset unsent) := by
  unfold Device.endpointReset
  extract_lets d1 _ d2 d3
  have h1 : AtRest kept d1 := h.unsend.loseEvents
  have h2 : AtRest kept d2 := h1.ringReset.dropChains
  have h3 : AtRest kept d3 := modPs (setFlag (each h2 fun _ _ h => h.freePage))
  exact h3.overflow.imagesFail.updateHostError.dmaHostError.jobHostError

theorem linkGoesDown (h : AtRest kept d) {unsent : Nat} : AtRest kept (d.linkGoesDown unsent) := h.modHost.setReg.endpointReset

end AtRest

/-! The pieces of a shutdown. -/

section

variable (d : Device)

theorem setSt_pwr (n : DevState) : (d.setSt n).pwr = d.pwr :=
  setSt_keeps d (fun _ _ _ _ => rfl) (fun _ _ _ _ => rfl) (fun _ _ _ => rfl) (fun _ _ => rfl) n

theorem setSt_boot (n : DevState) : (d.setSt n).boot = d.boot :=
  setSt_keeps d (fun _ _ _ _ => rfl) (fun _ _ _ _ => rfl) (fun _ _ _ => rfl) (fun _ _ => rfl) n

/-- The rails that a shutdown turns off, from the sequence that runs already and then in reverse order (R548). -/
def Device.fallsNow (hold : Nat) : List Nat :=
  d.pwr.falling.take 1 ++ ((d.railEntries.map (fun e => e.rail)).reverse).filter (fun r => d.renHigh r && !natBit hold r)

/-- The start of a shutdown changes the record of it, SHUTDOWN and SEQ_BUSY, and at most one rail's enable. -/
theorem railsDown_only (k : DownKind) (hold : Nat) :
    ∃ r, d.railsDown k hold = { d with regs := r, pwr := { d.pwr with down := some k, falling := d.fallsNow hold, seq := .idle } } ∧
      ∀ a, a ≠ PWR_RAIL_EN → (d.railsDown k hold).reg a =
        ((d.setFlag PWR_STATUS PWR_STATUS_SHUTDOWN true).setFlag PWR_STATUS PWR_STATUS_SEQ_BUSY false).reg a := by
  unfold Device.railsDown
  extract_lets l now d1 d2
  have hd2 : ∃ r, d2 = { d with regs := r, pwr := { d.pwr with down := some k, falling := d.fallsNow hold, seq := .idle } } := ⟨_, rfl⟩
  have hreg (a : Nat) : d2.reg a = ((d.setFlag PWR_STATUS PWR_STATUS_SHUTDOWN true).setFlag PWR_STATUS PWR_STATUS_SEQ_BUSY false).reg a := rfl
  clear_value d2 now l
  obtain ⟨r, hr⟩ := hd2
  split
  · refine ⟨_, by rw [hr]; rfl, fun a ha => ?_⟩
    exact (reg_setFld_ne d2 _ _ ha).trans (hreg a)
  · exact ⟨r, hr, fun a _ => hreg a⟩

theorem railsDown_shutdown (k : DownKind) (hold : Nat) : (d.railsDown k hold).flag PWR_STATUS PWR_STATUS_SHUTDOWN = true := by
  obtain ⟨r, hr, hreg⟩ := railsDown_only d k hold
  rw [flag_congr (hreg PWR_STATUS (by decide)), flag_setFlag_other _ _ _ (by decide) (by decide)]
  exact flag_setFlag_self _ _ (by decide) (by decide) true

theorem railsDown_pwr (k : DownKind) (hold : Nat) :
    (d.railsDown k hold).pwr = { d.pwr with down := some k, falling := d.fallsNow hold, seq := .idle } := by
  obtain ⟨r, hr, -⟩ := railsDown_only d k hold
  rw [hr]

theorem railsDown_boot (k : DownKind) (hold : Nat) : (d.railsDown k hold).boot = d.boot := by
  obtain ⟨r, hr, -⟩ := railsDown_only d k hold
  rw [hr]

theorem railsDown_forcing (k : DownKind) (hold : Nat) :
    (d.railsDown k hold).flag KRB_STATUS KRB_STATUS_FORCING = d.flag KRB_STATUS KRB_STATUS_FORCING := by
  obtain ⟨r, -, hreg⟩ := railsDown_only d k hold
  rw [flag_congr (hreg KRB_STATUS (by decide)), flag_setFlag_ne _ _ _ _ (by decide), flag_setFlag_ne _ _ _ _ (by decide)]

end

/-- Where no start waits, the end of a shutdown to rest leaves the device parked (R553). -/
theorem downEnds_parked {kept : Bool} {d : Device} (h : AtRest kept d) (hwait : d.pwr.startWaits = false) :
    d.downEnds.st = .parked ∧ d.downEnds.token = d.token ∧ d.downEnds.boot.retained = kept := by
  have hdown : (d.setFlag PWR_STATUS PWR_STATUS_SHUTDOWN false).pwr.down = some .park := h.down
  unfold Device.downEnds
  extract_lets d1 d2
  have hw : d2.pwr.startWaits = false := hwait
  rw [hdown]
  simp only [hw, Bool.false_and, Bool.false_eq_true, if_false]
  exact ⟨h.st, rfl, h.retained⟩

/-- Parking ends in Parked with no token, the page store retained as asked (R540, R561). -/
theorem goParked_parked (d : Device) (retain : Bool) :
    (d.goParked retain).st = .parked ∧ (d.goParked retain).token = none ∧ (d.goParked retain).boot.retained = retain := by
  unfold Device.goParked
  extract_lets d1 d2 d3 hold d4 d5 d6 d7 d8
  have h5 : AtRest retain (d5.setSt .parked) :=
    ⟨setSt_st .., by rw [setSt_pwr]; exact congrArg PowerS.down (railsDown_pwr ..), by rw [setSt_boot]; exact congrArg BootS.retained (railsDown_boot ..)⟩
  have h6 : AtRest retain d6 := h5.linkGoesDown
  have h8 : AtRest retain d8 := ⟨h6.st, h6.down, h6.retained⟩
  split
  · exact downEnds_parked h8 rfl
  · exact ⟨h8.st, rfl, h8.retained⟩

/-- A ledger bit reads 1 once it is set. -/
theorem sticky_setSticky (d : Device) (b : Nat) : (d.setSticky b).sticky b = true := by
  have hb : b % 32 < 32 := Nat.mod_lt _ (by decide)
  unfold Device.sticky Device.setSticky
  rw [reg_setReg_self, BitVec.getLsbD_or, BitVec.getLsbD_ofNat, Nat.testBit_two_pow_self]
  simp [hb]

/-- The end of a power-down to Off (R550, R560). -/
theorem goOff_off (d : Device) (press : Bool) :
    (d.goOff press).st = .off ∧ (d.goOff press).token = none ∧ (d.goOff press).pwr.down = none ∧ (d.goOff press).pwr.needPress = press ∧
      (d.goOff press).flag PWR_STATUS PWR_STATUS_SHUTDOWN = false ∧ (d.goOff press).fld PWR_DOM_STATUS PWR_DOM_STATUS_ON = 0 := by
  unfold Device.goOff
  extract_lets d1
  have hreg (a : Nat) (h : a ≠ PWR_DOM_STATUS) : (d1.setFld PWR_DOM_STATUS PWR_DOM_STATUS_ON 0).reg a = d1.reg a := reg_setFld_ne _ _ _ h
  refine ⟨setSt_st .., rfl, rfl, rfl, ?_, fld_setFld_self d1 PWR_DOM_STATUS (by decide) 0⟩
  calc (d1.setFld PWR_DOM_STATUS PWR_DOM_STATUS_ON 0).flag PWR_STATUS PWR_STATUS_SHUTDOWN
    _ = d1.flag PWR_STATUS PWR_STATUS_SHUTDOWN := flag_congr (hreg PWR_STATUS (by decide)) _
    _ = false := flag_setFlag_self _ _ (by decide) (by decide) false

/-- VIN's failure forces the outputs, ends every injection and starts the shutdown (R550). -/
theorem vinFail_completes (t : Nat) (s : State) (hst : s.dev.st ≠ .off) (hdown : s.dev.pwr.down = none) :
    Completes (.vinFail t) s fun e => e.pwr.down = some .vinFail ∧ e.pwr.vinValid = false ∧ e.pwr.inj = [] ∧
      e.flag PWR_STATUS PWR_STATUS_SHUTDOWN = true ∧ e.flag KRB_STATUS KRB_STATUS_FORCING = true := by
  refine ⟨_, rfl, rfl, rfl, ?_⟩
  dsimp only
  rw [if_neg, if_neg]
  · refine ⟨?_, ?_, ?_, railsDown_shutdown .., ?_⟩
    · rw [railsDown_pwr]
    · rw [railsDown_pwr]; rfl
    · rw [railsDown_pwr]; rfl
    · rw [railsDown_forcing]
      exact flag_setFlag_self _ _ (by decide) (by decide) true
  · simp [hdown]
  · exact hst

/-- PBTN_N held for 8 s forces the shutdown (R560). -/
theorem pbtnHold8s_completes (t : Nat) (s : State) (hst : s.dev.st ≠ .off) (hdown : s.dev.pwr.down = none) :
    Completes (.pbtnHold8s t) s fun e => e.pwr.down = some .forced ∧ e.pwr.inj = [] ∧ e.flag PWR_STATUS PWR_STATUS_SHUTDOWN = true := by
  refine ⟨_, rfl, rfl, rfl, ?_⟩
  dsimp only
  rw [if_neg, if_neg]
  · refine ⟨?_, ?_, railsDown_shutdown ..⟩
    · rw [railsDown_pwr]
    · rw [railsDown_pwr]; rfl
  · simp [hdown]
  · exact hst

/-- VIN's collapse during a shutdown releases the enables and the outputs (R552). -/
theorem vinCollapse_completes (t : Nat) (s : State) (hdown : s.dev.pwr.down.isSome = true) :
    Completes (.vinCollapse t) s fun e => e.fld PWR_RAIL_EN PWR_RAIL_EN_EN = 0 ∧ e.fld PWR_RAIL_PG PWR_RAIL_PG_PG = 0 ∧
      e.kerb.request = 0 ∧ e.tml.gpioOut = [] := by
  refine ⟨_, rfl, rfl, rfl, ?_⟩
  dsimp only
  rw [if_pos]
  · generalize hd : (s.dev.tick t).setFld PWR_RAIL_EN PWR_RAIL_EN_EN 0 = d
    refine ⟨?_, fld_setFld_self d PWR_RAIL_PG (by decide) 0, rfl, rfl⟩
    calc (d.setFld PWR_RAIL_PG PWR_RAIL_PG_PG 0).fld PWR_RAIL_EN PWR_RAIL_EN_EN
      _ = d.fld PWR_RAIL_EN PWR_RAIL_EN_EN := fld_setFld_ne d _ _ 0 (by decide)
      _ = 0 := by rw [← hd]; exact fld_setFld_self _ _ (by decide) 0
  · exact hdown

/-- A shutdown after a supply failure or a forced one ends in Off (R550, R560). -/
theorem powerDownComplete_completes (t : Nat) (s : State) (h : s.dev.pwr.down = some .vinFail ∨ s.dev.pwr.down = some .forced) :
    Completes (.powerDownComplete t) s fun e => e.st = .off ∧ e.token = none ∧ e.pwr.down = none ∧
      e.pwr.needPress = decide (s.dev.pwr.down = some .forced) ∧ e.flag PWR_STATUS PWR_STATUS_SHUTDOWN = false ∧
      e.fld PWR_DOM_STATUS PWR_DOM_STATUS_ON = 0 := by
  refine ⟨_, rfl, rfl, rfl, ?_⟩
  have htick : (s.dev.tick t).pwr.down = s.dev.pwr.down := rfl
  rcases h with h | h
  · simp only [htick, h]
    exact goOff_off _ false
  · simp only [htick, h]
    exact goOff_off _ true

/-- MRST_N low parks the device where nothing keeps it from it (R561). -/
theorem mrstLow_completes (t : Nat) (s : State) (hoff : s.dev.st ≠ .off) (hparked : s.dev.st ≠ .parked) (hdown : s.dev.pwr.down = none)
    (hint : s.dev.boot.intFail = false) : Completes (.mrstLow t) s fun e => e.st = .parked ∧ e.token = none := by
  refine ⟨_, rfl, rfl, rfl, ?_⟩
  dsimp only
  rw [if_neg]
  · obtain ⟨hst, htoken, -⟩ := goParked_parked ((s.dev.tick t).modPwr fun v => { v with mrstLow := true }) _
    exact ⟨hst, htoken⟩
  · simp [hoff, hparked, hdown, hint]

/-- The trip of die sensor 0 parks the device and sets its bit (R575). -/
theorem thermTrip_completes (t : Nat) (s : State) (hoff : s.dev.st ≠ .off) (hparked : s.dev.st ≠ .parked) (hdown : s.dev.pwr.down = none)
    (hint : s.dev.boot.intFail = false) :
    Completes (.thermTrip t) s fun e => e.st = .parked ∧ e.token = none ∧ e.sticky lbThermTrip = true := by
  refine ⟨_, rfl, rfl, rfl, ?_⟩
  dsimp only
  rw [if_neg (by simp [hoff, hparked, hint]), if_neg (by simp [hdown])]
  obtain ⟨hst, htoken, -⟩ := goParked_parked (s.dev.tick t) false
  exact ⟨hst, htoken, sticky_setSticky _ _⟩

/-- PARK without retention (R4). -/
theorem park_completes (t : Nat) (s : State) (hst : s.dev.st = .held) (hdown : s.dev.pwr.down = none) :
    Completes (.park t) s fun e => e.st = .parked ∧ e.token = none ∧ e.boot.retained = false := by
  refine ⟨_, rfl, rfl, rfl, ?_⟩
  rw [Device.park, if_pos (by exact ⟨hst, hdown⟩)]
  exact goParked_parked _ false

/-- PARK with retention (R59). -/
theorem parkRetain_completes (t : Nat) (s : State) (hst : s.dev.st = .held) (hdown : s.dev.pwr.down = none) :
    Completes (.parkRetain t) s fun e => e.st = .parked ∧ e.token = none ∧ e.boot.retained = true := by
  refine ⟨_, rfl, rfl, rfl, ?_⟩
  rw [Device.parkRetain, if_pos (by exact ⟨hst, hdown⟩)]
  exact goParked_parked _ true

/-- Settles O7: one lemma for each command, `goParked_parked` behind those that park. -/
theorem shutdownsReachTheirEnd : Obligations.ShutdownsReachTheirEnd := by
  intro t s
  refine ⟨?_, vinCollapse_completes t s, powerDownComplete_completes t s, ?_, ?_⟩
  · intro hst hdown
    exact ⟨vinFail_completes t s hst hdown, pbtnHold8s_completes t s hst hdown⟩
  · intro hoff hparked hdown hint
    exact ⟨mrstLow_completes t s hoff hparked hdown hint, thermTrip_completes t s hoff hparked hdown hint⟩
  · intro hst hdown
    exact ⟨park_completes t s hst hdown, parkRetain_completes t s hst hdown⟩

end Sys2Proof.Machine

end

section

set_option Elab.async false

namespace Sys2Proof.Machine

/-! # Starts (R58, R61) -/

/-- A start of a kind ends in Booting, with that kind and its first step shown; what MRST_N did before is forgotten (R58, R61). -/
theorem start_booting (d : Device) {kind : Nat} (hkind : kind ≤ 2) :
    (d.start kind).st = .booting ∧ (d.start kind).fld CFG_STATUS CFG_STATUS_START_KIND = kind ∧
      (d.start kind).fld CFG_STATUS CFG_STATUS_STEP = (if kind = 0 then 0 else 1) ∧ (d.start kind).pwr.mrstLow = false := by
  unfold Device.start
  extract_lets retained rails n0 n1 n2 n3 n4 n5 n6 n7 n8
  have hst : n8.st = .booting := by
    have h8 : n8.st = n7.st := each_keeps (p := Device.st) (fun _ _ => by rfl) _ n7
    exact h8.trans (setSt_st ..)
  have hpwr : n8.pwr = { vinValid := d.pwr.vinValid } := by
    have h4 : n4.pwr = n3.pwr := each_keeps (p := Device.pwr) (fun _ _ => by rfl) _ n3
    have h5 : n5.pwr = n4.pwr := by
      unfold n5
      split
      · rfl
      · rfl
    calc n8.pwr
      _ = n7.pwr := each_keeps (p := Device.pwr) (fun _ _ => by rfl) _ n7
      _ = n6.pwr := setSt_pwr ..
      _ = n5.pwr := rfl
      _ = n3.pwr := h5.trans h4
      _ = { vinValid := d.pwr.vinValid } := rfl
  clear_value n8
  refine ⟨hst, ?_, ?_, congrArg PowerS.mrstLow hpwr⟩
  · rw [fld_setFld_other _ _ _ (by decide) (by decide), fld_setFld_self _ _ (by decide)]
    exact Nat.mod_eq_of_lt (by simp only [CFG_STATUS_START_KIND]; omega)
  · rw [fld_setFld_self _ _ (by decide)]
    split
    · rfl
    · rfl

theorem wake_booting (d : Device) :
    d.wake.st = .booting ∧ d.wake.fld CFG_STATUS CFG_STATUS_START_KIND = (if d.boot.retained then 2 else 1) ∧
      d.wake.fld CFG_STATUS CFG_STATUS_STEP = 1 ∧ d.wake.pwr.mrstLow = false := by
  unfold Device.wake
  cases d.boot.retained
  · exact start_booting d (kind := 1) (by decide)
  · exact start_booting d (kind := 2) (by decide)

/-- The cold start, as the events of R4 begin it. -/
theorem coldStart_booting (d : Device) :
    (d.start 0).st = .booting ∧ (d.start 0).fld CFG_STATUS CFG_STATUS_START_KIND = 0 ∧ (d.start 0).fld CFG_STATUS CFG_STATUS_STEP = 0 := by
  obtain ⟨hst, hkind, hstep, -⟩ := start_booting d (kind := 0) (by decide)
  exact ⟨hst, hkind, hstep⟩

theorem vinRise_starts (t : Nat) (s : State) (hst : s.dev.st = .off) (hdown : s.dev.pwr.down = none) (hvin : s.dev.pwr.vinValid = false)
    (htime : 100 * tuPerMs ≤ max s.dev.now t - s.dev.pwr.offAt) :
    Completes (.vinRise t) s fun e => e.st = .booting ∧ e.fld CFG_STATUS CFG_STATUS_START_KIND = 0 ∧ e.fld CFG_STATUS CFG_STATUS_STEP = 0 := by
  refine ⟨_, rfl, rfl, rfl, ?_⟩
  dsimp only
  rw [if_pos]
  · exact coldStart_booting _
  · exact ⟨hst, hdown, by simp [hvin], htime⟩

theorem fullyOff_starts (t : Nat) (s : State) (hst : s.dev.st = .off) (hdown : s.dev.pwr.down = none) (hpress : s.dev.pwr.needPress = false) :
    Completes (.fullyOffTimeElapsed t true) s fun e =>
      e.st = .booting ∧ e.fld CFG_STATUS CFG_STATUS_START_KIND = 0 ∧ e.fld CFG_STATUS CFG_STATUS_STEP = 0 := by
  refine ⟨_, rfl, rfl, rfl, ?_⟩
  dsimp only
  rw [if_pos]
  · exact coldStart_booting _
  · exact ⟨hst, hdown, rfl, by simp [hpress]⟩

theorem press_startsFromOff (t : Nat) (s : State) (hst : s.dev.st = .off) (hdown : s.dev.pwr.down = none) (hpress : s.dev.pwr.needPress = true)
    (hvin : s.dev.pwr.vinValid = true) :
    Completes (.pbtnPress t) s fun e => e.st = .booting ∧ e.fld CFG_STATUS CFG_STATUS_START_KIND = 0 ∧ e.fld CFG_STATUS CFG_STATUS_STEP = 0 := by
  refine ⟨_, rfl, rfl, rfl, ?_⟩
  have htick : (s.dev.tick t).st = .off := hst
  simp only [htick]
  rw [if_pos]
  · exact coldStart_booting _
  · exact ⟨hpress, hvin, hdown⟩

theorem press_wakes (t : Nat) (s : State) (hst : s.dev.st = .parked) (hdown : s.dev.pwr.down = none) (hmrst : s.dev.pwr.mrstLow = false) :
    Completes (.pbtnPress t) s fun e => e.st = .booting ∧
      e.fld CFG_STATUS CFG_STATUS_START_KIND = (if s.dev.boot.retained then 2 else 1) ∧ e.fld CFG_STATUS CFG_STATUS_STEP = 1 := by
  refine ⟨_, rfl, rfl, rfl, ?_⟩
  have htick : (s.dev.tick t).st = .parked := hst
  simp only [htick]
  rw [if_neg, if_neg]
  · obtain ⟨hst, hkind, hstep, -⟩ := wake_booting (s.dev.tick t)
    exact ⟨hst, hkind, hstep⟩
  · simp [hdown]
  · simp [hmrst]

theorem mrstRelease_wakes (t : Nat) (s : State) (hst : s.dev.st = .parked) (hdown : s.dev.pwr.down = none) :
    Completes (.mrstRelease t) s fun e => e.st = .booting ∧ e.pwr.mrstLow = false ∧
      e.fld CFG_STATUS CFG_STATUS_START_KIND = (if s.dev.boot.retained then 2 else 1) ∧ e.fld CFG_STATUS CFG_STATUS_STEP = 1 := by
  refine ⟨_, rfl, rfl, rfl, ?_⟩
  dsimp only
  rw [if_neg, if_neg]
  · obtain ⟨hst, hkind, hstep, hmrst⟩ := wake_booting ((s.dev.tick t).modPwr fun v => { v with mrstLow := false })
    exact ⟨hst, hmrst, hkind, hstep⟩
  · simp [hdown]
  · simp [hst]

theorem resetRelease_completesStep1 (t : Nat) (s : State) (hst : s.dev.st = .booting) (hstep : s.dev.fld CFG_STATUS CFG_STATUS_STEP = 0) :
    Completes (.d0PowerOnResetReleased t) s fun e =>
      e.st = .booting ∧ e.fld CFG_STATUS CFG_STATUS_STEP = 1 ∧ ∀ a, a ≠ CFG_STATUS → e.reg a = s.dev.reg a := by
  refine ⟨_, rfl, rfl, rfl, ?_⟩
  dsimp only
  rw [if_pos]
  · exact ⟨hst, fld_setFld_self _ CFG_STATUS (by decide) 1, fun a ha => reg_setFld_ne (s.dev.tick t) _ _ ha⟩
  · exact ⟨hst, hstep⟩

/-- Settles O6: one lemma for each event of R4 that begins a start, over `start_booting`. -/
theorem startsEnterBooting : Obligations.StartsEnterBooting := by
  intro t s
  exact ⟨vinRise_starts t s, fullyOff_starts t s, press_startsFromOff t s, press_wakes t s, mrstRelease_wakes t s,
    resetRelease_completesStep1 t s⟩

end Sys2Proof.Machine

end

section

set_option Elab.async false

namespace Sys2Proof.Machine

/-! # The host's commands (R4)

What follows the change of the device state in Held and in Ready switches domains, writes counts back and shows stations: it leaves
the state, the answer and, where no transfer is planned, that. -/

/-- In a state, with an answer, and no planned transfer waiting. -/
structure Answered (v : DevState) (r : Resp) (d : Device) : Prop where
  st : d.st = v
  resp : d.resp = r
  planned : d.planned = none

namespace Answered

variable {v : DevState} {r : Resp} {d : Device}

theorem ite {c : Prop} [Decidable c] {a b : Device} (ha : Answered v r a) (hb : Answered v r b) : Answered v r (if c then a else b) := by
  split
  · exact ha
  · exact hb

theorem each {α : Type} {l : List α} {f : α → Device → Device} (h : Answered v r d) (hf : ∀ x e, Answered v r e → Answered v r (f x e)) :
    Answered v r (d.each l f) := each_inv hf l d h

theorem setReg (h : Answered v r d) {a : Nat} {w : Word} : Answered v r (d.setReg a w) := ⟨h.st, h.resp, h.planned⟩

theorem setFld (h : Answered v r d) {a : Nat} {f : Fld} {n : Nat} : Answered v r (d.setFld a f n) := h.setReg

theorem setFlag (h : Answered v r d) {a : Nat} {f : Fld} {b : Bool} : Answered v r (d.setFlag a f b) := h.setFld

theorem setPort (h : Answered v r d) {q : Side} {s : Nat} {x : PortS} : Answered v r (d.setPort q s x) := ⟨h.st, h.resp, h.planned⟩

theorem modCns (h : Answered v r d) {f : CnsS → CnsS} : Answered v r (d.modCns f) := ⟨h.st, h.resp, h.planned⟩

theorem modBmo (h : Answered v r d) {f : BeamS → BeamS} : Answered v r (d.modBmo f) := ⟨h.st, h.resp, h.planned⟩

theorem modPs (h : Answered v r d) {f : StoreS → StoreS} : Answered v r (d.modPs f) := ⟨h.st, h.resp, h.planned⟩

theorem latchPitch (h : Answered v r d) : Answered v r d.latchPitch := ⟨h.st, h.resp, h.planned⟩

/-- The device goes to another state and its answer stays. -/
theorem setSt (h : Answered v r d) {w : DevState} : Answered w r (d.setSt w) where
  st := setSt_st ..
  resp := (setSt_keeps d (p := Device.resp) (fun _ _ _ _ => rfl) (fun _ _ _ _ => rfl) (fun _ _ _ => rfl) (fun _ _ => rfl) w).trans h.resp
  planned := (setSt_keeps d (p := Device.planned) (fun _ _ _ _ => rfl) (fun _ _ _ _ => rfl) (fun _ _ _ => rfl) (fun _ _ => rfl) w).trans h.planned

/-! Domains. -/

theorem domOn (h : Answered v r d) {n : Nat} {b : Bool} : Answered v r (d.domOn n b) := h.setFld

theorem trainPort (h : Answered v r d) {q : Side} {s : Nat} : Answered v r (d.trainPort q s) := h.setFld.setPort

theorem lanesUp (h : Answered v r d) {q : Side} : Answered v r (d.lanesUp q) :=
  ite h (each h.domOn fun _ _ h => ite h.trainPort h)

theorem lanesDown (h : Answered v r d) {q : Side} : Answered v r (d.lanesDown q) :=
  domOn (setFlag (each h fun _ _ h => setFld (setFlag (setFld h))))

theorem domainsReady (h : Answered v r d) : Answered v r d.domainsReady := each h.domOn fun _ _ h => h.lanesUp

theorem domainsHeld (h : Answered v r d) : Answered v r d.domainsHeld := each h fun _ _ h => h.lanesDown

/-! What waits for Held. -/

theorem writeCount (h : Answered v r d) {s : Nat} : Answered v r (d.writeCount s) := by
  unfold Device.writeCount
  extract_lets _ _ _ _ d1
  have h1 : Answered v r d1 := h.setFlag
  exact ite h1.modCns h1.modCns

theorem writeback (h : Answered v r d) {s : Nat} {power : Bool} : Answered v r (d.writeback s power) :=
  ite h (ite (ite h.setFlag.setFlag h.setFlag) h.writeCount)

theorem writebackHeld (h : Answered v r d) : Answered v r d.writebackHeld := each h fun _ _ h => h.writeback

theorem eolHeld (h : Answered v r d) : Answered v r d.eolHeld := by
  unfold Device.eolHeld
  exact h.modCns

theorem showSafe (h : Answered v r d) {s : Nat} : Answered v r (d.showSafe s) := setFld (each h fun _ _ h => h.setFlag)

theorem stationsHeld (h : Answered v r d) : Answered v r d.stationsHeld := each h.modBmo fun _ _ h => h.showSafe

theorem retrainHeld (h : Answered v r d) : Answered v r d.retrainHeld := ite h.modPs h

theorem plannedNow (h : Answered v r d) : Answered v r d.plannedNow := by
  unfold Device.plannedNow
  rw [h.planned]
  exact h

/-! The two entries. -/

theorem enterReady (h : Answered v r d) : Answered .ready r d.enterReady := h.setSt.domainsReady.latchPitch

theorem enterHeld (h : Answered v r d) : Answered .held r d.enterHeld :=
  h.setSt.domainsHeld.writebackHeld.eolHeld.stationsHeld.retrainHeld.plannedNow

end Answered

theorem setSt_flight (d : Device) (n : DevState) : (d.setSt n).flight = d.flight := by
  have h : (d.setSt n).tml = d.tml :=
    setSt_keeps d (p := Device.tml) (fun _ _ _ _ => rfl) (fun _ _ _ _ => rfl) (fun _ _ _ => rfl) (fun _ _ => rfl) n
  unfold Device.flight Device.openInsts
  rw [h]

theorem setSt_resp (d : Device) (n : DevState) : (d.setSt n).resp = d.resp :=
  setSt_keeps d (p := Device.resp) (fun _ _ _ _ => rfl) (fun _ _ _ _ => rfl) (fun _ _ _ => rfl) (fun _ _ => rfl) n

/-- From Printing the device drains, and is Ready at once where no sheet is in flight (R4). -/
theorem enterDraining_printing {d : Device} (h : d.st = .printing) :
    d.enterDraining.st = (if d.flight.isEmpty then .ready else .draining) ∧ d.enterDraining.resp = d.resp := by
  unfold Device.enterDraining Device.settle
  rw [if_pos (Or.inr h), setSt_st, setSt_flight]
  cases hf : d.flight.isEmpty
  · exact ⟨setSt_st .., setSt_resp ..⟩
  · exact ⟨setSt_st .., (setSt_resp ..).trans (setSt_resp ..)⟩

theorem hostStart_completes (t : Nat) (s : State) (hst : s.dev.st = .held) (hplan : s.dev.planned = none) (hfree : s.dev.startRefused = false) :
    Completes (.hostStart t) s fun e => e.st = .ready ∧ e.resp = .ok := by
  refine ⟨_, rfl, rfl, rfl, ?_⟩
  have h : Answered .held .ok ((s.dev.tick t).reply .ok) := ⟨hst, rfl, hplan⟩
  have hfree : (s.dev.tick t).startRefused = false := hfree
  dsimp only
  rw [if_neg, if_neg]
  · exact ⟨h.enterReady.plannedNow.st, h.enterReady.plannedNow.resp⟩
  · simp [hfree]
  · simp [hst]

theorem hostStart_refused (t : Nat) (s : State) (hst : s.dev.st = .held) (hheld : s.dev.startRefused = true) :
    Completes (.hostStart t) s fun e => e.st = .held ∧ e.resp = .errState := by
  refine ⟨_, rfl, rfl, rfl, ?_⟩
  dsimp only
  rw [if_neg, if_pos]
  · exact ⟨hst, rfl⟩
  · exact hheld
  · simp [hst]

theorem hostHold_completes (t : Nat) (s : State) (hst : s.dev.st = .ready) (hplan : s.dev.planned = none) :
    Completes (.hostHold t) s fun e => e.st = .held ∧ e.resp = .ok := by
  refine ⟨_, rfl, rfl, rfl, ?_⟩
  have h : Answered .ready .ok ((s.dev.tick t).reply .ok) := ⟨hst, rfl, hplan⟩
  dsimp only
  rw [if_pos]
  · exact ⟨h.enterHeld.st, h.enterHeld.resp⟩
  · exact hst

theorem hostStop_completes (t : Nat) (s : State) (hst : s.dev.st = .printing) :
    Completes (.hostStop t) s fun e => e.st = (if s.dev.flight.isEmpty then .ready else .draining) ∧ e.resp = .ok := by
  refine ⟨_, rfl, rfl, rfl, ?_⟩
  have hst' : ((s.dev.tick t).reply .ok).st = .printing := hst
  dsimp only
  rw [if_pos]
  · exact enterDraining_printing hst'
  · exact Or.inl hst

/-- Settles O12: one lemma for each command and answer, over `Answered`. -/
theorem hostCommandsMoveTheState : Obligations.HostCommandsMoveTheState := by
  intro t s
  refine ⟨?_, hostHold_completes t s, hostStop_completes t s⟩
  intro hst hplan
  exact ⟨hostStart_completes t s hst hplan, hostStart_refused t s hst⟩

end Sys2Proof.Machine

end

section

set_option Elab.async false

namespace Sys2Proof.Machine

/-! # Pitches, clear-out, the watchdog and the disabling of the Timeline (R395 to R412) -/

section

variable (d : Device)

theorem setSt_tml (n : DevState) : (d.setSt n).tml = d.tml :=
  setSt_keeps d (fun _ _ _ _ => rfl) (fun _ _ _ _ => rfl) (fun _ _ _ => rfl) (fun _ _ => rfl) n

/-- An instance that is no clear-out passes over no entry (R408). -/
theorem skipEntries_of_sheet {i : Instance} (h : i.clearout = false) (n : Nat) : d.skipEntries i n = i := by
  cases n with
  | zero => rfl
  | succ n =>
    unfold Device.skipEntries
    split
    · simp [h]
    · rfl

theorem settleCursor_of_sheet {i : Instance} (h : i.clearout = false) : d.settleCursor i = { i with late := d.passedTrigger i } := by
  unfold Device.settleCursor
  rw [skipEntries_of_sheet d h]

/-- The line grids that a pitch start opens are no part of the instances. -/
theorem gridOpen_insts : d.gridOpen.tml.insts = d.tml.insts :=
  each_keeps (p := fun d => d.tml.insts)
    (fun _ e => each_keeps (p := fun d => d.tml.insts) (fun _ _ => by rfl) _ e) _ d

theorem gridOpen_st : d.gridOpen.st = d.st :=
  each_keeps (p := Device.st) (fun _ e => each_keeps (p := Device.st) (fun _ _ => by rfl) _ e) _ d

theorem openInst_inst (n : Nat) (i : Instance) : (d.openInst n i).inst n = some (d.settleCursor i) := by
  unfold Device.inst Device.openInst
  rw [gridOpen_insts]
  exact (sget_sput (fun _ => none) d.tml.insts n n (some (d.settleCursor i))).trans (if_pos rfl)

theorem openInst_st (n : Nat) (i : Instance) : (d.openInst n i).st = d.st := gridOpen_st _

/-- A higher pace level is asked for without a change of the device state or of the Timeline (R34). -/
theorem paceRaise_keeps : d.paceRaise.st = d.st ∧ d.paceRaise.tml = d.tml := by
  have hstep (e : Device) : e.paceStep.st = e.st ∧ e.paceStep.tml = e.tml := by
    fun_cases Device.paceStep e with
    | case1 => exact ⟨rfl, rfl⟩
    | case2 => exact ⟨rfl, rfl⟩
  have hrequest : d.paceRequest.st = d.st ∧ d.paceRequest.tml = d.tml := by
    fun_cases Device.paceRequest d with
    | case1 => exact ⟨rfl, rfl⟩
    | case2 => exact hstep _
  fun_cases Device.paceRaise d with
  | case1 => exact hrequest
  | case2 => exact ⟨rfl, rfl⟩

/-- Thermal enforcement changes its own register and its credit (R574). -/
theorem enforce_keeps (v : Nat) : (d.enforce v).1.st = d.st ∧ (d.enforce v).1.tml = d.tml := by
  fun_cases Device.enforce d v with
  | case1 => exact ⟨rfl, rfl⟩
  | case2 => exact ⟨rfl, rfl⟩
  | case3 => exact ⟨rfl, rfl⟩

theorem enforce_tick (t v : Nat) : ((d.tick t).enforce v).2 = (d.enforce v).2 := by
  unfold Device.enforce
  rw [apply_ite Prod.snd, apply_ite Prod.snd]
  dsimp only
  rw [apply_ite Prod.snd, apply_ite Prod.snd]
  rfl

/-- In Ready a taken page opens its instance at the new pitch start, and the device prints (R397). -/
theorem takePage_printing (n : Nat) (p : Page) (hst : d.st = .ready) :
    (d.takePage n p).st = .printing ∧ ∃ i, (d.takePage n p).inst n = some i ∧ i.wsn = p.first.wsn ∧ i.cursor = 0 ∧
      i.stations = p.first.stations ∧ i.origin = d.tml.pitchAt + d.tml.pitchLen := by
  unfold Device.takePage
  extract_lets d1 w d2 d3 d4 d5 d6
  have html : d4.tml = d1.tml :=
    each_keeps (p := Device.tml) (fun _ e => each_keeps (p := Device.tml) (fun _ _ => by rfl) _ e) _ d3
  have hst4 : d4.st = d.st := each_keeps (p := Device.st) (fun _ e => each_keeps (p := Device.st) (fun _ _ => by rfl) _ e) _ d3
  have hst6 : d6.st = .ready := by
    rw [(paceRaise_keeps d5).1, openInst_st, hst4, hst]
  have hinst : d6.inst n = d5.inst n := by
    unfold Device.inst
    rw [(paceRaise_keeps d5).2]
  have horigin : d4.tml.pitchAt = d.tml.pitchAt + d.tml.pitchLen := by rw [html]; rfl
  have hopen : ∃ i, d5 = d4.openInst n i ∧ i.clearout = false ∧ i.wsn = p.first.wsn ∧ i.cursor = 0 ∧ i.stations = p.first.stations ∧
      i.origin = d4.tml.pitchAt := ⟨_, rfl, rfl, rfl, rfl, rfl, rfl⟩
  obtain ⟨i, hi, hsheet, hwsn, hcursor, hstations, hat⟩ := hopen
  rw [if_pos hst6]
  refine ⟨setSt_st .., { i with late := d4.passedTrigger i }, ?_, hwsn, hcursor, hstations, hat.trans horigin⟩
  calc (d6.setSt .printing).inst n
    _ = d6.inst n := by unfold Device.inst; rw [setSt_tml]
    _ = d5.inst n := hinst
    _ = some (d4.settleCursor i) := by rw [hi]; exact openInst_inst d4 n i
    _ = some { i with late := d4.passedTrigger i } := by rw [settleCursor_of_sheet d4 hsheet]

/-- Counting in both Quarters' registers, where their Timelines run. -/
theorem blank_count (q : Side) (h : d.tmlRuns q = true) :
    d.blank.fld (TML_CNT q) TML_CNT_BLANK = min (d.fld (TML_CNT q) TML_CNT_BLANK + 1) 65535 := by
  have hself (e : Device) (x : Side) : (e.count (TML_CNT x) TML_CNT_BLANK).fld (TML_CNT x) TML_CNT_BLANK =
      min (e.fld (TML_CNT x) TML_CNT_BLANK + 1) 65535 := fld_count_self e (TML_CNT x) (by decide)
  have hother (e : Device) (x : Side) : (e.count (TML_CNT x.other) TML_CNT_BLANK).fld (TML_CNT x) TML_CNT_BLANK =
      e.fld (TML_CNT x) TML_CNT_BLANK := by
    rw [count_eq]
    exact fld_setFld_ne e _ _ _ (by cases x <;> decide)
  have hstart : (d.nextPitchIs d.blankPitch).fld (TML_CNT q) TML_CNT_BLANK = d.fld (TML_CNT q) TML_CNT_BLANK := rfl
  unfold Device.blank Device.tmlSides bothSides
  rw [← hstart]
  generalize d.nextPitchIs d.blankPitch = e
  cases q with
  | north =>
    cases hs : d.tmlRuns .south
    · simp only [List.filter, h, hs, Device.each, List.foldl]
      rw [hself]
    · simp only [List.filter, h, hs, Device.each, List.foldl]
      rw [show Side.south = Side.north.other from rfl, hother, hself]
  | south =>
    cases hn : d.tmlRuns .north
    · simp only [List.filter, h, hn, Device.each, List.foldl]
      rw [hself]
    · simp only [List.filter, h, hn, Device.each, List.foldl]
      rw [hself, show Side.north = Side.south.other from rfl, hother]

theorem blank_keeps : d.blank.st = d.st ∧ d.blank.dlv = d.dlv :=
  ⟨each_keeps (p := Device.st) (fun _ _ => by rw [count_eq, setFld_st]) _ (d.nextPitchIs d.blankPitch),
    each_keeps (p := Device.dlv) (fun _ _ => by rw [count_eq, setFld_dlv]) _ (d.nextPitchIs d.blankPitch)⟩

end

/-- The branch of a pitch start in Ready (R395). -/
theorem pitchStart_ready {d : Device} (hon : d.tmlOn = true) (hreach : d.pitchReached d.owner = true) (hst : d.st = .ready) :
    (∀ p n, d.duePage = some p → d.freeInst = some n → d.mayTake p = true → (d.enforce p.first.speed).2 = true →
      d.pitchStart = (d.enforce p.first.speed).1.takePage n p) ∧
    (d.duePage = none → d.pitchStart = d.blank) := by
  unfold Device.pitchStart
  simp only [hon, hreach, hst]
  constructor
  · intro p n hdue hfree htake henf
    simp [hdue, hfree, htake, henf]
  · intro hdue
    simp [hdue]

/-- Clear-out in Held (R408). -/
theorem clearout_held (t : Nat) (s : State) (hst : s.dev.st = .held) :
    (s.dev.clearingOut = false → s.dev.clearoutTemplate ≠ none →
      Completes (.clearout t) s fun e => e.resp = .ok ∧ e.tml.clearoutLeft = s.dev.dlv.stranded ∧ ∀ a, e.reg a = s.dev.reg a) ∧
    (Completes (.ackCleared t) s fun e => e.resp = .ok ∧ e.dlv.stranded = 0 ∧ e.tml.clearoutLeft = 0 ∧ ∀ a, e.reg a = s.dev.reg a) := by
  have hheld : ¬ (s.dev.tick t).st ≠ .held := not_not.mpr hst
  constructor
  · intro hrun htemplate
    have hgo : ¬ ((s.dev.tick t).clearingOut = true ∨ (s.dev.tick t).clearoutTemplate = none) := by
      rintro (h | h)
      · exact Bool.false_ne_true (hrun.symm.trans h)
      · exact htemplate h
    refine ⟨_, rfl, rfl, rfl, ?_⟩
    dsimp only
    rw [Device.startClearout, if_neg hheld, if_neg hgo]
    exact ⟨rfl, rfl, fun _ => rfl⟩
  · refine ⟨_, rfl, rfl, rfl, ?_⟩
    dsimp only
    rw [Device.ackClear, if_neg hheld]
    exact ⟨rfl, rfl, rfl, fun _ => rfl⟩

/-- Both commands of a clear-out are refused outside Held (R408). -/
theorem clearout_refused (t : Nat) (s : State) (hst : s.dev.st ≠ .held) :
    (Completes (.clearout t) s fun e => e = (s.dev.tick t).reply .errState) ∧
    (Completes (.ackCleared t) s fun e => e = (s.dev.tick t).reply .errState) := by
  have hst' : (s.dev.tick t).st ≠ .held := hst
  exact ⟨⟨_, rfl, rfl, rfl, if_pos hst'⟩, ⟨_, rfl, rfl, rfl, if_pos hst'⟩⟩

/-- A first detection of a check that asks for at least two is recorded and nothing follows from it (R362). -/
theorem checkEvent_fresh {d : Device} {q : Side} {n : Nat} (hmirror : n ≠ ckMirror) (hfresh : d.checkFresh q n) :
    (∀ a, (d.checkEvent q n false).reg a = d.reg a) ∧ (d.checkEvent q n false).checkTimes q n = [d.now] := by
  obtain ⟨htimes, hneed⟩ := hfresh
  have hnot (w x : Nat) (hx : 2 ≤ x) : windowLasting (max 1 x) w [d.now] = false := by
    have hout : [d.now][max 1 x - 1]? = none := List.getElem?_eq_none (by simp; omega)
    simp only [windowLasting, hout]
  unfold Device.checkEvent
  rw [if_neg (fun h => hmirror h.1)]
  extract_lets ts _ d1 need
  have hts : ts = [d.now] := by
    unfold ts
    rw [htimes]
    rfl
  have hreg (a : Nat) : d1.reg a = d.reg a := by cases q <;> rfl
  have hlast : windowLasting need (d1.fld (QTR_CHK q n) QTR_CHK_WINDOW * tuPerUs) ts = false := by
    rw [hts]
    exact hnot _ _ (fld_congr (hreg _) QTR_CHK_N ▸ hneed)
  have htimes : d1.checkTimes q n = ts := by
    cases q
    · exact (sget_sput (fun _ => []) _ n n ts).trans (if_pos rfl)
    · exact (sget_sput (fun _ => []) _ n n ts).trans (if_pos rfl)
  rw [hlast]
  exact ⟨hreg, htimes.trans hts⟩

/-- A stall that is due shows WD and is recorded (R411). -/
theorem watchdog_shows (t : Nat) (s : State) (q : Side) (k : StallKind) (hon : s.dev.flag (TML_CTRL q) TML_CTRL_ENABLE = true)
    (hfresh : s.dev.checkFresh q ckTimelineWd)
    (hdue : (match k with
      | .cursor => s.dev.openInsts.any (fun x => (s.dev.cursorEntry x.2).any (fun y => (s.dev.tick t).entryDue q x.2 y.2))
      | .pitch => (s.dev.st == .ready || s.dev.st == .printing || s.dev.st == .draining) && s.dev.pitchReached q) = true) :
    Completes (.timelineWatchdog t q k) s fun e =>
      e.flag (TML_STATUS q) TML_STATUS_WD = true ∧ e.checkTimes q ckTimelineWd = [max s.dev.now t] := by
  have hfresh' : ((s.dev.tick t).setFlag (TML_STATUS q) TML_STATUS_WD true).checkFresh q ckTimelineWd := by
    obtain ⟨htimes, hneed⟩ := hfresh
    refine ⟨htimes, ?_⟩
    rw [fld_congr (reg_setFlag_ne _ _ _ (by cases q <;> decide)) QTR_CHK_N]
    exact hneed
  obtain ⟨hreg, htimes⟩ := checkEvent_fresh (by decide) hfresh'
  refine ⟨_, rfl, rfl, rfl, ?_⟩
  dsimp only
  rw [if_pos]
  · refine ⟨?_, htimes⟩
    rw [flag_congr (hreg _)]
    exact flag_setFlag_self _ _ (by decide) (by decide) true
  · cases k
    · exact (Bool.and_eq_true _ _).mpr ⟨hon, hdue⟩
    · exact (Bool.and_eq_true _ _).mpr ⟨hon, hdue⟩

/-- Disabling the Timeline of a Quarter that does not own the outputs (R412). -/
theorem timelineDisable_other (t : Nat) (s : State) (q : Side) (hon : s.dev.flag (TML_CTRL q) TML_CTRL_ENABLE = true) (hq : s.dev.owner ≠ q) :
    Completes (.timelineDisable t q) s fun e => e.flag (TML_CTRL q) TML_CTRL_ENABLE = false ∧ OnlyRegs (s.dev.tick t) e [TML_CTRL q] := by
  refine ⟨_, rfl, rfl, rfl, ?_⟩
  dsimp only
  rw [Device.timelineOff, if_neg, if_pos]
  · refine ⟨flag_setFlag_self _ _ (by decide) (by decide) false, ⟨_, rfl⟩, fun a ha => ?_⟩
    exact reg_setFlag_ne _ _ _ (by simpa using ha)
  · exact hq
  · simp [show (s.dev.tick t).flag (TML_CTRL q) TML_CTRL_ENABLE = true from hon]

/-- Disabling the owner's Timeline with nothing in flight (R412). -/
theorem timelineDisable_owner (t : Nat) (s : State) (q : Side) (hon : s.dev.flag (TML_CTRL q) TML_CTRL_ENABLE = true) (hq : s.dev.owner = q)
    (hflight : s.dev.flight = []) :
    Completes (.timelineDisable t q) s fun e => e.flag (TML_CTRL q) TML_CTRL_ENABLE = false ∧
      e.flag (TML_CTRL q) TML_CTRL_BUSY = !s.dev.tml.pulses.isEmpty ∧ OnlyRegs (s.dev.tick t) e [TML_CTRL q] := by
  have hnone (e : Device) (he : e.flight = []) : e.stationsDefective 256 4 = e := by
    unfold Device.stationsDefective
    rw [he]
    rfl
  refine ⟨_, rfl, rfl, rfl, ?_⟩
  dsimp only
  rw [Device.timelineOff, if_neg, if_neg]
  · rw [hnone ((s.dev.tick t).setFlag (TML_CTRL q) TML_CTRL_ENABLE false) hflight]
    refine ⟨?_, flag_setFlag_self _ _ (by decide) (by decide) _, ⟨_, rfl⟩, fun a ha => ?_⟩
    · rw [flag_setFlag_other _ _ _ (by decide) (by decide)]
      exact flag_setFlag_self _ _ (by decide) (by decide) false
    · have ha : a ≠ TML_CTRL q := by simpa using ha
      rw [reg_setFlag_ne _ _ _ ha, reg_setFlag_ne _ _ _ ha]
  · exact not_not.mpr hq
  · simp [show (s.dev.tick t).flag (TML_CTRL q) TML_CTRL_ENABLE = true from hon]

/-- Settles O40: pitch starts by `pitchStart_ready`, and one lemma for each other clause. -/
theorem timelineRuns : Obligations.TimelineRuns := by
  intro t s
  refine ⟨?_, clearout_held t s, clearout_refused t s, ?_⟩
  · intro hon hreach hst
    obtain ⟨htake, hblank⟩ := pitchStart_ready (d := s.dev.tick t) hon hreach hst
    constructor
    · intro p n hdue hfree hmay henforce
      refine ⟨_, rfl, rfl, rfl, ?_⟩
      obtain ⟨hst', html⟩ := enforce_keeps (s.dev.tick t) p.first.speed
      have h := takePage_printing ((s.dev.tick t).enforce p.first.speed).1 n p (hst'.trans hst)
      rw [html] at h
      dsimp only
      rw [htake p n hdue hfree hmay ((enforce_tick s.dev t _).trans henforce)]
      exact h
    · intro hdue
      refine ⟨_, rfl, rfl, rfl, ?_⟩
      dsimp only
      rw [hblank hdue]
      obtain ⟨hst', hdlv⟩ := blank_keeps (s.dev.tick t)
      exact ⟨hst'.trans hst, hdlv, blank_count (s.dev.tick t)⟩
  · intro q hon
    exact ⟨fun k => watchdog_shows t s q k hon, timelineDisable_other t s q hon, timelineDisable_owner t s q hon⟩

end Sys2Proof.Machine

end

section

set_option Elab.async false

namespace Sys2Proof.Machine

/-! # Accesses that reach nothing (R15, R17, R23, R39, R46 to R49) -/

section

variable (d : Device)

/-- The flags of the non-maskable interrupt are no part of the count of a source. -/
theorem ledgerFlags_events {b : Nat} (hb : b < 256) (c : Nat) : (d.ledgerFlags c).fld (LDG_CNT b) LDG_CNT_EVENTS = d.fld (LDG_CNT b) LDG_CNT_EVENTS := by
  have hnmi (e : Device) (f : Fld) : (e.setFlag LDG_NMI f true).fld (LDG_CNT b) LDG_CNT_EVENTS = e.fld (LDG_CNT b) LDG_CNT_EVENTS :=
    fld_congr (reg_setFlag_ne e f true (by unfold LDG_CNT LDG_NMI; omega)) _
  have hclk (e : Device) : (e.setFlag CLK_STATUS CLK_STATUS_NMI true).fld (LDG_CNT b) LDG_CNT_EVENTS = e.fld (LDG_CNT b) LDG_CNT_EVENTS :=
    fld_congr (reg_setFlag_ne e _ true (by unfold LDG_CNT CLK_STATUS; omega)) _
  fun_cases Device.ledgerFlags d c with
  | case1 => exact (hclk _).trans (hnmi _ _)
  | case2 => exact hnmi _ _
  | case3 => exact hnmi _ _
  | case4 => rfl
  | case5 => exact hnmi _ _
  | case6 => rfl

/-- Where a source is lasting, its count of events stays as `ledgerCount` left it (R595). -/
theorem ledgerLast_events {b : Nat} (hb : b < 256) (o x y : Nat) :
    (d.ledgerLast b o x y).fld (LDG_CNT b) LDG_CNT_EVENTS = d.fld (LDG_CNT b) LDG_CNT_EVENTS := by
  unfold Device.ledgerLast
  extract_lets no d1 kerb d2
  have hpost (e : Device) (w : Nat) (n : Bool) (c z : Nat) :
      (e.post evFault n c w z).fld (LDG_CNT b) LDG_CNT_EVENTS = e.fld (LDG_CNT b) LDG_CNT_EVENTS :=
    fld_congr (reg_post e evFault n c w z (by simp [postRegs, LDG_CNT, HIF_EVT_PROD, HIF_EVT_LOST]; omega)) _
  calc (d2.post evFault (d2.ledgerAction b == 1) b 0 no).fld (LDG_CNT b) LDG_CNT_EVENTS
    _ = d2.fld (LDG_CNT b) LDG_CNT_EVENTS := hpost ..
    _ = d1.fld (LDG_CNT b) LDG_CNT_EVENTS := ledgerFlags_events _ hb b
    _ = (d.setSticky b).fld (LDG_CNT b) LDG_CNT_EVENTS := by
      unfold d1
      rw [count_eq]
      exact fld_setFld_other _ _ _ (by decide) (by decide)
    _ = d.fld (LDG_CNT b) LDG_CNT_EVENTS := fld_congr (reg_setReg_ne _ _ (by unfold LDG_CNT LDG_STICKY; omega)) _

/-- An event of another source leaves the count of source `b`. -/
theorem cnt_notMem_ledgerRegs {b c : Nat} (hb : b < 256) (hc : c < 256) (h : b ≠ c) : LDG_CNT b ∉ ledgerRegs c := by
  unfold ledgerRegs
  split
  · simp [LDG_CNT, LDG_STICKY, HIF_EVT_PROD, HIF_EVT_LOST, LDG_NMI, CLK_STATUS]
    omega
  · simp [LDG_CNT, LDG_STICKY, HIF_EVT_PROD, HIF_EVT_LOST, LDG_NMI]
    omega

theorem cnt_notMem_safeRegs {b : Nat} (hb : b < 256) : LDG_CNT b ∉ safeRegs := by
  simp [safeRegs, LDG_CNT, KRB_STATUS, KRB_CAUSE, KRB_TIME_LO, LDG_NMI, RDB_PANIC]
  omega

/-- An event of a source that is neither the Regulator's fallback nor the ledger's own trigger counts once, whatever follows from it (R595). -/
theorem ledgerEvent_events {b : Nat} (hb : b < 256) (hfall : b ≠ lbRegFallback) (hkerb : b ≠ ktLedger) (o x y : Nat) :
    (d.ledgerEvent b o x y).fld (LDG_CNT b) LDG_CNT_EVENTS = min (d.fld (LDG_CNT b) LDG_CNT_EVENTS + 1) 65535 := by
  have hbase : (d.ledgerBase b o x y).fld (LDG_CNT b) LDG_CNT_EVENTS = min (d.fld (LDG_CNT b) LDG_CNT_EVENTS + 1) 65535 := by
    unfold Device.ledgerBase
    dsimp only
    split
    · exact (ledgerLast_events _ hb o x y).trans (ledgerCount_events d b)
    · exact ledgerCount_events d b
  have htrigger (e : Device) (o' x' : Nat) :
      (e.kerbTrigger ktLedger o' x').fld (LDG_CNT b) LDG_CNT_EVENTS = e.fld (LDG_CNT b) LDG_CNT_EVENTS := by
    refine fld_congr (reg_kerbTrigger e ?_ ?_ ?_ ?_ o' x') _
    · unfold inLoops LDG_CNT
      omega
    · exact cnt_notMem_ledgerRegs hb (by decide) hfall
    · exact cnt_notMem_ledgerRegs hb (by decide) hkerb
    · exact cnt_notMem_safeRegs hb
  unfold Device.ledgerEvent
  dsimp only
  split
  · exact (htrigger _ _ _).trans hbase
  · exact hbase

end

/-- The three sources of R15, R48 and R49. -/
theorem deadSources (b : Nat) (h : b = lbBadWidth ∨ b = lbCrossWrite ∨ b = lbDecodeMiss) : b < 256 ∧ b ≠ lbRegFallback ∧ b ≠ ktLedger := by
  rcases h with rfl | rfl | rfl
  · decide
  · decide
  · decide

/-- A ledger event and an answer: the answer is given and the source's count goes up by one. -/
theorem event_reply (d : Device) {b : Nat} (h : b = lbBadWidth ∨ b = lbCrossWrite ∨ b = lbDecodeMiss) (o x y : Nat) (r : Resp) :
    ((d.ledgerEvent b o x y).reply r).data = 0 ∧ ((d.ledgerEvent b o x y).reply r).resp = r ∧
      ((d.ledgerEvent b o x y).reply r).fld (LDG_CNT b) LDG_CNT_EVENTS = min (d.fld (LDG_CNT b) LDG_CNT_EVENTS + 1) 65535 := by
  obtain ⟨hb, hfall, hkerb⟩ := deadSources b h
  exact ⟨rfl, rfl, ledgerEvent_events d hb hfall hkerb o x y⟩

theorem narrowWrite_completes (t : Nat) (s : State) (m : Master) (addr len : Nat) (h : ¬(len = 4 ∧ addr % 4 = 0)) :
    Completes (.narrowWrite t m addr len) s fun e => e.resp = .ok ∧
      e.fld (LDG_CNT lbBadWidth) LDG_CNT_EVENTS = min (s.dev.fld (LDG_CNT lbBadWidth) LDG_CNT_EVENTS + 1) 65535 := by
  refine ⟨_, rfl, rfl, rfl, ?_⟩
  dsimp only
  rw [Device.narrow, if_neg h]
  exact (event_reply (s.dev.tick t) (.inl rfl) _ _ _ _).2

theorem crossWrite_completes (t : Nat) (s : State) (addr : Nat) (v : Word) (q : Side) (h : crossing (.quarter q) addr = true) :
    Completes (.crossWrite t q addr v) s fun e => e.resp = .errXq ∧
      e.fld (LDG_CNT lbCrossWrite) LDG_CNT_EVENTS = min (s.dev.fld (LDG_CNT lbCrossWrite) LDG_CNT_EVENTS + 1) 65535 := by
  refine ⟨_, rfl, rfl, rfl, ?_⟩
  dsimp only
  rw [Device.writeAny, if_pos h]
  exact (event_reply (s.dev.tick t) (.inr (.inl rfl)) _ _ _ _).2

/-- Below the Quarter bases another master than a Quarter reaches no register (R47). -/
theorem reach_quarterBase (d : Device) {m : Master} {addr : Nat} (h : addr < 0x100000) (hm : ∀ q, m ≠ .quarter q) : d.reach m addr = .noBase := by
  have hbase : quarterBase m addr = true := by
    unfold quarterBase
    split
    · exact absurd rfl (hm _)
    · exact decide_eq_true h
  unfold Device.reach
  exact if_pos hbase

theorem decodeMiss_completes (t : Nat) (s : State) (m : Master) (addr : Nat) (h : s.dev.reach m addr = .nothing) :
    Completes (.decodeMiss t m addr false) s fun e => e.data = 0 ∧ e.resp = (if m = .host then .ok else .errDecode) ∧
      e.fld (LDG_CNT lbDecodeMiss) LDG_CNT_EVENTS = min (s.dev.fld (LDG_CNT lbDecodeMiss) LDG_CNT_EVENTS + 1) 65535 := by
  have hreach : (s.dev.tick t).reach m addr = .nothing := h
  refine ⟨_, rfl, rfl, rfl, ?_⟩
  dsimp only
  rw [if_neg (by simp), Device.deadAccess, hreach]
  exact event_reply (s.dev.tick t) (.inr (.inr rfl)) _ _ _ _

/-- Settles O15: one lemma for each kind of access that counts an event, and `reach` for those that change nothing but the answer. -/
theorem deadAccessesAreAnswered : Obligations.DeadAccessesAreAnswered := by
  intro t s m addr v w
  refine ⟨narrowWrite_completes t s m addr, ?_, crossWrite_completes t s addr v, ?_, ?_, decodeMiss_completes t s m addr⟩
  · intro h
    exact ⟨_, rfl, rfl, rfl, if_pos h⟩
  · intro h hm
    refine ⟨_, rfl, rfl, rfl, ?_⟩
    dsimp only
    rw [Device.deadAccess, reach_quarterBase _ h hm]
  · intro h
    have hreach : (s.dev.tick t).reach m addr = .deviceOnly := h
    refine ⟨_, rfl, rfl, rfl, ?_⟩
    dsimp only
    rw [Device.deadAccess, hreach]

end Sys2Proof.Machine

end

section

set_option Elab.async false

namespace Sys2Proof.Machine

/-! # Register writes and reads of 64-bit values (R12 to R16) -/

/-! Where a Quarter's own registers stand. -/

theorem aliasOf_own (q : Side) {o : Nat} (h : o < 0x100000) : aliasOf (q.base + o) = some (q, o) := by
  unfold aliasOf
  cases q with
  | north =>
    have hbase : Side.base .north = 0x01000000 := rfl
    rw [hbase, if_pos (by omega)]
    simp
  | south =>
    have hbase : Side.base .south = 0x02000000 := rfl
    rw [hbase, if_neg (by omega), if_pos (by omega)]
    simp

/-- A Quarter reaches its own register through its Quarter base, while its domain is on (R44). -/
theorem reach_own (d : Device) (q : Side) {o : Nat} (h : o < 0x100000) (halign : o % 4 = 0) (hfence : d.fenced (q.base + o) = false) :
    d.reach (.quarter q) o = .reg (q.base + o) := by
  have hview : ownView (.quarter q) o = q.base + o := if_pos h
  have hholds : blockHolds (q.base + o) = true := by simp [blockHolds, aliasOf_own q h]
  have hword : (q.base + o) % 4 = 0 := by
    rcases base_eq q with hb | hb
    · omega
    · omega
  unfold Device.reach
  simp [quarterBase, hview, hholds, hfence, hword]

/-- The write of a Quarter's own register crosses to no other Quarter. -/
theorem crossing_own (q : Side) {o : Nat} (h : o < 0x100000) : crossing (.quarter q) o = false := by
  have hlocal : localOf o = none := by
    unfold localOf
    rw [if_neg (by omega), if_neg (by omega)]
  have halias : aliasOf o = none := by
    unfold aliasOf
    rw [if_neg (by omega), if_neg (by omega)]
  simp [crossing, foreignLocal, hlocal, halias]

/-- A write by the access codes alone, where it would change no locked bit (R12, R82). -/
theorem writePlain_unlocked (d : Device) {a : Nat} {r : RegRow} (v : Word) (hrow : regRow a = some r)
    (hfree : d.locked = false ∨ (v ^^^ d.reg a) &&& r.rwl = 0) : d.writePlain a v = d.setReg a (r.written d.locked (d.reg a) v) := by
  unfold Device.writePlain
  rw [hrow]
  refine if_neg ?_
  rintro ⟨hlocked, hbits⟩
  rcases hfree with h | h
  · exact absurd hlocked (by simp [h])
  · exact hbits h

/-- A whole-word write of a register that is no lower word and whose lower word has not been written acts at once (R16). -/
theorem writeReg_now (d : Device) {a : Nat} (wsn : Nat) (v : Word) (hlow : isLow a = false) (hhold : sget (fun _ => none) d.loHold (a - 4) = none) :
    d.writeReg a wsn v = d.writeNow a wsn v := by
  unfold Device.writeReg
  rw [if_neg (by simp [hlow]), hhold]

/-- In a Quarter's own block of registers only QTR_CMD is more than its access codes. -/
theorem writeNow_quarterBlock (d : Device) (q : Side) {o : Nat} (wsn : Nat) (v : Word) (h : o < 0x10000) (hcmd : q.base + o ≠ QTR_CMD q) :
    d.writeNow (q.base + o) wsn v = d.writePlain (q.base + o) v := by
  have hblock : o / 0x10000 = 0 := by omega
  unfold Device.writeNow
  rw [aliasOf_own q (by omega)]
  unfold Device.writeQuarter
  simp only [hblock]
  exact if_neg hcmd

theorem registerWrite_completes (t : Nat) (s : State) (q : Side) (o : Nat) (v : Word) (r : RegRow) (ho : o < 0x10000) (halign : o % 4 = 0)
    (hcmd : q.base + o ≠ QTR_CMD q) (hrow : regRow (q.base + o) = some r) (hlow : isLow (q.base + o) = false)
    (hhold : sget (fun _ => none) s.dev.loHold (q.base + o - 4) = none) (hfence : s.dev.fenced (q.base + o) = false)
    (hfree : s.dev.locked = false ∨ (v ^^^ s.dev.reg (q.base + o)) &&& r.rwl = 0) :
    Completes (.registerWrite t (.quarter q) o v) s fun e => e.resp = .ok ∧
      e.reg (q.base + o) = r.written s.dev.locked (s.dev.reg (q.base + o)) v ∧ ∀ x, x ≠ q.base + o → e.reg x = s.dev.reg x := by
  have hreach : (s.dev.tick t).reach (.quarter q) o = .reg (q.base + o) := reach_own _ q (by omega) halign hfence
  have hwrite : (s.dev.tick t).writeAny (.quarter q) o v =
      ((s.dev.tick t).reply .ok).setReg (q.base + o) (r.written s.dev.locked (s.dev.reg (q.base + o)) v) := by
    have hcross : ¬ crossing (.quarter q) o = true := by simp [crossing_own q (show o < 0x100000 by omega)]
    unfold Device.writeAny Device.writePlace
    dsimp only
    rw [if_neg hcross, hreach]
    dsimp only
    rw [writeReg_now ((s.dev.tick t).reply .ok) _ _ hlow hhold, writeNow_quarterBlock _ _ _ _ ho hcmd]
    exact writePlain_unlocked ((s.dev.tick t).reply .ok) v hrow hfree
  refine ⟨_, rfl, rfl, rfl, ?_⟩
  dsimp only
  rw [hwrite]
  exact ⟨rfl, reg_setReg_self _ _ _, fun x hx => reg_setReg_ne _ _ hx⟩

/-! Reads. -/

/-- The read of a lower word answers it and latches the upper word (R16). -/
theorem readReg_low (d : Device) (f : Fuses) {a : Nat} (h : isLow a = true) :
    d.readReg f a = (d.withHiLatch (sput (fun _ => none) d.hiLatch a (some (d.viewWord f (a + 4))))).answer .ok (d.viewWord f a) :=
  if_pos h

/-- The read of an upper word that is latched answers what was latched and releases it (R16). -/
theorem readReg_latched (d : Device) (f : Fuses) {a : Nat} {w : Word} (h : isLow a = false) (hlatch : sget (fun _ => none) d.hiLatch (a - 4) = some w) :
    d.readReg f a = (d.withHiLatch (sput (fun _ => none) d.hiLatch (a - 4) none)).answer .ok w := by
  unfold Device.readReg
  rw [if_neg (by simp [h]), hlatch]

/-- A latch holds what was put there. -/
theorem latch_sput (m : List (Nat × Option Word)) (a : Nat) (v : Option Word) : sget (fun _ => none) (sput (fun _ => none) m a v) a = v :=
  (sget_sput (fun _ => none) m a a v).trans (if_pos rfl)

theorem readAny_reg (d : Device) (f : Fuses) {m : Master} {addr a : Nat} (h : d.reach m addr = .reg a) : d.readAny f m addr = d.readReg f a := by
  unfold Device.readAny
  rw [h]

/-- A whole aligned word is read as the register answers (R14). -/
theorem readSpan_word (d : Device) (f : Fuses) {m : Master} {addr a : Nat} (hreach : d.reach m addr = .reg a) (halign : addr % 4 = 0) :
    d.readSpan f m addr 4 = (d.readReg f a).withRdata (leBytes 4 (d.readReg f a).data.toNat) := by
  unfold Device.readSpan
  rw [if_pos ⟨rfl, halign⟩, readAny_reg d f hreach]

/-- Some bytes of one word are read as that word is (R14, R15). -/
theorem readSpan_within (d : Device) (f : Fuses) {m : Master} {addr len a : Nat} (hreach : d.reach m (addr - addr % 4) = .reg a)
    (hlen : 1 ≤ len) (hword : addr % 4 + len ≤ 4) (hok : (d.readReg f a).resp = .ok) :
    let e := d.readSpan f m addr len
    e.resp = .ok ∧ e.rdata = ((leBytes 4 (d.readReg f a).data.toNat).drop (addr % 4)).take len ∧ e.hiLatch = (d.readReg f a).hiLatch ∧
      ∀ x, e.reg x = (d.readReg f a).reg x := by
  intro e
  by_cases hwhole : len = 4 ∧ addr % 4 = 0
  · obtain ⟨rfl, halign⟩ := hwhole
    rw [halign, Nat.sub_zero] at hreach
    have he : e = (d.readReg f a).withRdata (leBytes 4 (d.readReg f a).data.toNat) := readSpan_word d f hreach halign
    rw [he, halign]
    exact ⟨hok, rfl, rfl, fun _ => rfl⟩
  · have hone : (addr % 4 + len + 3) / 4 = 1 := by omega
    have hwords : d.readWords f m (addr - addr % 4) 1 = (leBytes 4 (d.readReg f a).data.toNat, .ok, d.readReg f a) := by
      unfold Device.readWords Device.readWords
      rw [readAny_reg d f hreach]
      simp [hok]
    have he : e = ((d.readReg f a).answer .ok (wordOf (((leBytes 4 (d.readReg f a).data.toNat).drop (addr % 4)).take len))).withRdata
        (((leBytes 4 (d.readReg f a).data.toNat).drop (addr % 4)).take len) := by
      unfold e Device.readSpan
      rw [if_neg hwhole, hone, hwords]
    rw [he]
    exact ⟨rfl, rfl, rfl, fun _ => rfl⟩

theorem lowWordRead_low (t : Nat) (s : State) (m : Master) (addr a : Nat) (hreach : s.dev.reach m addr = .reg a) (hlow : isLow a = true)
    (halign : addr % 4 = 0) :
    Completes (.lowWordRead t m addr 4) s fun e => e.resp = .ok ∧ e.data = (s.dev.tick t).viewWord s.fuses a ∧
      sget (fun _ => none) e.hiLatch a = some ((s.dev.tick t).viewWord s.fuses (a + 4)) ∧ ∀ x, e.reg x = s.dev.reg x := by
  have hreach : (s.dev.tick t).reach m addr = .reg a := hreach
  refine ⟨_, rfl, rfl, rfl, ?_⟩
  dsimp only
  rw [readSpan_word _ _ hreach halign, readReg_low _ _ hlow]
  exact ⟨rfl, rfl, latch_sput (s.dev.tick t).hiLatch a (some ((s.dev.tick t).viewWord s.fuses (a + 4))), fun _ => rfl⟩

theorem lowWordRead_latched (t : Nat) (s : State) (m : Master) (addr a : Nat) (w : Word) (hreach : s.dev.reach m addr = .reg a)
    (hlow : isLow a = false) (hlatch : sget (fun _ => none) s.dev.hiLatch (a - 4) = some w) (halign : addr % 4 = 0) :
    Completes (.lowWordRead t m addr 4) s fun e => e.resp = .ok ∧ e.data = w ∧ sget (fun _ => none) e.hiLatch (a - 4) = none ∧
      ∀ x, e.reg x = s.dev.reg x := by
  have hreach : (s.dev.tick t).reach m addr = .reg a := hreach
  have hlatch : sget (fun _ => none) (s.dev.tick t).hiLatch (a - 4) = some w := hlatch
  refine ⟨_, rfl, rfl, rfl, ?_⟩
  dsimp only
  rw [readSpan_word _ _ hreach halign, readReg_latched _ _ hlow hlatch]
  exact ⟨rfl, rfl, latch_sput (s.dev.tick t).hiLatch (a - 4) none, fun _ => rfl⟩

theorem lowWordRead_within (t : Nat) (s : State) (m : Master) (addr len a : Nat) (hreach : s.dev.reach m (addr - addr % 4) = .reg a)
    (hlow : isLow a = true) (hlen : 1 ≤ len) (hword : addr % 4 + len ≤ 4) :
    Completes (.lowWordRead t m addr len) s fun e => e.resp = .ok ∧
      e.rdata = ((leBytes 4 ((s.dev.tick t).viewWord s.fuses a).toNat).drop (addr % 4)).take len ∧
      sget (fun _ => none) e.hiLatch a = some ((s.dev.tick t).viewWord s.fuses (a + 4)) ∧ ∀ x, e.reg x = s.dev.reg x := by
  have hreach : (s.dev.tick t).reach m (addr - addr % 4) = .reg a := hreach
  have hread := readReg_low (s.dev.tick t) s.fuses hlow
  obtain ⟨hresp, hdata, hlatch, hregs⟩ := readSpan_within (s.dev.tick t) s.fuses hreach hlen hword (by rw [hread]; rfl)
  refine ⟨_, rfl, rfl, rfl, hresp, ?_, ?_, fun x => ?_⟩
  · rw [hdata, hread]; rfl
  · rw [hlatch, hread]; exact latch_sput (s.dev.tick t).hiLatch a (some ((s.dev.tick t).viewWord s.fuses (a + 4)))
  · rw [hregs, hread]; rfl

/-- Settles O16: the write by `registerWrite_completes`, the reads by what `readReg` does. -/
theorem registerWritesAndWideReads : Obligations.RegisterWritesAndWideReads := by
  intro t s
  refine ⟨registerWrite_completes t s, fun m addr a hreach => ⟨lowWordRead_low t s m addr a hreach, ?_⟩, lowWordRead_within t s⟩
  intro w hlow hlatch halign
  exact lowWordRead_latched t s m addr a w hreach hlow hlatch halign

end Sys2Proof.Machine

end

section

set_option Elab.async false

namespace Sys2Proof.Machine

/-! # 64-bit values (R16)

The upper word of a 64-bit value is no lower word itself, so a read of it gives what is latched and a write of it releases the lower
word. -/

theorem sharedLow_upper : ∀ a ∈ sharedLows, isLow (a + 4) = false := by decide

theorem quarterLow_upper (q : Side) :
    isLow (QTR_YIELD_TIME_LO q + 4) = false ∧ isLow (TML_POS_LO q + 4) = false ∧
      ∀ c : Fin 16, isLow (ALYQ_SRC_LO q c + 4) = false ∧ isLow (ALYQ_DST_LO q c + 4) = false := by
  cases q
  · decide
  · decide

theorem isLow_upper {a : Nat} (h : isLow a = true) : isLow (a + 4) = false := by
  unfold isLow at h
  split at h
  · rename_i q o halias
    obtain ⟨hyield, hpos, hchannels⟩ := quarterLow_upper q
    simp only [Bool.or_eq_true, beq_iff_eq, List.any_eq_true, List.mem_range] at h
    rcases h with (rfl | rfl) | ⟨c, hc, rfl | rfl⟩
    · exact hyield
    · exact hpos
    · exact (hchannels ⟨c, hc⟩).1
    · exact (hchannels ⟨c, hc⟩).2
  · exact sharedLow_upper a (by simpa using h)

/-! Reads. -/

/-- A read by a master that leads to a register of which the lower word was latched. -/
theorem lowWordRead_upper (t : Nat) (v : State) (m : Master) (up a : Nat) (w : Word) (hlow : isLow a = true)
    (hlatch : sget (fun _ => none) v.dev.hiLatch a = some w) (halign : up % 4 = 0) (hreach : v.dev.reach m up = .reg (a + 4)) :
    Completes (.lowWordRead t m up 4) v fun e => e.data = w := by
  have hlatch : sget (fun _ => none) v.dev.hiLatch (a + 4 - 4) = some w := hlatch
  obtain ⟨u, hu, hf, hp, -, hdata, -⟩ := lowWordRead_latched t v m up (a + 4) w hreach (isLow_upper hlow) hlatch halign
  exact ⟨u, hu, hf, hp, hdata⟩

/-- A read of both words answers them as one sample. -/
theorem lowWordRead_both (t : Nat) (s : State) (m : Master) (addr a : Nat) (hreach : s.dev.reach m addr = .reg a) (hlow : isLow a = true)
    (halign : addr % 4 = 0) (hupper : s.dev.reach m (addr + 4) = .reg (a + 4)) :
    Completes (.lowWordRead t m addr 8) s fun e => e.resp = .ok ∧
      e.rdata = leBytes 4 ((s.dev.tick t).viewWord s.fuses a).toNat ++ leBytes 4 ((s.dev.tick t).viewWord s.fuses (a + 4)).toNat := by
  generalize hd : s.dev.tick t = d
  generalize hlo : d.viewWord s.fuses a = lo
  generalize hhi : d.viewWord s.fuses (a + 4) = hi
  have hreach : d.reach m addr = .reg a := hd ▸ hreach
  have hupper : d.reach m (addr + 4) = .reg (a + 4) := hd ▸ hupper
  have hfirst : d.readAny s.fuses m addr = (d.withHiLatch (sput (fun _ => none) d.hiLatch a (some hi))).answer .ok lo := by
    rw [readAny_reg _ _ hreach, readReg_low _ _ hlow, hlo, hhi]
  generalize he : (d.withHiLatch (sput (fun _ => none) d.hiLatch a (some hi))).answer .ok lo = e at hfirst
  have hereach : e.reach m (addr + 4) = .reg (a + 4) := by
    rw [← he]
    exact hupper
  have hlatch : sget (fun _ => none) e.hiLatch (a + 4 - 4) = some hi := by
    rw [← he]
    exact latch_sput d.hiLatch a (some hi)
  have hsecond := readReg_latched e s.fuses (isLow_upper hlow) hlatch
  have hfirstOk : e.resp = .ok ∧ e.data = lo := by
    rw [← he]
    exact ⟨rfl, rfl⟩
  obtain ⟨hbytes, hok⟩ : (d.readWords s.fuses m addr 2).1 = leBytes 4 lo.toNat ++ leBytes 4 hi.toNat ∧ (d.readWords s.fuses m addr 2).2.1 = .ok := by
    unfold Device.readWords Device.readWords Device.readWords
    dsimp only
    rw [hfirst, readAny_reg _ _ hereach, hsecond, hfirstOk.1, hfirstOk.2]
    exact ⟨rfl, rfl⟩
  refine ⟨_, rfl, rfl, rfl, ?_⟩
  dsimp only
  rw [hd, Device.readSpan, if_neg (by omega), halign]
  exact ⟨hok, by rw [← hbytes]; exact List.take_of_length_le (by rw [show (addr - 0) = addr from rfl, hbytes]; rfl)⟩

/-! Writes. -/

/-- A master that reaches a register does so in a block (R42 to R44). -/
theorem reach_reg_holds {d : Device} {m : Master} {addr a : Nat} (h : d.reach m addr = .reg a) : blockHolds (ownView m addr) = true := by
  unfold Device.reach at h
  dsimp only at h
  split at h
  · cases h
  · split at h
    · assumption
    · repeat' split at h
      all_goals cases h

/-- Past the aliases the blocks are those of the shared core (R42). -/
theorem blockHolds_shared {x : Nat} (h : blockHolds x = true) (halias : aliasOf x = none) : 0x10000000 ≤ x ∧ x < 0x100E0000 := by
  simpa [blockHolds, halias] using h

/-- A write that leads to a register through no alias of a Quarter acts on it (R17, R48). -/
theorem writeAny_reg (d : Device) {m : Master} {addr a : Nat} (v : Word) (hreach : d.reach m addr = .reg a) (halias : aliasOf addr = none) :
    d.writeAny m addr v = (d.reply .ok).writeReg a 0 v := by
  have hplace : d.writePlace m addr v = (d.reply .ok).writeReg a 0 v := by
    unfold Device.writePlace
    rw [hreach]
  cases m with
  | host =>
    have hshared := blockHolds_shared (x := addr) (reach_reg_holds hreach) halias
    have hview : quarterView addr = false := by
      simp only [quarterView, Bool.and_eq_false_iff, decide_eq_false_iff_not]
      omega
    unfold Device.writeAny
    exact (if_neg (by simp [hview])).trans hplace
  | quarter q =>
    have hlocal : localOf addr = none := by
      by_cases hown : addr < 0x100000
      · unfold localOf
        rw [if_neg (by omega), if_neg (by omega)]
      · have hview : ownView (.quarter q) addr = addr := if_neg hown
        have hshared := blockHolds_shared (hview ▸ reach_reg_holds hreach) halias
        unfold localOf
        rw [if_neg (by omega), if_neg (by omega)]
    have hcross : crossing (.quarter q) addr = false := by
      simp [crossing, foreignLocal, hlocal, halias]
    unfold Device.writeAny
    exact (if_neg (by simp [hcross])).trans hplace
  | _ => exact hplace

/-- A register that a write fills whole: every bit is RW. -/
def wholeRw (a : Nat) : Bool :=
  match regRow a with
  | some r => r.rw == 0xFFFFFFFF && r.rwl == 0 && r.w1c == 0
  | none => false

theorem writePlain_wholeRw (d : Device) {a : Nat} (v : Word) (h : wholeRw a = true) : d.writePlain a v = d.setReg a v := by
  unfold wholeRw at h
  split at h
  · rename_i r hrow
    simp only [Bool.and_eq_true, beq_iff_eq] at h
    obtain ⟨⟨hrw, hrwl⟩, hw1c⟩ := h
    have hrwl : r.rwl = 0#32 := hrwl
    have hw1c : r.w1c = 0#32 := hw1c
    have hwritten (locked : Bool) (old : Word) : r.written locked old v = v := by
      have hall : (if locked then r.rw else r.rw ||| r.rwl) = BitVec.allOnes 32 := by
        rw [hrw, hrwl]
        cases locked <;> rfl
      unfold RegRow.written
      rw [hall, hw1c]
      simp only [BitVec.not_allOnes, BitVec.and_zero, BitVec.and_allOnes, BitVec.zero_or, BitVec.not_zero]
    rw [writePlain_unlocked d v hrow (.inr (by rw [hrwl]; exact BitVec.and_zero)), hwritten]
  · cases h

/-- A write of the register at `a` takes the whole word, and the register is one word of a 64-bit value with its lower word at `a` or
below. -/
def TakesWord (a : Nat) : Prop := ∀ (d : Device) (wsn : Nat) (v : Word), d.writeNow a wsn v = d.setReg a v

theorem takesWord_shared {a : Nat} (halias : aliasOf a = none) (hwhole : wholeRw a = true)
    (hplain : ∀ (d : Device) v, d.writeShared a v = d.writePlain a v) : TakesWord a := by
  intro d wsn v
  unfold Device.writeNow
  rw [halias]
  exact (hplain d v).trans (writePlain_wholeRw d v hwhole)

theorem updSrc_takes : TakesWord CFG_UPD_SRC_LO ∧ TakesWord (CFG_UPD_SRC_LO + 4) :=
  ⟨takesWord_shared (by decide) (by decide) fun _ _ => rfl, takesWord_shared (by decide) (by decide) fun _ _ => rfl⟩

/-- Among the registers of the rings only the configuration and the command do more than their access codes. -/
theorem ring_takes {o : Nat} (ho : o < 0x108) (hcfg : o % 0x40 ≠ 0x08) (hcmd : o % 0x40 ≠ 0x20) (hwhole : wholeRw (0x10070100 + o) = true) :
    TakesWord (0x10070100 + o) := by
  have halias : aliasOf (0x10070100 + o) = none := by
    unfold aliasOf
    rw [if_neg (by omega), if_neg (by omega)]
  have hblock : (0x10070100 + o) / 0x10000 - 0x1000 = 7 := by omega
  refine takesWord_shared halias hwhole fun d v => ?_
  unfold Device.writeShared
  simp only [hblock]
  unfold Device.writeRings
  dsimp only
  rw [if_neg (by omega), if_neg (by omega), if_neg (by unfold HIF_EVT_CFG; omega)]

/-- The addresses of a channel of the shared engine are no more than their access codes, but for those of its run. -/
theorem sharedChannel_takes {c o : Nat} (hc : 11 ≤ c ∧ c < 16) (ho : o < 0x10) (hwhole : wholeRw (0x100B0000 + 0x40 * c + o) = true) :
    TakesWord (0x100B0000 + 0x40 * c + o) := by
  have halias : aliasOf (0x100B0000 + 0x40 * c + o) = none := by
    unfold aliasOf
    rw [if_neg (by omega), if_neg (by omega)]
  have hblock : (0x100B0000 + 0x40 * c + o) / 0x10000 - 0x1000 = 0xB := by omega
  have hchan : (0x100B0000 + 0x40 * c + o - 0x100B0000) / 0x40 = c := by omega
  have hoff : (0x100B0000 + 0x40 * c + o) % 0x40 = o := by omega
  have hown : ¬ deviceChannel .shared c = true := by simp [deviceChannel]; omega
  refine takesWord_shared halias hwhole fun d v => ?_
  unfold Device.writeShared
  simp only [hblock]
  rw [if_pos (by omega), hchan, hoff]
  unfold Device.writeChannel
  dsimp only
  rw [if_neg hown, if_neg (by unfold alyCtrl; omega), if_neg (by unfold alyCount; omega)]
  rfl

theorem quarterChannel_takes {q : Side} {c o : Nat} (hc : c < 16) (ho : o < 0x10) (hwhole : wholeRw (q.base + (0xF0000 + 0x40 * c + o)) = true) :
    TakesWord (q.base + (0xF0000 + 0x40 * c + o)) := by
  intro d wsn v
  have hblock : (0xF0000 + 0x40 * c + o) / 0x10000 = 0xF := by omega
  have hchan : (0xF0000 + 0x40 * c + o - 0xF0000) / 0x40 = c := by omega
  have hoff : (0xF0000 + 0x40 * c + o) % 0x40 = o := by omega
  have haddr : aly (.quarter q) c + o = q.base + (0xF0000 + 0x40 * c + o) := by
    change q.base + 0xF0000 + 0x40 * c + o = _
    omega
  have hwrite : d.writeQuarter q (0xF0000 + 0x40 * c + o) wsn v = d.writePlain (q.base + (0xF0000 + 0x40 * c + o)) v := by
    unfold Device.writeQuarter
    simp only [hblock]
    rw [if_pos (by omega), hchan, hoff]
    unfold Device.writeChannel
    dsimp only
    rw [if_neg (by simp [deviceChannel]), if_neg (by unfold alyCtrl; omega), if_neg (by unfold alyCount; omega), haddr]
  unfold Device.writeNow
  rw [aliasOf_own q (by omega)]
  exact hwrite.trans (writePlain_wholeRw d v hwhole)

/-- Both words of a value take a write whole. -/
def TakesBoth (a : Nat) : Prop := TakesWord a ∧ TakesWord (a + 4)

theorem ringLow_takes (r : Fin 3) : TakesBoth (HIF_RING_BASE_LO r) ∧ TakesBoth (HIF_RING_WB_LO r) := by
  have hwhole : ∀ r : Fin 3, (wholeRw (0x10070100 + 0x40 * r) = true ∧ wholeRw (0x10070100 + (0x40 * r + 4)) = true) ∧
      wholeRw (0x10070100 + (0x40 * r + 0x14)) = true ∧ wholeRw (0x10070100 + (0x40 * r + 0x18)) = true := by decide
  obtain ⟨⟨h0, h4⟩, h14, h18⟩ := hwhole r
  have hwb : HIF_RING_WB_LO r = 0x10070100 + (0x40 * r + 0x14) := by
    unfold HIF_RING_WB_LO
    omega
  have hwb4 : HIF_RING_WB_LO r + 4 = 0x10070100 + (0x40 * r + 0x18) := by
    unfold HIF_RING_WB_LO
    omega
  refine ⟨⟨ring_takes (by omega) (by omega) (by omega) h0, ring_takes (by omega) (by omega) (by omega) h4⟩, ?_, ?_⟩
  · rw [hwb]
    exact ring_takes (by omega) (by omega) (by omega) h14
  · rw [hwb4]
    exact ring_takes (by omega) (by omega) (by omega) h18

theorem evtLow_takes : TakesBoth HIF_EVT_BASE_LO :=
  ⟨ring_takes (o := 0x100) (by decide) (by decide) (by decide) (by decide), ring_takes (o := 0x104) (by decide) (by decide) (by decide) (by decide)⟩

theorem sharedChannelLow_takes (c : Fin 16) (hc : 11 ≤ c.val) : TakesBoth (ALYS_SRC_LO c) ∧ TakesBoth (ALYS_DST_LO c) := by
  have hwhole : ∀ c : Fin 16, 11 ≤ c.val → ∀ k : Fin 4, wholeRw (0x100B0000 + 0x40 * c + 4 * k) = true := by decide
  have htakes (k : Fin 4) : TakesWord (0x100B0000 + 0x40 * c + 4 * k) := sharedChannel_takes ⟨hc, c.isLt⟩ (by omega) (hwhole c hc k)
  have hdst : ALYS_DST_LO c = 0x100B0000 + 0x40 * c + 4 * 2 := by
    unfold ALYS_DST_LO
    omega
  refine ⟨⟨htakes 0, htakes 1⟩, ?_, ?_⟩
  · rw [hdst]
    exact htakes 2
  · rw [hdst]
    exact htakes 3

theorem quarterChannelLow_takes (q : Side) (c : Fin 16) : TakesBoth (ALYQ_SRC_LO q c) ∧ TakesBoth (ALYQ_DST_LO q c) := by
  have hwhole : ∀ c : Fin 16, ∀ k : Fin 4, wholeRw (q.base + (0xF0000 + 0x40 * c + 4 * k)) = true := by
    cases q
    · decide
    · decide
  have htakes (k : Fin 4) : TakesWord (q.base + (0xF0000 + 0x40 * c + 4 * k)) := quarterChannel_takes c.isLt (by omega) (hwhole c k)
  have hword (x : Nat) (k : Fin 4) (hx : x = q.base + (0xF0000 + 0x40 * c + 4 * k)) : TakesWord x := hx ▸ htakes k
  refine ⟨⟨hword _ 0 ?_, hword _ 1 ?_⟩, hword _ 2 ?_, hword _ 3 ?_⟩
  · unfold ALYQ_SRC_LO; simp; omega
  · unfold ALYQ_SRC_LO; simp; omega
  · unfold ALYQ_DST_LO; simp; omega
  · unfold ALYQ_DST_LO; simp; omega

/-- The lower words that a host or a Quarter may write at any time. -/
def writableLow (a : Nat) : Prop :=
  a = CFG_UPD_SRC_LO ∨ a = HIF_EVT_BASE_LO ∨ (∃ r : Fin 3, a = HIF_RING_BASE_LO r ∨ a = HIF_RING_WB_LO r) ∨
    (∃ c : Fin 16, 11 ≤ c.val ∧ (a = ALYS_SRC_LO c ∨ a = ALYS_DST_LO c)) ∨ (∃ (q : Side) (c : Fin 16), a = ALYQ_SRC_LO q c ∨ a = ALYQ_DST_LO q c)

theorem writableLow_takes {a : Nat} (h : writableLow a) : TakesBoth a := by
  rcases h with rfl | rfl | ⟨r, rfl | rfl⟩ | ⟨c, hc, rfl | rfl⟩ | ⟨q, c, rfl | rfl⟩
  · exact updSrc_takes
  · exact evtLow_takes
  · exact (ringLow_takes r).1
  · exact (ringLow_takes r).2
  · exact (sharedChannelLow_takes c hc).1
  · exact (sharedChannelLow_takes c hc).2
  · exact (quarterChannelLow_takes q c).1
  · exact (quarterChannelLow_takes q c).2

theorem writableLow_isLow {a : Nat} (h : writableLow a) : isLow a = true := by
  rcases h with rfl | rfl | ⟨r, rfl | rfl⟩ | ⟨c, hc, rfl | rfl⟩ | ⟨q, c, rfl | rfl⟩
  · decide
  · decide
  · revert r; decide
  · revert r; decide
  · revert c; decide
  · revert c; decide
  · cases q <;> revert c <;> decide
  · cases q <;> revert c <;> decide

/-- The write of an upper word whose lower word waits writes both (R16). -/
theorem writeReg_upper (d : Device) {a : Nat} {lo : Word} (wsn : Nat) (hi : Word) (h : writableLow a)
    (hhold : sget (fun _ => none) d.loHold a = some lo) :
    d.writeReg (a + 4) wsn hi = ((d.withLoHold (sput (fun _ => none) d.loHold a none)).setReg a lo).setReg (a + 4) hi := by
  obtain ⟨hlow, hup⟩ := writableLow_takes h
  have hhold : sget (fun _ => none) d.loHold (a + 4 - 4) = some lo := hhold
  unfold Device.writeReg
  rw [if_neg (by simp [isLow_upper (writableLow_isLow h)]), hhold]
  dsimp only
  rw [Nat.add_sub_cancel, hlow, hup]

theorem registerWrite_upper (t : Nat) (s : State) (m : Master) (addr a : Nat) (lo hi : Word) (h : writableLow a)
    (hreach : s.dev.reach m addr = .reg (a + 4)) (halias : aliasOf addr = none) (hhold : sget (fun _ => none) s.dev.loHold a = some lo) :
    Completes (.registerWrite t m addr hi) s fun e => e.nat64 a = lo.toNat + 2 ^ 32 * hi.toNat ∧
      sget (fun _ => none) e.loHold a = none ∧ ∀ x, x ≠ a → x ≠ a + 4 → e.reg x = s.dev.reg x := by
  have hreach : (s.dev.tick t).reach m addr = .reg (a + 4) := hreach
  refine ⟨_, rfl, rfl, rfl, ?_⟩
  dsimp only
  rw [writeAny_reg _ hi hreach halias, writeReg_upper ((s.dev.tick t).reply .ok) 0 hi h hhold]
  generalize hd : ((s.dev.tick t).reply .ok).withLoHold _ = d
  refine ⟨?_, ?_, fun x hx hx4 => ?_⟩
  · unfold Device.nat64 Device.nat
    rw [reg_setReg_self, reg_setReg_ne _ _ (by omega), reg_setReg_self]
  · rw [setReg_loHold, setReg_loHold, ← hd]
    exact latch_sput s.dev.loHold a none
  · rw [reg_setReg_ne _ _ hx4, reg_setReg_ne _ _ hx, ← hd]
    rfl

/-- The write of a lower word only waits (R16). -/
theorem registerWrite_lower (t : Nat) (s : State) (m : Master) (addr a : Nat) (w : Word) (hreach : s.dev.reach m addr = .reg a)
    (hlow : isLow a = true) (halias : aliasOf addr = none) :
    Completes (.registerWrite t m addr w) s fun e => (∀ x, e.reg x = s.dev.reg x) ∧ sget (fun _ => none) e.loHold a = some w := by
  have hreach : (s.dev.tick t).reach m addr = .reg a := hreach
  refine ⟨_, rfl, rfl, rfl, ?_⟩
  dsimp only
  rw [writeAny_reg _ w hreach halias, Device.writeReg, if_pos hlow]
  exact ⟨fun _ => rfl, latch_sput s.dev.loHold a (some w)⟩

/-- Settles O60: the reads by what is latched, the writes by what waits. -/
theorem wideValuesMoveWhole : Obligations.WideValuesMoveWhole := by
  intro t s m addr a
  constructor
  · intro hreach hlow halign
    refine ⟨?_, lowWordRead_both t s m addr a hreach hlow halign, fun w => registerWrite_lower t s m addr a w hreach hlow⟩
    obtain ⟨u, hu, hf, hp, -, hdata, hlatch, -⟩ := lowWordRead_low t s m addr a hreach hlow halign
    refine ⟨u, hu, hf, hp, hdata, fun t' v up hsame hup hreachUp => ?_⟩
    exact lowWordRead_upper t' v m up a _ hlow (hsame ▸ hlatch) hup hreachUp
  · intro lo hi h
    exact registerWrite_upper t s m addr a lo hi h

end Sys2Proof.Machine

end

section

set_option Elab.async false
set_option maxRecDepth 20000

namespace Sys2Proof.Machine

/-! # The Regulator's and the axes' commands (R441): a queued coefficient write that names no primitive

The queue of a slot holds the primitive of a write as a plain number, and a sample applies the write at the address that number gives. A write
of a coefficient queues a primitive below 6 only, but the obligation speaks of every state: in one whose queue holds a greater number a base
tick writes a register far outside the Regulator. -/

/-! A base tick in its parts. -/

/-- VIN is sensed, the analog inputs are scanned and the encoders are read. -/
def Device.sensed (d : Device) (q : Side) (codes : List Nat) (ssi vin : Nat) : Device :=
  let d := d.senseVin vin
  let d := if d.owner = q then
      d.each ((List.range 96).zip codes) (fun x d => d.modRgl (fun v => { v with adc := sput (fun _ => 0) v.adc x.1 (x.2 % 4096) }))
    else d
  (d.ssiRead q ssi).takeVelocities q

/-- The slots `l` take the change of their setpoints and count their opens and shorts. -/
def Device.fed (d : Device) (q : Side) (l : List Nat) : Device :=
  d.each l fun n d =>
    let sp := d.int (REG_SLOT_SP q n)
    (d.setSlot q n { d.slotS q n with accel := sp - (d.slotS q n).lastSp, lastSp := sp }).countOpenShort q n

/-- The slots `l` take their samples and the tick is counted. -/
def Device.sampled (d : Device) (q : Side) (l : List Nat) (tick : Nat) : Device :=
  ((d.each l fun n d => d.sampleSlot q tick n).maxFld (REG_STATUS q) REG_STATUS_TICK_MAX (Config.tickTime q.code tick).toNat).modRgl
    (fun v => { v with ticks := sput (fun _ => 0) v.ticks q.code (tick + 1) })

/-- The tick with what it has sensed, where its slots take their samples in ascending order. -/
def Device.ticked (d : Device) (q : Side) (tick : Nat) : Device :=
  let e := d.setFld (REG_STATUS q) REG_STATUS_TICK (tick % 256)
  (e.fed q e.loadedSlots).sampled q e.loadedSlots tick

theorem exec_regulatorTick (t : Nat) (q : Side) (codes : List Nat) (ssi vin : Nat) (s : State) :
    exec (.regulatorTick t q codes ssi vin) s = s.run t fun d =>
      let e := d.sensed q codes ssi vin
      e.ticked q (sget (fun _ => 0) e.rgl.ticks q.code) := by rfl

theorem loadedSlots_congr {d e : Device} (h : d.tables = e.tables) : d.loadedSlots = e.loadedSlots := by
  simp only [Device.loadedSlots, Device.slotEntry, Device.entry, h]

/-- Where slot 0 alone is loaded, is due and runs, a register that holds neither its delay nor the tick's time is as its sample leaves it. -/
theorem reg_sampled (d : Device) {q : Side} {a tick : Nat} (hd : dueAt (d.slotEntry 0) tick = true) (hw : (d.slotS q 0).wind = 0)
    (hr : d.slotRuns q 0 = true) (hs : a ≠ REG_SLOT_STATUS q 0) (ht : a ≠ REG_STATUS q) :
    (d.sampled q [0] tick).reg a = (d.runSlot q 0).reg a := by
  have hshare (e : Device) : (e.shareInt q 0).reg a = e.reg a := rfl
  have hsample : (d.sampleSlot q tick 0).reg a = (d.runSlot q 0).reg a := by
    unfold Device.sampleSlot
    rw [if_neg (by simp [hd]), if_neg (by simp [hw]), if_pos hr]
    exact (reg_setFld_ne _ _ _ hs).trans (hshare _)
  have hcount (e : Device) (f : RegulatorS → RegulatorS) : (e.modRgl f).reg a = e.reg a := rfl
  unfold Device.sampled
  rw [hcount, maxFld_eq, reg_setFld_ne _ _ _ ht]
  exact hsample

/-! The counterexample. -/

/-- The primitive and the coefficient whose register, by its address alone, would be PWR_RAIL_EN, and a word for it. -/
def strayWrite : Nat × Nat × Word := ((PWR_RAIL_EN - REG_COEF_C0 .north 0 0) / 0x10, PWR_RAIL_EN % 0x10 / 4, 5)

/-- North's Regulator and its slot 0 are enabled, slot 0 is in the SAFE fallback, and one write waits in its queue. -/
def strayDevice : Device where
  regs := [(REG_CTRL .north, 0x80000000), (REG_SLOT_CTRL .north 0, 0x80000000), (REG_SLOT_STATUS .north 0, 0x80000000)]
  tables := [(tableKey 0x03 0 0, [0])]
  rgl := { slots := [(0, { queue := [strayWrite], safe := true })] }

def strayState : State := { dev := strayDevice, fuses := .reset, pending := [] }

/-- The device of `strayState` at a base tick, where its slot takes its sample. -/
def strayReady : Device := (((strayDevice.tick 0).sensed .north [] 0 0).setFld (REG_STATUS .north) REG_STATUS_TICK 0).fed .north [0]

theorem strayDevice_loaded : strayDevice.loadedSlots = [0] := by decide

theorem sensed_stray_tick : sget (fun _ => 0) ((strayDevice.tick 0).sensed .north [] 0 0).rgl.ticks 0 = 0 := by decide

theorem ticked_stray : ((strayDevice.tick 0).sensed .north [] 0 0).ticked .north 0 = strayReady.sampled .north [0] 0 := by
  have hl : (((strayDevice.tick 0).sensed .north [] 0 0).setFld (REG_STATUS .north) REG_STATUS_TICK 0).loadedSlots = [0] :=
    (loadedSlots_congr (by rfl)).trans strayDevice_loaded
  simp only [Device.ticked, Nat.zero_mod, hl, strayReady]

theorem exec_strayTick :
    exec (.regulatorTick 0 .north [] 0 0) strayState = .next { strayState with dev := strayReady.sampled .north [0] 0 } := by
  rw [exec_regulatorTick, ← ticked_stray]
  exact congrArg (fun n => Host.Outcome.next { strayState with dev := ((strayDevice.tick 0).sensed .north [] 0 0).ticked .north n })
    sensed_stray_tick

/-- The slot is due and runs, and its sample applies the queued write at PWR_RAIL_EN. -/
theorem reg_strayTick : (strayReady.sampled .north [0] 0).reg PWR_RAIL_EN = 5 := by
  have hdue : dueAt (strayReady.slotEntry 0) 0 = true := by decide
  have hwind : (strayReady.slotS .north 0).wind = 0 := by decide
  have hruns : strayReady.slotRuns .north 0 = true := by decide
  have hrun : (strayReady.runSlot .north 0).reg PWR_RAIL_EN = 5 := by decide
  exact (reg_sampled _ hdue hwind hruns (by decide) (by decide)).trans hrun

/-- Refutes O56: the primitive of a queued coefficient write is not bounded by the state. A base tick of `strayState`, whose slot 0 has a write
queued for primitive 0xEFE001 of a slot that has 6, sets PWR_RAIL_EN to 5: a register outside the control loops, which shows no event. -/
theorem not_loopCommandsKeepTheRest : ¬ Obligations.LoopCommandsKeepTheRest := by
  unfold Obligations.LoopCommandsKeepTheRest
  intro h
  obtain ⟨u, hu, -, -, hreg, -⟩ := h (.regulatorTick 0 .north [] 0 0) strayState rfl
  rw [exec_strayTick] at hu
  obtain rfl := Host.Outcome.next.inj hu
  have hkept : (strayReady.sampled .north [0] 0).reg PWR_RAIL_EN = strayDevice.reg PWR_RAIL_EN :=
    hreg PWR_RAIL_EN (by decide) (by decide) (fun h => absurd h (by decide)) (fun h => absurd h (by decide))
  rw [reg_strayTick] at hkept
  exact absurd hkept (by decide)

end Sys2Proof.Machine

end

section

set_option Elab.async false

namespace Sys2Proof.Machine

/-! # Changes of registers alone

`OnlyRegs d e l` as a relation that every write of a listed register keeps, so that a chain of writes has the same chain as its proof. -/

namespace OnlyRegs

variable {d e f : Device} {l : List Nat}

theorem refl (d : Device) (l : List Nat) : OnlyRegs d d l := ⟨⟨d.regs, rfl⟩, fun _ _ => rfl⟩

theorem setReg (h : OnlyRegs d e l) {a : Nat} {v : Word} (ha : a ∈ l := by simp) : OnlyRegs d (e.setReg a v) l := by
  obtain ⟨⟨r, hr⟩, hreg⟩ := h
  refine ⟨⟨(e.setReg a v).regs, ?_⟩, fun x hx => ?_⟩
  · rw [hr]
    rfl
  · rw [reg_setReg_ne e v (fun c : x = a => hx (c ▸ ha)), hreg x hx]

theorem setNat (h : OnlyRegs d e l) {a v : Nat} (ha : a ∈ l := by simp) : OnlyRegs d (e.setNat a v) l := h.setReg ha

theorem setFld (h : OnlyRegs d e l) {a : Nat} {f : Fld} {v : Nat} (ha : a ∈ l := by simp) : OnlyRegs d (e.setFld a f v) l := h.setReg ha

theorem setFlag (h : OnlyRegs d e l) {a : Nat} {f : Fld} {b : Bool} (ha : a ∈ l := by simp) : OnlyRegs d (e.setFlag a f b) l := h.setReg ha

theorem addSat (h : OnlyRegs d e l) {a : Nat} {f : Fld} {n : Nat} (ha : a ∈ l := by simp) : OnlyRegs d (e.addSat a f n) l := h.setReg ha

theorem trans (h : OnlyRegs d e l) (h' : OnlyRegs e f l) : OnlyRegs d f l := by
  obtain ⟨⟨r, hr⟩, hreg⟩ := h
  obtain ⟨⟨r', hr'⟩, hreg'⟩ := h'
  refine ⟨⟨r', ?_⟩, fun a ha => (hreg' a ha).trans (hreg a ha)⟩
  rw [hr', hr]

theorem mono (h : OnlyRegs d e l) {l' : List Nat} (hl : ∀ a ∈ l, a ∈ l') : OnlyRegs d e l' := ⟨h.1, fun a ha => h.2 a (fun c => ha (hl a c))⟩

theorem ite {c : Prop} [Decidable c] (h : OnlyRegs d e l) (h' : OnlyRegs d f l) : OnlyRegs d (if c then e else f) l := by
  split
  · exact h
  · exact h'

/-- A register outside the list keeps its word, a part of the device beside the registers its value. -/
theorem reg (h : OnlyRegs d e l) {a : Nat} (ha : a ∉ l) : e.reg a = d.reg a := h.2 a ha

theorem keeps {β : Type} (h : OnlyRegs d e l) {p : Device → β} (hp : ∀ r, p { d with regs := r } = p d) : p e = p d := by
  obtain ⟨⟨r, hr⟩, -⟩ := h
  rw [hr, hp]

end OnlyRegs

section

variable (d : Device)

@[simp] theorem fld_tick (t a : Nat) (f : Fld) : (d.tick t).fld a f = d.fld a f := rfl
@[simp] theorem flag_tick (t a : Nat) (f : Fld) : (d.tick t).flag a f = d.flag a f := rfl

/-- Registers of one offset in the two Quarters are two registers. -/
theorem side_ne {A : Side → Nat} {o : Nat} (hA : ∀ q, A q = q.base + o) : A .north ≠ A .south := by
  rw [hA, hA, show Side.base .north = 0x01000000 from rfl, show Side.base .south = 0x02000000 from rfl]
  omega

/-- A flag set in both Quarters reads what it was set to in each. -/
theorem flag_bothSides {A : Side → Nat} (hA : A .north ≠ A .south) {f : Fld} (hf : f.hi < 32) (hl : f.lo ≤ f.hi) (b : Bool) (q : Side) :
    (d.each bothSides fun q d => d.setFlag (A q) f b).flag (A q) f = b := by
  cases q with
  | north => exact (flag_setFlag_ne _ _ _ _ hA).trans (flag_setFlag_self d _ hf hl b)
  | south => exact flag_setFlag_self _ _ hf hl b

/-- A field set in both Quarters reads what it was set to in each. -/
theorem fld_bothSides {A : Side → Nat} (hA : A .north ≠ A .south) {f : Fld} (hf : f.hi < 32) {v : Nat} (hv : v < 2 ^ (f.hi + 1 - f.lo)) (q : Side) :
    (d.each bothSides fun q d => d.setFld (A q) f v).fld (A q) f = v := by
  have hself (e : Device) (a : Nat) : (e.setFld a f v).fld a f = v := (fld_setFld_self e a hf v).trans (Nat.mod_eq_of_lt hv)
  cases q with
  | north => exact (fld_setFld_ne _ _ _ _ hA).trans (hself d _)
  | south => exact hself _ _

/-- Setting a flag in both Quarters leaves every other register. -/
theorem reg_bothSides_flag {A : Side → Nat} (f : Fld) (b : Bool) {x : Nat} (hx : ∀ q, x ≠ A q) :
    (d.each bothSides fun q d => d.setFlag (A q) f b).reg x = d.reg x :=
  (reg_setFlag_ne _ _ _ (hx .south)).trans (reg_setFlag_ne d _ _ (hx .north))

end

/-- A table holds at a key what was put there. -/
theorem sget_put {α : Type} [DecidableEq α] (dflt : Nat → α) (m : List (Nat × α)) (k : Nat) (v : α) : sget dflt (sput dflt m k v) k = v :=
  (sget_sput dflt m k k v).trans (if_pos rfl)

theorem portS_setPort (d : Device) (q : Side) (s : Nat) (v : PortS) : (d.setPort q s v).portS q s = v :=
  sget_put (fun _ => ({} : PortS)) d.port (pk q s) v

/-- A bit of a mask reads what it was set to. -/
theorem natBit_setNatBit_self (m : Nat) (b : Bool) (n : Nat) : natBit (setNatBit m n b) n = b :=
  (natBit_setNatBit m n n b).trans (if_pos rfl)

end Sys2Proof.Machine

end

section

set_option Elab.async false

namespace Sys2Proof.Machine

/-! # What follows from a ledger event (R595, R600 to R604), seen from a Quarter's registers

The registers that a ledger event can change lie in the shared core, but for those of the control loops, which entry into Safe changes. -/

section

variable {a : Nat}

theorem ledgerRegs_shared {b : Nat} (h : a ∈ ledgerRegs b) : 0x10000000 ≤ a := by
  simp only [ledgerRegs, List.mem_append, List.mem_cons, List.not_mem_nil, or_false, HIF_EVT_PROD, HIF_EVT_LOST, LDG_CNT, LDG_STICKY,
    LDG_NMI] at h
  rcases h with h | h
  · omega
  · split at h
    · rw [List.mem_singleton.mp h]
      decide
    · cases h

theorem safeRegs_shared (h : a ∈ safeRegs) : 0x10000000 ≤ a := by
  simp only [safeRegs, List.mem_cons, List.not_mem_nil, or_false, KRB_STATUS, KRB_CAUSE, KRB_TIME_LO, LDG_NMI, RDB_PANIC] at h
  omega

/-- A register of a Quarter outside its control loops keeps its word. -/
theorem reg_ledgerEvent_quarter (d : Device) (ha : a < 0x10000000) (hl : ¬ inLoops a) (b o x y : Nat) :
    (d.ledgerEvent b o x y).reg a = d.reg a :=
  reg_ledgerEvent d hl (fun h => absurd (ledgerRegs_shared h) (by omega)) (fun h => absurd (ledgerRegs_shared h) (by omega))
    (fun h => absurd (ledgerRegs_shared h) (by omega)) (fun h => absurd (safeRegs_shared h) (by omega)) o x y

end

end Sys2Proof.Machine

end

section

set_option Elab.async false

namespace Sys2Proof.Machine

/-! # The Tollgate's rejection (R31, R113, R118, R144)

A rejected page ends in its status at once where it is the first in ingest. What the statement follows through that end is `gateView`. -/

/-- No page planned at P0 passes the Tollgate: the geometry fails, or the pace level does (R31, R113). -/
theorem gateCheck_p0 (d : Device) {p : Page} (h : p.first.pace = 0) : (d.gateCheck p).kind = 1 ∨ (d.gateCheck p).kind = 2 := by
  unfold Device.gateCheck
  dsimp only
  rw [if_pos h]
  split
  · exact .inl rfl
  · exact .inr rfl

/-- The sheets, KIND's register, and the pages in ingest. -/
def gateView (d : Device) : DeliveryS × Word × List IngestS := (d.dlv, d.reg PGS_TG_REJ1, d.host.ingest)

section

variable (d : Device)

theorem gateView_setReg {a : Nat} (h : a ≠ PGS_TG_REJ1) (v : Word) : gateView (d.setReg a v) = gateView d := by
  unfold gateView
  rw [reg_setReg_ne d v h.symm]
  rfl

theorem gateView_post (typ : Nat) (nmi : Bool) (code wsn data : Nat) : gateView (d.post typ nmi code wsn data) = gateView d := by
  refine post_keeps d (fun a ha e v => gateView_setReg e ?_ v) (fun _ _ _ _ => rfl) (fun e f hf => ?_) typ nmi code wsn data
  · rintro rfl
    exact absurd ha (by decide)
  · obtain ⟨-, -, hingest, -⟩ := hf e.host
    unfold gateView
    rw [show (e.modHost f).host.ingest = e.host.ingest from hingest]
    rfl

theorem gateView_setBytes (a : Nat) (l : List Byte) : gateView (d.setBytes a l) = gateView d := by
  obtain ⟨m, hm⟩ := setBytes_only l d a
  rw [hm]
  rfl

theorem gateView_writeBack (r : Nat) : gateView (d.writeBack r) = gateView d := by
  unfold Device.writeBack
  dsimp only
  split
  · rfl
  · exact gateView_setBytes _ _ _

theorem gateView_ingestWait (b : Bool) : gateView (d.ingestWait b) = gateView d := gateView_setReg d (by decide) _

theorem gateView_dropChains : gateView d.dropChains = gateView d := by
  refine each_keeps (fun x e => ?_) _ d
  exact (gateView_setReg _ (by decide) _).trans (gateView_setReg e (by decide) _)

theorem gateView_freePages (l : List IngestS) : gateView (d.each l fun y d => d.freePage y.page) = gateView d :=
  each_keeps (fun _ e => gateView_setReg e (by decide) _) l d

theorem haltRing_shows (r : Nat) {cause : Nat} (h : cause < 16) :
    (d.haltRing r cause).ringHalted r = true ∧ (d.haltRing r cause).fld (HIF_RING_STATUS r) HIF_RING_STATUS_HALT_CAUSE = cause := by
  have hpost : HIF_RING_STATUS r ∉ postRegs := by
    simp only [postRegs, HIF_RING_STATUS, HIF_EVT_PROD, HIF_EVT_LOST, List.mem_cons, List.not_mem_nil, or_false]
    omega
  unfold Device.haltRing Device.ringHalted
  rw [flag_congr (reg_post _ _ _ _ _ _ hpost), fld_congr (reg_post _ _ _ _ _ _ hpost), flag_setFld_other _ _ _ (by decide) (by decide)]
  exact ⟨flag_setFlag_self _ _ (by decide) (by decide) true, (fld_setFld_self _ _ (by decide) cause).trans (Nat.mod_eq_of_lt h)⟩

/-- A rejection takes all pages out of ingest and halts the page ring with REJECTED (R143, R144). -/
theorem endHead_rejected {x : IngestS} {rest : List IngestS} (h : d.host.ingest = x :: rest) :
    gateView (d.endHead psRejected) = (d.dlv, d.reg PGS_TG_REJ1, []) ∧ (d.endHead psRejected).ringHalted 0 = true ∧
      (d.endHead psRejected).fld (HIF_RING_STATUS 0) HIF_RING_STATUS_HALT_CAUSE = psRejected := by
  unfold Device.endHead
  split
  next hnil => cases hnil.symm.trans h
  next y l hcons =>
  obtain ⟨rfl, rfl⟩ := List.cons.inj (hcons.symm.trans h)
  extract_lets w data d1 d2 top d3
  rw [if_pos (by decide)]
  refine ⟨?_, haltRing_shows _ 0 (by decide)⟩
  have h1 : gateView d1 = (d.dlv, d.reg PGS_TG_REJ1, []) := by
    unfold d1
    rw [if_pos (by decide)]
    exact gateView_freePages (d.setIngest []) (y :: l)
  have h2 : gateView d2 = gateView d1 := (gateView_post _ _ _ _ _ _).trans (gateView_dropChains d1)
  have h3 : gateView ((d3.setNat (HIF_RING_CONS 0) y.slot).writeBack 0) = gateView d3 :=
    (gateView_writeBack _ 0).trans (gateView_setReg d3 (by decide) _)
  refine (gateView_post _ _ _ _ _ _).trans ((gateView_setReg _ (by decide) _).trans ((gateView_setReg _ (by decide) _).trans ?_))
  calc gateView (((d3.setNat (HIF_RING_CONS 0) y.slot).writeBack 0).ingestWait false)
    _ = gateView ((d3.setNat (HIF_RING_CONS 0) y.slot).writeBack 0) := gateView_ingestWait _ false
    _ = gateView d2 := h3
    _ = (d.dlv, d.reg PGS_TG_REJ1, []) := h2.trans h1

/-- The first page in ingest fails at once. -/
theorem ingestFail_rejected {x : IngestS} {rest : List IngestS} (h : d.host.ingest = x :: rest) (hlive : x.live = true) :
    gateView (d.ingestFail 0 psRejected) = (d.dlv, d.reg PGS_TG_REJ1, []) ∧ (d.ingestFail 0 psRejected).ringHalted 0 = true ∧
      (d.ingestFail 0 psRejected).fld (HIF_RING_STATUS 0) HIF_RING_STATUS_HALT_CAUSE = psRejected := by
  generalize hy : ({ x with verdict := some psRejected, awaits := false } : IngestS) = y
  have hverdict : y.verdict = some psRejected := by rw [← hy]
  have hawaits : y.awaits = false := by rw [← hy]
  generalize he : (d.setIngestAt 0 y).dropChains = e
  have hview : gateView e = (d.dlv, d.reg PGS_TG_REJ1, y :: rest) := by
    rw [← he, gateView_dropChains, Device.setIngestAt, h]
    rfl
  obtain ⟨hdlv, hreg, hingest⟩ : e.dlv = d.dlv ∧ e.reg PGS_TG_REJ1 = d.reg PGS_TG_REJ1 ∧ e.host.ingest = y :: rest := by
    simpa [gateView] using hview
  have hend := endHead_rejected e hingest
  rw [hdlv, hreg] at hend
  have hnone : (e.endHead psRejected).host.ingest = [] := congrArg (fun v => v.2.2) hend.1
  have hfail : d.ingestFail 0 psRejected = e.endHead psRejected := by
    unfold Device.ingestFail
    rw [h, List.getElem?_cons_zero]
    dsimp only
    rw [if_pos hlive, hy, he, Device.settleIngest, hingest]
    dsimp only
    rw [hverdict]
    dsimp only
    rw [hawaits, Device.settleIngest, hnone]
    rfl
  rw [hfail]
  exact hend

/-- KIND names the check that failed; nothing but registers of the Tollgate changes (R118). -/
theorem setReject_only (p : Page) {g : GateResult} (h : g.kind < 8) :
    OnlyRegs d (d.setReject p g) [PGS_TG_REJ0, PGS_TG_REJ1, PGS_TG_REJ2] ∧ (d.setReject p g).fld PGS_TG_REJ1 PGS_TG_REJ1_KIND = g.kind := by
  unfold Device.setReject
  extract_lets m speed d1 d2 d3
  have h2 : OnlyRegs d d2 [PGS_TG_REJ0, PGS_TG_REJ1, PGS_TG_REJ2] := (OnlyRegs.refl d _).setNat.setReg.setFld.setFld
  refine ⟨h2.setFld.setFld.setFld.setFld, ?_⟩
  rw [fld_setFld_ne _ _ _ _ (by decide), fld_setFld_ne _ _ _ _ (by decide)]
  exact (fld_setFld_self _ PGS_TG_REJ1 (by decide) g.kind).trans (Nat.mod_eq_of_lt h)

end

/-- Settles O58: `gateCheck_p0` for the check, `ingestFail_rejected` for what follows from it. -/
theorem pagesAtP0AreRejected : Obligations.PagesAtP0AreRejected := by
  intro t s
  refine ⟨fun p hp => ?_, fun x rest hingest hlive hawaits hready hpace => ⟨_, rfl, rfl, rfl, ?_⟩⟩
  · rcases gateCheck_p0 s.dev hp with h | h
    · rw [h]; decide
    · rw [h]; decide
  · have hkind := gateCheck_p0 (s.dev.tick t) hpace
    generalize hg : (s.dev.tick t).gateCheck x.page = g at hkind
    have hsmall : g.kind ≠ 0 ∧ g.kind < 8 := by omega
    obtain ⟨⟨⟨r, hr⟩, -⟩, hfld⟩ := setReject_only (s.dev.tick t) x.page hsmall.2
    have hgate : (s.dev.tick t).tollgate = ((s.dev.tick t).setReject x.page g).ingestFail 0 psRejected := by
      unfold Device.tollgate
      rw [show (s.dev.tick t).host.ingest = x :: rest from hingest]
      dsimp only
      rw [if_neg (by simp [hlive, hawaits, hready]), hg, if_neg hsmall.1]
    dsimp only
    rw [hgate]
    generalize (s.dev.tick t).setReject x.page g = e at hr hfld
    obtain ⟨hview, hhalted, hcause⟩ := ingestFail_rejected e (rest := rest) (by rw [hr]; exact hingest) hlive
    generalize e.ingestFail 0 psRejected = u at hview hhalted hcause
    obtain ⟨hdlv, hreg, hnone⟩ : u.dlv = e.dlv ∧ u.reg PGS_TG_REJ1 = e.reg PGS_TG_REJ1 ∧ u.host.ingest = [] := by
      simpa [gateView] using hview
    refine ⟨?_, hnone, hhalted, hcause, ?_⟩
    · rw [hdlv, hr]
      rfl
    · rw [fld_congr hreg, hfld]
      exact hkind

end Sys2Proof.Machine

end

section

set_option Elab.async false

namespace Sys2Proof.Machine

/-! # Errors of the fabric and of on-chip memory (R25, R36, R37, R593) -/

/-- Below the codec's memory an uncorrectable error of the Plaza ends its access and counts, and touches neither the codec nor a check of a
Quarter (R36, R207). -/
theorem sramUe_plaza (d : Device) {addr : Nat} (h : addr < 0x20700000) :
    d.sramUe addr = (d.ledgerEvent lbSramUe shared (addr % 2 ^ 32) 0).reply .errEcc := by
  have hlocal : localOf addr = none := by
    unfold localOf
    rw [if_neg (by omega), if_neg (by omega)]
  have hcodec (e : Device) : e.codecUe addr = e := by
    unfold Device.codecUe
    rw [if_neg (by omega), if_neg (by omega), if_neg (by omega), if_neg (by omega)]
  unfold Device.sramUe
  rw [if_neg (by omega), hlocal]
  dsimp only
  rw [hcodec]

/-- Settles O17: both events count by `ledgerEvent_events`, and the access is answered after them. -/
theorem fabricAndMemoryErrors : Obligations.FabricAndMemoryErrors := by
  intro t s addr
  refine ⟨⟨_, rfl, rfl, rfl, rfl, ?_⟩, ⟨_, rfl, rfl, rfl, rfl, rfl, fun _ => rfl, fun _ => rfl⟩, fun haddr => ⟨_, rfl, rfl, rfl, ?_⟩⟩
  · exact ledgerEvent_events (s.dev.tick t) (b := lbFabricCode) (by decide) (by decide) (by decide) shared 0 0
  · dsimp only
    rw [if_pos rfl, sramUe_plaza _ haddr]
    exact ⟨rfl, ledgerEvent_events (s.dev.tick t) (b := lbSramUe) (by decide) (by decide) (by decide) shared _ 0⟩

end Sys2Proof.Machine

end

section

set_option Elab.async false

namespace Sys2Proof.Machine

/-! # The end of a ring's wind-down (R50, R51): a ring that was enabled again while it wound down

`ringEnabled` reads false of every ring whose BUSY reads 1, whatever its ENABLE asks for. A ring that was enabled again meanwhile starts when
its wind-down completes, and its ENABLE stays. -/

/-- Ring 0 winds down, with ENABLE set again, a buffer of 2^4 slots at 0, and no page in ingest. -/
def rearmedDevice : Device where
  regs := [(HIF_RING_CFG 0, 0xC0000004)]

def rearmedState : State := { dev := rearmedDevice, fuses := .reset, pending := [] }

theorem rearmed_starts :
    (((rearmedDevice.tick 0).windDownEnds (.ring 0)).domainsSettle).flag (HIF_RING_CFG 0) HIF_RING_CFG_ENABLE = true := by decide

/-- Refutes O55: in `rearmedState` the wind-down of ring 0 ends with ENABLE set, because the ring was enabled again while it wound down. -/
theorem not_windDownsEnd : ¬ Obligations.WindDownsEnd := by
  unfold Obligations.WindDownsEnd
  intro h
  obtain ⟨hblocks, -⟩ := h 0 rearmedState .north
  obtain ⟨-, -, -, hring, -⟩ := hblocks (by decide)
  obtain ⟨u, hu, -, -, -, henable, -⟩ := hring 0 (by decide) (by decide) (by decide)
  obtain rfl := Host.Outcome.next.inj hu
  exact Bool.false_ne_true (henable.symm.trans rearmed_starts)

end Sys2Proof.Machine

end

section

set_option Elab.async false

namespace Sys2Proof.Machine

/-! # Stations enabled and disabled, emitters measured, spare maps, head temperatures (R51, R52, R301 to R325) -/

section

variable (t : Nat) (s : State) (st : Station)

/-- A station is enabled where its configuration passes (R301). -/
theorem stationEnable_passes (q : Side) (hoff : s.dev.flag (BMO_CTRL q st) BMO_CTRL_ENABLE = false)
    (hbusy : s.dev.flag (BMO_CTRL q st) BMO_CTRL_BUSY = false) (hmasks : s.dev.masksOk q st = true) :
    Completes (.stationEnable t q st) s fun e => e.flag (BMO_CTRL q st) BMO_CTRL_ENABLE = true ∧ e.lineS q st = { n := 0 } ∧
      (s.dev.owner = q → natBit e.kerb.request st = true) ∧ ∀ a, a ≠ BMO_CTRL q st → e.reg a = s.dev.reg a := by
  generalize hd1 : ((s.dev.tick t).setFlag (BMO_CTRL q st) BMO_CTRL_ENABLE true).setLine q st { n := 0 } = d1
  have hon : (s.dev.tick t).stationOn q st =
      if d1.owner = q then d1.modKerb (fun v => { v with request := setNatBit v.request st true }) else d1 := by
    unfold Device.stationOn
    rw [← hd1, if_neg (by simp [hoff]), if_neg (by simp [hbusy]), if_pos (by exact hmasks)]
  have henable : d1.flag (BMO_CTRL q st) BMO_CTRL_ENABLE = true := by
    rw [← hd1]
    exact flag_setFlag_self (s.dev.tick t) _ (by decide) (by decide) true
  have hline : d1.lineS q st = { n := 0 } := by
    rw [← hd1]
    exact sget_put (fun _ => {}) s.dev.bmo.lines (pk q st) { n := 0 }
  have hreg (a : Nat) (ha : a ≠ BMO_CTRL q st) : d1.reg a = s.dev.reg a := by
    rw [← hd1]
    exact reg_setFlag_ne (s.dev.tick t) _ _ ha
  have howner : d1.owner = s.dev.owner := by
    rw [← hd1]
    rfl
  refine ⟨_, rfl, rfl, rfl, ?_⟩
  dsimp only
  rw [hon, howner]
  split
  · exact ⟨henable, hline, fun _ => natBit_setNatBit_self _ true _, hreg⟩
  · exact ⟨henable, hline, fun h => absurd h ‹_›, hreg⟩

/-- A station whose configuration does not pass stays disabled, with CFG_ERR (R301). -/
theorem stationEnable_fails (q : Side) (hoff : s.dev.flag (BMO_CTRL q st) BMO_CTRL_ENABLE = false)
    (hbusy : s.dev.flag (BMO_CTRL q st) BMO_CTRL_BUSY = false) (hmasks : s.dev.masksOk q st = false) :
    Completes (.stationEnable t q st) s fun e => e.flag (BMO_CTRL q st) BMO_CTRL_ENABLE = false ∧
      e.flag (BMO_STATUS q st) BMO_STATUS_CFG_ERR = true ∧ OnlyRegs (s.dev.tick t) e [BMO_STATUS q st] := by
  have hon : (s.dev.tick t).stationOn q st = (s.dev.tick t).setFlag (BMO_STATUS q st) BMO_STATUS_CFG_ERR true := by
    have hmasks : ¬ (s.dev.tick t).masksOk q st = true := by
      change ¬ s.dev.masksOk q st = true
      simp [hmasks]
    unfold Device.stationOn
    rw [if_neg (by simp [hoff]), if_neg (by simp [hbusy]), if_neg hmasks]
  refine ⟨_, rfl, rfl, rfl, ?_⟩
  dsimp only
  rw [hon]
  refine ⟨?_, flag_setFlag_self _ _ (by decide) (by decide) true, (OnlyRegs.refl _ _).setFlag⟩
  rw [flag_setFlag_ne _ _ _ _ (by unfold BMO_CTRL BMO_STATUS; omega)]
  exact hoff

/-- An enable while the station winds down is kept (R51). -/
theorem stationEnable_waits (q : Side) (hoff : s.dev.flag (BMO_CTRL q st) BMO_CTRL_ENABLE = false)
    (hbusy : s.dev.flag (BMO_CTRL q st) BMO_CTRL_BUSY = true) :
    Completes (.stationEnable t q st) s fun e => e.flag (BMO_CTRL q st) BMO_CTRL_ENABLE = true ∧ OnlyRegs (s.dev.tick t) e [BMO_CTRL q st] := by
  have hon : (s.dev.tick t).stationOn q st = (s.dev.tick t).setFlag (BMO_CTRL q st) BMO_CTRL_ENABLE true := by
    unfold Device.stationOn
    rw [if_neg (by simp [hoff]), if_pos (by exact hbusy)]
  refine ⟨_, rfl, rfl, rfl, ?_⟩
  dsimp only
  rw [hon]
  exact ⟨flag_setFlag_self _ _ (by decide) (by decide) true, (OnlyRegs.refl _ _).setFlag⟩

/-- The device once ENABLE of a station is cleared, and once its print's request at the Kerb is withdrawn. -/
def Device.unenabled (q : Side) (s : Nat) (d : Device) : Device := d.setFlag (BMO_CTRL q s) BMO_CTRL_ENABLE false

def Device.unrequested (q : Side) (s : Nat) (d : Device) : Device :=
  (d.unenabled q s).modKerb fun v => { v with request := setNatBit v.request s false }

/-- What disabling an enabled station does (R52, R325). -/
theorem stationOff_enabled {d : Device} {q : Side} (hon : d.flag (BMO_CTRL q st) BMO_CTRL_ENABLE = true) :
    d.stationOff q st =
      if (d.unenabled q st).owner = q then
        if ((d.unrequested q st).print st).isSome then
          ((d.unrequested q st).stationsDefective (2 ^ st.val) 4).setFlag (BMO_CTRL q st) BMO_CTRL_BUSY true
        else d.unrequested q st
      else d.unenabled q st := by
  unfold Device.stationOff
  rw [if_neg (by simp [hon])]
  rfl

theorem stationDisable_other (q : Side) (hon : s.dev.flag (BMO_CTRL q st) BMO_CTRL_ENABLE = true) (hq : s.dev.owner ≠ q) :
    Completes (.stationDisable t q st) s fun e => e.flag (BMO_CTRL q st) BMO_CTRL_ENABLE = false ∧
      OnlyRegs (s.dev.tick t) e [BMO_CTRL q st] := by
  refine ⟨_, rfl, rfl, rfl, ?_⟩
  dsimp only
  rw [stationOff_enabled st (d := s.dev.tick t) hon, if_neg (by exact hq)]
  exact ⟨flag_setFlag_self _ _ (by decide) (by decide) false, (OnlyRegs.refl _ _).setFlag⟩

theorem stationDisable_idle (q : Side) (hon : s.dev.flag (BMO_CTRL q st) BMO_CTRL_ENABLE = true) (hq : s.dev.owner = q)
    (hprint : s.dev.print st = none) :
    Completes (.stationDisable t q st) s fun e => e.flag (BMO_CTRL q st) BMO_CTRL_ENABLE = false ∧
      natBit e.kerb.request st = false ∧ ∀ a, a ≠ BMO_CTRL q st → e.reg a = s.dev.reg a := by
  have hprint' : ((s.dev.tick t).unrequested q st).print st = none := hprint
  refine ⟨_, rfl, rfl, rfl, ?_⟩
  dsimp only
  rw [stationOff_enabled st (d := s.dev.tick t) hon, if_pos (by exact hq), if_neg (by simp [hprint'])]
  exact ⟨flag_setFlag_self (s.dev.tick t) _ (by decide) (by decide) false, natBit_setNatBit_self _ false _,
    fun a ha => reg_setFlag_ne (s.dev.tick t) _ _ ha⟩

theorem stationDisable_printing (q : Side) (hon : s.dev.flag (BMO_CTRL q st) BMO_CTRL_ENABLE = true) (hq : s.dev.owner = q)
    (hprint : (s.dev.print st).isSome = true) :
    Completes (.stationDisable t q st) s fun e => e.flag (BMO_CTRL q st) BMO_CTRL_BUSY = true := by
  refine ⟨_, rfl, rfl, rfl, ?_⟩
  dsimp only
  rw [stationOff_enabled st (d := s.dev.tick t) hon, if_pos (by exact hq), if_pos (by exact hprint)]
  exact flag_setFlag_self _ _ (by decide) (by decide) true

theorem status_sides_ne : BMO_STATUS .north st ≠ BMO_STATUS .south st :=
  side_ne (A := fun q => BMO_STATUS q st) (o := 0xd0038 + 0x100 * st) fun q => by unfold BMO_STATUS; omega

/-- A measurement of emitter `e` begins (R316). -/
def Device.measuring (s e : Nat) (d : Device) : Device :=
  d.modBmo fun v => { v with meas := sput (fun _ => none) v.meas s (some e) }

/-- The emitter at the cursor of the owner's station is measured (R315, R316). -/
def Device.measures (q : Side) (s : Nat) (d : Device) : Device :=
  let e := d.fld (BMO_STATUS q s) BMO_STATUS_CURSOR
  let d := d.measuring s e
  let d := if d.portServes q s then d.sendMessage q s 3 (d.measurePayload q s e) else d
  d.each bothSides fun q d => d.setFlag (BMO_STATUS q s) BMO_STATUS_MEAS_BUSY true

theorem measures_shows (d : Device) (q : Side) :
    sget (fun _ => none) (d.measures q st).bmo.meas st = some (d.fld (BMO_STATUS q st) BMO_STATUS_CURSOR) ∧
      (d.portServes q st = true → ∃ tag, (d.measures q st).portS q st =
        (d.portS q st).send (pk q st) (packet (controlMessage 3 tag (d.measurePayload q st (d.fld (BMO_STATUS q st) BMO_STATUS_CURSOR))))) ∧
      ∀ p, (d.measures q st).flag (BMO_STATUS p st) BMO_STATUS_MEAS_BUSY = true := by
  unfold Device.measures
  extract_lets e d1 d2
  have hmeas : sget (fun _ => none) d1.bmo.meas st = some e := sget_put (fun _ => none) d.bmo.meas st (some e)
  have hserves : d1.portServes q st = d.portServes q st := rfl
  refine ⟨?_, fun h => ?_, fun p => flag_bothSides d2 (status_sides_ne st) (by decide) (by decide) true p⟩
  · change sget (fun _ => none) d2.bmo.meas st = some e
    unfold d2
    split
    · exact hmeas
    · exact hmeas
  · have hsent : d2 = d1.sendMessage q st 3 (d1.measurePayload q st e) := if_pos (hserves.trans h)
    refine ⟨(Config.messageTag (pk q st) (d.portS q st).sends).toNat, ?_⟩
    change d2.portS q st = _
    rw [hsent]
    exact portS_setPort d1 q st _

/-- In an idle interval the emitter at the cursor is measured (R315, R316). -/
theorem emitterMeasure_completes (hst : s.dev.st = .ready ∨ s.dev.st = .printing ∨ s.dev.st = .draining) (hprint : s.dev.print st = none)
    (hsafe : s.dev.isSafe st = false) (hlocked : s.dev.pxState s.dev.owner st = pxLocked)
    (hlast : sget (fun _ => 0) s.dev.bmo.lastLine st + 2 * tuPerMs ≤ max s.dev.now t) :
    Completes (.emitterMeasure t st) s fun e =>
      sget (fun _ => none) e.bmo.meas st = some (s.dev.fld (BMO_STATUS s.dev.owner st) BMO_STATUS_CURSOR) ∧
      (s.dev.portServes s.dev.owner st = true → ∃ tag, e.portS s.dev.owner st = (s.dev.portS s.dev.owner st).send (pk s.dev.owner st)
        (packet (controlMessage 3 tag
          (s.dev.measurePayload s.dev.owner st (s.dev.fld (BMO_STATUS s.dev.owner st) BMO_STATUS_CURSOR))))) ∧
      ∀ q, e.flag (BMO_STATUS q st) BMO_STATUS_MEAS_BUSY = true := by
  have hidle : ((s.dev.tick t).st = .ready ∨ (s.dev.tick t).st = .printing ∨ (s.dev.tick t).st = .draining) ∧
      (s.dev.tick t).print st = none ∧ (!(s.dev.tick t).isSafe st) = true ∧
      (s.dev.tick t).fld (PXS_STATUS (s.dev.tick t).owner st) PXS_STATUS_STATE = 3 ∧
      sget (fun _ => 0) (s.dev.tick t).bmo.lastLine st + 2 * tuPerMs ≤ (s.dev.tick t).now :=
    ⟨hst, hprint, congrArg not hsafe, hlocked, hlast⟩
  refine ⟨_, rfl, rfl, rfl, ?_⟩
  dsimp only
  rw [if_pos hidle]
  exact measures_shows st (s.dev.tick t) s.dev.owner

/-- A spare map that waits, or is refused in both Quarters (R305). -/
theorem spareMapWrite_completes (m : Fin 2) (v : Word) (hnone : s.dev.bmo.mapNext = []) :
    let w := v &&& 0xBFBFBFBF
    let ok := s.dev.mapOk .north st (if m = 0 then w else s.dev.reg (BMO_MAP0 .north st))
      (if m = 0 then s.dev.reg (BMO_MAP0 .north st + 4) else w)
    (ok = true →
      Completes (.spareMapWrite t st m v) s fun e => e.bmo.mapNext = [(0, 2 * st.val + m.val, w)] ∧ ∀ a, e.reg a = s.dev.reg a) ∧
    (ok = false →
      Completes (.spareMapWrite t st m v) s fun e => e.bmo.mapNext = [] ∧ ∀ q, e.flag (BMO_STATUS q st) BMO_STATUS_MAP_ERR = true) := by
  intro w ok
  have hnone' : (s.dev.tick t).bmo.mapNext = [] := hnone
  have hwrite : (s.dev.tick t).mapWrite st m v 0 =
      if ok = true then (s.dev.tick t).modBmo (fun v' => { v' with mapNext := v'.mapNext ++ [(0, 2 * st.val + m.val, w)] })
      else (s.dev.tick t).each bothSides (fun q d => d.setFlag (BMO_STATUS q st) BMO_STATUS_MAP_ERR true) := by
    unfold Device.mapWrite
    rw [hnone']
    fin_cases m
    · rfl
    · rfl
  constructor
  · intro h
    refine ⟨_, rfl, rfl, rfl, ?_⟩
    dsimp only
    rw [hwrite, if_pos h]
    refine ⟨?_, fun _ => rfl⟩
    change s.dev.bmo.mapNext ++ _ = _
    rw [hnone]
    rfl
  · intro h
    refine ⟨_, rfl, rfl, rfl, ?_⟩
    dsimp only
    rw [hwrite, if_neg (by simp [h])]
    exact ⟨hnone, fun q => flag_bothSides _ (status_sides_ne st) (by decide) (by decide) true q⟩

/-- A Quarter's registers of a station that has no head temperature (R323). -/
def Device.tempMissed (q : Side) (st : Nat) (d : Device) : Device :=
  (d.setFlag (BMO_STATUS q st) BMO_STATUS_TEMP_WARN true).setFld (BMO_KSCALE q st) BMO_KSCALE_K_T (max 1 (d.fld (BMO_TEMP q st) BMO_TEMP_DERATE_K))

theorem tempMissed_shows (d : Device) (q : Side) :
    (d.tempMissed q st).flag (BMO_STATUS q st) BMO_STATUS_TEMP_WARN = true ∧
      (d.tempMissed q st).fld (BMO_KSCALE q st) BMO_KSCALE_K_T = max 1 (d.fld (BMO_TEMP q st) BMO_TEMP_DERATE_K) := by
  have hderate : d.fld (BMO_TEMP q st) BMO_TEMP_DERATE_K < 16 := fld_lt d _ _
  unfold Device.tempMissed
  refine ⟨?_, ?_⟩
  · rw [flag_congr (reg_setFld_ne _ _ _ (by unfold BMO_STATUS BMO_KSCALE; omega))]
    exact flag_setFlag_self _ _ (by decide) (by decide) true
  · exact (fld_setFld_self _ _ (by decide) _).trans (Nat.mod_eq_of_lt (by simp only [BMO_KSCALE_K_T]; omega))

theorem reg_tempMissed (d : Device) (q : Side) {a : Nat} (ha : a ≠ BMO_STATUS q st) (hk : a ≠ BMO_KSCALE q st) :
    (d.tempMissed q st).reg a = d.reg a := (reg_setFld_ne _ _ _ hk).trans (reg_setFlag_ne d _ _ ha)

theorem headTempTimeout_completes :
    Completes (.headTempTimeout t st) s fun e => ∀ q, e.flag (BMO_STATUS q st) BMO_STATUS_TEMP_WARN = true ∧
      e.fld (BMO_KSCALE q st) BMO_KSCALE_K_T = max 1 (s.dev.fld (BMO_TEMP q st) BMO_TEMP_DERATE_K) := by
  refine ⟨_, rfl, rfl, rfl, fun q => ?_⟩
  change (((s.dev.tick t).tempMissed .north st).tempMissed .south st).flag _ _ = true ∧
    (((s.dev.tick t).tempMissed .north st).tempMissed .south st).fld _ _ = _
  have hn : Side.base .north = 0x01000000 := rfl
  have hs : Side.base .south = 0x02000000 := rfl
  cases q with
  | north =>
    obtain ⟨hwarn, hk⟩ := tempMissed_shows st (s.dev.tick t) .north
    refine ⟨(flag_congr (reg_tempMissed st _ .south ?_ ?_) _).trans hwarn, (fld_congr (reg_tempMissed st _ .south ?_ ?_) _).trans hk⟩
    · exact status_sides_ne st
    · unfold BMO_STATUS BMO_KSCALE; omega
    · unfold BMO_STATUS BMO_KSCALE; omega
    · unfold BMO_KSCALE; omega
  | south =>
    obtain ⟨hwarn, hk⟩ := tempMissed_shows st ((s.dev.tick t).tempMissed .north st) .south
    refine ⟨hwarn, hk.trans (congrArg (max 1) (fld_congr (reg_tempMissed st (s.dev.tick t) .north ?_ ?_) _))⟩
    · unfold BMO_STATUS BMO_TEMP; omega
    · unfold BMO_KSCALE BMO_TEMP; omega

/-- The Kerb and both Quarters show whether a station is safe (R603). -/
theorem showSafe_shows (d : Device) {b : Bool} (hb : d.isSafe st = b) :
    (d.showSafe st).isSafe st = b ∧ natBit ((d.showSafe st).fld KRB_ENABLES KRB_ENABLES_STATION_FORCED) st = b ∧
      (∀ q, (d.showSafe st).flag (BMO_CTRL q st) BMO_CTRL_SAFE = b) ∧
      ∀ a, a ≠ KRB_ENABLES → (∀ q, a ≠ BMO_CTRL q st) → (d.showSafe st).reg a = d.reg a := by
  have hctrl (q : Side) : BMO_CTRL q st ≠ KRB_ENABLES := by
    rcases base_eq q with h | h
    · unfold BMO_CTRL KRB_ENABLES; omega
    · unfold BMO_CTRL KRB_ENABLES; omega
  have hsides : BMO_CTRL .north st ≠ BMO_CTRL .south st :=
    side_ne (A := fun q => BMO_CTRL q st) (o := 0xd0000 + 0x100 * st) fun q => by unfold BMO_CTRL; omega
  have hb' : (natBit d.bmo.headSafe st || natBit d.bmo.otherSafe st) = b := hb
  unfold Device.showSafe
  rw [hb']
  refine ⟨hb, ?_, fun q => ?_, fun a ha hq => ?_⟩
  · rw [fld_setFld_natBit _ _ (by decide) (by simp only [KRB_ENABLES_STATION_FORCED]; omega)]
    exact natBit_setNatBit_self _ b _
  · rw [flag_congr (reg_setFld_ne _ _ _ (hctrl q))]
    exact flag_bothSides d hsides (by decide) (by decide) b q
  · rw [reg_setFld_ne _ _ _ ha]
    exact reg_bothSides_flag d _ b hq

theorem stationSafeExit_completes (hhead : natBit s.dev.bmo.headSafe st = true) (hother : natBit s.dev.bmo.otherSafe st = false)
    (hst : s.dev.st = .ready ∨ s.dev.st = .held)
    (htemp : toSigned 8 (s.dev.fld (BMO_STATUS s.dev.owner st) BMO_STATUS_HEAD_TEMP) <
      toSigned 8 (s.dev.fld (BMO_TEMP s.dev.owner st) BMO_TEMP_WARN) - (s.dev.fld (BMO_TEMP s.dev.owner st) BMO_TEMP_HYST : Int)) :
    Completes (.stationSafeExit t st) s fun e => e.isSafe st = false ∧ natBit (e.fld KRB_ENABLES KRB_ENABLES_STATION_FORCED) st = false ∧
      ∀ q, e.fld (BMO_KSCALE q st) BMO_KSCALE_K_T = 16 ∧ e.flag (BMO_CTRL q st) BMO_CTRL_SAFE = false := by
  refine ⟨_, rfl, rfl, rfl, ?_⟩
  dsimp only
  rw [if_pos (by exact ⟨hhead, hst, htemp⟩)]
  generalize hd : (Device.each ((s.dev.tick t).modBmo fun v => { v with headSafe := setNatBit v.headSafe st false }) bothSides fun q d =>
    d.setFld (BMO_KSCALE q st) BMO_KSCALE_K_T 16) = d
  have hsafe : d.isSafe st = false := by
    have hcleared : natBit (setNatBit s.dev.bmo.headSafe st false) st = false := natBit_setNatBit_self _ false _
    rw [← hd]
    change (natBit (setNatBit s.dev.bmo.headSafe st false) st || natBit s.dev.bmo.otherSafe st) = false
    rw [hcleared, hother]
    rfl
  have hscale : BMO_KSCALE .north st ≠ BMO_KSCALE .south st :=
    side_ne (A := fun q => BMO_KSCALE q st) (o := 0xd0054 + 0x100 * st) fun q => by unfold BMO_KSCALE; omega
  have hkt (q : Side) : d.fld (BMO_KSCALE q st) BMO_KSCALE_K_T = 16 := by
    rw [← hd]
    exact fld_bothSides _ hscale (by decide) (by decide) q
  obtain ⟨hnow, hforced, hflag, hreg⟩ := showSafe_shows st d hsafe
  refine ⟨hnow, hforced, fun q => ⟨(fld_congr (hreg _ ?_ fun p => ?_) _).trans (hkt q), hflag q⟩⟩
  · rcases base_eq q with h | h
    · unfold BMO_KSCALE KRB_ENABLES; omega
    · unfold BMO_KSCALE KRB_ENABLES; omega
  · rcases base_eq q with h | h
    · rcases base_eq p with h' | h'
      · unfold BMO_KSCALE BMO_CTRL; omega
      · unfold BMO_KSCALE BMO_CTRL; omega
    · rcases base_eq p with h' | h'
      · unfold BMO_KSCALE BMO_CTRL; omega
      · unfold BMO_KSCALE BMO_CTRL; omega

end

/-- Settles O33: one lemma for each command and answer. -/
theorem stationsAreEnabledAndKept : Obligations.StationsAreEnabledAndKept := by
  intro t s st
  refine ⟨fun q hoff => ⟨fun hbusy => ⟨?_, ?_⟩, ?_⟩, fun q hon => ⟨?_, ?_, ?_⟩, ?_, ?_, headTempTimeout_completes t s st, ?_⟩
  · exact stationEnable_passes t s st q hoff hbusy
  · exact stationEnable_fails t s st q hoff hbusy
  · exact stationEnable_waits t s st q hoff
  · exact stationDisable_other t s st q hon
  · exact stationDisable_idle t s st q hon
  · exact stationDisable_printing t s st q hon
  · exact emitterMeasure_completes t s st
  · exact fun m v => spareMapWrite_completes t s st m v
  · exact stationSafeExit_completes t s st

end Sys2Proof.Machine

end

section

set_option Elab.async false

namespace Sys2Proof.Machine

/-! # Enwell ports (R327, R340 to R348): enable, bring-up, telemetry, loop tokens, loss of the lane, disable -/

/-- A receiver's descrambler has the state of the sender's scrambler, and turns each bit back (R327). -/
theorem descramble_scramble (bits : List Bool) : ∀ key : BitVec 58, descramble key (scramble key bits).2 = bits := by
  induction bits with
  | nil => intro key; rfl
  | cons x l ih =>
    intro key
    change ((x ^^ key.getLsbD 38 ^^ key.getLsbD 57) ^^ key.getLsbD 38 ^^ key.getLsbD 57) ::
      descramble ((key <<< 1) ||| (if (x ^^ key.getLsbD 38 ^^ key.getLsbD 57) = true then 1 else 0))
        (scramble ((key <<< 1) ||| (if (x ^^ key.getLsbD 38 ^^ key.getLsbD 57) = true then 1 else 0)) l).2 = x :: l
    rw [ih]
    cases x <;> cases key.getLsbD 38 <;> cases key.getLsbD 57 <;> rfl

/-! Sending. -/

/-- What a port keeps while it sends: its tokens, the time of its last good frame, and its bring-up. -/
def PortS.kept (v : PortS) : Nat × Nat × Nat × Bool × Bool := (v.token, v.tokenAt, v.goodAt, v.tableOk, v.retrain)

theorem goodAt_of_kept {v w : PortS} (h : v.kept = w.kept) : v.goodAt = w.goodAt := congrArg (fun x => x.2.2.1) h

theorem token_of_kept {v w : PortS} (h : v.kept = w.kept) : v.token = w.token ∧ v.tokenAt = w.tokenAt :=
  ⟨congrArg (fun x => x.1) h, congrArg (fun x => x.2.1) h⟩

theorem lay_kept (v : PortS) (lane : Nat) (b : Block) : (v.lay lane b).kept = v.kept := by
  unfold PortS.lay PortS.kept
  rfl

theorem align_kept (l : List Nat) : ∀ v : PortS, (l.foldl (fun v lane => v.lay lane (alignBlock lane)) v).kept = v.kept := by
  induction l with
  | nil => intro v; rfl
  | cons lane l ih => intro v; exact (ih _).trans (lay_kept v lane _)

theorem emit_kept (v : PortS) (b : Block) : (v.emit b).kept = v.kept := by
  unfold PortS.emit
  extract_lets w
  have hw : w.kept = v.kept := by
    unfold w
    split
    · exact align_kept _ v
    · rfl
  generalize v.next % 4 = lane
  exact (lay_kept w lane b).trans hw

theorem emits_kept (l : List Block) : ∀ v : PortS, (l.foldl PortS.emit v).kept = v.kept := by
  induction l with
  | nil => intro v; rfl
  | cons b l ih => intro v; exact (ih _).trans (emit_kept v b)

theorem send_kept (v : PortS) (key : Nat) (l : List Block) : (v.send key l).kept = v.kept := by
  unfold PortS.send
  extract_lets v1
  exact emits_kept l v1

/-- The block that was sent last goes out last, with its sync header (R327). -/
theorem send_last (v : PortS) (key kind : Nat) (content : List Byte) :
    (v.send key [ctlBlock kind content]).wire.getLast?.map (fun b => b.sync) = some 0b10 := by
  unfold PortS.send
  extract_lets v1
  change (PortS.emit v1 (ctlBlock kind content)).wire.getLast?.map _ = _
  unfold PortS.emit
  extract_lets v2
  change ((v2.wire ++ [_]).getLast?).map _ = _
  rw [List.getLast?_concat]
  rfl

section

variable (d : Device) (q : Side) (st : Station)

theorem sendMessage_kept (msg : Nat) (payload : List Byte) : ((d.sendMessage q st msg payload).portS q st).kept = (d.portS q st).kept := by
  unfold Device.sendMessage Device.sendBlocks
  rw [portS_setPort]
  exact send_kept _ _ _

/-! States of a port. -/

theorem enState_setEn {n : Nat} (h : n < 8) : (d.setEn q st n).enState q st = n :=
  (fld_setFld_self d _ (by decide) n).trans (Nat.mod_eq_of_lt h)

@[simp] theorem enState_setPort (v : PortS) : (d.setPort q st v).enState q st = d.enState q st := rfl

@[simp] theorem reg_setPort (v : PortS) (a : Nat) : (d.setPort q st v).reg a = d.reg a := rfl

@[simp] theorem portS_setEn (p : Side) (r n : Nat) : (d.setEn q st n).portS p r = d.portS p r := by
  unfold Device.portS Device.setEn
  rw [setFld_port]

theorem reg_trainPort (a : Nat) : (d.trainPort q st).reg a = (d.setEn q st enTraining).reg a := by
  unfold Device.trainPort
  rw [reg_setPort]
  rfl

/-- A port in training has to load the code table again (R343). -/
theorem trainPort_shows : (d.trainPort q st).enState q st = enTraining ∧ ((d.trainPort q st).portS q st).tableOk = false := by
  unfold Device.trainPort
  rw [portS_setPort, enState_setPort]
  exact ⟨enState_setEn d q st (n := enTraining) (by decide), rfl⟩

/-- The registers of the ports lie outside the control loops, in a Quarter (R42). -/
theorem portReg_quarter {a : Nat} (h : q.base + 0xc0000 ≤ a ∧ a < q.base + 0x100000) : a < 0x10000000 ∧ ¬ inLoops a := by
  unfold inLoops
  rcases base_eq q with hb | hb
  · omega
  · omega

theorem enwStatus_quarter : ENW_STATUS q st < 0x10000000 ∧ ¬ inLoops (ENW_STATUS q st) :=
  portReg_quarter q (by unfold ENW_STATUS; omega)

/-- A ledger event leaves the ports as they are. -/
theorem enwStatus_ledgerEvent (b o x y : Nat) : (d.ledgerEvent b o x y).reg (ENW_STATUS q st) = d.reg (ENW_STATUS q st) :=
  reg_ledgerEvent_quarter d (enwStatus_quarter q st).1 (enwStatus_quarter q st).2 b o x y

theorem enState_congr {d e : Device} {q : Side} {n : Nat} (h : e.reg (ENW_STATUS q n) = d.reg (ENW_STATUS q n)) : e.enState q n = d.enState q n :=
  fld_congr h _

/-- A port in UP goes DOWN, and no other field of its status changes (R345). -/
theorem portDown_shows : (d.portDown q st).enState q st = (if d.enState q st = enUp then enDown else d.enState q st) ∧
    (d.portDown q st).flag (ENW_STATUS q st) ENW_STATUS_TLM_LOCK = d.flag (ENW_STATUS q st) ENW_STATUS_TLM_LOCK := by
  unfold Device.portDown
  split
  · refine ⟨(enState_congr (enwStatus_ledgerEvent _ q st _ _ _ _)).trans (enState_setEn d q st (by decide)), ?_⟩
    rw [flag_congr (enwStatus_ledgerEvent _ q st _ _ _ _)]
    exact flag_setFld_other d _ _ (by decide) (by decide)
  · exact ⟨rfl, rfl⟩

/-! What happened lately at a check. -/

/-- Entry into Safe and the ledger leave the events of a check. -/
theorem kerbKeeps_times (b : Nat) : KerbKeeps b (fun d : Device => (d.q q).times) := by
  cases q
  · constructor <;> (try constructor) <;> intros <;> rfl
  · constructor <;> (try constructor) <;> intros <;> rfl

theorem checkReg_quarter (n : Nat) (h : n < 8) : QTR_CHK q n < 0x10000000 ∧ ¬ inLoops (QTR_CHK q n) := by
  unfold inLoops QTR_CHK
  rcases base_eq q with hb | hb
  · omega
  · omega

theorem checkFresh_ledgerEvent {n : Nat} (hn : n < 8) (h : d.checkFresh q n) (b o x y : Nat) : (d.ledgerEvent b o x y).checkFresh q n := by
  obtain ⟨htimes, hneed⟩ := h
  obtain ⟨hlow, hloops⟩ := checkReg_quarter q n hn
  refine ⟨?_, ?_⟩
  · rw [ledgerEvent_keeps d (kerbKeeps_times q b) (kerbKeeps_times q ktLedger) o x y]
    exact htimes
  · rw [fld_congr (reg_ledgerEvent_quarter d hlow hloops b o x y)]
    exact hneed

/-- A check stays as fresh as it was where other registers change. -/
theorem checkFresh_setReg {n a : Nat} {v : Word} (h : d.checkFresh q n) (ha : QTR_CHK q n ≠ a) : (d.setReg a v).checkFresh q n := by
  obtain ⟨htimes, hneed⟩ := h
  refine ⟨htimes, ?_⟩
  rw [fld_congr (reg_setReg_ne d v ha)]
  exact hneed

/-- Only the check of the fabric notes that an event was hard (R363). -/
theorem checkEvent_loop : d.checkEvent q ckTlmLoop true = d.checkEvent q ckTlmLoop false := by
  unfold Device.checkEvent
  rfl

theorem loopMismatch_fresh (h : d.checkFresh q ckTlmLoop) :
    (d.loopMismatch q st).enState q st = d.enState q st ∧ (d.loopMismatch q st).flag (ENW_STATUS q st) ENW_STATUS_LOOP_ERR = true := by
  have hchk (a : Nat) (ha : q.base + 0xc0000 ≤ a) : QTR_CHK q ckTlmLoop ≠ a := by
    unfold QTR_CHK ckTlmLoop
    omega
  generalize hd1 : d.count (ENW_TLM_CNT0 q st) ENW_TLM_CNT0_LOOP_MISMATCH = d1
  have h1 : d1.checkFresh q ckTlmLoop := by
    rw [← hd1]
    exact checkFresh_setReg d q h (hchk _ (by unfold ENW_TLM_CNT0; omega))
  have h2 : (d1.setFlag (ENW_STATUS q st) ENW_STATUS_LOOP_ERR true).checkFresh q ckTlmLoop :=
    checkFresh_setReg d1 q h1 (hchk _ (by unfold ENW_STATUS; omega))
  obtain ⟨hreg, -⟩ := checkEvent_fresh (by decide) h2
  have hstatus : d1.reg (ENW_STATUS q st) = d.reg (ENW_STATUS q st) := by
    rw [← hd1]
    exact reg_setFld_ne d _ _ (by unfold ENW_STATUS ENW_TLM_CNT0; omega)
  unfold Device.loopMismatch
  rw [hd1, checkEvent_loop]
  refine ⟨?_, ?_⟩
  · rw [enState_congr (hreg _)]
    exact (fld_setFlag_other d1 _ _ (by decide) (by decide)).trans (enState_congr hstatus)
  · rw [flag_congr (hreg _)]
    exact flag_setFlag_self d1 _ (by decide) (by decide) true

end

/-! Frames. -/

section

variable (d : Device) (q : Side) (st : Station) (b : List Byte)

/-- The registers that every good frame fills (R341). -/
def frameRegs (q : Side) (s : Nat) : List Nat := [ENW_STATUS q s, ENW_MOD_BUF q s, ENW_TLM_CNT1 q s, ENW_TLM_CNT2 q s, ENW_MOD_STATUS q s]

/-- The time of a good frame is noted. -/
def Device.frameSeen (q : Side) (s : Nat) (d : Device) : Device := d.setPort q s { d.portS q s with goodAt := d.now }

/-- A good frame fills the port's registers (R341). -/
def Device.frameTaken (q : Side) (s : Nat) (b : List Byte) (d : Device) : Device :=
  let first := (d.portS q s).goodAt = 0
  let d := d.frameSeen q s
  let d := (d.setFld (ENW_STATUS q s) ENW_STATUS_LANE_LOCK (bytesAt b 20 1 % 16)).setFld (ENW_STATUS q s) ENW_STATUS_MOD_PROTO (bytesAt b 1 1)
  let d := if natBit (bytesAt b 21 1) 1 then d.setFlag (ENW_STATUS q s) ENW_STATUS_CLK_LOSS true else d
  let d := d.setFld (ENW_MOD_BUF q s) ENW_MOD_BUF_BUF (bytesAt b 32 2)
  let d := if first then d.bufCompare q s else d
  let d := (d.setFld (ENW_TLM_CNT1 q s) ENW_TLM_CNT1_HOLES (bytesAt b 12 2)).setFld (ENW_TLM_CNT1 q s) ENW_TLM_CNT1_CRC_ERR (bytesAt b 14 2)
  let d := (d.setFld (ENW_TLM_CNT2 q s) ENW_TLM_CNT2_DUP (bytesAt b 16 2)).setFld (ENW_TLM_CNT2 q s) ENW_TLM_CNT2_STALE (bytesAt b 18 2)
  (d.setFld (ENW_MOD_STATUS q s) ENW_MOD_STATUS_STATUS (bytesAt b 21 1)).setFld (ENW_MOD_STATUS q s) ENW_MOD_STATUS_FAULT_CODE (bytesAt b 34 1)

/-- HOLES before the frame; the first frame's own count stands for it. -/
def Device.holesBefore (q : Side) (s : Nat) (b : List Byte) (d : Device) : Nat :=
  if (d.portS q s).goodAt = 0 then bytesAt b 12 2 else d.fld (ENW_TLM_CNT1 q s) ENW_TLM_CNT1_HOLES

/-- A good frame that arrives at a port that is not off. -/
theorem exec_telemetryFrame_good (t : Nat) (s : State) (hlen : b.length = 64) (htype : bytesAt b 0 1 = 0x11) (hcrc : crcGood b 56 = true)
    (hon : s.dev.enState q st ≠ enOff) :
    exec (.telemetryFrame t q st b) s = s.run t fun d =>
      (if (d.frameTaken q st b).token = some q then (d.frameTaken q st b).ownFrame q st b (d.holesBefore q st b)
        else d.frameTaken q st b).portFrame q st b := by
  have hon' : ¬ (s.dev.tick t).enState q st = enOff := hon
  have hgood : ¬ (b.length ≠ 64 ∨ bytesAt b 0 1 ≠ 0x11 ∨ (!crcGood b 56) = true) := by simp [hlen, htype, hcrc]
  show execTelemetryFrame t q st b s = _
  unfold execTelemetryFrame
  rw [run_eq, run_eq, if_neg hon', if_neg hgood]
  rfl

/-- The first frame compares the module's buffer with what is required, which shows CFG_ERR alone (R339). -/
theorem bufCompare_cases : d.bufCompare q st = d.setFlag (ENW_STATUS q st) ENW_STATUS_CFG_ERR true ∨ d.bufCompare q st = d := by
  unfold Device.bufCompare
  split
  · exact .inl rfl
  · exact .inr rfl

theorem leNat_take_lt (l : List Byte) : ∀ n, leNat (l.take n) < 256 ^ n := by
  induction l with
  | nil => intro n; cases n <;> simp [leNat]
  | cons x l ih =>
    intro n
    cases n with
    | zero => simp [leNat]
    | succ n =>
      have := ih n
      have := x.isLt
      simp only [List.take_succ_cons, leNat, Nat.pow_succ]
      omega

theorem bytesAt_lt (l : List Byte) (off n : Nat) : bytesAt l off n < 256 ^ n := leNat_take_lt _ n

theorem frameTaken_shows :
    OnlyRegs (d.frameSeen q st) (d.frameTaken q st b) (frameRegs q st) ∧
      (d.frameTaken q st b).enState q st = d.enState q st ∧
      (d.frameTaken q st b).fld (ENW_STATUS q st) ENW_STATUS_LANE_LOCK = bytesAt b 20 1 % 16 ∧
      (d.frameTaken q st b).fld (ENW_TLM_CNT1 q st) ENW_TLM_CNT1_HOLES = bytesAt b 12 2 := by
  have hlock : bytesAt b 20 1 % 16 < 16 := Nat.mod_lt _ (by decide)
  have hholes : bytesAt b 12 2 < 65536 := bytesAt_lt b 12 2
  unfold Device.frameTaken frameRegs
  extract_lets first d1 d2 d3 d4 d5 d6 d7
  have h2 : OnlyRegs d1 d2 (frameRegs q st) := ((OnlyRegs.refl d1 _).setFld (by simp [frameRegs])).setFld (by simp [frameRegs])
  have h3 : OnlyRegs d1 d3 (frameRegs q st) := (h2.setFlag (by simp [frameRegs])).ite h2
  have h4 : OnlyRegs d1 d4 (frameRegs q st) := h3.setFld (by simp [frameRegs])
  have h5 : OnlyRegs d1 d5 (frameRegs q st) := by
    unfold d5
    split
    · rcases bufCompare_cases d4 q st with h | h
      · rw [h]
        exact h4.setFlag (by simp [frameRegs])
      · rw [h]
        exact h4
    · exact h4
  have h6 : OnlyRegs d1 d6 (frameRegs q st) := (h5.setFld (by simp [frameRegs])).setFld (by simp [frameRegs])
  have h7 : OnlyRegs d1 d7 (frameRegs q st) := (h6.setFld (by simp [frameRegs])).setFld (by simp [frameRegs])
  /- Of ENW_STATUS the marks that follow leave the state and the lane lock. -/
  have hs3 (f : Fld) (hf : f.hi < ENW_STATUS_CLK_LOSS.lo ∨ ENW_STATUS_CLK_LOSS.hi < f.lo) (hf' : f.hi < 32) :
      d3.fld (ENW_STATUS q st) f = d2.fld (ENW_STATUS q st) f := by
    unfold d3
    split
    · exact fld_setFlag_other d2 _ _ hf hf'
    · rfl
  have hs5 (f : Fld) (hf : f.hi < ENW_STATUS_CFG_ERR.lo ∨ ENW_STATUS_CFG_ERR.hi < f.lo) (hf' : f.hi < 32) :
      d5.fld (ENW_STATUS q st) f = d3.fld (ENW_STATUS q st) f := by
    have h4' : d4.fld (ENW_STATUS q st) f = d3.fld (ENW_STATUS q st) f := fld_setFld_ne d3 _ _ _ (by unfold ENW_STATUS ENW_MOD_BUF; omega)
    unfold d5
    split
    · rcases bufCompare_cases d4 q st with h | h
      · rw [h]
        exact (fld_setFlag_other d4 _ _ hf hf').trans h4'
      · rw [h]
        exact h4'
    · exact h4'
  have hlast (e : Device) (he : e.reg (ENW_STATUS q st) = d5.reg (ENW_STATUS q st)) (f : Fld) :
      e.fld (ENW_STATUS q st) f = d5.fld (ENW_STATUS q st) f := fld_congr he f
  have hstatus : ((d7.setFld (ENW_MOD_STATUS q st) ENW_MOD_STATUS_STATUS (bytesAt b 21 1)).setFld (ENW_MOD_STATUS q st)
      ENW_MOD_STATUS_FAULT_CODE (bytesAt b 34 1)).reg (ENW_STATUS q st) = d5.reg (ENW_STATUS q st) := by
    have hne (e : Device) {x : Nat} (f : Fld) (v : Nat) (hx : ENW_STATUS q st ≠ x) :
        (e.setFld x f v).reg (ENW_STATUS q st) = e.reg (ENW_STATUS q st) := reg_setFld_ne e f v hx
    have hm : ENW_STATUS q st ≠ ENW_MOD_STATUS q st := by unfold ENW_STATUS ENW_MOD_STATUS; omega
    have hc1 : ENW_STATUS q st ≠ ENW_TLM_CNT1 q st := by unfold ENW_STATUS ENW_TLM_CNT1; omega
    have hc2 : ENW_STATUS q st ≠ ENW_TLM_CNT2 q st := by unfold ENW_STATUS ENW_TLM_CNT2; omega
    rw [hne _ _ _ hm, hne _ _ _ hm, hne _ _ _ hc2, hne _ _ _ hc2, hne _ _ _ hc1, hne _ _ _ hc1]
  refine ⟨(h7.setFld (by simp [frameRegs])).setFld (by simp [frameRegs]), ?_, ?_, ?_⟩
  · unfold Device.enState
    rw [fld_congr hstatus, hs5 _ (by decide) (by decide), hs3 _ (by decide) (by decide), fld_setFld_other _ _ _ (by decide) (by decide),
      fld_setFld_other _ _ _ (by decide) (by decide)]
    rfl
  · rw [fld_congr hstatus, hs5 _ (by decide) (by decide), hs3 _ (by decide) (by decide), fld_setFld_other _ _ _ (by decide) (by decide)]
    exact (fld_setFld_self d1 _ (by decide) _).trans (Nat.mod_eq_of_lt hlock)
  · have hne {x : Nat} (e : Device) (f : Fld) (v : Nat) (hx : ENW_TLM_CNT1 q st ≠ x) :
        (e.setFld x f v).fld (ENW_TLM_CNT1 q st) ENW_TLM_CNT1_HOLES = e.fld (ENW_TLM_CNT1 q st) ENW_TLM_CNT1_HOLES := fld_setFld_ne e f _ v hx
    have hm : ENW_TLM_CNT1 q st ≠ ENW_MOD_STATUS q st := by unfold ENW_TLM_CNT1 ENW_MOD_STATUS; omega
    have hc2 : ENW_TLM_CNT1 q st ≠ ENW_TLM_CNT2 q st := by unfold ENW_TLM_CNT1 ENW_TLM_CNT2; omega
    rw [hne _ _ _ hm, hne _ _ _ hm, hne _ _ _ hc2, hne _ _ _ hc2, fld_setFld_other _ _ _ (by decide) (by decide)]
    exact (fld_setFld_self d5 _ (by decide) _).trans (Nat.mod_eq_of_lt hholes)

end

/-! Enable and disable. -/

section

variable (d : Device) (q : Side) (st : Station)

theorem ctrl_ne_status : ENW_STATUS q st ≠ ENW_CTRL q st := by
  unfold ENW_STATUS ENW_CTRL
  omega

theorem enState_setCtrl (f : Fld) (b : Bool) : (d.setFlag (ENW_CTRL q st) f b).enState q st = d.enState q st :=
  enState_congr (reg_setFlag_ne d f b (ctrl_ne_status q st))

theorem ctrl_setEn (n : Nat) : (d.setEn q st n).reg (ENW_CTRL q st) = d.reg (ENW_CTRL q st) :=
  reg_setFld_ne d _ n (ctrl_ne_status q st).symm

theorem portOn_shows (h : d.flag (ENW_CTRL q st) ENW_CTRL_ENABLE = false) (hb : d.flag (ENW_CTRL q st) ENW_CTRL_BUSY = false) :
    (d.portOn q st).flag (ENW_CTRL q st) ENW_CTRL_ENABLE = true ∧
      (d.portOn q st).enState q st = if d.lanesLive q then enTraining else d.enState q st := by
  have hen := flag_setFlag_self d (ENW_CTRL q st) (f := ENW_CTRL_ENABLE) (by decide) (by decide) true
  have hbusy := (flag_setFlag_other d (ENW_CTRL q st) (f := ENW_CTRL_BUSY) (g := ENW_CTRL_ENABLE) true (by decide) (by decide)).trans hb
  have hpwr : PWR_DOM_STATUS ≠ ENW_CTRL q st := by
    unfold PWR_DOM_STATUS ENW_CTRL
    rcases base_eq q with hq | hq
    · omega
    · omega
  have hlanes : (d.setFlag (ENW_CTRL q st) ENW_CTRL_ENABLE true).lanesLive q = d.lanesLive q := by
    unfold Device.lanesLive Device.domainIsOn
    rw [fld_congr (reg_setFlag_ne d _ true hpwr), fld_congr (reg_setFlag_ne d _ true hpwr)]
  unfold Device.portOn
  rw [h, if_neg (by decide)]
  extract_lets d1
  rw [show d1.flag (ENW_CTRL q st) ENW_CTRL_BUSY = false from hbusy, show d1.lanesLive q = d.lanesLive q from hlanes]
  cases d.lanesLive q with
  | false => exact ⟨hen, enState_setCtrl d q st _ _⟩
  | true => exact ⟨(flag_congr ((reg_trainPort d1 q st _).trans (ctrl_setEn d1 q st enTraining)) _).trans hen, (trainPort_shows d1 q st).1⟩

theorem portOff_idle (h : d.flag (ENW_CTRL q st) ENW_CTRL_ENABLE = true) (hs : d.sends q st = false) :
    (d.portOff q st).enState q st = enOff ∧ (d.portOff q st).flag (ENW_CTRL q st) ENW_CTRL_ENABLE = false ∧
      (d.portOff q st).flag (ENW_CTRL q st) ENW_CTRL_BUSY = false ∧ OnlyRegs d (d.portOff q st) [ENW_CTRL q st, ENW_STATUS q st] := by
  unfold Device.portOff Device.portStopped
  rw [h, if_neg (by decide)]
  extract_lets busy d1 d2
  rw [show busy = false from hs, if_neg (by decide)]
  have hd1 : d1.flag (ENW_CTRL q st) ENW_CTRL_ENABLE = false := flag_setFlag_self d _ (by decide) (by decide) false
  have hctrl : d2.reg (ENW_CTRL q st) = (d1.setFlag (ENW_CTRL q st) ENW_CTRL_BUSY false).reg (ENW_CTRL q st) := ctrl_setEn _ q st enOff
  have hd2 : d2.flag (ENW_CTRL q st) ENW_CTRL_ENABLE = false :=
    (flag_congr hctrl _).trans ((flag_setFlag_other d1 _ _ (by decide) (by decide)).trans hd1)
  rw [if_neg (by simp [hd2])]
  exact ⟨enState_setEn _ q st (by decide), hd2, (flag_congr hctrl _).trans (flag_setFlag_self d1 _ (by decide) (by decide) false),
    (((OnlyRegs.refl d _).setFlag).setFlag).setFld⟩

theorem portOff_sending (h : d.flag (ENW_CTRL q st) ENW_CTRL_ENABLE = true) (hs : d.sends q st = true) :
    (d.portOff q st).enState q st = d.enState q st ∧ (d.portOff q st).flag (ENW_CTRL q st) ENW_CTRL_ENABLE = false ∧
      (d.portOff q st).flag (ENW_CTRL q st) ENW_CTRL_BUSY = true ∧ OnlyRegs d (d.portOff q st) [ENW_CTRL q st] := by
  unfold Device.portOff
  rw [h, if_neg (by decide)]
  extract_lets busy d1
  rw [show busy = true from hs, if_pos rfl]
  exact ⟨(enState_setCtrl d1 q st _ _).trans (enState_setCtrl d q st _ _),
    (flag_setFlag_other d1 _ _ (by decide) (by decide)).trans (flag_setFlag_self d _ (by decide) (by decide) false),
    flag_setFlag_self d1 _ (by decide) (by decide) true, ((OnlyRegs.refl d _).setFlag).setFlag⟩

/-- RETRAIN of an enabled port that is not off (R343). -/
theorem portRetrain_eq (h : d.flag (ENW_CTRL q st) ENW_CTRL_ENABLE = true) (hx : d.enState q st ≠ enOff) :
    d.portRetrain q st = if (d.print st).isSome then d.setPort q st { d.portS q st with retrain := true } else d.trainPort q st := by
  unfold Device.portRetrain
  rw [if_neg (by simp [h, hx])]

/-! Loop tokens (R344). -/

theorem portAgain_up (h : d.enState q st = enUp) : d.portAgain q st = d := by
  unfold Device.portAgain
  rw [if_neg (by simp [h, enUp, enDown])]

/-- The port with its next loop token. -/
def Device.nextToken (q : Side) (s : Nat) (d : Device) : PortS :=
  { d.portS q s with token := ((d.portS q s).token + 1) % 65536, tokenAt := d.now }

/-- What the loop tick sends. -/
def Device.tokenSent (q : Side) (s : Nat) (d : Device) : Device :=
  (d.setPort q s (d.nextToken q s)).sendBlocks q s [ctlBlock btLoop (leBytes 2 (((d.portS q s).token + 1) % 65536))]

theorem tokenSent_shows : ((d.tokenSent q st).portS q st).token = ((d.portS q st).token + 1) % 65536 ∧
    ((d.tokenSent q st).portS q st).tokenAt = d.now ∧
    ((d.tokenSent q st).portS q st).wire.getLast?.map (fun b => b.sync) = some 0b10 ∧ ∀ a, (d.tokenSent q st).reg a = d.reg a := by
  have hport : (d.tokenSent q st).portS q st =
      (d.nextToken q st).send (pk q st) [ctlBlock btLoop (leBytes 2 (((d.portS q st).token + 1) % 65536))] := by
    unfold Device.tokenSent Device.sendBlocks
    rw [portS_setPort, portS_setPort]
  obtain ⟨htoken, hat⟩ := token_of_kept (send_kept (d.nextToken q st) (pk q st) [ctlBlock btLoop (leBytes 2 (((d.portS q st).token + 1) % 65536))])
  rw [hport]
  exact ⟨htoken, hat, send_last _ _ _ _, fun _ => rfl⟩

theorem exec_loopTick_up (t : Nat) (s : State) (h : s.dev.enState q st = enUp) :
    exec (.loopTick t q st) s = s.run t fun d => d.tokenSent q st := by
  have h' : (s.dev.tick t).enState q st = enUp := h
  show execLoopTick t q st s = _
  unfold execLoopTick
  rw [run_eq, run_eq, portAgain_up _ q st h']
  dsimp only
  rw [if_pos (.inr (.inl h'))]
  rfl

/-! The head temperature in a frame of the Quarter that prints (R325). -/

/-- The marks of a head temperature in one Quarter (R324). -/
def Device.tempMarks (s : Nat) (temp warn limit hyst : Int) (derate : Nat) (q : Side) (d : Device) : Device :=
  let d := d.setFld (BMO_STATUS q s) BMO_STATUS_HEAD_TEMP (ofSigned 8 temp)
  let d := d.setFlag (BMO_STATUS q s) BMO_STATUS_TEMP_LIMIT (decide (limit ≤ temp))
  if warn ≤ temp then (d.setFlag (BMO_STATUS q s) BMO_STATUS_TEMP_WARN true).setFld (BMO_KSCALE q s) BMO_KSCALE_K_T derate
  else if temp < warn - hyst then (d.setFlag (BMO_STATUS q s) BMO_STATUS_TEMP_WARN false).setFld (BMO_KSCALE q s) BMO_KSCALE_K_T 16
  else d

theorem ofSigned_lt (w : Nat) (v : Int) : ofSigned w v < 2 ^ w := by
  have hpos : (0 : Int) < ((2 ^ w : Nat) : Int) := by exact_mod_cast Nat.two_pow_pos w
  have hlt := Int.emod_lt_of_pos v hpos
  unfold ofSigned
  omega

theorem tempMarks_shows (temp warn limit hyst : Int) (derate : Nat) :
    OnlyRegs d (d.tempMarks st temp warn limit hyst derate q) [BMO_STATUS q st, BMO_KSCALE q st] ∧
      (d.tempMarks st temp warn limit hyst derate q).fld (BMO_STATUS q st) BMO_STATUS_HEAD_TEMP = ofSigned 8 temp := by
  have hne : BMO_STATUS q st ≠ BMO_KSCALE q st := by
    unfold BMO_STATUS BMO_KSCALE
    omega
  have htemp : (d.setFld (BMO_STATUS q st) BMO_STATUS_HEAD_TEMP (ofSigned 8 temp)).fld (BMO_STATUS q st) BMO_STATUS_HEAD_TEMP = ofSigned 8 temp :=
    (fld_setFld_self d _ (by decide) _).trans (Nat.mod_eq_of_lt (ofSigned_lt 8 temp))
  unfold Device.tempMarks
  extract_lets d1 d2
  have h2 : OnlyRegs d d2 [BMO_STATUS q st, BMO_KSCALE q st] := ((OnlyRegs.refl d _).setFld).setFlag
  have hd2 : d2.fld (BMO_STATUS q st) BMO_STATUS_HEAD_TEMP = ofSigned 8 temp :=
    (fld_setFlag_other d1 _ _ (by decide) (by decide)).trans htemp
  have hmark (b : Bool) (k : Nat) : ((d2.setFlag (BMO_STATUS q st) BMO_STATUS_TEMP_WARN b).setFld (BMO_KSCALE q st) BMO_KSCALE_K_T k).fld
      (BMO_STATUS q st) BMO_STATUS_HEAD_TEMP = ofSigned 8 temp :=
    (fld_setFld_ne _ _ _ _ hne).trans ((fld_setFlag_other d2 _ _ (by decide) (by decide)).trans hd2)
  split
  · exact ⟨(h2.setFlag).setFld, hmark true derate⟩
  · split
    · exact ⟨(h2.setFlag).setFld, hmark false 16⟩
    · exact ⟨h2, hd2⟩

theorem headTemp_shows {temp : Int} (h : temp < toSigned 8 (d.fld (BMO_TEMP q st) BMO_TEMP_LIMIT)) :
    OnlyRegs d (d.headTemp q st temp) [BMO_STATUS .north st, BMO_KSCALE .north st, BMO_STATUS .south st, BMO_KSCALE .south st] ∧
      ∀ p, (d.headTemp q st temp).fld (BMO_STATUS p st) BMO_STATUS_HEAD_TEMP = ofSigned 8 temp := by
  unfold Device.headTemp
  extract_lets warn limit hyst derate d1
  rw [if_neg (fun c => absurd c.1 (by exact not_le.mpr h))]
  change OnlyRegs d ((d.tempMarks st temp warn limit hyst derate .north).tempMarks st temp warn limit hyst derate .south) _ ∧
    ∀ p, ((d.tempMarks st temp warn limit hyst derate .north).tempMarks st temp warn limit hyst derate .south).fld _ _ = _
  obtain ⟨hn, htn⟩ := tempMarks_shows d .north st temp warn limit hyst derate
  obtain ⟨hs, hts⟩ := tempMarks_shows (d.tempMarks st temp warn limit hyst derate .north) .south st temp warn limit hyst derate
  have hreg : BMO_STATUS .north st ∉ [BMO_STATUS .south st, BMO_KSCALE .south st] := by
    simp only [List.mem_cons, List.not_mem_nil, or_false, BMO_STATUS, BMO_KSCALE, show Side.base .north = 0x01000000 from rfl,
      show Side.base .south = 0x02000000 from rfl]
    have := st.isLt
    omega
  refine ⟨(hn.mono (by simp)).trans (hs.mono (by simp)), fun p => ?_⟩
  cases p with
  | north => exact (fld_congr (hs.reg hreg) _).trans htn
  | south => exact hts

/-! What a frame of a port in each state does (R340, R342 to R345). -/

variable (b : List Byte)

theorem portFrame_training (hx : d.enState q st = enTraining) (hl : bytesAt b 20 1 % 16 = 15) (hp : bytesAt b 1 1 = 1) :
    d.portFrame q st b = ((d.setEn q st enConfig).sendMessage q st 1 (helloPayload q st)).sendMessage q st 2 (d.codeTable st) := by
  unfold Device.portFrame
  rw [show d.enState q st = 1 from hx]
  exact if_pos ⟨hl, hp⟩

theorem reg_sendMessage (msg : Nat) (payload : List Byte) (a : Nat) : (d.sendMessage q st msg payload).reg a = d.reg a := rfl

/-- A port in TRAINING goes to CONFIG and keeps the other registers of the frame (R342). -/
theorem portFrame_toConfig (hx : d.enState q st = enTraining) (hl : bytesAt b 20 1 % 16 = 15) (hp : bytesAt b 1 1 = 1) :
    (d.portFrame q st b).enState q st = enConfig ∧
      (d.portFrame q st b).fld (ENW_STATUS q st) ENW_STATUS_LANE_LOCK = d.fld (ENW_STATUS q st) ENW_STATUS_LANE_LOCK ∧
      ((d.portFrame q st b).portS q st).kept = (d.portS q st).kept ∧ ∀ a, a ≠ ENW_STATUS q st → (d.portFrame q st b).reg a = d.reg a := by
  rw [portFrame_training d q st b hx hl hp]
  generalize hd1 : d.setEn q st enConfig = d1
  generalize hd2 : d1.sendMessage q st 1 (helloPayload q st) = d2
  have hreg (a : Nat) : (d2.sendMessage q st 2 (d.codeTable st)).reg a = d1.reg a := by
    rw [reg_sendMessage, ← hd2, reg_sendMessage]
  have hkept : ((d2.sendMessage q st 2 (d.codeTable st)).portS q st).kept = (d1.portS q st).kept := by
    rw [sendMessage_kept, ← hd2, sendMessage_kept]
  rw [enState_congr (hreg _), fld_congr (hreg _), hkept, ← hd1]
  exact ⟨enState_setEn d q st (by decide), fld_setFld_other d _ _ (by decide) (by decide), congrArg _ (portS_setEn d q st q st enConfig),
    fun a ha => by rw [hreg, ← hd1]; exact reg_setFld_ne d _ _ ha⟩

theorem portFrame_toUp (hx : d.enState q st = enConfig) (ht : (d.portS q st).tableOk = true) (he : d.echoDue q st = true)
    (hm : bytesAt b 4 2 = (d.portS q st).token) : (d.portFrame q st b).enState q st = enUp := by
  unfold Device.portFrame
  simp only [show d.enState q st = 2 from hx, ht, he, hm, beq_self_eq_true, Bool.and_self, if_true]
  exact enState_setEn _ q st (by decide)

theorem portFrame_toDown (hx : d.enState q st = enUp) (hl : bytesAt b 20 1 % 16 ≠ 15) : (d.portFrame q st b).enState q st = enDown := by
  unfold Device.portFrame
  simp only [show d.enState q st = 3 from hx]
  rw [if_pos hl, (portDown_shows d q st).1, if_pos hx]

/-! The port after a good frame, before its state machine takes it. -/

theorem frameTaken_port : (d.frameTaken q st b).portS q st = { d.portS q st with goodAt := d.now } := by
  rw [(frameTaken_shows d q st b).1.keeps (p := fun e => e.portS q st) fun _ => rfl]
  exact portS_setPort d q st _

theorem frameTaken_now : (d.frameTaken q st b).now = d.now := (frameTaken_shows d q st b).1.keeps (p := fun e => e.now) fun _ => rfl

theorem frameTaken_token : (d.frameTaken q st b).token = d.token := (frameTaken_shows d q st b).1.keeps (p := fun e => e.token) fun _ => rfl

theorem frameTaken_reg {a : Nat} (ha : a ∉ frameRegs q st) : (d.frameTaken q st b).reg a = d.reg a := (frameTaken_shows d q st b).1.reg ha

/-- A frame in the port's own Quarter that has no measurement and no new hole tells the head temperature alone. -/
theorem ownFrame_temp {holes : Nat} (hm : natBit (bytesAt b 21 1) 5 = false) (hh : bytesAt b 12 2 = holes) :
    d.ownFrame q st b holes = d.headTemp q st (toSigned 16 (bytesAt b 6 2) / 8) := by
  unfold Device.ownFrame
  extract_lets d1 d2
  rw [if_neg (by simp [hh])]
  exact if_neg (by simp [hm])

end

/-! The commands. -/

section

variable (t : Nat) (s : State) (q : Side) (st : Station)

theorem loopTick_completes (h : s.dev.enState q st = enUp) :
    Completes (.loopTick t q st) s fun e => (e.portS q st).token = ((s.dev.portS q st).token + 1) % 65536 ∧
      (e.portS q st).tokenAt = max s.dev.now t ∧ (e.portS q st).wire.getLast?.map (fun b => b.sync) = some 0b10 ∧ ∀ a, e.reg a = s.dev.reg a :=
  ⟨_, exec_loopTick_up q st t s h, rfl, rfl, tokenSent_shows (s.dev.tick t) q st⟩

theorem telemetryTimeout_completes (h : s.dev.enState q st = enUp) (hc : s.dev.checkFresh q ckTlmLoop) :
    Completes (.telemetryTimeout t q st) s fun e => e.enState q st = enDown ∧ e.flag (ENW_STATUS q st) ENW_STATUS_LOOP_ERR = true := by
  have h' : (s.dev.tick t).enState q st = enUp := h
  have hc' : (s.dev.tick t).checkFresh q ckTlmLoop := hc
  generalize hd : s.dev.tick t = d at h' hc'
  have hfresh : (d.portDown q st).checkFresh q ckTlmLoop := by
    unfold Device.portDown
    rw [if_pos h']
    exact checkFresh_ledgerEvent _ q (by decide) (checkFresh_setReg d q hc' (by unfold QTR_CHK ckTlmLoop ENW_STATUS; omega)) _ _ _ _
  obtain ⟨hstate, herr⟩ := loopMismatch_fresh _ q st hfresh
  refine ⟨_, rfl, rfl, rfl, ?_⟩
  dsimp only
  rw [hd, if_pos (.inl h'), hstate, (portDown_shows d q st).1, if_pos h']
  exact ⟨rfl, herr⟩

theorem telemetryFrame_badCrc (b : List Byte) (hcrc : crcGood b 56 = false) (hoff : s.dev.enState q st ≠ enOff)
    (hdown : s.dev.enState q st ≠ enDown) :
    Completes (.telemetryFrame t q st b) s fun e => e.enState q st = s.dev.enState q st ∧
      e.fld (ENW_TLM_CNT0 q st) ENW_TLM_CNT0_TLM_CRC = min (s.dev.fld (ENW_TLM_CNT0 q st) ENW_TLM_CNT0_TLM_CRC + 1) 65535 ∧
      OnlyRegs (s.dev.tick t) e [ENW_TLM_CNT0 q st] := by
  have hoff' : ¬ (s.dev.tick t).enState q st = enOff := hoff
  have hstate (d : Device) : (d.count (ENW_TLM_CNT0 q st) ENW_TLM_CNT0_TLM_CRC).enState q st = d.enState q st :=
    enState_congr (reg_setFld_ne d _ _ (by unfold ENW_STATUS ENW_TLM_CNT0; omega))
  have hdown' : ¬ ((s.dev.tick t).count (ENW_TLM_CNT0 q st) ENW_TLM_CNT0_TLM_CRC).enState q st = enDown := by
    rw [hstate]
    exact hdown
  refine ⟨_, rfl, rfl, rfl, ?_⟩
  dsimp only
  rw [if_neg hoff', if_pos (by simp [hcrc]), if_neg hdown']
  exact ⟨hstate _, fld_count_self (s.dev.tick t) _ (by decide), (OnlyRegs.refl _ _).addSat⟩

section

variable (b : List Byte) (hlen : b.length = 64) (htype : bytesAt b 0 1 = 0x11) (hcrc : crcGood b 56 = true)

include hlen htype hcrc

/-- A good frame of a port that does not carry the device's output. -/
theorem telemetryFrame_other {P : Device → Prop} (hoff : s.dev.enState q st ≠ enOff) (htok : s.dev.token ≠ some q)
    (hP : P (((s.dev.tick t).frameTaken q st b).portFrame q st b)) : Completes (.telemetryFrame t q st b) s P := by
  have htok' : ¬ ((s.dev.tick t).frameTaken q st b).token = some q := by
    rw [frameTaken_token]
    exact htok
  refine ⟨_, exec_telemetryFrame_good q st b t s hlen htype hcrc hoff, rfl, rfl, ?_⟩
  dsimp only
  rw [if_neg htok']
  exact hP

theorem telemetryFrame_toConfig (htok : s.dev.token ≠ some q) (hx : s.dev.enState q st = enTraining) (hl : bytesAt b 20 1 % 16 = 15)
    (hp : bytesAt b 1 1 = 1) :
    Completes (.telemetryFrame t q st b) s fun e => e.enState q st = enConfig ∧
      e.fld (ENW_STATUS q st) ENW_STATUS_LANE_LOCK = 15 ∧ (e.portS q st).goodAt = max s.dev.now t ∧
      e.fld (ENW_TLM_CNT1 q st) ENW_TLM_CNT1_HOLES = bytesAt b 12 2 := by
  refine telemetryFrame_other t s q st b hlen htype hcrc (by rw [hx]; decide) htok ?_
  obtain ⟨-, hstate, hlock, hholes⟩ := frameTaken_shows (s.dev.tick t) q st b
  have hport := frameTaken_port (s.dev.tick t) q st b
  generalize (s.dev.tick t).frameTaken q st b = f at hstate hlock hholes hport
  obtain ⟨hcfg, hlock', hkept, hreg⟩ := portFrame_toConfig f q st b (hstate.trans hx) hl hp
  have hgood : ((f.portFrame q st b).portS q st).goodAt = (f.portS q st).goodAt := goodAt_of_kept hkept
  refine ⟨hcfg, hlock'.trans (hlock.trans hl), ?_, ?_⟩
  · rw [hgood, hport]
    rfl
  · rw [fld_congr (hreg _ (by unfold ENW_TLM_CNT1 ENW_STATUS; omega)), hholes]

theorem telemetryFrame_toUp (htok : s.dev.token ≠ some q) (hx : s.dev.enState q st = enConfig) (ht : (s.dev.portS q st).tableOk = true)
    (he : (s.dev.portS q st).tokenAt + 16 * tuPerUs ≤ max s.dev.now t) (hm : bytesAt b 4 2 = (s.dev.portS q st).token) :
    Completes (.telemetryFrame t q st b) s fun e => e.enState q st = enUp := by
  refine telemetryFrame_other t s q st b hlen htype hcrc (by rw [hx]; decide) htok ?_
  obtain ⟨-, hstate, -, -⟩ := frameTaken_shows (s.dev.tick t) q st b
  have hport := frameTaken_port (s.dev.tick t) q st b
  refine portFrame_toUp _ q st b (hstate.trans hx) ?_ ?_ ?_
  · rw [hport]
    exact ht
  · unfold Device.echoDue
    rw [hport, frameTaken_now]
    exact decide_eq_true he
  · rw [hport]
    exact hm

theorem telemetryFrame_toDown (htok : s.dev.token ≠ some q) (hx : s.dev.enState q st = enUp) (hl : bytesAt b 20 1 % 16 ≠ 15) :
    Completes (.telemetryFrame t q st b) s fun e => e.enState q st = enDown := by
  refine telemetryFrame_other t s q st b hlen htype hcrc (by rw [hx]; decide) htok ?_
  obtain ⟨-, hstate, -, -⟩ := frameTaken_shows (s.dev.tick t) q st b
  exact portFrame_toDown _ q st b (hstate.trans hx) hl

/-- A good frame of the port that carries the output also gives the head's temperature to both Quarters. -/
theorem telemetryFrame_own (htok : s.dev.token = some q) (hx : s.dev.enState q st = enTraining) (hl : bytesAt b 20 1 % 16 = 15)
    (hp : bytesAt b 1 1 = 1) (hm : natBit (bytesAt b 21 1) 5 = false)
    (hh : bytesAt b 12 2 = s.dev.fld (ENW_TLM_CNT1 q st) ENW_TLM_CNT1_HOLES)
    (ht : toSigned 16 (bytesAt b 6 2) / 8 < toSigned 8 (s.dev.fld (BMO_TEMP q st) BMO_TEMP_LIMIT)) :
    Completes (.telemetryFrame t q st b) s fun e => e.enState q st = enConfig ∧
      ∀ p, e.fld (BMO_STATUS p st) BMO_STATUS_HEAD_TEMP = ofSigned 8 (toSigned 16 (bytesAt b 6 2) / 8) := by
  have hholes : bytesAt b 12 2 = (s.dev.tick t).holesBefore q st b := by
    unfold Device.holesBefore
    split
    · rfl
    · exact hh
  obtain ⟨-, hstate, -, -⟩ := frameTaken_shows (s.dev.tick t) q st b
  have htok' : ((s.dev.tick t).frameTaken q st b).token = some q := (frameTaken_token _ q st b).trans htok
  have hlim : ((s.dev.tick t).frameTaken q st b).fld (BMO_TEMP q st) BMO_TEMP_LIMIT = s.dev.fld (BMO_TEMP q st) BMO_TEMP_LIMIT :=
    fld_congr (frameTaken_reg _ q st b (by simp [frameRegs, BMO_TEMP, ENW_STATUS, ENW_MOD_BUF, ENW_TLM_CNT1, ENW_TLM_CNT2, ENW_MOD_STATUS])) _
  generalize hf : (s.dev.tick t).frameTaken q st b = f at hstate htok' hlim
  obtain ⟨hregs, htemp⟩ := headTemp_shows f q st (by rw [hlim]; exact ht)
  have hstatus (p : Side) (w : Side) : ENW_STATUS p st ≠ BMO_STATUS w st ∧ ENW_STATUS p st ≠ BMO_KSCALE w st := by
    unfold ENW_STATUS BMO_STATUS BMO_KSCALE
    have := st.isLt
    rcases base_eq p with hb | hb <;> rcases base_eq w with hb' | hb' <;> omega
  generalize hg : f.headTemp q st (toSigned 16 (bytesAt b 6 2) / 8) = g at hregs htemp
  have hx' : g.enState q st = enTraining := by
    rw [enState_congr (hregs.reg (by simp [hstatus])), hstate]
    exact hx
  obtain ⟨hcfg, -, -, hreg⟩ := portFrame_toConfig g q st b hx' hl hp
  refine ⟨_, exec_telemetryFrame_good q st b t s hlen htype hcrc (by rw [hx]; decide), rfl, rfl, ?_⟩
  dsimp only
  rw [hf, if_pos htok', ownFrame_temp f q st b hm hholes, hg]
  exact ⟨hcfg, fun p => by rw [fld_congr (hreg _ (hstatus q p).1.symm), htemp]⟩

end

theorem bringupTimeout_completes (h : s.dev.enState q st = enTraining ∨ s.dev.enState q st = enConfig) :
    Completes (.bringupTimeout t q st) s fun e => e.enState q st = enFailed := by
  have h' : (s.dev.tick t).enState q st = enTraining ∨ (s.dev.tick t).enState q st = enConfig := h
  refine ⟨_, rfl, rfl, rfl, ?_⟩
  dsimp only
  rw [if_pos h', enState_congr (enwStatus_ledgerEvent _ q st _ _ _ _)]
  exact enState_setEn _ q st (by decide)

theorem telemetryBlockLock_completes (h : s.dev.enState q st ≠ enOff) :
    Completes (.telemetryBlockLock t q st) s fun e => e.flag (ENW_STATUS q st) ENW_STATUS_TLM_LOCK = true ∧
      OnlyRegs (s.dev.tick t) e [ENW_STATUS q st] := by
  have h' : ¬ (s.dev.tick t).enState q st = enOff := h
  refine ⟨_, rfl, rfl, rfl, ?_⟩
  dsimp only
  rw [if_neg h']
  exact ⟨flag_setFlag_self _ _ (by decide) (by decide) true, (OnlyRegs.refl _ _).setFlag⟩

theorem tlmSyncLoss_completes :
    Completes (.tlmSyncLoss t q st) s fun e => e.flag (ENW_STATUS q st) ENW_STATUS_TLM_LOCK = false ∧
      e.enState q st = if s.dev.enState q st = enUp then enDown else s.dev.enState q st := by
  refine ⟨_, rfl, rfl, rfl, ?_⟩
  dsimp only
  obtain ⟨hstate, hlock⟩ := portDown_shows ((s.dev.tick t).setFlag (ENW_STATUS q st) ENW_STATUS_TLM_LOCK false) q st
  have hx : ((s.dev.tick t).setFlag (ENW_STATUS q st) ENW_STATUS_TLM_LOCK false).enState q st = s.dev.enState q st :=
    fld_setFlag_other _ _ _ (by decide) (by decide)
  rw [hx] at hstate
  exact ⟨hlock.trans (flag_setFlag_self _ _ (by decide) (by decide) false), hstate⟩

theorem retrain_completes (h : s.dev.flag (ENW_CTRL q st) ENW_CTRL_ENABLE = true) (hx : s.dev.enState q st ≠ enOff) :
    (s.dev.print st = none → Completes (.retrain t q st) s fun e => e.enState q st = enTraining ∧ (e.portS q st).tableOk = false) ∧
      ((s.dev.print st).isSome = true →
        Completes (.retrain t q st) s fun e => e.enState q st = s.dev.enState q st ∧ (e.portS q st).retrain = true) := by
  have heq := portRetrain_eq (s.dev.tick t) q st h hx
  refine ⟨fun hp => ⟨_, rfl, rfl, rfl, ?_⟩, fun hp => ⟨_, rfl, rfl, rfl, ?_⟩⟩
  · have hp' : ¬ ((s.dev.tick t).print st).isSome = true := by
      rw [show (s.dev.tick t).print st = none from hp]
      decide
    dsimp only
    rw [heq, if_neg hp']
    exact trainPort_shows _ q st
  · have hp' : ((s.dev.tick t).print st).isSome = true := hp
    dsimp only
    rw [heq, if_pos hp', portS_setPort, enState_setPort]
    exact ⟨rfl, rfl⟩

theorem bringupRetry_completes (h : s.dev.flag (ENW_CTRL q st) ENW_CTRL_ENABLE = true) (hx : s.dev.enState q st = enFailed) :
    Completes (.bringupRetry t q st) s fun e => e.enState q st = enTraining := by
  have h' : (s.dev.tick t).enState q st = enFailed ∧ (s.dev.tick t).flag (ENW_CTRL q st) ENW_CTRL_ENABLE = true := ⟨hx, h⟩
  refine ⟨_, rfl, rfl, rfl, ?_⟩
  dsimp only
  rw [if_pos h']
  exact (trainPort_shows _ q st).1

end

/-- Settles O35: bring-up follows the port's state machine frame by frame, and every other command changes that state, or nothing of it. -/
theorem portsComeUpAndGoDown : Obligations.PortsComeUpAndGoDown := by
  intro t s q st x
  refine ⟨fun h hb => ⟨_, rfl, rfl, rfl, portOn_shows (s.dev.tick t) q st h hb⟩,
    fun h => ⟨fun hs => ⟨_, rfl, rfl, rfl, portOff_idle (s.dev.tick t) q st h hs⟩,
      fun hs => ⟨_, rfl, rfl, rfl, portOff_sending (s.dev.tick t) q st h hs⟩, retrain_completes t s q st h, bringupRetry_completes t s q st h⟩,
    fun key bits => descramble_scramble bits key, bringupTimeout_completes t s q st, telemetryBlockLock_completes t s q st,
    tlmSyncLoss_completes t s q st, fun h => ⟨loopTick_completes t s q st h, telemetryTimeout_completes t s q st h⟩,
    fun b hlen htype => ⟨telemetryFrame_badCrc t s q st b, fun hcrc htok => ⟨?_, ?_, ?_⟩, ?_⟩⟩
  · exact telemetryFrame_toConfig t s q st b hlen htype hcrc htok
  · exact telemetryFrame_toUp t s q st b hlen htype hcrc htok
  · exact telemetryFrame_toDown t s q st b hlen htype hcrc htok
  · exact telemetryFrame_own t s q st b hlen htype

end Sys2Proof.Machine

end

section

set_option Elab.async false

namespace Sys2Proof.Machine

/-! # DMA channels (R51, R158 to R162): enable, disable, a run between memories, the read-back -/

/-! A change of a channel: its registers, and what the engine keeps beside them. -/

/-- Beside the channels' own state, nothing but the registers of `l` changes. -/
def ChannelOnly (d e : Device) (l : List Nat) : Prop := OnlyRegs { d with dma := e.dma } e l

namespace ChannelOnly

variable {d x : Device} {l : List Nat}

theorem refl (d : Device) (l : List Nat) : ChannelOnly d d l := OnlyRegs.refl d l

theorem setReg (h : ChannelOnly d x l) {a : Nat} {v : Word} (ha : a ∈ l := by simp) : ChannelOnly d (x.setReg a v) l := OnlyRegs.setReg h ha

theorem setFld (h : ChannelOnly d x l) {a : Nat} {f : Fld} {v : Nat} (ha : a ∈ l := by simp) : ChannelOnly d (x.setFld a f v) l := h.setReg ha

theorem setFlag (h : ChannelOnly d x l) {a : Nat} {f : Fld} {b : Bool} (ha : a ∈ l := by simp) : ChannelOnly d (x.setFlag a f b) l := h.setReg ha

theorem setChan (h : ChannelOnly d x l) {e : Engine} {c : Nat} {v : ChanS} : ChannelOnly d (x.setChan e c v) l := by
  obtain ⟨⟨r, hr⟩, hreg⟩ := h
  refine ⟨⟨r, ?_⟩, hreg⟩
  unfold Device.setChan Device.withDma
  rw [hr]

theorem reg (h : ChannelOnly d x l) {a : Nat} (ha : a ∉ l) : x.reg a = d.reg a := OnlyRegs.reg h ha

theorem trans {y : Device} (h : ChannelOnly d x l) (h' : ChannelOnly x y l) : ChannelOnly d y l := by
  obtain ⟨⟨r, hr⟩, hreg⟩ := h
  obtain ⟨⟨r', hr'⟩, hreg'⟩ := h'
  refine ⟨⟨r', ?_⟩, fun a ha => (hreg' a ha).trans (hreg a ha)⟩
  rw [hr] at hr'
  exact hr'

/-- A part of the device beside the registers and the channels stays. -/
theorem keeps {β : Type} (h : ChannelOnly d x l) {p : Device → β} (hp : ∀ m r, p { d with dma := m, regs := r } = p d) : p x = p d := by
  obtain ⟨⟨r, hr⟩, -⟩ := h
  rw [hr]
  exact hp _ _

end ChannelOnly

section

variable (d : Device) (e : Engine) (c : Nat)

@[simp] theorem reg_setChan (v : ChanS) (a : Nat) : (d.setChan e c v).reg a = d.reg a := rfl

@[simp] theorem flag_setChan (v : ChanS) (a : Nat) (f : Fld) : (d.setChan e c v).flag a f = d.flag a f := rfl

@[simp] theorem fld_setChan (v : ChanS) (a : Nat) (f : Fld) : (d.setChan e c v).fld a f = d.fld a f := rfl

@[simp] theorem nat_setChan (v : ChanS) (a : Nat) : (d.setChan e c v).nat a = d.nat a := rfl

theorem status_ne_ctrl : aly e c + alyStatus ≠ aly e c + alyCtrl := by simp [alyStatus, alyCtrl]

theorem count_ne_ctrl : aly e c + alyCount ≠ aly e c + alyCtrl := by simp [alyCount, alyCtrl]

theorem count_ne_status : aly e c + alyCount ≠ aly e c + alyStatus := by simp [alyCount, alyStatus]

theorem fld_setFlag_ne {a x : Nat} (f g : Fld) (b : Bool) (h : x ≠ a) : (d.setFlag a f b).fld x g = d.fld x g :=
  fld_congr (reg_setFlag_ne d f b h) g

/-- A channel that stops shows its error, and is not busy. -/
theorem dmaHalt_shows {err : Nat} (h : err < 16) :
    (d.dmaHalt e c err).fld (aly e c + alyStatus) ALYS_STATUS_ERR = err ∧ (d.dmaHalt e c err).dmaBusy e c = false ∧
      ChannelOnly d (d.dmaHalt e c err) [aly e c + alyCtrl, aly e c + alyStatus] := by
  unfold Device.dmaHalt Device.dmaBusy
  refine ⟨?_, ?_, (((ChannelOnly.refl d _).setFld).setFlag).setChan⟩
  · rw [fld_setChan, fld_setFlag_ne _ _ _ _ (status_ne_ctrl e c), fld_setFld_self d _ (by decide)]
    exact Nat.mod_eq_of_lt h
  · rw [flag_setChan]
    exact flag_setFlag_self _ _ (by decide) (by decide) false

/-- A channel that ends with no enable waiting for it shows its error, and DONE at the end of its count (R162). -/
theorem dmaEnd_shows {err : Nat} (h : err < 16) (hw : (d.chan e c).waits = false) :
    (d.dmaEnd e c err).fld (aly e c + alyStatus) ALYS_STATUS_ERR = err ∧ (d.dmaEnd e c err).dmaBusy e c = false ∧
      (err = 0 → (d.dmaEnd e c err).flag (aly e c + alyStatus) ALYS_STATUS_DONE = true) ∧
      ChannelOnly d (d.dmaEnd e c err) [aly e c + alyCtrl, aly e c + alyStatus] := by
  obtain ⟨herr, hbusy, hregs⟩ := dmaHalt_shows d e c h
  unfold Device.dmaEnd
  extract_lets waits d1 d2
  rw [show waits = false from hw, if_neg (by decide)]
  unfold d2
  split
  · refine ⟨?_, ?_, fun _ => flag_setFlag_self d1 _ (by decide) (by decide) true, hregs.setFlag⟩
    · rw [fld_setFlag_other d1 _ _ (by decide) (by decide)]
      exact herr
    · unfold Device.dmaBusy
      rw [flag_setFlag_ne d1 _ _ _ (status_ne_ctrl e c).symm]
      exact hbusy
  · next hc => exact ⟨herr, hbusy, fun h0 => absurd (.inl h0) hc, hregs⟩

/-! Enable and disable. -/

/-- A started channel has no error, or ERR_DECODE where COUNT does not fit the widths (R161). -/
theorem dmaStart_shows (hb : d.dmaBusy e c = false) :
    (d.countFits e c = true → (d.dmaStart e c).dmaBusy e c = false ∧ (d.dmaStart e c).fld (aly e c + alyStatus) ALYS_STATUS_ERR = 0 ∧
      (d.dmaStart e c).reg (aly e c + alyCtrl) = d.reg (aly e c + alyCtrl)) ∧
      (d.countFits e c = false → (d.dmaStart e c).dmaBusy e c = false ∧
        (d.dmaStart e c).fld (aly e c + alyStatus) ALYS_STATUS_ERR = deDecode) ∧
      ChannelOnly d (d.dmaStart e c) [aly e c + alyCtrl, aly e c + alyStatus] := by
  unfold Device.dmaStart
  extract_lets d1
  have hctrl : d1.reg (aly e c + alyCtrl) = d.reg (aly e c + alyCtrl) :=
    (reg_setChan _ e c _ _).trans (reg_setFld_ne d _ _ (status_ne_ctrl e c).symm)
  have hcount : d1.reg (aly e c + alyCount) = d.reg (aly e c + alyCount) :=
    (reg_setChan _ e c _ _).trans (reg_setFld_ne d _ _ (count_ne_status e c))
  have hfits : d1.countFits e c = d.countFits e c := by
    unfold Device.countFits Device.nat
    dsimp only
    rw [fld_congr hctrl, fld_congr hctrl, hcount]
  have hd1 : ChannelOnly d d1 [aly e c + alyCtrl, aly e c + alyStatus] := ((ChannelOnly.refl d _).setFld).setChan
  obtain ⟨herr, hbusy, hregs⟩ := dmaHalt_shows d1 e c (err := deDecode) (by decide)
  rw [hfits]
  cases d.countFits e c with
  | true => exact ⟨fun _ => ⟨(flag_congr hctrl _).trans hb, (fld_setChan _ e c _ _ _).trans (fld_setFld_self d _ (by decide) 0), hctrl⟩,
      fun h => absurd h (by decide), hd1⟩
  | false => exact ⟨fun h => absurd h (by decide), fun _ => ⟨hbusy, herr⟩,
      (((((ChannelOnly.refl d _).setFld).setChan).setFld).setFlag).setChan⟩

/-- The word that an enable leaves in the control register (R158). -/
def Device.ctrlWritten (e : Engine) (c : Nat) (ctrl : Word) (d : Device) : Device :=
  (d.setReg (aly e c + alyCtrl) ((ctrl ||| 0x80000000) &&& 0x80000E77)).setFlag (aly e c + alyCtrl) ALYS_CTRL_BUSY false

theorem dmaOn_eq (ctrl : Word) (hdev : deviceChannel e c = false) (hb : d.dmaBusy e c = false)
    (hen : d.flag (aly e c + alyCtrl) ALYS_CTRL_ENABLE = false) :
    d.dmaOn e c (ctrl ||| 0x80000000) = (d.ctrlWritten e c ctrl).dmaStart e c := by
  have hb' : d.flag (aly e c + alyCtrl) ALYS_CTRL_BUSY = false := hb
  unfold Device.dmaOn Device.ctrlWritten
  rw [if_neg (by simp [hdev])]
  extract_lets a busy was d1
  rw [show was = false from hen, if_neg (by decide), show busy = false from hb', if_neg (by decide)]
  unfold d1
  rw [show busy = false from hb']

theorem getLsbD_widths (ctrl : Word) {i : Nat} (h : i < 3 ∨ 4 ≤ i ∧ i < 7) :
    ((ctrl ||| 0x80000000) &&& 0x80000E77).getLsbD i = ctrl.getLsbD i := by
  rw [BitVec.getLsbD_and, BitVec.getLsbD_or]
  rcases h with h | h
  · interval_cases i <;> simp
  · obtain ⟨h1, h2⟩ := h
    interval_cases i <;> simp

/-- The two width fields of a control word are kept by its mask. -/
theorem width_masked (ctrl : Word) {f : Fld} (hf : f = ALYS_CTRL_SRC_W ∨ f = ALYS_CTRL_DST_W) :
    f.get ((ctrl ||| 0x80000000) &&& 0x80000E77) = f.get ctrl := by
  have hget (w : Word) : f.get w = (w.extractLsb' f.lo (f.hi + 1 - f.lo)).toNat := by
    rw [BitVec.extractLsb'_toNat, Nat.shiftRight_eq_div_pow]
    rfl
  rw [hget, hget]
  congr 1
  ext i hi
  rw [BitVec.getElem_extractLsb', BitVec.getElem_extractLsb']
  rcases hf with rfl | rfl
  · exact getLsbD_widths ctrl (.inl (by simp [ALYS_CTRL_SRC_W] at hi ⊢; omega))
  · exact getLsbD_widths ctrl (.inr (by simp [ALYS_CTRL_DST_W] at hi ⊢; omega))

theorem ctrlWritten_shows (ctrl : Word) :
    (d.ctrlWritten e c ctrl).flag (aly e c + alyCtrl) ALYS_CTRL_ENABLE = true ∧ (d.ctrlWritten e c ctrl).dmaBusy e c = false ∧
      ChannelOnly d (d.ctrlWritten e c ctrl) [aly e c + alyCtrl, aly e c + alyStatus] ∧
      (d.ctrlWritten e c ctrl).countFits e c =
        (d.nat (aly e c + alyCount) % max (widthBytes (ALYS_CTRL_SRC_W.get ctrl)) (widthBytes (ALYS_CTRL_DST_W.get ctrl)) == 0) := by
  have hwidth {f : Fld} (hf : f = ALYS_CTRL_SRC_W ∨ f = ALYS_CTRL_DST_W) :
      (d.ctrlWritten e c ctrl).fld (aly e c + alyCtrl) f = f.get ctrl := by
    unfold Device.ctrlWritten
    rw [fld_setFlag_other _ _ _ (by rcases hf with rfl | rfl <;> decide) (by rcases hf with rfl | rfl <;> decide)]
    unfold Device.fld
    rw [reg_setReg_self, width_masked ctrl hf]
  refine ⟨?_, flag_setFlag_self _ _ (by decide) (by decide) false, ((ChannelOnly.refl d _).setReg).setFlag, ?_⟩
  · unfold Device.ctrlWritten
    rw [flag_setFlag_other _ _ _ (by decide) (by decide)]
    unfold Device.flag Device.fld
    rw [reg_setReg_self]
    have hbit : ((ctrl ||| 0x80000000) &&& 0x80000E77).extractLsb' 31 1 = 1#1 := by
      ext i hi
      obtain rfl : i = 0 := by omega
      simp
    have hget : ALYS_CTRL_ENABLE.get ((ctrl ||| 0x80000000) &&& 0x80000E77) = 1 := by
      have := congrArg BitVec.toNat hbit
      rw [BitVec.extractLsb'_toNat, Nat.shiftRight_eq_div_pow] at this
      exact this
    rw [hget]
    rfl
  · have hcount : (d.ctrlWritten e c ctrl).reg (aly e c + alyCount) = d.reg (aly e c + alyCount) :=
      (reg_setFlag_ne _ _ _ (count_ne_ctrl e c)).trans (reg_setReg_ne d _ (count_ne_ctrl e c))
    unfold Device.countFits Device.nat
    dsimp only
    rw [hwidth (.inl rfl), hwidth (.inr rfl), hcount]

theorem dmaOn_shows (ctrl : Word) (hdev : deviceChannel e c = false) (hb : d.dmaBusy e c = false)
    (hen : d.flag (aly e c + alyCtrl) ALYS_CTRL_ENABLE = false) :
    let fits := d.nat (aly e c + alyCount) % max (widthBytes (ALYS_CTRL_SRC_W.get ctrl)) (widthBytes (ALYS_CTRL_DST_W.get ctrl)) = 0
    let x := d.dmaOn e c (ctrl ||| 0x80000000)
    (fits → x.flag (aly e c + alyCtrl) ALYS_CTRL_ENABLE = true ∧ x.dmaBusy e c = false ∧ x.fld (aly e c + alyStatus) ALYS_STATUS_ERR = 0) ∧
      (¬ fits → x.fld (aly e c + alyStatus) ALYS_STATUS_ERR = deDecode ∧ x.dmaBusy e c = false) ∧
      ChannelOnly d x [aly e c + alyCtrl, aly e c + alyStatus] := by
  intro fits x
  obtain ⟨henable, hbusy, hwritten, hfits⟩ := ctrlWritten_shows d e c ctrl
  obtain ⟨hok, hbad, hregs⟩ := dmaStart_shows (d.ctrlWritten e c ctrl) e c hbusy
  unfold x
  rw [dmaOn_eq d e c ctrl hdev hb hen]
  refine ⟨fun h => ?_, fun h => ?_, hwritten.trans hregs⟩
  · obtain ⟨hidle, herr, hctrl⟩ := hok (hfits.trans (beq_iff_eq.mpr h))
    exact ⟨(flag_congr hctrl _).trans henable, hidle, herr⟩
  · obtain ⟨hidle, herr⟩ := hbad (hfits.trans (beq_eq_false_iff_ne.mpr h))
    exact ⟨herr, hidle⟩

theorem dmaOff_shows (hdev : deviceChannel e c = false) :
    (d.dmaOff e c).flag (aly e c + alyCtrl) ALYS_CTRL_ENABLE = false ∧
      (d.dmaOff e c).nat (aly e c + alyCount) = d.nat (aly e c + alyCount) ∧ ChannelOnly d (d.dmaOff e c) [aly e c + alyCtrl] := by
  unfold Device.dmaOff
  rw [if_neg (by simp [hdev]), flag_setChan, nat_setChan]
  refine ⟨flag_setFlag_self d _ (by decide) (by decide) false, ?_, ((ChannelOnly.refl d _).setFlag).setChan⟩
  unfold Device.nat
  rw [reg_setFlag_ne d _ _ (count_ne_ctrl e c)]

end

/-! A run between the page store and host memory (R159, R160). -/

section

variable (d : Device)

theorem length_bytes (n : Nat) : ∀ a, (d.bytes a n).length = n := by
  induction n with
  | zero => intro a; rfl
  | succ n ih => intro a; exact congrArg (· + 1) (ih (a + 1))

theorem getD_bytes (n : Nat) : ∀ a i, i < n → (d.bytes a n).getD i 0 = d.byte (a + i) := by
  induction n with
  | zero => intro a i h; omega
  | succ n ih =>
    intro a i h
    cases i with
    | zero => rfl
    | succ i =>
      rw [show a + (i + 1) = a + 1 + i by omega]
      exact ih (a + 1) i (by omega)

theorem ownView_far (m : Master) {a : Nat} (h : 2 ^ 32 ≤ a) : ownView m a = a := by
  unfold ownView
  cases m with
  | quarter q => exact if_neg (by omega)
  | _ => rfl

theorem isReg_far {a : Nat} (h : 2 ^ 32 ≤ a) : isReg a = false := by
  unfold isReg
  rw [decide_eq_false (by omega)]
  rfl

/-- No address beyond the 32-bit map lies in a Quarter. -/
theorem crossing_far (m : Master) {a : Nat} (h : 2 ^ 32 ≤ a) : crossing m a = false := by
  have hlocal : localOf a = none := by
    unfold localOf
    rw [if_neg (by omega), if_neg (by omega)]
  have halias : aliasOf a = none := by
    unfold aliasOf
    rw [if_neg (by omega), if_neg (by omega)]
  unfold crossing foreignLocal
  rw [halias]
  cases m with
  | quarter q => simp [hlocal]
  | _ => rfl

/-- The bytes that a run from beyond the 32-bit map reads. -/
def Device.farBytes (a n : Nat) (data : List Byte) (d : Device) : List Byte :=
  if 2 ^ 63 ≤ a then (List.range n).map (fun k => data.getD k 0) else d.bytes a n

theorem dmaRead_far (f : Fuses) (m : Master) {a : Nat} (n : Nat) (data : List Byte) (h : 2 ^ 32 ≤ a) :
    d.dmaRead f m a n data = (d.farBytes a n data, d) := by
  unfold Device.dmaRead Device.farBytes
  rw [ownView_far m h]
  extract_lets a' x
  split
  · rfl
  · rw [if_neg (by rw [isReg_far h]; decide), if_neg (by unfold a'; omega)]

theorem length_farBytes (a n : Nat) (data : List Byte) : (d.farBytes a n data).length = n := by
  unfold Device.farBytes
  split
  · simp
  · exact length_bytes d n a

theorem getD_farBytes (a n : Nat) (data : List Byte) {i : Nat} (hi : i < n) :
    (d.farBytes a n data).getD i 0 = if 2 ^ 63 ≤ a then data.getD i 0 else d.byte (a + i) := by
  unfold Device.farBytes
  split
  · simp [hi]
  · exact getD_bytes d n a i hi

theorem dmaWrite_far (m : Master) {a : Nat} (l : List Byte) (h : 2 ^ 32 ≤ a) : d.dmaWrite m a l = d.setBytes a l := by
  unfold Device.dmaWrite
  rw [ownView_far m h]
  exact if_neg (by rw [isReg_far h]; decide)

theorem byte_congr {d e : Device} (h : d.mem = e.mem) (a : Nat) : d.byte a = e.byte a := by
  unfold Device.byte
  rw [h]

variable (f : Fuses) (e : Engine) (c n : Nat) (data : List Byte)

/-- The channel's registers after a run of all its bytes, which its read-back completes (R162). -/
def Device.runDone (e : Engine) (c n : Nat) (d : Device) : Device :=
  let a := aly e c
  let src := d.nat64 (a + alySrc)
  let dst := d.nat64 (a + alyDst)
  let d := (d.setNat64 (a + alySrc) ((src + n) % 2 ^ 64)).setNat64 (a + alyDst) ((dst + n) % 2 ^ 64)
  ((d.setNat (a + alyCount) 0).setFlag (a + alyCtrl) ALYS_CTRL_BUSY true).setChan e c
    { checked := true, run := some (ownView (engineMaster e) src, ownView (engineMaster e) dst) }

theorem runDone_shows : (d.runDone e c n).nat (aly e c + alyCount) = 0 ∧ (d.runDone e c n).dmaBusy e c = true ∧ (d.runDone e c n).mem = d.mem := by
  unfold Device.runDone Device.dmaBusy
  extract_lets a src dst d1
  refine ⟨?_, ?_, by unfold d1; simp [Device.setChan, Device.setNat64]⟩
  · rw [nat_setChan]
    unfold Device.nat
    rw [reg_setFlag_ne _ _ _ (count_ne_ctrl e c), reg_setNat_self]
    rfl
  · rw [flag_setChan]
    exact flag_setFlag_self _ _ (by decide) (by decide) true

theorem moveBytes_all (hn : d.nat (aly e c + alyCount) = n) (hs : 2 ^ 32 ≤ d.nat64 (aly e c + alySrc))
    (hd : 2 ^ 32 ≤ d.nat64 (aly e c + alyDst)) :
    d.moveBytes f e c n data =
      (d.runDone e c n).setBytes (d.nat64 (aly e c + alyDst)) (d.farBytes (d.nat64 (aly e c + alySrc)) n data) := by
  have hcount (v w : Nat) : ((d.setNat64 (aly e c + alySrc) v).setNat64 (aly e c + alyDst) w).nat (aly e c + alyCount) = n := by
    unfold Device.setNat64 Device.nat
    rw [reg_setNat_ne _ _ (by simp [alyCount, alyDst]), reg_setNat_ne _ _ (by simp [alyCount, alyDst]),
      reg_setNat_ne _ _ (by simp [alyCount, alySrc]), reg_setNat_ne _ _ (by simp [alyCount, alySrc])]
    exact hn
  unfold Device.moveBytes
  dsimp only
  rw [dmaRead_far d f _ n data hs]
  dsimp only
  rw [hcount, Nat.sub_self, if_pos rfl, dmaWrite_far _ _ _ hd]
  rfl

end

/-! Charging the run (R194). -/

section

variable (d : Device) (v : Nat) (m : Master) (a n : Nat)

/-- A device whose charges for ingest reach to another time. -/
def Device.withIngestDue (v : Nat) (d : Device) : Device := d.modPs fun p => { p with ingestDue := v }

theorem reach_withIngestDue : (d.withIngestDue v).reach m a = d.reach m a := rfl

theorem mapErr_withIngestDue : (d.withIngestDue v).mapErr m a = d.mapErr m a := by
  unfold Device.mapErr
  rw [reach_withIngestDue]

theorem storeOff_withIngestDue : (d.withIngestDue v).storeOff = d.storeOff := rfl

theorem fenced_withIngestDue : (d.withIngestDue v).fenced a = d.fenced a := rfl

theorem generalSpan_withIngestDue : (d.withIngestDue v).generalSpan a n = d.generalSpan a n := rfl

theorem spanErr_withIngestDue : (d.withIngestDue v).spanErr m a n = d.spanErr m a n := by
  unfold Device.spanErr
  rw [mapErr_withIngestDue, mapErr_withIngestDue, storeOff_withIngestDue, fenced_withIngestDue, generalSpan_withIngestDue]
  rfl

theorem chargeRun_eq (e : Engine) (c : Nat) : ∃ v, d.chargeRun e c n = d.withIngestDue v := by
  have hone (k : Nat) : ∃ v, d.chargeIngest k = d.withIngestDue v := by
    unfold Device.chargeIngest Device.withIngestDue Device.modPs
    exact ⟨_, rfl⟩
  have htwice (u k : Nat) : ∃ v, (d.withIngestDue u).chargeIngest k = d.withIngestDue v := by
    unfold Device.chargeIngest Device.withIngestDue Device.modPs
    exact ⟨_, rfl⟩
  obtain ⟨u, hu⟩ := hone (chargeOf n)
  unfold Device.chargeRun
  extract_lets one
  unfold one
  split
  · rw [hu]
    split
    · exact htwice u _
    · exact ⟨u, rfl⟩
  · split
    · exact ⟨u, hu⟩
    · exact ⟨d.ps.ingestDue, rfl⟩

/-- What only a channel changes after the charge. -/
theorem ChannelOnly.charged {d x : Device} {v : Nat} {l : List Nat} (h : ChannelOnly (d.withIngestDue v) x l) :
    OnlyRegs { d with dma := x.dma, ps := x.ps } x l := by
  obtain ⟨⟨r, hr⟩, hreg⟩ := h
  have hps : x.ps = (d.withIngestDue v).ps := by rw [hr]
  refine ⟨⟨r, ?_⟩, hreg⟩
  rw [hps]
  exact hr

end

/-! Where a run ends at once, and where it moves its bytes. -/

section

variable (d : Device) (e : Engine) (c : Nat)

theorem mapErr_lt (m : Master) (a : Nat) {err : Nat} (h : d.mapErr m a = some err) : err < 16 := by
  unfold Device.mapErr at h
  split at h
  · cases h
  · cases h
  · cases h
    decide
  · cases h
    decide

/-- Every error of a span is one of the errors of ALYS_STATUS.ERR. -/
theorem spanErr_lt (m : Master) (a n : Nat) {err : Nat} (h : d.spanErr m a n = some err) : err < 16 := by
  unfold Device.spanErr at h
  split at h
  · split at h
    · cases h
    · cases h
      decide
  · split at h
    · split at h
      · next x hx =>
          cases h
          exact mapErr_lt d m a hx
      · exact mapErr_lt d m _ h
    · split at h
      · split at h
        · cases h
          decide
        · split at h
          · cases h
            decide
          · split at h
            · cases h
              decide
            · cases h
      · cases h
        decide

/-- An access of host memory or the page store that fails is no decode miss (R49). -/
theorem spanLedger_memory (m : Master) {a : Nat} (n : Nat) (h : 2 ^ 63 ≤ a ∨ d.inStore a = true) : d.spanLedger m a n = d := by
  have hfar : 2 ^ 32 ≤ a := by
    rcases h with h | h
    · omega
    · have hbase := (Bool.and_eq_true_iff.mp h).1
      have := of_decide_eq_true hbase
      unfold storeBase at this
      omega
  unfold Device.spanLedger
  rw [if_pos hfar]
  refine if_neg fun hc => ?_
  obtain ⟨hlow, hout⟩ := hc
  rcases h with h | h
  · omega
  · unfold Device.inStore at h
    rw [h] at hout
    exact absurd hout (by decide)

theorem dmaRun_badSource (f : Fuses) (n : Nat) (data : List Byte) (fault : RunFault) {err : Nat}
    (h : d.spanErr (engineMaster e) (d.nat64 (aly e c + alySrc)) n = some err) :
    d.dmaRun f e c n data fault = (d.spanLedger (engineMaster e) (d.nat64 (aly e c + alySrc)) n).dmaEnd e c err := by
  unfold Device.dmaRun
  dsimp only
  rw [h]

theorem dmaRun_far (f : Fuses) (n : Nat) (data : List Byte) (h : d.spanErr (engineMaster e) (d.nat64 (aly e c + alySrc)) n = none)
    (hfar : 2 ^ 32 ≤ d.nat64 (aly e c + alyDst)) (h' : d.spanErr (engineMaster e) (d.nat64 (aly e c + alyDst)) n = none) :
    d.dmaRun f e c n data .none = d.moveBytes f e c n data := by
  unfold Device.dmaRun
  dsimp only
  rw [h]
  dsimp only
  rw [if_neg (by rw [crossing_far _ hfar]; decide), h']

theorem runLength_free (level : Nat) (mark : Bool) (h : d.fld (aly e c + alyCtrl) ALYS_CTRL_PACE_MODE = 0) :
    d.runLength e c level mark = d.nat (aly e c + alyCount) := by
  unfold Device.runLength
  dsimp only
  rw [h]
  rfl

end

section

variable (t : Nat) (s : State) (e : Engine) (c : Fin 16) (ready : BitVec 16) (data : List Byte) (level : Nat) (mark : Bool)
  (hmay : s.dev.mayRun e c = true) (hmode : s.dev.fld (aly e c + alyCtrl) ALYS_CTRL_PACE_MODE = 0)
  (hn : s.dev.nat (aly e c + alyCount) ≠ 0) (hbelow : s.dev.readyBelow e c ready.toNat = false)
  (hwait : ((s.dev.tick t).runInStore e c && (channelPort e c).any (s.dev.tick t).portWaits) = false)
  (hfit : (s.dev.chan e c).checked = true ∨ s.dev.countFits e c = true)

include hmay hmode hn hbelow hwait hfit

/-- A free-running run of a channel that may run, with no other in its way, starts with all its bytes. -/
theorem dmaRunStart_completes {P : Device → Prop}
    (hP : ∀ v, P (((s.dev.tick t).withIngestDue v).dmaRun s.fuses e c (s.dev.nat (aly e c + alyCount)) data .none)) :
    Completes (.dmaRunStart t e c ready level mark data .none) s P := by
  have hmay' : (s.dev.tick t).mayRun e c = true := hmay
  have hbelow' : (s.dev.tick t).readyBelow e c ready.toNat = false := hbelow
  have hlen : (s.dev.tick t).runLength e c level mark = s.dev.nat (aly e c + alyCount) := runLength_free _ e c level mark hmode
  have hstart : ¬ (!(s.dev.tick t).mayRun e c || (s.dev.tick t).readyBelow e c ready.toNat || s.dev.nat (aly e c + alyCount) == 0 ||
      ((s.dev.tick t).runInStore e c && (channelPort e c).any (s.dev.tick t).portWaits)) = true := by
    rw [hmay', hbelow', hwait]
    simp [hn]
  have hfits : ¬ (!((s.dev.tick t).chan e c).checked && !(s.dev.tick t).countFits e c) = true := by
    rcases hfit with h | h
    · rw [show ((s.dev.tick t).chan e c).checked = true from h, Bool.not_true, Bool.false_and]
      decide
    · rw [show (s.dev.tick t).countFits e c = true from h, Bool.not_true, Bool.and_false]
      decide
  obtain ⟨v, hv⟩ := chargeRun_eq (s.dev.tick t) (s.dev.nat (aly e c + alyCount)) e c
  refine ⟨_, rfl, rfl, rfl, ?_⟩
  dsimp only
  rw [hlen, if_neg hstart, if_neg hfits, hv]
  exact hP v

theorem dmaRunStart_moves (hs : 2 ^ 32 ≤ s.dev.nat64 (aly e c + alySrc)) (hd : 2 ^ 32 ≤ s.dev.nat64 (aly e c + alyDst))
    (hsrc : s.dev.spanErr (engineMaster e) (s.dev.nat64 (aly e c + alySrc)) (s.dev.nat (aly e c + alyCount)) = none)
    (hdst : s.dev.spanErr (engineMaster e) (s.dev.nat64 (aly e c + alyDst)) (s.dev.nat (aly e c + alyCount)) = none) :
    Completes (.dmaRunStart t e c ready level mark data .none) s fun d => d.nat (aly e c + alyCount) = 0 ∧ d.dmaBusy e c = true ∧
      (∀ i < s.dev.nat (aly e c + alyCount), d.byte (s.dev.nat64 (aly e c + alyDst) + i) =
        if 2 ^ 63 ≤ s.dev.nat64 (aly e c + alySrc) then data.getD i 0 else s.dev.byte (s.dev.nat64 (aly e c + alySrc) + i)) ∧
      ∀ x, x < s.dev.nat64 (aly e c + alyDst) ∨ s.dev.nat64 (aly e c + alyDst) + s.dev.nat (aly e c + alyCount) ≤ x →
        d.byte x = s.dev.byte x := by
  refine dmaRunStart_completes t s e c ready data level mark hmay hmode hn hbelow hwait hfit fun v => ?_
  have hspan (a k : Nat) : ((s.dev.tick t).withIngestDue v).spanErr (engineMaster e) a k = s.dev.spanErr (engineMaster e) a k :=
    spanErr_withIngestDue (s.dev.tick t) v (engineMaster e) a k
  have hnat (a : Nat) : ((s.dev.tick t).withIngestDue v).nat a = s.dev.nat a := rfl
  have hnat64 (a : Nat) : ((s.dev.tick t).withIngestDue v).nat64 a = s.dev.nat64 a := rfl
  have hbyte (a : Nat) : ((s.dev.tick t).withIngestDue v).byte a = s.dev.byte a := rfl
  generalize (s.dev.tick t).withIngestDue v = d at hspan hnat hnat64 hbyte ⊢
  simp only [← hspan, ← hnat, ← hnat64, ← hbyte] at hs hd hsrc hdst ⊢
  generalize hk : d.nat (aly e c + alyCount) = n at hsrc hdst ⊢
  obtain ⟨hcount, hbusy, hmem⟩ := runDone_shows d e c n
  rw [dmaRun_far d e c s.fuses n data hsrc hd hdst, moveBytes_all d s.fuses e c n data hk hs hd]
  have hlen := length_farBytes d (d.nat64 (aly e c + alySrc)) n data
  refine ⟨?_, ?_, fun i hi => ?_, fun x hx => ?_⟩
  · unfold Device.nat
    rw [reg_setBytes]
    exact hcount
  · unfold Device.dmaBusy
    rw [flag_congr (reg_setBytes _ _ _ _)]
    exact hbusy
  · rw [byte_setBytes_in _ _ _ _ (by rw [hlen]; exact hi), getD_farBytes d _ n data hi]
  · rw [byte_setBytes_out _ _ _ _ (by rw [hlen]; exact hx)]
    exact byte_congr hmem x

theorem dmaRunStart_badSource (hw : (s.dev.chan e c).waits = false) {err : Nat}
    (hmem : 2 ^ 63 ≤ s.dev.nat64 (aly e c + alySrc) ∨ s.dev.inStore (s.dev.nat64 (aly e c + alySrc)) = true)
    (herr : s.dev.spanErr (engineMaster e) (s.dev.nat64 (aly e c + alySrc)) (s.dev.nat (aly e c + alyCount)) = some err) :
    Completes (.dmaRunStart t e c ready level mark data .none) s fun d => d.fld (aly e c + alyStatus) ALYS_STATUS_ERR = err ∧
      d.dmaBusy e c = false ∧ OnlyRegs { s.dev.tick t with dma := d.dma, ps := d.ps } d [aly e c + alyCtrl, aly e c + alyStatus] := by
  refine dmaRunStart_completes t s e c ready data level mark hmay hmode hn hbelow hwait hfit fun v => ?_
  have herr' : ((s.dev.tick t).withIngestDue v).spanErr (engineMaster e) (s.dev.nat64 (aly e c + alySrc)) (s.dev.nat (aly e c + alyCount)) =
      some err := (spanErr_withIngestDue (s.dev.tick t) v _ _ _).trans herr
  have hled : ((s.dev.tick t).withIngestDue v).spanLedger (engineMaster e) (s.dev.nat64 (aly e c + alySrc)) (s.dev.nat (aly e c + alyCount)) =
      (s.dev.tick t).withIngestDue v := spanLedger_memory _ _ _ hmem
  have hsrc : ((s.dev.tick t).withIngestDue v).nat64 (aly e c + alySrc) = s.dev.nat64 (aly e c + alySrc) := rfl
  rw [dmaRun_badSource _ e c s.fuses _ data .none (by rw [hsrc]; exact herr'), hsrc, hled]
  obtain ⟨hshown, hbusy, -, hregs⟩ := dmaEnd_shows ((s.dev.tick t).withIngestDue v) e c (spanErr_lt s.dev _ _ _ herr) hw
  exact ⟨hshown, hbusy, hregs.charged⟩

end

/-! The read-back (R162). -/

section

variable (t : Nat) (s : State) (e : Engine) (c : Fin 16)

/-- The registers of a channel are not those of the domains. -/
theorem domStatus_ne_channel {o : Nat} (ho : o < 0x40) : PWR_DOM_STATUS ≠ aly e c + o := by
  have := c.isLt
  unfold PWR_DOM_STATUS aly ALYS_SRC_LO ALYQ_SRC_LO
  cases e with
  | shared =>
    dsimp only
    omega
  | quarter q =>
    dsimp only
    rcases base_eq q with hb | hb
    · omega
    · omega

/-- A channel at the end of its count ends with DONE, and no domain waits for it. -/
theorem readback_shows (d : Device) (hw : (d.chan e c).waits = false) (hdom : d.fld PWR_DOM_STATUS PWR_DOM_STATUS_BUSY = 0) :
    (d.dmaEnd e c 0).domainsSettle = d.dmaEnd e c 0 ∧ (d.dmaEnd e c 0).dmaBusy e c = false ∧
      (d.dmaEnd e c 0).flag (aly e c + alyStatus) ALYS_STATUS_DONE = true ∧ (d.dmaEnd e c 0).fld (aly e c + alyStatus) ALYS_STATUS_ERR = 0 ∧
      ChannelOnly d (d.dmaEnd e c 0) [aly e c + alyCtrl, aly e c + alyStatus] := by
  obtain ⟨herr, hbusy, hdone, hregs⟩ := dmaEnd_shows d e c (err := 0) (by decide) hw
  have hstatus : (d.dmaEnd e c 0).reg PWR_DOM_STATUS = d.reg PWR_DOM_STATUS :=
    hregs.reg (by simp [domStatus_ne_channel e c (show alyCtrl < 0x40 by decide), domStatus_ne_channel e c (show alyStatus < 0x40 by decide)])
  refine ⟨?_, hbusy, hdone rfl, herr, hregs⟩
  unfold Device.domainsSettle
  rw [if_pos ((fld_congr hstatus _).trans hdom)]

theorem dmaReadbackDone_completes (hb : s.dev.dmaBusy e c = true) (hn : s.dev.nat (aly e c + alyCount) = 0)
    (hw : (s.dev.chan e c).waits = false) (hdom : s.dev.fld PWR_DOM_STATUS PWR_DOM_STATUS_BUSY = 0) :
    Completes (.dmaReadbackDone t e c none) s fun d => d.dmaBusy e c = false ∧ d.flag (aly e c + alyStatus) ALYS_STATUS_DONE = true ∧
      d.fld (aly e c + alyStatus) ALYS_STATUS_ERR = 0 ∧
      OnlyRegs { s.dev.tick t with dma := d.dma } d [aly e c + alyCtrl, aly e c + alyStatus] := by
  have hends : (s.dev.tick t).dmaBusy e c = true ∧ (s.dev.tick t).nat (aly e c + alyCount) = 0 := ⟨hb, hn⟩
  obtain ⟨hsettle, hshows⟩ := readback_shows e c (s.dev.tick t) hw hdom
  refine ⟨_, rfl, rfl, rfl, ?_⟩
  dsimp only
  rw [if_pos hends, hsettle]
  exact hshows

/-- The page with the bytes of a RAW band, read and checked. -/
def IngestS.rawRead (y : IngestS) (st : Station) (b : Nat) (bytes : List (Nat × List Byte)) : IngestS :=
  { y with page := y.page.mapBand st b (fun z => { z with data := bytes, checked := 255 }) }

theorem recs_mapRecs (p : Page) (f : BandRec → BandRec) : (p.mapRecs f).recs = p.recs.map f := by
  unfold Page.mapRecs Page.recs
  cases p.second with
  | none => simp
  | some x => simp

theorem rawRead_recs (y : IngestS) (st : Station) (b : Nat) (bytes : List (Nat × List Byte)) {x : BandRec}
    (hx : x ∈ (y.rawRead st b bytes).page.recs) (hst : x.station = st.val) (hb : x.band = b) : x.checked = 255 ∧ x.data = bytes := by
  unfold IngestS.rawRead Page.mapBand at hx
  rw [recs_mapRecs] at hx
  obtain ⟨r, -, rfl⟩ := List.mem_map.mp hx
  by_cases hr : r.station = st.val ∧ r.band = b
  · rw [if_pos hr]
    exact ⟨rfl, rfl⟩
  · rw [if_neg hr] at hst hb
    exact absurd ⟨hst, hb⟩ hr

theorem bandRead_raw (d : Device) (st : Station) (b : Nat) (subs : List (List Byte)) {y : IngestS} {r : BandRec} (hy : d.host.ingest = [y])
    (hlive : y.live = true) (hhandle : y.page.handle ≠ 0) (hcrc : (y.page.sideOf b).crcEn = false) (hpaused : d.paused = false)
    (hfind : y.page.recs.find? (fun r => r.station == st.val && r.band == b && (r.format == 0) == true) = some r) (hstored : r.stored = false) :
    d.bandRead { page := 0, station := st, band := b, subs := subs } true = d.setIngest [y.rawRead st b (r.fill subs).data] := by
  unfold Device.bandRead
  rw [hy]
  dsimp only [Fin.val_zero, List.getElem?_cons_zero]
  rw [hfind]
  dsimp only
  rw [if_neg (by simp [hlive, hhandle, hstored, hpaused]), if_neg (by simp), if_neg (by simp [hcrc]), if_pos rfl]
  unfold Device.setIngestAt
  rw [hy]
  rfl

theorem dmaReadbackDone_rawBand (st : Station) (b : Nat) (subs : List (List Byte)) {y : IngestS} {r : BandRec} (he : e = .shared) (hc : c = 6)
    (hb : s.dev.dmaBusy e c = true) (hn : s.dev.nat (aly e c + alyCount) = 0) (hw : (s.dev.chan e c).waits = false)
    (hdom : s.dev.fld PWR_DOM_STATUS PWR_DOM_STATUS_BUSY = 0) (hy : s.dev.host.ingest = [y]) (hlive : y.live = true)
    (hhandle : y.page.handle ≠ 0) (hcrc : (y.page.sideOf b).crcEn = false) (hpaused : s.dev.paused = false)
    (hfind : y.page.recs.find? (fun r => r.station == st.val && r.band == b && (r.format == 0) == true) = some r) (hstored : r.stored = false) :
    Completes (.dmaReadbackDone t e c (some { page := 0, station := st, band := b, subs := subs })) s fun d => d.dmaBusy e c = false ∧
      ∃ z, d.host.ingest = [z] ∧ ∀ x ∈ z.page.recs, x.station = st.val → x.band = b → x.checked = 255 ∧ x.data = (r.fill subs).data := by
  subst he hc
  have hread := bandRead_raw (s.dev.tick t) st b subs hy hlive hhandle hcrc hpaused hfind hstored
  generalize hd : ((s.dev.tick t).setIngest [y.rawRead st b (r.fill subs).data]).setFlag (aly .shared (6 : Fin 16) + alyStatus) ALYS_STATUS_DONE true = d
  have hreg {a : Nat} (ha : a ≠ aly .shared (6 : Fin 16) + alyStatus) : d.reg a = s.dev.reg a := by
    rw [← hd, reg_setFlag_ne _ _ _ ha]
    rfl
  have hends : d.dmaBusy .shared (6 : Fin 16) = true ∧ d.nat (aly .shared (6 : Fin 16) + alyCount) = 0 := by
    unfold Device.dmaBusy Device.nat
    rw [flag_congr (hreg (status_ne_ctrl .shared (6 : Fin 16)).symm), hreg (count_ne_status .shared (6 : Fin 16))]
    exact ⟨hb, hn⟩
  have hwaits : (d.chan .shared (6 : Fin 16)).waits = false := by
    rw [← hd]
    exact hw
  have hdomain : d.fld PWR_DOM_STATUS PWR_DOM_STATUS_BUSY = 0 := (fld_congr (hreg (domStatus_ne_channel .shared (6 : Fin 16) (by decide))) _).trans hdom
  have hingest : d.host.ingest = [y.rawRead st b (r.fill subs).data] := by
    rw [← hd]
    rfl
  have hsix : (6 : Fin 16).val = 5 ∨ (6 : Fin 16).val = 6 := .inr rfl
  obtain ⟨hsettle, hidle, -, -, hregs⟩ := readback_shows .shared (6 : Fin 16) d hwaits hdomain
  refine ⟨_, rfl, rfl, rfl, ?_⟩
  simp only [hsix, show ((6 : Fin 16).val == 6) = true from rfl, hread, hd, hends, and_self, if_true, hsettle]
  refine ⟨hidle, _, ?_, fun x hx hst hband => rawRead_recs y st b (r.fill subs).data hx hst hband⟩
  rw [hregs.keeps (p := fun x => x.host.ingest) fun _ _ => rfl]
  exact hingest

end

theorem dmaChannelEnable_completes (t : Nat) (s : State) (e : Engine) (c : Fin 16) (ctrl : Word) (hdev : deviceChannel e c = false)
    (hb : s.dev.dmaBusy e c = false) (hen : s.dev.flag (aly e c + alyCtrl) ALYS_CTRL_ENABLE = false) :
    (s.dev.nat (aly e c + alyCount) % max (widthBytes (ALYS_CTRL_SRC_W.get ctrl)) (widthBytes (ALYS_CTRL_DST_W.get ctrl)) = 0 →
        Completes (.dmaChannelEnable t e c ctrl) s fun d => d.flag (aly e c + alyCtrl) ALYS_CTRL_ENABLE = true ∧ d.dmaBusy e c = false ∧
          d.fld (aly e c + alyStatus) ALYS_STATUS_ERR = 0 ∧
          OnlyRegs { s.dev.tick t with dma := d.dma } d [aly e c + alyCtrl, aly e c + alyStatus]) ∧
      (s.dev.nat (aly e c + alyCount) % max (widthBytes (ALYS_CTRL_SRC_W.get ctrl)) (widthBytes (ALYS_CTRL_DST_W.get ctrl)) ≠ 0 →
        Completes (.dmaChannelEnable t e c ctrl) s fun d => d.fld (aly e c + alyStatus) ALYS_STATUS_ERR = deDecode ∧ d.dmaBusy e c = false ∧
          OnlyRegs { s.dev.tick t with dma := d.dma } d [aly e c + alyCtrl, aly e c + alyStatus]) := by
  obtain ⟨hfit, hbad, hregs⟩ := dmaOn_shows (s.dev.tick t) e c ctrl hdev hb hen
  refine ⟨fun h => ⟨_, rfl, rfl, rfl, ?_⟩, fun h => ⟨_, rfl, rfl, rfl, ?_⟩⟩
  · obtain ⟨henable, hidle, herr⟩ := hfit h
    exact ⟨henable, hidle, herr, hregs⟩
  · obtain ⟨herr, hidle⟩ := hbad h
    exact ⟨herr, hidle, hregs⟩

/-- Settles O24: a channel's commands change its own registers, and a run between memories far beyond the 32-bit map moves bytes alone. -/
theorem dmaChannelsRun : Obligations.DmaChannelsRun := by
  intro t s e c a n src dst
  refine ⟨fun hdev => ⟨fun ctrl hb hen => ?_, ⟨_, rfl, rfl, rfl, dmaOff_shows (s.dev.tick t) e c hdev⟩⟩, ?_, ?_⟩
  · exact dmaChannelEnable_completes t s e c ctrl hdev hb hen
  · intro ready data level mark hmay hmode hn hbelow hwait hfit hw
    exact ⟨dmaRunStart_moves t s e c ready data level mark hmay hmode hn hbelow hwait hfit,
      fun err => dmaRunStart_badSource t s e c ready data level mark hmay hmode hn hbelow hwait hfit hw⟩
  · intro hb hn hw hdom
    refine ⟨dmaReadbackDone_completes t s e c hb hn hw hdom, ?_⟩
    intro st b subs y r he hc hy hlive hhandle hcrc hpaused hfind hstored
    exact dmaReadbackDone_rawBand t s e c st b subs he hc hb hn hw hdom hy hlive hhandle hcrc hpaused hfind hstored

end Sys2Proof.Machine

end

section

set_option Elab.async false

namespace Sys2Proof.Machine

/-! # Clock, thermal and unit commands (R42, R154, R513, R563, R583, R591, R599): what they leave

What the statement speaks of is one view of the device, and every function of those commands keeps that view. -/

/-- The registers of the Quarters outside their control loops, the device's own memory, the pages in ingest, the codec, the page store, the flash
and the tables. -/
structure UpkeepView where
  word : Nat → Word
  byte : Nat → Byte
  ingest : List IngestS
  arc : CodecS
  ps : StoreS
  flash : Flash
  tables : List (Nat × List Byte)

def Device.upkeepView (d : Device) : UpkeepView where
  word a := if a < 0x10000000 ∧ ¬ inLoops a then d.reg a else 0
  byte a := if a < 2 ^ 63 then d.byte a else 0
  ingest := d.host.ingest
  arc := d.arc
  ps := d.ps
  flash := d.flash
  tables := d.tables

section

variable (d : Device)

theorem upkeepView_setReg {a : Nat} (h : 0x10000000 ≤ a ∨ inLoops a) (v : Word) : (d.setReg a v).upkeepView = d.upkeepView := by
  have hword : (d.setReg a v).upkeepView.word = d.upkeepView.word := by
    funext x
    change (if x < 0x10000000 ∧ ¬ inLoops x then (d.setReg a v).reg x else 0) = if x < 0x10000000 ∧ ¬ inLoops x then d.reg x else 0
    split
    · next hx =>
        obtain ⟨hlow, hloops⟩ := hx
        refine reg_setReg_ne d v fun c => ?_
        subst c
        rcases h with h | h
        · omega
        · exact hloops h
    · rfl
  unfold Device.upkeepView at hword ⊢
  dsimp only at hword
  rw [hword]
  rfl

theorem upkeepView_setByte {a : Nat} (h : 2 ^ 63 ≤ a) (b : Byte) : (d.setByte a b).upkeepView = d.upkeepView := by
  have hbyte : (d.setByte a b).upkeepView.byte = d.upkeepView.byte := by
    funext x
    change (if x < 2 ^ 63 then (d.setByte a b).byte x else 0) = if x < 2 ^ 63 then d.byte x else 0
    split
    · next hx => exact byte_setByte_host hx d h b
    · rfl
  unfold Device.upkeepView at hbyte ⊢
  dsimp only at hbyte
  rw [hbyte]
  rfl

theorem upkeepView_modHost {f : HostIf → HostIf} (h : EventsOnly f) : (d.modHost f).upkeepView = d.upkeepView := by
  obtain ⟨-, -, hingest, -⟩ := h d.host
  unfold Device.upkeepView
  rw [show (d.modHost f).host.ingest = d.host.ingest from hingest]
  rfl

/-- Entry into Safe, a Kerb trigger and a ledger event keep the view. -/
theorem kerbKeeps_upkeepView (b : Nat) : KerbKeeps b Device.upkeepView where
  quarter _ ha e v := upkeepView_setReg e (.inr ha) v
  ledger _ ha e v := upkeepView_setReg e (.inl (ledgerRegs_shared ha)) v
  mem e _ b ha := upkeepView_setByte e ha b
  host e _ hf := upkeepView_modHost e hf
  ldg _ _ := rfl
  rgl _ _ := rfl
  mot _ _ := rfl
  axs _ _ := rfl
  bmo _ _ := rfl
  dlv _ _ := rfl
  tml _ _ := rfl
  own _ ha e v := upkeepView_setReg e (.inl (ledgerRegs_shared ha)) v
  safe _ ha e v := upkeepView_setReg e (.inl (safeRegs_shared ha)) v
  st _ _ := rfl
  krb _ _ := rfl
  stop e := upkeepView_setReg (Device.withTransfer ((e.modNorth QuarterS.quiet).modSouth QuarterS.quiet) none) (.inl (by decide)) 0

end

/-! The registers that those commands write lie in the shared core. -/

section

@[simp] theorem clkStatus_shared : 0x10000000 ≤ CLK_STATUS := by decide
@[simp] theorem clkFail_shared : 0x10000000 ≤ CLK_FAIL := by decide
@[simp] theorem clkMux_shared (n : Nat) : 0x10000000 ≤ CLK_MUX n := by unfold CLK_MUX; omega
@[simp] theorem clkGate_shared : 0x10000000 ≤ CLK_GATE := by decide
@[simp] theorem clkGateStatus_shared : 0x10000000 ≤ CLK_GATE_STATUS := by decide
@[simp] theorem clkSeq_shared : 0x10000000 ≤ CLK_SEQ := by decide
@[simp] theorem krbStatus_shared : 0x10000000 ≤ KRB_STATUS := by decide
@[simp] theorem thmStatus_shared : 0x10000000 ≤ THM_STATUS := by decide
@[simp] theorem thmZoneStatus_shared (z : Nat) : 0x10000000 ≤ THM_ZONE_STATUS z := by unfold THM_ZONE_STATUS; omega
@[simp] theorem thmZoneMax_shared (z : Nat) : 0x10000000 ≤ THM_ZONE_MAX z := by unfold THM_ZONE_MAX; omega
@[simp] theorem thmSensorFailLo_shared : 0x10000000 ≤ THM_SENSOR_FAIL_LO := by decide
@[simp] theorem thmSensorFailHi_shared : 0x10000000 ≤ THM_SENSOR_FAIL_HI := by decide
@[simp] theorem thmSensorTemp_shared (k : Nat) : 0x10000000 ≤ THM_SENSOR_TEMP k := by unfold THM_SENSOR_TEMP; omega
@[simp] theorem thmEnfCnt_shared : 0x10000000 ≤ THM_ENF_CNT := by decide
@[simp] theorem cfgUpdStatus_shared : 0x10000000 ≤ CFG_UPD_STATUS := by decide
@[simp] theorem cnsStatus_shared (s : Nat) : 0x10000000 ≤ CNS_STATUS s := by unfold CNS_STATUS; omega

end

/-- The view is that of `v`. -/
def Upkeeps (v : UpkeepView) (d : Device) : Prop := d.upkeepView = v

namespace Upkeeps

variable {v : UpkeepView} {d e : Device}

/-! Shared operations. -/

theorem ite {c : Prop} [Decidable c] (h : Upkeeps v d) (h' : Upkeeps v e) : Upkeeps v (if c then d else e) := by
  split
  · exact h
  · exact h'

theorem each {α : Type} {l : List α} {f : α → Device → Device} (h : Upkeeps v d) (hf : ∀ x e, Upkeeps v e → Upkeeps v (f x e)) :
    Upkeeps v (d.each l f) := each_inv hf l d h

theorem setReg (h : Upkeeps v d) {a : Nat} {w : Word} (ha : 0x10000000 ≤ a := by simp) : Upkeeps v (d.setReg a w) :=
  (upkeepView_setReg d (.inl ha) w).trans h

theorem setFld (h : Upkeeps v d) {a : Nat} {f : Fld} {n : Nat} (ha : 0x10000000 ≤ a := by simp) : Upkeeps v (d.setFld a f n) := h.setReg ha

theorem setFlag (h : Upkeeps v d) {a : Nat} {f : Fld} {b : Bool} (ha : 0x10000000 ≤ a := by simp) : Upkeeps v (d.setFlag a f b) := h.setReg ha

theorem count (h : Upkeeps v d) {a : Nat} {f : Fld} (ha : 0x10000000 ≤ a := by simp) : Upkeeps v (d.count a f) := h.setReg ha

theorem maxFld (h : Upkeeps v d) {a : Nat} {f : Fld} {n : Nat} (ha : 0x10000000 ≤ a := by simp) : Upkeeps v (d.maxFld a f n) := h.setReg ha

theorem modClk (h : Upkeeps v d) {f : ClockS → ClockS} : Upkeeps v (d.modClk f) := h

theorem modThm (h : Upkeeps v d) {f : ThermS → ThermS} : Upkeeps v (d.modThm f) := h

theorem modCns (h : Upkeeps v d) {f : CnsS → CnsS} : Upkeeps v (d.modCns f) := h

theorem reply (h : Upkeeps v d) {r : Resp} : Upkeeps v (d.reply r) := h

theorem tick (h : Upkeeps v d) {t : Nat} : Upkeeps v (d.tick t) := h

theorem post (h : Upkeeps v d) {typ : Nat} {nmi : Bool} {code wsn data : Nat} : Upkeeps v (d.post typ nmi code wsn data) :=
  have k := (kerbKeeps_upkeepView 0).toSafeKeeps
  (post_keeps d k.post k.mem k.host typ nmi code wsn data).trans h

theorem setSt (h : Upkeeps v d) {n : DevState} : Upkeeps v (d.setSt n) :=
  have k := kerbKeeps_upkeepView 0
  (setSt_keeps d k.toSafeKeeps.post k.mem k.host k.st n).trans h

theorem ledgerBase (h : Upkeeps v d) {b o x y : Nat} : Upkeeps v (d.ledgerBase b o x y) :=
  have k := kerbKeeps_upkeepView b
  (ledgerBase_keeps d k.own k.mem k.host k.ldg o x y).trans h

theorem ledgerEvent (h : Upkeeps v d) {b o x y : Nat} : Upkeeps v (d.ledgerEvent b o x y) :=
  (ledgerEvent_keeps d (kerbKeeps_upkeepView b) (kerbKeeps_upkeepView ktLedger) o x y).trans h

theorem kerbTrigger (h : Upkeeps v d) {t o x : Nat} : Upkeeps v (d.kerbTrigger t o x) :=
  (kerbTrigger_keeps d t (kerbKeeps_upkeepView t) o x).trans h

theorem setLive (h : Upkeeps v d) {t : Nat} {b : Bool} : Upkeeps v (d.setLive t b) := h.setFld

theorem settle (h : Upkeeps v d) : Upkeeps v d.settle := ite h.setSt h

theorem enterDraining (h : Upkeeps v d) : Upkeeps v d.enterDraining := ite h.setSt.settle h

/-! Clocks. -/

theorem forcePath (h : Upkeeps v d) {n : Nat} : Upkeeps v (d.forcePath n) := by
  unfold Device.forcePath
  extract_lets iosc d1
  have h1 : Upkeeps v d1 := h.modClk.setFlag
  exact ite h1 h1.setFlag

theorem classA (h : Upkeeps v d) {m : Nat} : Upkeeps v (d.classA m) := h.modClk.setFlag.setLive.ledgerBase.kerbTrigger

/-- A failure of REFCLK is a Class A failure (R519). -/
theorem declareFailed_refclk (h : Upkeeps v d) : Upkeeps v (d.declareFailed 0) := by
  unfold Device.declareFailed
  split
  · exact h
  · extract_lets d1 d2 d3
    have h2 : Upkeeps v d2 := h.modClk.setFld
    have h3 : Upkeeps v d3 := each h2 fun _ _ h => ite h.forcePath h
    exact h3.classA

theorem muxSelect (h : Upkeeps v d) {n : Nat} {sel : Bool} : Upkeeps v (d.muxSelect n sel) := by
  unfold Device.muxSelect
  split
  · exact h
  · extract_lets d1 d2
    have h1 : Upkeeps v d1 := h.setFlag
    have h2 : Upkeeps v d2 := h1.setFlag
    exact ite h1 (ite h2 h2.setFlag)

theorem muxForce (h : Upkeeps v d) {n : Nat} {sel : Bool} : Upkeeps v (d.muxForce n sel) :=
  ite (ite h h.setFlag).forcePath h.setFlag

theorem gateClose (h : Upkeeps v d) {g : Nat} : Upkeeps v (d.gateClose g) := ite h (ite h.setFld h.setFld.setFld)

theorem opStart (h : Upkeeps v d) {x : OpDomain} {high : Bool} : Upkeeps v (d.opStart x high) := by
  unfold Device.opStart
  extract_lets keep d1 d2
  have h2 : Upkeeps v d2 := h.modClk.setFlag
  exact ite h (ite h2 h2.setFlag)

/-! Thermal management. -/

theorem slowDown (h : Upkeeps v d) : Upkeeps v d.slowDown := by
  unfold Device.slowDown
  extract_lets f was old d1 d2 d3 d4
  have h1 : Upkeeps v d1 := h.setFlag
  have h2 : Upkeeps v d2 := h1.setFld
  have h3 : Upkeeps v d3 := h2.setFlag.setFlag
  have h4 : Upkeeps v d4 := h1.setFlag.setFlag.setFlag
  exact ite (ite (ite h2 h2.post) h3.modThm.post) (ite h4.setFld.post h1)

theorem holdWrites (h : Upkeeps v d) : Upkeeps v d.holdWrites := by
  unfold Device.holdWrites
  extract_lets d1
  have h1 : Upkeeps v d1 := h.setFlag
  split
  · exact ite h1.setFld h1
  · exact h1

theorem writeHold (h : Upkeeps v d) {z : Nat} {t : Option Int} {failed : Bool} : Upkeeps v (d.writeHold z t failed) := by
  unfold Device.writeHold
  split
  · exact h
  · split
    · exact ite h.holdWrites h
    · exact ite h.holdWrites (ite h.setFlag h)

theorem setLevel (h : Upkeeps v d) {z n : Nat} : Upkeeps v (d.setLevel z n) := by
  unfold Device.setLevel
  extract_lets old d1 d2 d3 d4
  have h1 : Upkeeps v d1 := h.setFld
  have h2 : Upkeeps v d2 := ite h1.ledgerEvent h1
  have h3 : Upkeeps v d3 := ite h2.ledgerEvent h2
  have h4 : Upkeeps v d4 := h3.slowDown
  exact ite (ite h4.setFlag.ledgerEvent.setLive.kerbTrigger h4) h4

theorem thermalLive (h : Upkeeps v d) : Upkeeps v d.thermalLive := ite h h.setLive

theorem evalZone (h : Upkeeps v d) {z : Nat} : Upkeeps v (d.evalZone z) := by
  unfold Device.evalZone
  extract_lets e d1
  have h1 : Upkeeps v d1 := h.setFlag.writeHold
  split
  · exact h
  · split
    · exact h1.setLevel.thermalLive
    · split
      · exact h
      · extract_lets d2 d3 d4 d5 l l'
        have h3 : Upkeeps v d3 := h.setFlag.setFld.modThm
        have h4 : Upkeeps v d4 := ite h3.setFld h3
        have h5 : Upkeeps v d5 := h4.writeHold
        exact h5.setLevel.thermalLive

theorem evalZonesOf (h : Upkeeps v d) {k : Nat} : Upkeeps v (d.evalZonesOf k) := each h fun _ _ h => h.evalZone

theorem setSensor (h : Upkeeps v d) {k : Nat} {x : SensorS} : Upkeeps v (d.setSensor k x) := h

theorem sensorFail (h : Upkeeps v d) {k : Nat} {b : Bool} : Upkeeps v (d.sensorFail k b) := ite h.setReg h.setReg

theorem breakSensor (h : Upkeeps v d) {k : Nat} : Upkeeps v (d.breakSensor k) := by
  unfold Device.breakSensor
  extract_lets x d1
  have h1 : Upkeeps v d1 := h.setSensor
  exact ite h1 h1.sensorFail.ledgerEvent.evalZonesOf

theorem sampleSensor (h : Upkeeps v d) {k : Nat} {r : Int} {valid : Bool} : Upkeeps v (d.sampleSensor k r valid) := by
  unfold Device.sampleSensor
  split
  · exact h
  · extract_lets _ d1 d2
    have h1 : Upkeeps v d1 := h.setSensor.sensorFail
    have h2 : Upkeeps v d2 := h.setSensor
    split
    · exact h.breakSensor
    · split
      · split
        · exact h.setSensor
        · exact ite h1.setFld.evalZonesOf h.setSensor
      · exact h2.setFld.evalZonesOf

theorem evalRise (h : Upkeeps v d) {z : Nat} {m : Int} : Upkeeps v (d.evalRise z m) := by
  unfold Device.evalRise
  extract_lets e hist d1
  have h1 : Upkeeps v d1 := h.modThm
  split
  · exact h
  · split
    · exact h1
    · extract_lets rate d2 fast up down d3 t d4
      have h3 : Upkeeps v d3 := h1.setFld.modThm
      have h4 : Upkeeps v d4 := ite h3.setFlag (ite h3.setFlag h3)
      exact h4.evalZone

theorem riseOf (h : Upkeeps v d) {z : Nat} : Upkeeps v (d.riseOf z) := ite h h.modThm.evalRise

/-! Imaging units. -/

theorem unitFault (h : Upkeeps v d) {s : Nat} {f : Fld} : Upkeeps v (d.unitFault s f) := h.setFlag.ledgerEvent

theorem writeCount (h : Upkeeps v d) {s : Nat} : Upkeeps v (d.writeCount s) := by
  unfold Device.writeCount
  extract_lets _ _ _ _ d1
  have h1 : Upkeeps v d1 := h.setFlag
  exact ite h1.modCns h1.modCns

end Upkeeps

/-! The commands. -/

/-- A device with the view of `d` agrees with it in all that the statement names. -/
theorem upkeeps_shows {d e : Device} (h : Upkeeps d.upkeepView e) :
    (∀ a, 0x01000000 ≤ a → a < 0x03000000 → inControlLoops a = false → e.reg a = d.reg a) ∧
      (∀ a, a < 2 ^ 63 → e.byte a = d.byte a) ∧ e.host.ingest = d.host.ingest ∧ e.arc = d.arc ∧ e.ps = d.ps ∧
      e.flash = d.flash ∧ e.tables = d.tables := by
  refine ⟨fun a _ hhigh hloops => ?_, fun a ha => ?_, congrArg UpkeepView.ingest h, congrArg UpkeepView.arc h, congrArg UpkeepView.ps h,
    congrArg UpkeepView.flash h, congrArg UpkeepView.tables h⟩
  · have hout : ¬ inLoops a := by
      intro hin
      have : inControlLoops a = true := by
        unfold inControlLoops
        rw [Bool.or_eq_true, Bool.and_eq_true, Bool.and_eq_true, decide_eq_true_eq, decide_eq_true_eq, decide_eq_true_eq, decide_eq_true_eq]
        exact hin
      rw [this] at hloops
      cases hloops
    have hq : a < 0x10000000 ∧ ¬ inLoops a := ⟨by omega, hout⟩
    have hword := congrFun (congrArg UpkeepView.word h) a
    unfold Device.upkeepView at hword
    dsimp only at hword
    rw [if_pos hq, if_pos hq] at hword
    exact hword
  · have hbyte := congrFun (congrArg UpkeepView.byte h) a
    unfold Device.upkeepView at hbyte
    dsimp only at hbyte
    rw [if_pos ha, if_pos ha] at hbyte
    exact hbyte

theorem upkeep_completes (c : Instr) (s : State) (hc : ofSharedUpkeep c = true) : Completes c s (Upkeeps s.dev.upkeepView) := by
  have h (t : Nat) : Upkeeps s.dev.upkeepView (s.dev.tick t) := Upkeeps.tick rfl
  cases c with
  | refclkMissingEdge t =>
    refine ⟨_, rfl, rfl, rfl, ?_⟩
    exact (h t).declareFailed_refclk
  | ioscReady t =>
    refine ⟨_, rfl, rfl, rfl, ?_⟩
    exact (h t).modClk.setFlag.setFlag
  | ioscRestart t =>
    refine ⟨_, rfl, rfl, rfl, ?_⟩
    exact .ite (h t).setFlag (h t)
  | classAWaitEnd t =>
    refine ⟨_, rfl, rfl, rfl, ?_⟩
    exact .ite (h t).setFlag.setLive.modClk (h t)
  | clockReturn t n =>
    refine ⟨_, rfl, rfl, rfl, ?_⟩
    exact .ite (h t).setFlag.setFlag.setFlag (h t)
  | muxSelect t n value =>
    refine ⟨_, rfl, rfl, rfl, ?_⟩
    exact (h t).muxSelect
  | muxSwitchDone t n =>
    refine ⟨_, rfl, rfl, rfl, ?_⟩
    exact .ite (h t).forcePath (h t)
  | muxStallTimeout t n =>
    refine ⟨_, rfl, rfl, rfl, ?_⟩
    exact .ite (h t).setFlag.ledgerEvent (h t)
  | muxForce t n value =>
    refine ⟨_, rfl, rfl, rfl, ?_⟩
    exact (h t).muxForce
  | gateClose t g =>
    refine ⟨_, rfl, rfl, rfl, ?_⟩
    exact (h t).gateClose
  | gateCloseTimeout t g =>
    refine ⟨_, rfl, rfl, rfl, ?_⟩
    exact .ite (h t).setFld.setFld.modClk.ledgerEvent.reply (h t)
  | opPointChange t x high =>
    refine ⟨_, rfl, rfl, rfl, ?_⟩
    exact .ite (h t).setFlag.modClk (h t).opStart
  | voltageStepDone t took =>
    refine ⟨_, rfl, rfl, rfl, ?_⟩
    have h := h t
    generalize s.dev.tick t = d at h
    dsimp only
    split
    · exact h
    · split
      · exact (Upkeeps.ite h.maxFld.setFlag h.maxFld).modClk.setFlag.setFlag.opStart
      · exact (Upkeeps.ite h.maxFld.setFlag h.maxFld).modClk.setFlag.setFlag
  | sensorSample t k reading valid =>
    refine ⟨_, rfl, rfl, rfl, ?_⟩
    have h := h t
    generalize s.dev.tick t = d at h
    dsimp only
    split
    · exact h.sampleSensor
    · exact h.sampleSensor
  | riseEvaluation t =>
    refine ⟨_, rfl, rfl, rfl, ?_⟩
    dsimp only
    exact (h t).each fun _ _ h => h.riseOf
  | graceEnd t =>
    refine ⟨_, rfl, rfl, rfl, ?_⟩
    have h := h t
    generalize s.dev.tick t = d at h
    exact .ite h.setFlag.setFlag.modThm.post h
  | enforcementStop t =>
    refine ⟨_, rfl, rfl, rfl, ?_⟩
    exact .ite (h t).setFlag.count.ledgerEvent.enterDraining (h t)
  | stoppedClear t =>
    refine ⟨_, rfl, rfl, rfl, ?_⟩
    exact .ite (h t) (h t).setFlag
  | authResponseRead t st response =>
    refine ⟨_, rfl, rfl, rfl, ?_⟩
    have h := h t
    generalize s.dev.tick t = d at h
    dsimp only
    split
    · exact h
    · exact .ite h.modCns.setFlag h.modCns.unitFault
  | writebackResume t =>
    refine ⟨_, rfl, rfl, rfl, ?_⟩
    dsimp only
    exact .ite (h t) ((h t).each fun _ _ h => h.writeCount)
  | _ => cases hc

/-- Settles O57: every function of those commands keeps the view that the statement speaks of. -/
theorem upkeepCommandsKeepTheQuarters : Obligations.UpkeepCommandsKeepTheQuarters := by
  intro c s hc
  obtain ⟨u, hu, hfuses, hpending, hview⟩ := upkeep_completes c s hc
  exact ⟨u, hu, hfuses, hpending, upkeeps_shows hview⟩

end Sys2Proof.Machine

end

section

set_option Elab.async false

namespace Sys2Proof.Machine

/-! # Domains, pace levels and margins (R34, R35, R40, R538 to R557)

The wind-down of a domain's blocks writes many registers, but never the status of the domains. -/

/-! Registers that a wind-down writes are not the status of the domains. None lies where that register does within 64 bytes, so no index needs a
bound. -/

section

variable (q : Side) (n : Nat)

@[simp] theorem bmoCtrl_dom : PWR_DOM_STATUS ≠ BMO_CTRL q n := by unfold PWR_DOM_STATUS BMO_CTRL; have := base_eq q; omega
@[simp] theorem pxsCtrl_dom : PWR_DOM_STATUS ≠ PXS_CTRL q n := by unfold PWR_DOM_STATUS PXS_CTRL; have := base_eq q; omega
@[simp] theorem pxsStatus_dom : PWR_DOM_STATUS ≠ PXS_STATUS q n := by unfold PWR_DOM_STATUS PXS_STATUS; have := base_eq q; omega
@[simp] theorem regSlotCtrl_dom : PWR_DOM_STATUS ≠ REG_SLOT_CTRL q n := by unfold PWR_DOM_STATUS REG_SLOT_CTRL; have := base_eq q; omega
@[simp] theorem motPolyStatus_dom : PWR_DOM_STATUS ≠ MOT_POLY_STATUS q n := by unfold PWR_DOM_STATUS MOT_POLY_STATUS; have := base_eq q; omega
@[simp] theorem motPolyCtrl_dom : PWR_DOM_STATUS ≠ MOT_POLY_CTRL q n := by unfold PWR_DOM_STATUS MOT_POLY_CTRL; have := base_eq q; omega
@[simp] theorem motPolySpeed_dom : PWR_DOM_STATUS ≠ MOT_POLY_SPEED q n := by unfold PWR_DOM_STATUS MOT_POLY_SPEED; have := base_eq q; omega
@[simp] theorem motPmsmCtrl_dom : PWR_DOM_STATUS ≠ MOT_PMSM_CTRL q n := by unfold PWR_DOM_STATUS MOT_PMSM_CTRL; have := base_eq q; omega
@[simp] theorem axsStatus_dom : PWR_DOM_STATUS ≠ AXS_STATUS q n := by unfold PWR_DOM_STATUS AXS_STATUS; have := base_eq q; omega
@[simp] theorem axsTarget_dom : PWR_DOM_STATUS ≠ AXS_TARGET q n := by unfold PWR_DOM_STATUS AXS_TARGET; have := base_eq q; omega
@[simp] theorem axsActl_dom : PWR_DOM_STATUS ≠ AXS_ACTL q n := by unfold PWR_DOM_STATUS AXS_ACTL; have := base_eq q; omega
@[simp] theorem enwStatus_dom : PWR_DOM_STATUS ≠ ENW_STATUS q n := by unfold PWR_DOM_STATUS ENW_STATUS; have := base_eq q; omega
@[simp] theorem enwCtrl_dom : PWR_DOM_STATUS ≠ ENW_CTRL q n := by unfold PWR_DOM_STATUS ENW_CTRL; have := base_eq q; omega
@[simp] theorem tmlCtrl_dom : PWR_DOM_STATUS ≠ TML_CTRL q := by unfold PWR_DOM_STATUS TML_CTRL; have := base_eq q; omega
@[simp] theorem supCtrl_dom : PWR_DOM_STATUS ≠ SUP_CTRL q := by unfold PWR_DOM_STATUS SUP_CTRL; have := base_eq q; omega
@[simp] theorem regCtrl_dom : PWR_DOM_STATUS ≠ REG_CTRL q := by unfold PWR_DOM_STATUS REG_CTRL; have := base_eq q; omega
@[simp] theorem motCtrl_dom : PWR_DOM_STATUS ≠ MOT_CTRL q := by unfold PWR_DOM_STATUS MOT_CTRL; have := base_eq q; omega
@[simp] theorem axsCtrl_dom : PWR_DOM_STATUS ≠ AXS_CTRL q := by unfold PWR_DOM_STATUS AXS_CTRL; have := base_eq q; omega
@[simp] theorem enwInspStatus_dom : PWR_DOM_STATUS ≠ ENW_INSP_STATUS q := by unfold PWR_DOM_STATUS ENW_INSP_STATUS; have := base_eq q; omega
@[simp] theorem hifRingCons_dom : PWR_DOM_STATUS ≠ HIF_RING_CONS n := by unfold PWR_DOM_STATUS HIF_RING_CONS; omega
@[simp] theorem hifRingStatus_dom : PWR_DOM_STATUS ≠ HIF_RING_STATUS n := by unfold PWR_DOM_STATUS HIF_RING_STATUS; omega
@[simp] theorem pgsAllocBlocks_dom : PWR_DOM_STATUS ≠ PGS_ALLOC_BLOCKS := by decide
@[simp] theorem pgsAllocPages_dom : PWR_DOM_STATUS ≠ PGS_ALLOC_PAGES := by decide
@[simp] theorem rdbPanic_dom : PWR_DOM_STATUS ≠ RDB_PANIC := by decide
@[simp] theorem krbEnables_dom : PWR_DOM_STATUS ≠ KRB_ENABLES := by decide
@[simp] theorem arcStatus_dom : PWR_DOM_STATUS ≠ ARC_STATUS := by decide
@[simp] theorem arcJobStatus_dom : PWR_DOM_STATUS ≠ ARC_JOB_STATUS := by decide
@[simp] theorem arcJobOutLen_dom : PWR_DOM_STATUS ≠ ARC_JOB_OUT_LEN := by decide
@[simp] theorem arcJobTag_dom : PWR_DOM_STATUS ≠ ARC_JOB_TAG := by decide
@[simp] theorem arcErr_dom : PWR_DOM_STATUS ≠ ARC_ERR := by decide
@[simp] theorem arcInspCnt_dom : PWR_DOM_STATUS ≠ ARC_INSP_CNT := by decide

@[simp] theorem alyCtrl_dom (e : Engine) (c : Fin 16) : PWR_DOM_STATUS ≠ aly e c + alyCtrl := domStatus_ne_channel e c (by decide)

theorem ledgerRegs_dom (b : Nat) : PWR_DOM_STATUS ∉ ledgerRegs b := by
  simp only [ledgerRegs, List.mem_append, List.mem_cons, List.not_mem_nil, or_false, PWR_DOM_STATUS, HIF_EVT_PROD, HIF_EVT_LOST, LDG_CNT,
    LDG_STICKY, LDG_NMI]
  intro h
  rcases h with h | h
  · omega
  · split at h
    · exact absurd (List.mem_singleton.mp h) (by decide)
    · cases h

end

/-- The status of the domains reads `w`. -/
def DomKept (w : Word) (d : Device) : Prop := d.reg PWR_DOM_STATUS = w

namespace DomKept

variable {w : Word} {d e : Device}

/-! Shared operations. -/

theorem ite {c : Prop} [Decidable c] (h : DomKept w d) (h' : DomKept w e) : DomKept w (if c then d else e) := by
  split
  · exact h
  · exact h'

theorem each {α : Type} {l : List α} {f : α → Device → Device} (h : DomKept w d) (hf : ∀ x e, DomKept w e → DomKept w (f x e)) :
    DomKept w (d.each l f) := each_inv hf l d h

theorem setReg (h : DomKept w d) {a : Nat} {v : Word} (ha : PWR_DOM_STATUS ≠ a := by simp) : DomKept w (d.setReg a v) :=
  (reg_setReg_ne d v ha).trans h

theorem setNat (h : DomKept w d) {a v : Nat} (ha : PWR_DOM_STATUS ≠ a := by simp) : DomKept w (d.setNat a v) := h.setReg ha

theorem setFld (h : DomKept w d) {a : Nat} {f : Fld} {v : Nat} (ha : PWR_DOM_STATUS ≠ a := by simp) : DomKept w (d.setFld a f v) := h.setReg ha

theorem setFlag (h : DomKept w d) {a : Nat} {f : Fld} {b : Bool} (ha : PWR_DOM_STATUS ≠ a := by simp) : DomKept w (d.setFlag a f b) := h.setReg ha

theorem count (h : DomKept w d) {a : Nat} {f : Fld} (ha : PWR_DOM_STATUS ≠ a := by simp) : DomKept w (d.count a f) := h.setReg ha

theorem modHost (h : DomKept w d) {f : HostIf → HostIf} : DomKept w (d.modHost f) := h

theorem modKerb (h : DomKept w d) {f : KerbS → KerbS} : DomKept w (d.modKerb f) := h

theorem modDlv (h : DomKept w d) {f : DeliveryS → DeliveryS} : DomKept w (d.modDlv f) := h

theorem modTml (h : DomKept w d) {f : TimelineS → TimelineS} : DomKept w (d.modTml f) := h

theorem modPs (h : DomKept w d) {f : StoreS → StoreS} : DomKept w (d.modPs f) := h

theorem modBmo (h : DomKept w d) {f : BeamS → BeamS} : DomKept w (d.modBmo f) := h

theorem modRgl (h : DomKept w d) {f : RegulatorS → RegulatorS} : DomKept w (d.modRgl f) := h

theorem modMot (h : DomKept w d) {f : MotorS → MotorS} : DomKept w (d.modMot f) := h

theorem modAxs (h : DomKept w d) {f : AxesS → AxesS} : DomKept w (d.modAxs f) := h

theorem modArc (h : DomKept w d) {f : CodecS → CodecS} : DomKept w (d.modArc f) := h

theorem withSup (h : DomKept w d) {v : List (Nat × RuleS)} : DomKept w (d.withSup v) := h

theorem withSynth (h : DomKept w d) {v : List (Nat × SynthS)} : DomKept w (d.withSynth v) := h

theorem withRef (h : DomKept w d) {v : List (Nat × RefS)} : DomKept w (d.withRef v) := h

theorem withPort (h : DomKept w d) {v : List (Nat × PortS)} : DomKept w (d.withPort v) := h

theorem withDma (h : DomKept w d) {v : List (Nat × ChanS)} : DomKept w (d.withDma v) := h

theorem withSt (h : DomKept w d) {v : DevState} : DomKept w (d.withSt v) := h

theorem setChan (h : DomKept w d) {e : Engine} {c : Nat} {v : ChanS} : DomKept w (d.setChan e c v) := h

theorem setBytes (h : DomKept w d) {a : Nat} {l : List Byte} : DomKept w (d.setBytes a l) := (reg_setBytes d l a PWR_DOM_STATUS).trans h

theorem scramble (h : DomKept w d) {a n : Nat} : DomKept w (d.scramble a n) :=
  h.setBytes (a := a) (l := (List.range n).map fun i => Config.freeByte d.frees (a + i))

theorem postedWrite (h : DomKept w d) {a : Nat} {l : List Byte} {event : Bool} : DomKept w (d.postedWrite a l event) :=
  (postedWrite_keeps d (p := fun d => d.reg PWR_DOM_STATUS) (fun _ _ _ _ => rfl) (fun _ _ _ => rfl) a l event).trans h

theorem post (h : DomKept w d) {typ : Nat} {nmi : Bool} {code wsn data : Nat} : DomKept w (d.post typ nmi code wsn data) :=
  (reg_post d typ nmi code wsn data (by decide)).trans h

theorem ledgerEvent (h : DomKept w d) {b o x y : Nat} : DomKept w (d.ledgerEvent b o x y) :=
  (reg_ledgerEvent d (by decide) (ledgerRegs_dom _) (ledgerRegs_dom _) (ledgerRegs_dom _) (by decide) o x y).trans h

theorem setSt (h : DomKept w d) {n : DevState} : DomKept w (d.setSt n) := ite h h.withSt.post

/-! Sheets that become defective. -/

theorem settle (h : DomKept w d) : DomKept w d.settle := ite h.setSt h

theorem enterDraining (h : DomKept w d) : DomKept w d.enterDraining := ite h.setSt.settle h

theorem freePage (h : DomKept w d) {p : Page} : DomKept w (d.freePage p) := h.setFld

theorem sheetJournal (h : DomKept w d) {kind wsn cause stations : Nat} {reprint duplex : Bool} {handle : Nat} :
    DomKept w (d.sheetJournal kind wsn cause stations reprint duplex handle) := h

theorem withdrawFrom (h : DomKept w d) {p : Page} : DomKept w (d.withdrawFrom p) :=
  enterDraining (post (modDlv (each h.sheetJournal (fun _ _ h => h.freePage))))

theorem mapPages (h : DomKept w d) {f : Page → Page} : DomKept w (d.mapPages f) := h.modDlv

theorem mapInsts (h : DomKept w d) {f : Nat → Instance → Instance} : DomKept w (d.mapInsts f) := h.modTml

theorem setInst (h : DomKept w d) {n : Nat} {i : Option Instance} : DomKept w (d.setInst n i) := h.modTml

theorem markFrom (h : DomKept w d) {n x cause : Nat} {divert : Bool} : DomKept w (d.markFrom n x cause divert) := h.mapInsts

theorem againFrom (h : DomKept w d) {x : Nat} : DomKept w (d.againFrom x) := h.mapPages.modDlv

theorem sheetDefective (h : DomKept w d) {n cause : Nat} : DomKept w (d.sheetDefective n cause) := by
  unfold Device.sheetDefective
  split
  · exact h
  · split
    · exact h
    · split
      · exact h.setInst
      · split
        · exact h.markFrom.enterDraining
        · extract_lets d1 d2
          have h1 : DomKept w d1 := h.markFrom
          have h2 : DomKept w d2 := h1.againFrom
          split
          · exact h1
          · exact ite h1.withdrawFrom (ite h2.mapPages h2)

theorem stationsDefective (h : DomKept w d) {mask cause : Nat} : DomKept w (d.stationsDefective mask cause) :=
  each h fun _ _ h => h.sheetDefective

/-! The codec (D5). -/

theorem setFree (h : DomKept w d) {n : Nat} : DomKept w (d.setFree n) := h.setFld

theorem dropChains (h : DomKept w d) : DomKept w d.dropChains := each h fun _ _ h => h.setFld.setFree.modArc

theorem writeBack (h : DomKept w d) {r : Nat} : DomKept w (d.writeBack r) := ite h h.postedWrite

theorem haltRing (h : DomKept w d) {r cause : Nat} : DomKept w (d.haltRing r cause) := h.setFlag.setFld.post

theorem ingestWait (h : DomKept w d) {b : Bool} : DomKept w (d.ingestWait b) := h.setFlag.modPs

theorem setIngest (h : DomKept w d) {l : List IngestS} : DomKept w (d.setIngest l) := h.modHost

theorem endHead (h : DomKept w d) {v : Nat} : DomKept w (d.endHead v) := by
  unfold Device.endHead
  split
  · exact h
  · extract_lets _ _ d1 d2 _ d3
    have h1 : DomKept w d1 := ite (each h.setIngest (fun _ _ h => h.freePage)) h.setIngest
    have h2 : DomKept w d2 := h1.dropChains.post
    have h3 : DomKept w d3 := h2.modHost
    exact ite h3.setNat.writeBack.ingestWait.haltRing h2

theorem settleIngest {n : Nat} : ∀ {d : Device} (_ : DomKept w d), DomKept w (d.settleIngest n) := by
  induction n with
  | zero => intro d h; exact h
  | succ n ih =>
    intro d h
    unfold Device.settleIngest
    split
    · split
      · exact ite h (ih h.endHead)
      · exact h
    · exact h

theorem setIngestAt (h : DomKept w d) {i : Nat} {x : IngestS} : DomKept w (d.setIngestAt i x) := h.setIngest

theorem ingestFail (h : DomKept w d) {i v : Nat} : DomKept w (d.ingestFail i v) := by
  unfold Device.ingestFail
  split
  · exact ite h.setIngestAt.dropChains.settleIngest h
  · exact h

theorem arcErr (h : DomKept w d) {sub s band unit code : Nat} : DomKept w (d.arcErr sub s band unit code) := h.setNat

theorem chainFail (h : DomKept w d) {c code : Nat} : DomKept w (d.chainFail c code) := by
  unfold Device.chainFail
  split
  · exact h
  · extract_lets d1
    have h1 : DomKept w d1 := h.arcErr
    split
    · exact h1.ingestFail
    · exact h1

theorem cmpBusy (h : DomKept w d) {c : Nat} {b : Bool} : DomKept w (d.cmpBusy c b) := h.setFld

theorem setArc (h : DomKept w d) {f : CodecS → CodecS} : DomKept w (d.setArc f) := h.modArc

theorem jobEnd (h : DomKept w d) {j : Job} {st err out : Nat} : DomKept w (d.jobEnd j st err out) := by
  unfold Device.jobEnd
  extract_lets d1 d2 d3 d4
  have h1 : DomKept w d1 := h.setFld.setFld
  have h2 : DomKept w d2 := h1.setFld
  have h3 : DomKept w d3 := h2.setNat.setNat
  have h4 : DomKept w d4 := h3.setArc
  split
  · exact h3
  · extract_lets d5
    have h5 : DomKept w d5 := ite h4.cmpBusy.setFld h4.setFld
    exact ite h5.scramble h5

theorem jobAbort (h : DomKept w d) : DomKept w d.jobAbort := by
  unfold Device.jobAbort
  split
  · exact h.jobEnd
  · exact h

theorem showImage (h : DomKept w d) : DomKept w d.showImage := each h fun _ _ h => h.setFlag

theorem showInsp (h : DomKept w d) : DomKept w d.showInsp := h.setFld

theorem imageFail (h : DomKept w d) {x : InspImg} {code : Nat} : DomKept w (d.imageFail x code) := by
  unfold Device.imageFail
  extract_lets d1 d2 d3 d4 d5
  have h1 : DomKept w d1 := h.setArc
  have h2 : DomKept w d2 := h1.arcErr
  have h3 : DomKept w d3 := h2.count.scramble
  have h4 : DomKept w d4 := h3.post
  have h5 : DomKept w d5 := ite h4.ledgerEvent h4
  exact h5.showImage.showInsp

theorem imagesFail (h : DomKept w d) {code : Nat} : DomKept w (d.imagesFail code) := each h fun _ _ h => h.imageFail

/-! A Quarter's blocks (D8, D9). -/

theorem dmaOff (h : DomKept w d) {e : Engine} {c : Nat} (hc : c < 16) : DomKept w (d.dmaOff e c) :=
  ite h (setFlag h (alyCtrl_dom e ⟨c, hc⟩)).setChan

theorem timelineOff (h : DomKept w d) {q : Side} : DomKept w (d.timelineOff q) := by
  unfold Device.timelineOff
  split
  · exact h
  · extract_lets d1
    have h1 : DomKept w d1 := h.setFlag
    exact ite h1 h1.stationsDefective.setFlag

theorem supervisorOff (h : DomKept w d) {q : Side} : DomKept w (d.supervisorOff q) := h.setFlag

theorem setSlot (h : DomKept w d) {q : Side} {n : Nat} {v : SlotS} : DomKept w (d.setSlot q n v) := h.modRgl

theorem slotStopped (h : DomKept w d) {q : Side} {n : Nat} : DomKept w (d.slotStopped q n) := by
  unfold Device.slotStopped
  extract_lets _ d1
  have h1 : DomKept w d1 := h.setSlot.setFlag
  exact ite h1.setFlag h1

theorem slotWind (h : DomKept w d) {q : Side} {n : Nat} : DomKept w (d.slotWind q n) := by
  unfold Device.slotWind
  split
  · exact h
  · extract_lets _ _ d1
    have h1 : DomKept w d1 := h.setSlot
    exact ite h1.slotStopped h1.setFlag

theorem regulatorOff (h : DomKept w d) {q : Side} : DomKept w (d.regulatorOff q) := by
  unfold Device.regulatorOff
  extract_lets _ d1 d2
  have h1 : DomKept w d1 := h.setFlag
  have h2 : DomKept w d2 := each h1 fun _ _ h => h.slotWind
  exact ite h2.setFlag h2

theorem setPrint (h : DomKept w d) {s : Nat} {p : Option PrintS} : DomKept w (d.setPrint s p) := h.modBmo

theorem setPort (h : DomKept w d) {q : Side} {s : Nat} {v : PortS} : DomKept w (d.setPort q s v) := h.withPort

theorem trainPort (h : DomKept w d) {q : Side} {s : Nat} : DomKept w (d.trainPort q s) := h.setFld.setPort

theorem scanOver (h : DomKept w d) {q : Side} {s : Nat} : DomKept w (d.scanOver q s) := by
  unfold Device.scanOver
  extract_lets _ d1
  have h1 : DomKept w d1 := ite h.setFld h
  exact ite h1.setFld h1

theorem endPrint (h : DomKept w d) {s : Nat} : DomKept w (d.endPrint s) := by
  unfold Device.endPrint
  split
  · exact h
  · extract_lets d1 d2 d3
    have h1 : DomKept w d1 := h.setPrint
    have h2 : DomKept w d2 := by
      unfold d2
      split
      · exact h1.setInst
      · exact h1
    have h3 : DomKept w d3 := h2.modBmo
    refine each h3 fun q e h => ?_
    have h4 : DomKept w (e.scanOver q s) := h.scanOver
    exact ite h4.trainPort h4

theorem showSafe (h : DomKept w d) {s : Nat} : DomKept w (d.showSafe s) := setFld (each h (fun _ _ h => h.setFlag))

theorem nowSafe (h : DomKept w d) {s : Nat} : DomKept w (d.nowSafe s) := h.modBmo.endPrint.showSafe

theorem goSafe (h : DomKept w d) {s cause : Nat} {head : Bool} : DomKept w (d.goSafe s cause head) := by
  unfold Device.goSafe
  extract_lets d1 d2
  have h1 : DomKept w d1 := h.stationsDefective
  have h2 : DomKept w d2 := ite h1.modBmo h1.modBmo
  exact ite h2.modBmo h2.nowSafe

theorem setPoly (h : DomKept w d) {q : Side} {p : Nat} {v : PolyS} : DomKept w (d.setPoly q p v) := h.modMot

theorem setPo (h : DomKept w d) {q : Side} {p n : Nat} : DomKept w (d.setPo q p n) := by
  unfold Device.setPo
  extract_lets d1 _ d2
  have h1 : DomKept w d1 := h.setFld.setFlag
  have h2 : DomKept w d2 := h1.setPoly
  exact ite h2.setReg h2

theorem polyWind (h : DomKept w d) {q : Side} {p : Nat} : DomKept w (d.polyWind q p) := by
  unfold Device.polyWind
  extract_lets _ d1 d2 _ d3
  have h1 : DomKept w d1 := ite h.goSafe h
  have h2 : DomKept w d2 := h1.setFlag
  have h3 : DomKept w d3 := ite h2 h2.setPo
  exact ite h1 (ite h2.setPoly h3.setPoly)

theorem setPmsm (h : DomKept w d) {q : Side} {n : Nat} {v : PmsmS} : DomKept w (d.setPmsm q n v) := h.modMot

theorem pmsmWind (h : DomKept w d) {q : Side} {n : Nat} : DomKept w (d.pmsmWind q n) := ite h.setPmsm.setFlag h

theorem motorsOff (h : DomKept w d) {q : Side} : DomKept w (d.motorsOff q) := by
  unfold Device.motorsOff
  extract_lets d1 d2 d3
  have h1 : DomKept w d1 := h.setFlag
  have h2 : DomKept w d2 := each h1 fun _ _ h => h.polyWind
  have h3 : DomKept w d3 := each h2 fun _ _ h => h.pmsmWind
  exact ite h3.setFlag h3

theorem setAx (h : DomKept w d) {q : Side} {a : Nat} {f : Fld} {b : Bool} : DomKept w (d.setAx q a f b) := h.setFlag

theorem setAxis (h : DomKept w d) {q : Side} {a : Nat} {v : AxisS} : DomKept w (d.setAxis q a v) := h.modAxs

theorem ownEvent (h : DomKept w d) {q : Side} {b detail : Nat} : DomKept w (d.ownEvent q b detail) := ite h.ledgerEvent h

theorem homeFault (h : DomKept w d) {q : Side} {a : Nat} : DomKept w (d.homeFault q a) := h.setAx.setAx.setAx.setAxis.ownEvent

theorem axisStop (h : DomKept w d) {q : Side} {a : Nat} : DomKept w (d.axisStop q a) := by
  unfold Device.axisStop
  extract_lets d1 _ d2
  have h1 : DomKept w d1 := ite h.homeFault h
  have h2 : DomKept w d2 := h1.setAx
  exact ite h1.setReg (ite h1 h2.setAxis)

theorem axisOff (h : DomKept w d) {q : Side} {a : Nat} : DomKept w (d.axisOff q a) :=
  ite h (ite h.setFlag h.setFlag.axisStop.setFlag)

theorem driveOff (h : DomKept w d) {q : Side} : DomKept w (d.driveOff q) :=
  ite h (ite h.setFlag (each h.setFlag.setFlag (fun _ _ h => h.axisOff)))

theorem setPx (h : DomKept w d) {q : Side} {s n : Nat} : DomKept w (d.setPx q s n) := h.setFld

theorem setSynth (h : DomKept w d) {q : Side} {s : Nat} {v : SynthS} : DomKept w (d.setSynth q s v) := h.withSynth

theorem enterAcquire (h : DomKept w d) {q : Side} {s : Nat} : DomKept w (d.enterAcquire q s) := h.setPx.setSynth

theorem synthOn (h : DomKept w d) {q : Side} {s : Nat} : DomKept w (d.synthOn q s) := by
  unfold Device.synthOn
  split
  · exact h
  · extract_lets d1
    have h1 : DomKept w d1 := h.setFlag
    exact ite h1 (ite h1.enterAcquire h1.setPx.setFlag)

theorem synthStopped (h : DomKept w d) {q : Side} {s : Nat} : DomKept w (d.synthStopped q s) := by
  unfold Device.synthStopped
  extract_lets d1
  have h1 : DomKept w d1 := h.setFlag.setPx
  exact ite h1.setFlag.synthOn h1

theorem synthOff (h : DomKept w d) {q : Side} {s : Nat} : DomKept w (d.synthOff q s) := by
  unfold Device.synthOff
  split
  · exact h
  · extract_lets d1
    have h1 : DomKept w d1 := h.setFlag
    exact ite h1.stationsDefective.setFlag h1.synthStopped

theorem stationOff (h : DomKept w d) {q : Side} {s : Nat} : DomKept w (d.stationOff q s) := by
  unfold Device.stationOff
  split
  · exact h
  · extract_lets d1 d2
    have h1 : DomKept w d1 := h.setFlag
    have h2 : DomKept w d2 := h1.modKerb
    exact ite (ite h2.stationsDefective.setFlag h2) h1

theorem channelsOff (h : DomKept w d) {q : Side} : DomKept w (d.each (List.range 16) fun c d => d.dmaOff (.quarter q) c) :=
  (each_keeps_mem (p := fun d => d.reg PWR_DOM_STATUS) _ d fun _ hc _ => dmaOff rfl (List.mem_range.mp hc)).trans h

theorem quarterOff (h : DomKept w d) {q : Side} : DomKept w (d.quarterOff q) := by
  unfold Device.quarterOff
  extract_lets d1 d2 d3
  have h1 : DomKept w d1 := h.channelsOff
  have h2 : DomKept w d2 := h1.timelineOff.supervisorOff.regulatorOff.motorsOff
  have h3 : DomKept w d3 := h2.driveOff
  exact each h3 fun _ _ h => h.synthOff.stationOff

/-! Lanes (D10, D11). -/

theorem setEn (h : DomKept w d) {q : Side} {s n : Nat} : DomKept w (d.setEn q s n) := h.setFld

theorem lanesOff (h : DomKept w d) {q : Side} : DomKept w (d.lanesOff q) := each h fun _ _ h => h.setEn.setFlag.setFld

theorem lanesWind (h : DomKept w d) {q : Side} : DomKept w (d.lanesWind q) := setFlag (lanesOff (each h (fun _ _ h => h.setFlag)))

theorem lanesPowered (h : DomKept w d) {q : Side} : DomKept w (d.lanesPowered q) := each h fun _ _ h => ite h.trainPort h

/-- The blocks of a domain that may fall wind down without a change of the domains' status (R541). -/
theorem windDownDomain (h : DomKept w d) {n : Nat} (hn : n ≠ 7) : DomKept w (d.windDownDomain n) := by
  unfold Device.windDownDomain
  split
  · exact imagesFail (each h.jobAbort (fun _ _ h => h.chainFail))
  · exact absurd rfl hn
  · exact h.quarterOff
  · exact h.quarterOff
  · exact h.lanesWind
  · exact h.lanesWind
  · exact h

end DomKept

/-! A Quarter's power cycle leaves the registers of the shared core (R41). -/

theorem cycleReg_key {q : Side} {x y : Nat × Word} (h : cycleReg q x = some y) : y.1 = x.1 := by
  unfold cycleReg at h
  split at h
  · split at h
    · extract_lets v at h
      split at h
      · cases h
      · cases h
        rfl
    · cases h
  · cases h
    rfl

theorem cycleReg_dom (q : Side) (v : Word) : cycleReg q (PWR_DOM_STATUS, v) = some (PWR_DOM_STATUS, v) := by
  unfold cycleReg
  refine if_neg fun h => ?_
  obtain ⟨-, hhigh⟩ := h
  have := base_eq q
  unfold PWR_DOM_STATUS at hhigh
  omega

/-- A list that is cycled reads the same at a key that the cycle keeps. -/
theorem sget_filterMap {α : Type} (dflt : Nat → α) {g : Nat × α → Option (Nat × α)} {k : Nat} (hkey : ∀ x y, g x = some y → y.1 = x.1)
    (hk : ∀ v, g (k, v) = some (k, v)) (m : List (Nat × α)) : sget dflt (m.filterMap g) k = sget dflt m k := by
  induction m with
  | nil => rfl
  | cons x r ih =>
    obtain ⟨k', v⟩ := x
    by_cases hkk : k' = k
    · subst hkk
      rw [List.filterMap_cons_some (hk v)]
      simp [sget]
    · cases hg : g (k', v) with
      | none =>
        rw [List.filterMap_cons_none hg, ih]
        simp [sget, hkk]
      | some y =>
        have hy : y.1 = k' := hkey _ _ hg
        rw [List.filterMap_cons_some hg]
        simp [sget, hkk, hy, ih]

namespace DomKept

variable {w : Word} {d : Device}

theorem cycleRegs (h : DomKept w d) {q : Side} : DomKept w (d.withRegs (d.regs.filterMap (cycleReg q))) :=
  (sget_filterMap resetWord (fun _ _ => cycleReg_key) (cycleReg_dom q) d.regs).trans h

theorem quarterReset (h : DomKept w d) {q : Side} : DomKept w (d.quarterReset q) := by
  unfold Device.quarterReset
  extract_lets d1 d2 d3 d4 d5 d6 d7 d8 d9
  have h1 : DomKept w d1 := h.withSup
  have h2 : DomKept w d2 := h1.withSynth
  have h3 : DomKept w d3 := h2.withRef
  have h4 : DomKept w d4 := h3.withPort
  have h5 : DomKept w d5 := h4.withDma
  have h6 : DomKept w d6 := h5.modBmo
  have h7 : DomKept w d7 := h6.modRgl
  have h8 : DomKept w d8 := h7.modMot
  have h9 : DomKept w d9 := h8.modAxs
  exact h9.cycleRegs

end DomKept

/-! A domain's switch, and whether it switches. -/

section

variable (d : Device) {n : Nat} (hn : n < 14)

include hn

theorem on_domOn (b : Bool) : natBit ((d.domOn n b).fld PWR_DOM_STATUS PWR_DOM_STATUS_ON) n = b := by
  unfold Device.domOn
  rw [fld_setFld_natBit d PWR_DOM_STATUS (by decide) (show n < PWR_DOM_STATUS_ON.hi + 1 - PWR_DOM_STATUS_ON.lo from hn)]
  exact natBit_setNatBit_self _ b n

theorem busy_domBusy (b : Bool) : natBit ((d.domBusy n b).fld PWR_DOM_STATUS PWR_DOM_STATUS_BUSY) n = b := by
  unfold Device.domBusy
  rw [fld_setFld_natBit d PWR_DOM_STATUS (by decide) (show n < PWR_DOM_STATUS_BUSY.hi + 1 - PWR_DOM_STATUS_BUSY.lo from hn)]
  exact natBit_setNatBit_self _ b n

omit hn in
theorem on_domBusy (b : Bool) : (d.domBusy n b).fld PWR_DOM_STATUS PWR_DOM_STATUS_ON = d.fld PWR_DOM_STATUS PWR_DOM_STATUS_ON :=
  fld_setFld_other d _ _ (by decide) (by decide)

theorem domainOff_shows : natBit ((d.domainOff n).fld PWR_DOM_STATUS PWR_DOM_STATUS_ON) n = false ∧
    natBit ((d.domainOff n).fld PWR_DOM_STATUS PWR_DOM_STATUS_BUSY) n = false := by
  have hreg : (d.domainOff n).reg PWR_DOM_STATUS = ((d.domOn n false).domBusy n false).reg PWR_DOM_STATUS := by
    unfold Device.domainOff
    extract_lets d1
    split
    · exact DomKept.quarterReset rfl
    · exact DomKept.quarterReset rfl
    · rfl
  rw [fld_congr hreg, fld_congr hreg, on_domBusy]
  exact ⟨on_domOn d hn false, busy_domBusy _ hn false⟩

omit hn in
/-- While a domain winds down it stays on, and switches (R541). -/
theorem reg_windingDown (h7 : n ≠ 7) : (d.windingDown n).reg PWR_DOM_STATUS = (d.domBusy n true).reg PWR_DOM_STATUS :=
  DomKept.windDownDomain rfl h7

theorem domainDown_shows (hon : natBit (d.fld PWR_DOM_STATUS PWR_DOM_STATUS_ON) n = true) (hfall : d.domainMayFall n = true) :
    natBit ((d.domainDown n).fld PWR_DOM_STATUS PWR_DOM_STATUS_ON) n = !(d.windingDown n).mayOpen n ∧
      natBit ((d.domainDown n).fld PWR_DOM_STATUS PWR_DOM_STATUS_BUSY) n = !(d.windingDown n).mayOpen n := by
  have h7 : n ≠ 7 := by
    rintro rfl
    exact absurd hfall Bool.false_ne_true
  have hbusy : natBit ((d.windingDown n).fld PWR_DOM_STATUS PWR_DOM_STATUS_BUSY) n = true := by
    rw [fld_congr (reg_windingDown d h7)]
    exact busy_domBusy d hn true
  have hstill : natBit ((d.windingDown n).fld PWR_DOM_STATUS PWR_DOM_STATUS_ON) n = true := by
    rw [fld_congr (reg_windingDown d h7), on_domBusy]
    exact hon
  unfold Device.domainDown
  rw [if_neg (by simp [hon, hfall])]
  unfold Device.domainSettle
  rw [hbusy, Bool.true_and]
  cases (d.windingDown n).mayOpen n with
  | true => exact domainOff_shows _ hn
  | false => exact ⟨hstill, hbusy⟩

end

/-! The pace level (R34, R35, R538). -/

section

variable (d : Device)

/-- A pace-level step writes PWR_PACE and what the power control keeps of it. -/
theorem paceStep_keeps {β : Type} {p : Device → β} (hr : ∀ e v, p (Device.setReg e PWR_PACE v) = p e)
    (hp : ∀ e f, p (Device.modPwr e f) = p e) : p d.paceStep = p d := by
  unfold Device.paceStep
  extract_lets want
  split
  · rfl
  · exact (hp _ _).trans (hr d _)

theorem paceDone_keeps {β : Type} {p : Device → β} (hr : ∀ e v, p (Device.setReg e PWR_PACE v) = p e)
    (hp : ∀ e f, p (Device.modPwr e f) = p e) : p d.paceDone = p d := by
  unfold Device.paceDone
  split
  · exact (paceStep_keeps _ hr hp).trans ((hr _ _).trans (hr d _))
  · rfl

theorem paceStep_shows : d.paceStep.fld PWR_PACE PWR_PACE_REQ = d.fld PWR_PACE PWR_PACE_REQ ∧
    d.paceStep.fld PWR_PACE PWR_PACE_LEVEL = d.fld PWR_PACE PWR_PACE_LEVEL ∧
    d.paceStep.flag PWR_PACE PWR_PACE_CHANGING =
      (d.flag PWR_PACE PWR_PACE_CHANGING || decide (d.fld PWR_PACE PWR_PACE_LEVEL ≠ d.fld PWR_PACE PWR_PACE_REQ)) := by
  unfold Device.paceStep
  extract_lets want
  split
  · next hlevel => exact ⟨rfl, rfl, by simp [show d.fld PWR_PACE PWR_PACE_LEVEL = d.fld PWR_PACE PWR_PACE_REQ from hlevel]⟩
  · next hlevel =>
    refine ⟨fld_setFlag_other d _ _ (by decide) (by decide), fld_setFlag_other d _ _ (by decide) (by decide), ?_⟩
    rw [decide_eq_true (show d.fld PWR_PACE PWR_PACE_LEVEL ≠ d.fld PWR_PACE PWR_PACE_REQ from hlevel), Bool.or_true]
    exact flag_setFlag_self d _ (by decide) (by decide) true

theorem paceRequest_shows (h : d.paceNeeded < 4) : d.paceRequest.fld PWR_PACE PWR_PACE_REQ = d.paceNeeded ∧
    (d.fld PWR_PACE PWR_PACE_LEVEL ≠ d.paceNeeded → d.paceRequest.flag PWR_PACE PWR_PACE_CHANGING = true) := by
  unfold Device.paceRequest
  extract_lets d1
  have hreq : d1.fld PWR_PACE PWR_PACE_REQ = d.paceNeeded := (fld_setFld_self d _ (by decide) _).trans (Nat.mod_eq_of_lt h)
  have hlevel : d1.fld PWR_PACE PWR_PACE_LEVEL = d.fld PWR_PACE PWR_PACE_LEVEL := fld_setFld_other d _ _ (by decide) (by decide)
  split
  · next hchanging => exact ⟨hreq, fun _ => hchanging⟩
  · obtain ⟨hsame, -, hstep⟩ := paceStep_shows d1
    refine ⟨hsame.trans hreq, fun hne => ?_⟩
    rw [hstep, hreq, hlevel, decide_eq_true hne, Bool.or_true]

theorem paceDone_shows (h : d.flag PWR_PACE PWR_PACE_CHANGING = true) (hto : d.pwr.paceTo < 4) :
    d.paceDone.fld PWR_PACE PWR_PACE_LEVEL = d.pwr.paceTo ∧ d.paceDone.fld PWR_PACE PWR_PACE_REQ = d.fld PWR_PACE PWR_PACE_REQ ∧
      d.paceDone.flag PWR_PACE PWR_PACE_CHANGING = decide (d.pwr.paceTo ≠ d.fld PWR_PACE PWR_PACE_REQ) := by
  unfold Device.paceDone
  rw [if_pos h]
  generalize hd1 : d.setFld PWR_PACE PWR_PACE_LEVEL d.pwr.paceTo = d1
  have hlevel : (d1.setFlag PWR_PACE PWR_PACE_CHANGING false).fld PWR_PACE PWR_PACE_LEVEL = d.pwr.paceTo := by
    rw [fld_setFlag_other d1 _ _ (by decide) (by decide), ← hd1, fld_setFld_self d _ (by decide)]
    exact Nat.mod_eq_of_lt hto
  have hreq : (d1.setFlag PWR_PACE PWR_PACE_CHANGING false).fld PWR_PACE PWR_PACE_REQ = d.fld PWR_PACE PWR_PACE_REQ := by
    rw [fld_setFlag_other d1 _ _ (by decide) (by decide), ← hd1, fld_setFld_other d _ _ (by decide) (by decide)]
  have hidle := flag_setFlag_self d1 PWR_PACE (f := PWR_PACE_CHANGING) (by decide) (by decide) false
  obtain ⟨hreq', hlevel', hstep⟩ := paceStep_shows (d1.setFlag PWR_PACE PWR_PACE_CHANGING false)
  rw [hreq', hlevel', hstep, hidle, hlevel, hreq, Bool.false_or]
  exact ⟨rfl, rfl, rfl⟩

end

/-! Margins (R555 to R557). -/

section

variable (d : Device) (v : Word) {x : RailEntry} (hx : d.railEntries.find? (fun e => e.rail == PWR_MGN_CTRL_RAIL.get v) = some x)

include hx

theorem marginRequest_refused (hst : d.st ≠ .held) :
    (d.marginRequest v false).flag PWR_MGN_ACTIVE PWR_MGN_ACTIVE_REFUSED = true ∧ (d.marginRequest v false).pwr = d.pwr := by
  unfold Device.marginRequest
  extract_lets d1 rail mode refuse
  have hx' : d1.railEntries.find? (fun e => e.rail == rail) = some x := hx
  rw [hx']
  dsimp only
  rw [if_pos (.inl hst)]
  exact ⟨flag_setFlag_self d1 _ (by decide) (by decide) true, rfl⟩

omit hx in
@[simp] theorem fld_modPwr (f : PowerS → PowerS) (a : Nat) (g : Fld) : (d.modPwr f).fld a g = d.fld a g := rfl

omit hx in
@[simp] theorem fld_writeOper (r code a : Nat) (g : Fld) : (d.writeOper r code).fld a g = d.fld a g := rfl

omit hx in
@[simp] theorem inj_writeOper (r code : Nat) : (d.writeOper r code).pwr.inj = d.pwr.inj := rfl

/-- The device once an injection is set up, before a command to the rail's regulator. -/
def Device.injected (v : Word) (d : Device) : Device :=
  let d := d.setReg PWR_MGN_CTRL (v &&& 0xC01F00FF)
  let active := setNatBit (d.fld PWR_MGN_ACTIVE PWR_MGN_ACTIVE_ACTIVE) (PWR_MGN_CTRL_RAIL.get v) true
  ((d.setFld PWR_MGN_ACTIVE PWR_MGN_ACTIVE_ACTIVE active).setFlag PWR_STATUS PWR_STATUS_MARGIN_ACTIVE (active != 0)).modPwr fun w =>
    { w with inj := sput (fun _ => 0) w.inj (PWR_MGN_CTRL_RAIL.get v) (marginSteps (PWR_MGN_CTRL_STEPS.get v)) }

omit hx in
theorem injected_shows (hr : PWR_MGN_CTRL_RAIL.get v < 24) :
    natBit ((d.injected v).fld PWR_MGN_ACTIVE PWR_MGN_ACTIVE_ACTIVE) (PWR_MGN_CTRL_RAIL.get v) = true ∧
      sget (fun _ => 0) (d.injected v).pwr.inj (PWR_MGN_CTRL_RAIL.get v) = marginSteps (PWR_MGN_CTRL_STEPS.get v) := by
  unfold Device.injected
  extract_lets d1 active
  refine ⟨?_, sget_sput_self _ _ _ _⟩
  have hactive : ((d1.setFld PWR_MGN_ACTIVE PWR_MGN_ACTIVE_ACTIVE active).setFlag PWR_STATUS PWR_STATUS_MARGIN_ACTIVE (active != 0)).fld
      PWR_MGN_ACTIVE PWR_MGN_ACTIVE_ACTIVE = active := by
    rw [fld_setFlag_ne _ _ _ _ (by decide)]
    exact fld_setFld_natBit d1 _ (by decide) (show PWR_MGN_CTRL_RAIL.get v < PWR_MGN_ACTIVE_ACTIVE.hi + 1 - PWR_MGN_ACTIVE_ACTIVE.lo from hr) true
  rw [fld_modPwr, hactive]
  exact natBit_setNatBit_self _ true _

theorem marginRequest_injects (hst : d.st = .held) (hinj : x.marginInj = true) (hmode : PWR_MGN_CTRL_MODE.get v = 1) :
    d.marginRequest v false = if x.marginPmb then (d.injected v).writeOper (PWR_MGN_CTRL_RAIL.get v) operNominal else d.injected v := by
  unfold Device.marginRequest
  extract_lets d1 rail mode refuse active d2 d3 d4
  have hone : mode = 1 := hmode
  have hactive : active = setNatBit (d1.fld PWR_MGN_ACTIVE PWR_MGN_ACTIVE_ACTIVE) rail true := by
    unfold active
    rw [hone]
    rfl
  have hd4 : d4 = d.injected v := by
    unfold d4 d3 d2
    rw [if_pos hone, hactive]
    rfl
  have hx' : d1.railEntries.find? (fun e => e.rail == rail) = some x := hx
  rw [hx']
  dsimp only
  rw [if_neg (by simp [show d1.st = .held from hst, hinj, hone]), if_neg (by simp), hd4, hone]
  rfl

end

/-! The commands. -/

section

variable (t : Nat) (s : State)

theorem paceDone_domains (d : Device) (n : Nat) :
    d.paceDone.fld PWR_DOM_STATUS PWR_DOM_STATUS_ON = d.fld PWR_DOM_STATUS PWR_DOM_STATUS_ON ∧ d.paceDone.domainMayFall n = d.domainMayFall n := by
  refine ⟨?_, ?_⟩
  · exact paceDone_keeps d (p := fun d => d.fld PWR_DOM_STATUS PWR_DOM_STATUS_ON) (fun e v => fld_congr (reg_setReg_ne e v (by decide)) _)
      (fun _ _ => rfl)
  · exact paceDone_keeps d (p := fun d => d.domainMayFall n) (fun _ _ => rfl) (fun _ _ => rfl)

theorem domainPowerDown_completes (n : Fin 14) (hon : natBit (s.dev.fld PWR_DOM_STATUS PWR_DOM_STATUS_ON) n = true)
    (hfall : s.dev.domainMayFall n = true) :
    Completes (.domainPowerDown t n) s fun e =>
      let off := (((s.dev.tick t).paceDone).windingDown n).mayOpen n
      natBit (e.fld PWR_DOM_STATUS PWR_DOM_STATUS_ON) n = !off ∧ natBit (e.fld PWR_DOM_STATUS PWR_DOM_STATUS_BUSY) n = !off := by
  obtain ⟨hsame, hmay⟩ := paceDone_domains (s.dev.tick t) n
  exact ⟨_, rfl, rfl, rfl, domainDown_shows (s.dev.tick t).paceDone n.isLt (by rw [hsame]; exact hon) (by rw [hmay]; exact hfall)⟩

theorem domainDmaAbort_completes (n : Fin 14) (hbusy : natBit (s.dev.fld PWR_DOM_STATUS PWR_DOM_STATUS_BUSY) n = true)
    (hidle : s.dev.blocksIdle n = true) :
    Completes (.domainDmaAbort t n) s fun e => natBit (e.fld PWR_DOM_STATUS PWR_DOM_STATUS_ON) n = false ∧
      natBit (e.fld PWR_DOM_STATUS PWR_DOM_STATUS_BUSY) n = false := by
  have hready : (natBit ((s.dev.tick t).fld PWR_DOM_STATUS PWR_DOM_STATUS_BUSY) n && (s.dev.tick t).blocksIdle n) = true :=
    Bool.and_eq_true_iff.mpr ⟨hbusy, hidle⟩
  refine ⟨_, rfl, rfl, rfl, ?_⟩
  dsimp only
  rw [if_pos hready]
  exact domainOff_shows _ n.isLt

theorem on_lanesUp (d : Device) (q : Side) (hoff : d.domainIsOn (laneDomain q) = false) :
    natBit ((d.lanesUp q).fld PWR_DOM_STATUS PWR_DOM_STATUS_ON) (laneDomain q) = true := by
  have hlane : laneDomain q < 14 := by cases q <;> decide
  have hreg : ((d.domOn (laneDomain q) true).lanesPowered q).reg PWR_DOM_STATUS = (d.domOn (laneDomain q) true).reg PWR_DOM_STATUS :=
    DomKept.lanesPowered rfl
  unfold Device.lanesUp
  rw [if_neg (by rw [hoff]; decide), fld_congr hreg]
  exact on_domOn d hlane true

theorem domainPowerUp_completes (n : Fin 14) (hbusy : natBit (s.dev.fld PWR_DOM_STATUS PWR_DOM_STATUS_BUSY) n = false)
    (hoff : natBit (s.dev.fld PWR_DOM_STATUS PWR_DOM_STATUS_ON) n = false) (hrise : s.dev.domainMayRise n = true) :
    Completes (.domainPowerUp t n) s fun e => natBit (e.fld PWR_DOM_STATUS PWR_DOM_STATUS_ON) n = true := by
  obtain ⟨hbusy', hoff', hrise'⟩ : natBit ((s.dev.tick t).fld PWR_DOM_STATUS PWR_DOM_STATUS_BUSY) n = false ∧
      (s.dev.tick t).domainIsOn n = false ∧ (s.dev.tick t).domainMayRise n = true := ⟨hbusy, hoff, hrise⟩
  refine ⟨_, rfl, rfl, rfl, ?_⟩
  generalize s.dev.tick t = d at hbusy' hoff' hrise'
  dsimp only
  rw [if_neg (by rw [hbusy', hoff', hrise']; decide)]
  split
  · next hn =>
    rw [hn] at hoff' ⊢
    exact on_lanesUp d .north hoff'
  · next hn =>
    rw [hn] at hoff' ⊢
    exact on_lanesUp d .south hoff'
  · exact on_domOn d n.isLt true

theorem d5IdleTimeout_completes (hst : s.dev.st = .held) (hcfg : s.dev.fld PWR_CFG PWR_CFG_D5_IDLE_MS ≠ 0) (hidle : s.dev.codecIdle = true)
    (hon : natBit (s.dev.fld PWR_DOM_STATUS PWR_DOM_STATUS_ON) 5 = true) (hopen : ((s.dev.tick t).windingDown 5).mayOpen 5 = true) :
    Completes (.d5IdleTimeout t) s fun e => natBit (e.fld PWR_DOM_STATUS PWR_DOM_STATUS_ON) 5 = false := by
  have hfall : (s.dev.tick t).domainMayFall 5 = true := by
    unfold Device.domainMayFall
    rw [show (s.dev.tick t).st = .held from hst]
    rfl
  have hready : (s.dev.tick t).st = .held ∧ (s.dev.tick t).fld PWR_CFG PWR_CFG_D5_IDLE_MS ≠ 0 ∧ (s.dev.tick t).codecIdle = true :=
    ⟨hst, hcfg, hidle⟩
  obtain ⟨hdown, -⟩ := domainDown_shows (s.dev.tick t) (n := 5) (by decide) hon hfall
  refine ⟨_, rfl, rfl, rfl, ?_⟩
  dsimp only
  rw [if_pos hready, hdown, hopen]
  rfl

theorem pmbusStatusPoll_completes (r : Fin 24) (w : BitVec 16) (hact : natBit (s.dev.fld PWR_MGN_ACTIVE PWR_MGN_ACTIVE_ACTIVE) r = true)
    (hw : w &&& 0xF7FF ≠ 0) :
    Completes (.pmbusStatusPoll t r w false) s fun e => e.fld PWR_PMB_STATUS PWR_PMB_STATUS_RAIL = r.val ∧
      e.fld PWR_PMB_STATUS PWR_PMB_STATUS_STATUS_WORD = w.toNat := by
  have hact' : natBit ((s.dev.tick t).fld PWR_MGN_ACTIVE PWR_MGN_ACTIVE_ACTIVE) r = true := hact
  have hreg (d : Device) (o x y : Nat) : (d.ledgerEvent lbPmbusFault o x y).reg PWR_PMB_STATUS = d.reg PWR_PMB_STATUS :=
    reg_ledgerEvent d (by decide) (by decide) (by decide) (by decide) (by decide) o x y
  have hr : r.val < 32 := by omega
  refine ⟨_, rfl, rfl, rfl, ?_⟩
  dsimp only
  rw [if_neg (by rw [hact']; decide), if_neg (by decide), if_neg hw, fld_congr (hreg _ _ _ _), fld_congr (hreg _ _ _ _),
    fld_setFld_other _ _ _ (by decide) (by decide), fld_setFld_self _ _ (by decide), fld_setFld_self _ _ (by decide)]
  exact ⟨Nat.mod_eq_of_lt hr, Nat.mod_eq_of_lt w.isLt⟩

theorem marginRequest_completes (v : Word) (x : RailEntry) (hx : s.dev.railEntries.find? (fun e => e.rail == PWR_MGN_CTRL_RAIL.get v) = some x) :
    (s.dev.st ≠ .held → Completes (.marginRequest t v false) s fun e => e.flag PWR_MGN_ACTIVE PWR_MGN_ACTIVE_REFUSED = true ∧
        e.pwr.inj = s.dev.pwr.inj) ∧
      (s.dev.st = .held → x.marginInj = true → PWR_MGN_CTRL_MODE.get v = 1 → PWR_MGN_CTRL_RAIL.get v < 24 →
        Completes (.marginRequest t v false) s fun e =>
          natBit (e.fld PWR_MGN_ACTIVE PWR_MGN_ACTIVE_ACTIVE) (PWR_MGN_CTRL_RAIL.get v) = true ∧
          sget (fun _ => 0) e.pwr.inj (PWR_MGN_CTRL_RAIL.get v) = max (-50) (min 50 (toSigned 8 (PWR_MGN_CTRL_STEPS.get v)))) := by
  have hx' : (s.dev.tick t).railEntries.find? (fun e => e.rail == PWR_MGN_CTRL_RAIL.get v) = some x := hx
  refine ⟨fun hst => ⟨_, rfl, rfl, rfl, ?_⟩, fun hst hinj hmode hr => ⟨_, rfl, rfl, rfl, ?_⟩⟩
  · obtain ⟨hrefused, hpwr⟩ := marginRequest_refused (s.dev.tick t) v hx' hst
    exact ⟨hrefused, congrArg PowerS.inj hpwr⟩
  · have hshows := injected_shows (s.dev.tick t) v hr
    dsimp only
    rw [marginRequest_injects (s.dev.tick t) v hx' hst hinj hmode]
    split
    · rw [fld_writeOper, inj_writeOper]
      exact hshows
    · exact hshows

end

/-- Settles O9: the wind-down of a domain's blocks leaves the domains' status, so that its switch and BUSY follow from what waits alone. -/
theorem domainsPaceAndMargins : Obligations.DomainsPaceAndMargins := by
  intro t s
  refine ⟨domainPowerDown_completes t s, domainDmaAbort_completes t s, domainPowerUp_completes t s, d5IdleTimeout_completes t s,
    fun h => ⟨_, rfl, rfl, rfl, paceRequest_shows (s.dev.tick t) h⟩, fun h hto => ⟨_, rfl, rfl, rfl, paceDone_shows (s.dev.tick t) h hto⟩,
    marginRequest_completes t s, pmbusStatusPoll_completes t s⟩

end Sys2Proof.Machine

end

section

set_option Elab.async false

namespace Sys2Proof.Machine

/-! # Boot steps 2 to 8 (R58 to R68) -/

/-- Where the boot stands at a step and goes on, no step has failed and no shutdown is in progress. -/
theorem bootAt_iff (d : Device) (n : Nat) : d.bootAt n = true ↔
    d.st = .booting ∧ d.fld CFG_STATUS CFG_STATUS_STEP = n ∧ d.bootFailed = false ∧ d.boot.intFail = false ∧ d.pwr.down = none := by
  simp [Device.bootAt, and_assoc]

/-- A boot step that completes is shown, and no other register changes. -/
theorem bootStep_shows (d : Device) {n : Nat} (hn : n < 16) :
    (d.bootStep n).fld CFG_STATUS CFG_STATUS_STEP = n ∧ ∀ a, a ≠ CFG_STATUS → (d.bootStep n).reg a = d.reg a :=
  ⟨(fld_setFld_self d CFG_STATUS (by decide) n).trans (Nat.mod_eq_of_lt hn), fun _ ha => reg_setFld_ne d _ n ha⟩

section

variable (t : Nat) (s : State)

/-- With the internal rails in regulation and no pin low, North takes the token and the domains of R40 are on (R61, R64). -/
theorem railsInRegulation_shows (d : Device) (hpins : d.kerb.pinsLow = 0) :
    d.railsInRegulation.fld CFG_STATUS CFG_STATUS_STEP = 2 ∧ d.railsInRegulation.token = some .north ∧
      d.railsInRegulation.role .north = .active ∧ d.railsInRegulation.role .south = .standby ∧
      d.railsInRegulation.fld PWR_DOM_STATUS PWR_DOM_STATUS_ON = 0x33DF := by
  unfold Device.railsInRegulation
  extract_lets d1 d2
  have hnone : maskList 3 d2.kerb.pinsLow = [] := by
    rw [show d2.kerb.pinsLow = 0 from hpins]
    decide
  rw [hnone]
  have hstep : d1.fld CFG_STATUS CFG_STATUS_STEP = 2 :=
    (fld_setFld_ne ((d.bootStep 2).modPwr fun v => { v with bucks := true }) _ _ bootDomains (by decide)).trans (bootStep_shows d (by decide)).1
  exact ⟨hstep, rfl, rfl, rfl, fld_setFld_self _ PWR_DOM_STATUS (by decide) bootDomains⟩

theorem intRailsInRegulation_completes (temp : Int) (hat : s.dev.bootAt 1 = true) (hready : s.dev.boot.d0Ready = true)
    (hclk : natBit s.dev.clk.failed 0 = false) (hwait : s.dev.flag CLK_STATUS CLK_STATUS_CLASS_A_WAIT = false)
    (htrip : s.dev.sticky lbThermTrip = false) (hpins : s.dev.kerb.pinsLow = 0) :
    Completes (.intRailsInRegulation t temp) s fun e => e.fld CFG_STATUS CFG_STATUS_STEP = 2 ∧ e.token = some .north ∧
      e.role .north = .active ∧ e.role .south = .standby ∧ e.fld PWR_DOM_STATUS PWR_DOM_STATUS_ON = 0x33DF := by
  obtain ⟨hat', hready', hclk', hwait', htrip'⟩ : (s.dev.tick t).bootAt 1 = true ∧ (s.dev.tick t).boot.d0Ready = true ∧
      natBit (s.dev.tick t).clk.failed 0 = false ∧ (s.dev.tick t).flag CLK_STATUS CLK_STATUS_CLASS_A_WAIT = false ∧
      (s.dev.tick t).sticky lbThermTrip = false := ⟨hat, hready, hclk, hwait, htrip⟩
  refine ⟨_, rfl, rfl, rfl, ?_⟩
  dsimp only
  rw [hat', hready', hclk', hwait', htrip', Bool.false_and, if_neg (by decide), if_neg (by decide)]
  exact railsInRegulation_shows _ hpins

theorem intRailFail_completes (hat : s.dev.bootAt 1 = true) : Completes (.intRailFail t) s fun e => e.boot.intFail = true := by
  refine ⟨_, rfl, rfl, rfl, ?_⟩
  dsimp only
  rw [if_pos (by exact hat)]
  rfl

theorem fusesRead_completes (hat : s.dev.bootAt 2 = true) :
    Completes (.fusesRead t true) s fun e => e.fld CFG_STATUS CFG_STATUS_STEP = 3 ∧ ∀ a, a ≠ CFG_STATUS → e.reg a = s.dev.reg a := by
  have hat' : (s.dev.tick t).bootAt 2 = true := hat
  refine ⟨_, rfl, rfl, rfl, ?_⟩
  dsimp only
  rw [if_neg (by simp [hat']), if_pos rfl]
  exact bootStep_shows (s.dev.tick t) (by decide)

end

/-- A failed boot step is recorded and locks the registers (R66, R82). -/
theorem bootFail_shows (d : Device) {step : Nat} (h : step < 16) :
    (d.bootFail step).fld CFG_STATUS CFG_STATUS_FAILED_STEP = step ∧ (d.bootFail step).flag CFG_STATUS CFG_STATUS_LOCKED = true := by
  unfold Device.bootFail Device.lock
  refine ⟨?_, flag_setFlag_self _ CFG_STATUS (by decide) (by decide) true⟩
  rw [fld_setFlag_other _ _ _ (by decide) (by decide), fld_congr (reg_ledgerEvent _ (by decide) (by decide) (by decide) (by decide) (by decide) _ _ _)]
  exact (fld_setFld_self d CFG_STATUS (by decide) step).trans (Nat.mod_eq_of_lt h)

/-- The end of a failed boot's shutdown is not shown in CFG_STATUS. -/
theorem downEnds_bootFail_reg {d : Device} (h : d.pwr.down = some .bootFail) : d.downEnds.reg CFG_STATUS = d.reg CFG_STATUS := by
  unfold Device.downEnds
  extract_lets d1 d2
  rw [show d1.pwr.down = some .bootFail from h]
  exact reg_setFlag_ne d _ _ (by decide)

/-- The shutdown of the rails that follows leaves the record (R66). -/
theorem bootFailRails_reg (d : Device) (step : Nat) : (d.bootFailRails step).reg CFG_STATUS = (d.bootFail step).reg CFG_STATUS := by
  obtain ⟨-, -, hreg⟩ := railsDown_only (d.bootFail step) .bootFail 0
  have hrails : ((d.bootFail step).railsDown .bootFail 0).reg CFG_STATUS = (d.bootFail step).reg CFG_STATUS :=
    (hreg CFG_STATUS (by decide)).trans ((reg_setFlag_ne _ _ _ (by decide)).trans (reg_setFlag_ne _ _ _ (by decide)))
  unfold Device.bootFailRails
  extract_lets d1
  split
  · exact (downEnds_bootFail_reg (by rw [railsDown_pwr])).trans hrails
  · exact hrails

theorem fusesRead_fails (t : Nat) (s : State) (hat : s.dev.bootAt 2 = true) :
    Completes (.fusesRead t false) s fun e => e.fld CFG_STATUS CFG_STATUS_FAILED_STEP = 3 ∧ e.flag CFG_STATUS CFG_STATUS_LOCKED = true := by
  have hat' : (s.dev.tick t).bootAt 2 = true := hat
  refine ⟨_, rfl, rfl, rfl, ?_⟩
  dsimp only
  rw [if_neg (by simp [hat']), if_neg (by decide), fld_congr (bootFailRails_reg _ 3), flag_congr (bootFailRails_reg _ 3)]
  exact bootFail_shows _ (by decide)

/-- OPERATION written to the PMBus rails changes the power control's record alone. -/
theorem writeOpers_only (l : List RailEntry) (d : Device) :
    ∃ o, (d.each l fun e d => d.writeOper e.rail operNominal) = { d with pwr := { d.pwr with oper := o } } := by
  refine each_inv (P := fun e => ∃ o, e = { d with pwr := { d.pwr with oper := o } }) ?_ l d ⟨_, rfl⟩
  rintro x _ ⟨o, rfl⟩
  exact ⟨_, rfl⟩

/-- The sequencer starts at its first entry where that one's enable is low (R546). -/
theorem seqStart_shows {d : Device} {x : RailEntry} (hx : d.railEntries[0]? = some x) (hlow : d.renHigh x.rail = false) :
    d.seqStart.reg CFG_STATUS = d.reg CFG_STATUS ∧ d.seqStart.pwr.seq = .delay 0 := by
  unfold Device.seqStart
  obtain ⟨o, ho⟩ := writeOpers_only (d.railEntries.filter fun e => e.marginPmb) d
  rw [ho]
  generalize he : ({ d with pwr := { d.pwr with oper := o } } : Device) = e
  have hreg : e.reg CFG_STATUS = d.reg CFG_STATUS := by rw [← he]; rfl
  have hx' : e.railEntries[0]? = some x := by rw [← he]; exact hx
  have hlow' : e.renHigh x.rail = false := by rw [← he]; exact hlow
  unfold Device.seqFrom
  rw [hx']
  dsimp only
  rw [if_neg (by simp [hlow'])]
  exact ⟨(reg_setFlag_ne e _ _ (by decide)).trans hreg, rfl⟩

theorem memorySelfTest_completes (t : Nat) (s : State) (x : RailEntry) (hat : s.dev.bootAt 4 = true) (hx : s.dev.railEntries[0]? = some x)
    (hlow : s.dev.renHigh x.rail = false) :
    Completes (.memorySelfTest t true true true) s fun e => e.fld CFG_STATUS CFG_STATUS_STEP = 5 ∧ e.pwr.seq = .delay 0 := by
  have hat' : (s.dev.tick t).bootAt 4 = true := hat
  obtain ⟨hstep, hother⟩ := bootStep_shows (s.dev.tick t) (n := 5) (by decide)
  have hlow' : ((s.dev.tick t).bootStep 5).renHigh x.rail = false := by
    unfold Device.renHigh
    rw [fld_congr (hother PWR_RAIL_EN (by decide))]
    exact hlow
  obtain ⟨hreg, hseq⟩ := seqStart_shows (d := (s.dev.tick t).bootStep 5) hx hlow'
  refine ⟨_, rfl, rfl, rfl, ?_⟩
  dsimp only
  rw [if_neg (by simp [hat']), if_neg (by decide), if_pos rfl, if_pos rfl]
  exact ⟨(fld_congr hreg _).trans hstep, hseq⟩

theorem railSequenceComplete_completes (t : Nat) (s : State) (hat : s.dev.bootAt 5 = true) (hseq : s.dev.pwr.seq = .done) :
    Completes (.railSequenceComplete t) s fun e => e.fld CFG_STATUS CFG_STATUS_STEP = 6 ∧ ∀ a, a ≠ CFG_STATUS → e.reg a = s.dev.reg a := by
  have hready : ((s.dev.tick t).bootAt 5 && (s.dev.tick t).pwr.seq == .done) = true := by
    rw [show (s.dev.tick t).bootAt 5 = true from hat, show (s.dev.tick t).pwr.seq = .done from hseq]
    rfl
  refine ⟨_, rfl, rfl, rfl, ?_⟩
  dsimp only
  rw [if_pos hready]
  exact bootStep_shows (s.dev.tick t) (by decide)

/-! The end of the boot (R61, R68). -/

/-- The device state, configuration retry, and the boot's register. -/
def bootView (d : Device) : DevState × Bool × Word := (d.st, d.host.cfgRetry, d.reg CFG_STATUS)

theorem bootView_setReg (d : Device) {a : Nat} (h : a ≠ CFG_STATUS) (v : Word) : bootView (d.setReg a v) = bootView d := by
  unfold bootView
  rw [reg_setReg_ne d v h.symm]
  rfl

theorem bootView_withPort (d : Device) (v : List (Nat × PortS)) : bootView (d.withPort v) = bootView d := rfl

theorem bootView_domOn (d : Device) (n : Nat) (b : Bool) : bootView (d.domOn n b) = bootView d := bootView_setReg d (by decide) _

theorem bootView_trainPort (d : Device) (q : Side) (s : Nat) : bootView (d.trainPort q s) = bootView d := by
  have hport : ENW_STATUS q s ≠ CFG_STATUS := by
    have := base_eq q
    simp only [ENW_STATUS, CFG_STATUS]
    omega
  exact (bootView_withPort _ _).trans (bootView_setReg d hport _)

theorem bootView_lanesUp (d : Device) (q : Side) : bootView (d.lanesUp q) = bootView d := by
  unfold Device.lanesUp
  split
  · rfl
  · refine (each_keeps (p := bootView) (fun s e => ?_) (List.range 8) _).trans (bootView_domOn d _ true)
    split
    · exact bootView_trainPort e q s
    · rfl

theorem bootView_setSt (d : Device) (n : DevState) : bootView (d.setSt n) = (n, d.host.cfgRetry, d.reg CFG_STATUS) := by
  unfold bootView
  rw [setSt_st, reg_setSt d n (by decide)]
  refine congrArg (fun b => (n, b, d.reg CFG_STATUS)) ?_
  refine setSt_keeps d (p := fun d => d.host.cfgRetry) (fun _ _ _ _ => rfl) (fun _ _ _ _ => rfl) (fun e f hf => ?_) (fun _ _ => rfl) n
  obtain ⟨-, -, -, -, -, -, -, -, -, -, -, hretry, -⟩ := hf e.host
  exact hretry

/-- Ready powers domains and latches the pitch, which leaves the boot's register and the host's retries (R40, R395). -/
theorem bootView_enterReady (d : Device) : bootView d.enterReady = (.ready, d.host.cfgRetry, d.reg CFG_STATUS) :=
  calc bootView d.enterReady
    _ = bootView (d.setSt .ready).domainsReady := rfl
    _ = bootView ((d.setSt .ready).domOn 5 true) := each_keeps (p := bootView) (fun q e => bootView_lanesUp e q) _ _
    _ = bootView (d.setSt .ready) := bootView_domOn _ 5 true
    _ = (.ready, d.host.cfgRetry, d.reg CFG_STATUS) := bootView_setSt d .ready

/-- The device once step 8 is shown, with the time that the boot took, and the host no longer retries (R61, R68). -/
def Device.bootEnds (d : Device) : Device :=
  ((d.bootStep 8).setNat CFG_BOOT_TIME ((d.now - d.boot.ref) / tuPerUs)).modHost fun v => { v with cfgRetry := false }

theorem bootEnds_shows (d : Device) : d.bootEnds.fld CFG_STATUS CFG_STATUS_STEP = 8 ∧ d.bootEnds.bootFailed = d.bootFailed := by
  have hreg : d.bootEnds.reg CFG_STATUS = (d.bootStep 8).reg CFG_STATUS := reg_setNat_ne (d.bootStep 8) _ (by decide)
  unfold Device.bootFailed
  rw [fld_congr hreg, fld_congr hreg]
  refine ⟨(bootStep_shows d (by decide)).1, ?_⟩
  unfold Device.bootStep
  rw [fld_setFld_other d _ _ (by decide) (by decide)]

theorem bootComplete_completes (t : Nat) (s : State) (hat : s.dev.bootAt 7 = true) (htoken : s.dev.token ≠ none)
    (hlatched : s.dev.kerb.latched = 0) :
    Completes (.bootComplete t) s fun e => e.st = .ready ∧ e.fld CFG_STATUS CFG_STATUS_STEP = 8 ∧ e.host.cfgRetry = false := by
  obtain ⟨hst, -, hfail, -, hdown⟩ := (bootAt_iff s.dev 7).mp hat
  have hgo : ¬((s.dev.tick t).st ≠ .booting ∨ (s.dev.tick t).pwr.down.isSome = true ∨
      (!((s.dev.tick t).bootFailed || (s.dev.tick t).bootAt 7)) = true) := by
    rw [show (s.dev.tick t).bootAt 7 = true from hat]
    simp [hst, hdown]
  obtain ⟨hstep, hfailed⟩ := bootEnds_shows (s.dev.tick t)
  obtain ⟨htoken', hlatched', hfail'⟩ : (s.dev.tick t).bootEnds.token ≠ none ∧ (s.dev.tick t).bootEnds.kerb.latched = 0 ∧
      (s.dev.tick t).bootEnds.bootFailed = false := ⟨htoken, hlatched, hfailed.trans hfail⟩
  have hview := bootView_enterReady (s.dev.tick t).bootEnds
  refine ⟨_, rfl, rfl, rfl, ?_⟩
  dsimp only
  rw [if_neg hgo]
  change let d := (s.dev.tick t).bootEnds
    let e := if d.token = none then (d.setLive ktDouble true).kerbTrigger ktDouble shared 0 else d
    let u := if e.kerb.latched ≠ 0 then e.bootSafe else if e.bootFailed then e.enterHeld else e.enterReady
    u.st = .ready ∧ u.fld CFG_STATUS CFG_STATUS_STEP = 8 ∧ u.host.cfgRetry = false
  dsimp only
  rw [if_neg htoken', if_neg (not_not_intro hlatched'), if_neg (by rw [hfail']; decide)]
  obtain ⟨hst', hview'⟩ := Prod.mk.inj hview
  obtain ⟨hretry, hreg⟩ := Prod.mk.inj hview'
  exact ⟨hst', (fld_congr hreg _).trans hstep, hretry⟩

/-- Settles O10: one lemma for each command of the boot. -/
theorem bootStepsComplete : Obligations.BootStepsComplete := by
  intro t s
  refine ⟨fun h => ⟨fun temp => intRailsInRegulation_completes t s temp h, intRailFail_completes t s h⟩,
    fun h => ⟨fusesRead_completes t s h, fusesRead_fails t s h⟩, memorySelfTest_completes t s, railSequenceComplete_completes t s,
    bootComplete_completes t s⟩

end Sys2Proof.Machine

end

section

set_option Elab.async false

namespace Sys2Proof.Machine

/-! # Update commands (R83 to R87) -/

/-- The update command that is issued now, with its region as the registers give it. -/
def Device.updateOf (d : Device) (op : Nat) (c : Copy) (data : List Byte) : Update :=
  { op, copy := c, offset := d.nat CFG_UPD_OFFSET, len := d.nat CFG_UPD_LEN, data }

/-- An update command has been taken: it runs, or is held while the temperature forbids writing (R84). -/
def UpdateIssued (d : Device) (u : Update) (e : Device) : Prop :=
  e.boot.update = some u ∧ e.fld CFG_UPD_STATUS CFG_UPD_STATUS_STATE = (if d.writesOut then 2 else 1) ∧
    e.fld CFG_UPD_STATUS CFG_UPD_STATUS_ERR = 0

section

variable (d : Device)

/-- An update command that ends is gone, with its error, and writes no flash (R87). -/
theorem updateEnd_shows {err : Nat} (h : err < 16) :
    (d.updateEnd err).boot.update = none ∧ (d.updateEnd err).fld CFG_UPD_STATUS CFG_UPD_STATUS_STATE = 3 ∧
      (d.updateEnd err).fld CFG_UPD_STATUS CFG_UPD_STATUS_ERR = err ∧ (d.updateEnd err).flash = d.flash ∧
      (d.updateEnd err).fld CFG_UPD_STATUS CFG_UPD_STATUS_RESULT = d.fld CFG_UPD_STATUS CFG_UPD_STATUS_RESULT := by
  unfold Device.updateEnd
  extract_lets d1 d2
  rw [post_boot, post_flash, fld_congr (reg_post _ _ _ _ _ _ (by decide)), fld_congr (reg_post _ _ _ _ _ _ (by decide)),
    fld_congr (reg_post _ _ _ _ _ _ (by decide))]
  refine ⟨rfl, fld_setFld_self _ CFG_UPD_STATUS (by decide) 3, ?_, rfl, ?_⟩
  · rw [fld_setFld_other _ _ _ (by decide) (by decide)]
    exact (fld_setFld_self d1 CFG_UPD_STATUS (by decide) err).trans (Nat.mod_eq_of_lt h)
  · rw [fld_setFld_other _ _ _ (by decide) (by decide), fld_setFld_other _ _ _ (by decide) (by decide)]
    rfl

/-- A command that starts to run keeps its place and shows its state; the flash changes at most (R85). -/
theorem updateRun_shows (u : Update) :
    (d.updateRun u).boot.update = d.boot.update ∧ (d.updateRun u).fld CFG_UPD_STATUS CFG_UPD_STATUS_STATE = 1 ∧
      (d.updateRun u).fld CFG_UPD_STATUS CFG_UPD_STATUS_ERR = d.fld CFG_UPD_STATUS CFG_UPD_STATUS_ERR := by
  have hstate : (d.setFld CFG_UPD_STATUS CFG_UPD_STATUS_STATE 1).fld CFG_UPD_STATUS CFG_UPD_STATUS_STATE = 1 :=
    fld_setFld_self d CFG_UPD_STATUS (by decide) 1
  have herr : (d.setFld CFG_UPD_STATUS CFG_UPD_STATUS_STATE 1).fld CFG_UPD_STATUS CFG_UPD_STATUS_ERR = d.fld CFG_UPD_STATUS CFG_UPD_STATUS_ERR :=
    fld_setFld_other d CFG_UPD_STATUS 1 (by decide) (by decide)
  unfold Device.updateRun
  extract_lets d1 d2
  split
  · exact ⟨rfl, hstate, herr⟩
  · exact ⟨rfl, hstate, herr⟩

/-- Whether writes are held does not depend on the state of the update command (R84). -/
theorem writesOut_setUpd (f : Fld) (v : Nat) : (d.setFld CFG_UPD_STATUS f v).writesOut = d.writesOut := by
  have hzone (z : Nat) (g : Fld) : (d.setFld CFG_UPD_STATUS f v).fld (THM_ZONE_STATUS z) g = d.fld (THM_ZONE_STATUS z) g :=
    fld_setFld_ne d f g v (by unfold THM_ZONE_STATUS CFG_UPD_STATUS; omega)
  have hboard : (d.setFld CFG_UPD_STATUS f v).boardZone = d.boardZone := by
    unfold Device.boardZone
    rfl
  unfold Device.writesOut Device.flag
  dsimp only
  rw [hboard, hzone, hzone]

theorem updateRange_setUpd (u : Update) (f : Fld) (v : Nat) : (d.setFld CFG_UPD_STATUS f v).updateRange u = d.updateRange u := by
  unfold Device.updateRange
  rw [fld_setFld_ne d _ _ _ (by decide)]
  rfl

/-- With no command in progress and a region that fits, a command that does not write the copy in use is taken (R83, R84). -/
theorem updateIssue_issued {op : Nat} {c : Copy} {data : List Byte} (hnone : d.boot.update = none)
    (hcopy : (op = uoErase ∨ op = uoProgram) → d.fld CFG_STATUS CFG_STATUS_BOOT_COPY ≠ c.code)
    (hrange : d.updateRange (d.updateOf op c data) = true) : UpdateIssued d (d.updateOf op c data) (d.updateIssue op c data) := by
  have herr : (d.setFld CFG_UPD_STATUS CFG_UPD_STATUS_ERR 0).fld CFG_UPD_STATUS CFG_UPD_STATUS_ERR = 0 :=
    fld_setFld_self d CFG_UPD_STATUS (by decide) 0
  unfold Device.updateIssue
  rw [hnone]
  extract_lets u d1 d2
  have hcopy' : ¬((op = uoErase ∨ op = uoProgram) ∧ d1.fld CFG_STATUS CFG_STATUS_BOOT_COPY = c.code) := by
    rintro ⟨hop, hc⟩
    exact hcopy hop ((fld_setFld_ne d _ _ _ (by decide)).symm.trans hc)
  have hrange' : d1.updateRange u = true := (updateRange_setUpd d u _ _).trans hrange
  have hwrites : d2.writesOut = d.writesOut := writesOut_setUpd d _ _
  rw [if_neg (by decide), if_neg hcopy', if_neg (by simp [hrange']), hwrites]
  unfold UpdateIssued
  cases hw : d.writesOut with
  | true =>
    refine ⟨rfl, fld_setFld_self d2 CFG_UPD_STATUS (by decide) 2, ?_⟩
    exact (fld_setFld_other d2 CFG_UPD_STATUS 2 (by decide) (by decide)).trans herr
  | false =>
    obtain ⟨hupd, hstate, herr'⟩ := updateRun_shows d2 u
    exact ⟨hupd, hstate, herr'.trans herr⟩

/-- ERASE and PROGRAM of the copy in use end at once (R83). -/
theorem updateIssue_bootCopy {op : Nat} {c : Copy} (data : List Byte) (hnone : d.boot.update = none) (hop : op = uoErase ∨ op = uoProgram)
    (hcopy : d.fld CFG_STATUS CFG_STATUS_BOOT_COPY = c.code) :
    (d.updateIssue op c data).fld CFG_UPD_STATUS CFG_UPD_STATUS_ERR = 1 ∧ (d.updateIssue op c data).flash = d.flash := by
  unfold Device.updateIssue
  rw [hnone]
  extract_lets u d1 d2
  have hcopy' : d1.fld CFG_STATUS CFG_STATUS_BOOT_COPY = c.code := (fld_setFld_ne d _ _ _ (by decide)).trans hcopy
  obtain ⟨-, -, herr, hflash, -⟩ := updateEnd_shows d1 (err := ueBootCopy) (by decide)
  rw [if_neg (by decide), if_pos ⟨hop, hcopy'⟩]
  exact ⟨herr, hflash⟩

end

section

variable (t : Nat) (s : State) {v : Update}

theorem updateAbort_completes (hupd : s.dev.boot.update = some v) :
    Completes (.updateAbort t) s fun e => e.boot.update = none ∧ e.fld CFG_UPD_STATUS CFG_UPD_STATUS_STATE = 3 ∧
      e.fld CFG_UPD_STATUS CFG_UPD_STATUS_ERR = 7 ∧ e.flash = s.dev.flash := by
  refine ⟨_, rfl, rfl, rfl, ?_⟩
  obtain ⟨hnone, hstate, herr, hflash, -⟩ := updateEnd_shows (s.dev.tick t) (err := ueAborted) (by decide)
  dsimp only
  unfold Device.updateAbort
  rw [if_pos (by rw [show (s.dev.tick t).boot.update = some v from hupd]; rfl)]
  exact ⟨hnone, hstate, herr, hflash⟩

/-- UPDATE_COMPLETE ends the command that runs. -/
theorem exec_updateComplete (ok : Bool) (hupd : s.dev.boot.update = some v) (hrun : s.dev.fld CFG_UPD_STATUS CFG_UPD_STATUS_STATE = 1) :
    exec (.updateComplete t ok) s = .next { s with dev := (s.dev.tick t).updateDone s.fuses v ok } := by
  refine congrArg (fun d => Host.Outcome.next { s with dev := d }) ?_
  dsimp only
  rw [show (s.dev.tick t).boot.update = some v from hupd]
  exact if_pos hrun

/-- The flash gives no response (R87). -/
theorem updateComplete_noFlash (hupd : s.dev.boot.update = some v) (hrun : s.dev.fld CFG_UPD_STATUS CFG_UPD_STATUS_STATE = 1) :
    Completes (.updateComplete t false) s fun e => e.boot.update = none ∧ e.fld CFG_UPD_STATUS CFG_UPD_STATUS_STATE = 3 ∧
      e.fld CFG_UPD_STATUS CFG_UPD_STATUS_ERR = 3 := by
  obtain ⟨hnone, hstate, herr, -, -⟩ := updateEnd_shows (s.dev.tick t) (err := ueFlash) (by decide)
  exact ⟨_, exec_updateComplete t s false hupd hrun, rfl, rfl, hnone, hstate, herr⟩

/-- VALIDATE reports the checks of its copy (R85). -/
theorem updateComplete_validate (hupd : s.dev.boot.update = some v) (hrun : s.dev.fld CFG_UPD_STATUS CFG_UPD_STATUS_STATE = 1)
    (hop : v.op = uoValidate) (hflash : s.dev.flash.present = true) :
    Completes (.updateComplete t true) s fun e => e.boot.update = none ∧ e.fld CFG_UPD_STATUS CFG_UPD_STATUS_STATE = 3 ∧
      e.fld CFG_UPD_STATUS CFG_UPD_STATUS_ERR = 0 ∧
      e.fld CFG_UPD_STATUS CFG_UPD_STATUS_RESULT = ((s.dev.tick t).checkCopy s.fuses v.copy).1 % 16 := by
  have hflash' : (s.dev.tick t).flash.present = true := hflash
  refine ⟨_, exec_updateComplete t s true hupd hrun, rfl, rfl, ?_⟩
  generalize s.dev.tick t = d at hflash' ⊢
  obtain ⟨hnone, hstate, herr, -, hresult⟩ :=
    updateEnd_shows (d.setFld CFG_UPD_STATUS CFG_UPD_STATUS_RESULT (d.checkCopy s.fuses v.copy).1) (err := 0) (by decide)
  dsimp only
  unfold Device.updateDone
  rw [hop, hflash', if_neg (by decide), if_neg (by simp [uoValidate, uoProgram, uoVerify]), if_neg (by decide), if_neg (by decide), if_neg (by decide)]
  exact ⟨hnone, hstate, herr, hresult.trans (fld_setFld_self d CFG_UPD_STATUS (by decide) _)⟩

/-- A held command runs once writing is allowed (R84, R574). -/
theorem updateDeferResume_completes (hupd : s.dev.boot.update = some v) (hheld : s.dev.fld CFG_UPD_STATUS CFG_UPD_STATUS_STATE = 2)
    (hfree : s.dev.flag THM_STATUS THM_STATUS_WRITE_HOLD = false) :
    Completes (.updateDeferResume t) s fun e => e.boot.update = some v ∧ e.fld CFG_UPD_STATUS CFG_UPD_STATUS_STATE = 1 := by
  obtain ⟨hkeep, hstate, -⟩ := updateRun_shows (s.dev.tick t) v
  have hgo : (s.dev.tick t).fld CFG_UPD_STATUS CFG_UPD_STATUS_STATE = 2 ∧ (!(s.dev.tick t).flag THM_STATUS THM_STATUS_WRITE_HOLD) = true :=
    ⟨hheld, by rw [flag_tick, hfree]; rfl⟩
  refine ⟨_, rfl, rfl, rfl, ?_⟩
  dsimp only
  unfold Device.updateResume
  rw [show (s.dev.tick t).boot.update = some v from hupd]
  dsimp only
  rw [if_pos hgo]
  exact ⟨hkeep.trans hupd, hstate⟩

end

/-- Settles O18: `updateIssue_issued` and `updateIssue_bootCopy` for the commands that begin, one lemma for each event that ends one. -/
theorem updateCommandsRunAndEnd : Obligations.UpdateCommandsRunAndEnd := by
  intro t s c data
  refine ⟨fun hnone => ⟨fun hother => ⟨fun hrange => ?_, fun hrange => ?_⟩, fun hrange => ?_, ?_, fun hsame => ⟨?_, ?_⟩⟩, fun v hupd =>
    ⟨updateAbort_completes t s hupd, fun hrun => ⟨updateComplete_noFlash t s hupd hrun, updateComplete_validate t s hupd hrun⟩,
      updateDeferResume_completes t s hupd⟩⟩
  · exact ⟨_, rfl, rfl, rfl, updateIssue_issued (s.dev.tick t) hnone (fun _ => hother) hrange⟩
  · exact ⟨_, rfl, rfl, rfl, updateIssue_issued (s.dev.tick t) hnone (fun _ => hother) hrange⟩
  · exact ⟨_, rfl, rfl, rfl, updateIssue_issued (s.dev.tick t) hnone (by simp [uoVerify, uoErase, uoProgram]) hrange⟩
  · exact ⟨_, rfl, rfl, rfl, updateIssue_issued (s.dev.tick t) hnone (by simp [uoValidate, uoErase, uoProgram]) rfl⟩
  · exact ⟨_, rfl, rfl, rfl, updateIssue_bootCopy (s.dev.tick t) [] hnone (.inl rfl) hsame⟩
  · exact ⟨_, rfl, rfl, rfl, updateIssue_bootCopy (s.dev.tick t) data hnone (.inr rfl) hsame⟩

end Sys2Proof.Machine

end

section

set_option Elab.async false

namespace Sys2Proof.Machine

/-! # The link and its interrupts (R60, R124 to R127, R147, R155, R157, R631) -/

/-- The link, the pages in ingest, the host's buffers and the rings in force. -/
abbrev LinkView := Bool × List IngestS × List InspBuf × List (Nat × RingForce)

def linkView (d : Device) : LinkView := (d.host.linkUp, d.host.ingest, d.host.bufs, d.host.rings)

/-- The link and what the host has given over it are `w`. -/
def LinkKept (w : LinkView) (d : Device) : Prop := linkView d = w

theorem linkView_events (d : Device) {f : HostIf → HostIf} (hf : EventsOnly f) : linkView (d.modHost f) = linkView d := by
  obtain ⟨hrings, -, hingest, -, -, -, -, -, hbufs, -, hup, -⟩ := hf d.host
  change ((f d.host).linkUp, (f d.host).ingest, (f d.host).bufs, (f d.host).rings) = linkView d
  rw [hrings, hingest, hbufs, hup]
  rfl

theorem kerbKeeps_linkView (b : Nat) : KerbKeeps b linkView where
  quarter _ _ _ _ := rfl
  ledger _ _ _ _ := rfl
  mem _ _ _ _ := rfl
  host e _ hf := linkView_events e hf
  ldg _ _ := rfl
  rgl _ _ := rfl
  mot _ _ := rfl
  axs _ _ := rfl
  bmo _ _ := rfl
  dlv _ _ := rfl
  tml _ _ := rfl
  own _ _ _ _ := rfl
  safe _ _ _ _ := rfl
  st _ _ := rfl
  krb _ _ := rfl
  stop _ := rfl

namespace LinkKept

variable {w : LinkView} {d e : Device}

/-! Shared operations. -/

theorem ite {c : Prop} [Decidable c] (h : LinkKept w d) (h' : LinkKept w e) : LinkKept w (if c then d else e) := by
  split
  · exact h
  · exact h'

theorem each {α : Type} {l : List α} {f : α → Device → Device} (h : LinkKept w d) (hf : ∀ x e, LinkKept w e → LinkKept w (f x e)) :
    LinkKept w (d.each l f) := each_inv hf l d h

theorem setReg (h : LinkKept w d) {a : Nat} {v : Word} : LinkKept w (d.setReg a v) := h

theorem setNat (h : LinkKept w d) {a v : Nat} : LinkKept w (d.setNat a v) := h.setReg

theorem setFld (h : LinkKept w d) {a : Nat} {f : Fld} {v : Nat} : LinkKept w (d.setFld a f v) := h.setReg

theorem setFlag (h : LinkKept w d) {a : Nat} {f : Fld} {b : Bool} : LinkKept w (d.setFlag a f b) := h.setFld

theorem modBoot (h : LinkKept w d) {f : BootS → BootS} : LinkKept w (d.modBoot f) := h

theorem modPs (h : LinkKept w d) {f : StoreS → StoreS} : LinkKept w (d.modPs f) := h

theorem modArc (h : LinkKept w d) {f : CodecS → CodecS} : LinkKept w (d.modArc f) := h

theorem setArc (h : LinkKept w d) {f : CodecS → CodecS} : LinkKept w (d.setArc f) := h.modArc

theorem withDma (h : LinkKept w d) {v : List (Nat × ChanS)} : LinkKept w (d.withDma v) := h

theorem setChan (h : LinkKept w d) {x : Engine} {c : Nat} {v : ChanS} : LinkKept w (d.setChan x c v) := h.withDma

theorem events (h : LinkKept w d) {f : HostIf → HostIf} (hf : EventsOnly f) : LinkKept w (d.modHost f) := (linkView_events d hf).trans h

theorem setBytes (h : LinkKept w d) {a : Nat} {l : List Byte} : LinkKept w (d.setBytes a l) := by
  obtain ⟨m, hm⟩ := setBytes_only l d a
  rw [hm]
  exact h

theorem scramble (h : LinkKept w d) {a n : Nat} : LinkKept w (d.scramble a n) :=
  h.setBytes (a := a) (l := (List.range n).map fun i => Config.freeByte d.frees (a + i))

theorem post (h : LinkKept w d) {typ : Nat} {nmi : Bool} {code wsn data : Nat} : LinkKept w (d.post typ nmi code wsn data) :=
  (post_keeps d (p := linkView) (fun _ _ _ _ => rfl) (fun _ _ _ _ => rfl) (fun e _ hf => linkView_events e hf) typ nmi code wsn data).trans h

theorem ledgerEvent (h : LinkKept w d) {b o x y : Nat} : LinkKept w (d.ledgerEvent b o x y) :=
  (ledgerEvent_keeps d (kerbKeeps_linkView b) (kerbKeeps_linkView ktLedger) o x y).trans h

/-! What the reset of the endpoint calls after its rings have gone. -/

theorem unsend {l : List Posted} : ∀ {d : Device} (_ : LinkKept w d) {n : Nat}, LinkKept w (d.unsend l n) := by
  induction l with
  | nil => intro d h n; unfold Device.unsend; exact h
  | cons x r ih =>
    intro d h n
    cases n with
    | zero => exact h
    | succ n => exact ih h.setBytes

theorem dropPosted (h : LinkKept w d) {n : Nat} : LinkKept w (d.dropPosted n) := events h.unsend.setFld (fun _ => by simp)

theorem freePage (h : LinkKept w d) {p : Page} : LinkKept w (d.freePage p) := h.setFld

theorem dropChains (h : LinkKept w d) : LinkKept w d.dropChains := each h fun _ _ h => modArc (setFld h.setFld)

theorem ingestWait (h : LinkKept w d) {b : Bool} : LinkKept w (d.ingestWait b) := h.setFlag.modPs

theorem overflow (h : LinkKept w d) : LinkKept w d.overflow := ite h (h.events fun _ => by simp)

theorem updateEnd (h : LinkKept w d) {err : Nat} : LinkKept w (d.updateEnd err) := by
  unfold Device.updateEnd
  extract_lets d1 d2
  have h1 : LinkKept w d1 := h.modBoot
  exact h1.setFld.setFld.post

theorem updateHostError (h : LinkKept w d) : LinkKept w d.updateHostError := by
  unfold Device.updateHostError
  split
  · exact ite h.updateEnd h
  · exact h

theorem dmaHalt (h : LinkKept w d) {x : Engine} {c err : Nat} : LinkKept w (d.dmaHalt x c err) := h.setFld.setFlag.setChan

theorem dmaStart (h : LinkKept w d) {x : Engine} {c : Nat} : LinkKept w (d.dmaStart x c) := by
  unfold Device.dmaStart
  extract_lets d1
  have h1 : LinkKept w d1 := h.setFld.setChan
  exact ite h1 h1.dmaHalt

theorem dmaEnd (h : LinkKept w d) {x : Engine} {c err : Nat} : LinkKept w (d.dmaEnd x c err) := by
  unfold Device.dmaEnd
  extract_lets _ d1 d2
  have h1 : LinkKept w d1 := h.dmaHalt
  have h2 : LinkKept w d2 := ite h1.setFlag h1
  exact ite h2.dmaStart h2

theorem dmaHostError (h : LinkKept w d) : LinkKept w d.dmaHostError := each h fun _ _ h => h.dmaEnd

theorem cmpBusy (h : LinkKept w d) {c : Nat} {b : Bool} : LinkKept w (d.cmpBusy c b) := h.setFld

theorem jobEnd (h : LinkKept w d) {j : Job} {st err out : Nat} : LinkKept w (d.jobEnd j st err out) := by
  unfold Device.jobEnd
  extract_lets d1 d2 d3 d4
  have h3 : LinkKept w d3 := h.setFld.setFld.setFld.setNat.setNat
  have h4 : LinkKept w d4 := h3.setArc
  split
  · exact h3
  · extract_lets d5
    have h5 : LinkKept w d5 := ite h4.cmpBusy.setFld h4.setFld
    exact ite h5.scramble h5

theorem jobHostError (h : LinkKept w d) : LinkKept w d.jobHostError := by
  unfold Device.jobHostError
  split
  · exact h
  · exact ite h.jobEnd (ite h.jobEnd h)

theorem showImage (h : LinkKept w d) : LinkKept w d.showImage := each h fun _ _ h => h.setFlag

theorem imageFail (h : LinkKept w d) {x : InspImg} {code : Nat} : LinkKept w (d.imageFail x code) := by
  unfold Device.imageFail
  extract_lets d1 d2 d3 d4 d5
  have h2 : LinkKept w d2 := h.setArc.setNat
  have h3 : LinkKept w d3 := scramble h2.setFld
  have h4 : LinkKept w d4 := h3.post
  have h5 : LinkKept w d5 := ite h4.ledgerEvent h4
  exact setFld h5.showImage

theorem imagesFail (h : LinkKept w d) {code : Nat} : LinkKept w (d.imagesFail code) := each h fun _ _ h => h.imageFail

end LinkKept

/-- A reset of the endpoint leaves the link and empties ingest, the buffers and the rings in force (R60, R147). -/
theorem endpointReset_shows {d : Device} {up : Bool} (hup : d.host.linkUp = up) (unsent : Nat) :
    LinkKept (up, [], [], []) (d.endpointReset unsent) := by
  unfold Device.endpointReset
  extract_lets d1 pages d2 d3
  have h1 : d1.host.linkUp = up := (congrArg Prod.fst (LinkKept.dropPosted rfl : linkView d1 = linkView d)).trans hup
  have hreset : LinkKept (up, [], [], []) d1.ringReset := congrArg (fun b => (b, [], [], [])) h1
  have h3 : LinkKept (up, [], [], []) d3 := LinkKept.ingestWait (LinkKept.each hreset.dropChains fun _ _ h => h.freePage)
  exact h3.overflow.imagesFail.updateHostError.dmaHostError.jobHostError

theorem linkGoesDown_shows (d : Device) (unsent : Nat) : LinkKept (false, [], [], []) (d.linkGoesDown unsent) :=
  endpointReset_shows (d := (d.modHost fun v => { v with linkUp := false }).setReg HIF_LINK 0) rfl unsent

theorem LinkKept.parts {up : Bool} {d : Device} (h : LinkKept (up, [], [], []) d) :
    d.host.linkUp = up ∧ d.host.ingest = [] ∧ d.host.bufs = [] ∧ d.host.rings = [] := by
  simpa [LinkKept, linkView] using h

section

variable (t : Nat) (s : State)

/-- A fundamental or hot reset takes the link down; a Function Level Reset leaves it (R60, R124). -/
theorem pcieReset_completes (k : PcieResetKind) (unsent : Nat) :
    Completes (.pcieReset t k unsent) s fun e => e.host.linkUp = (s.dev.host.linkUp && decide (k = .functionLevel)) ∧
      e.host.ingest = [] ∧ e.host.bufs = [] ∧ e.host.rings = [] := by
  refine ⟨_, rfl, rfl, rfl, LinkKept.parts ?_⟩
  cases k with
  | perst =>
    rw [decide_eq_false (by decide), Bool.and_false]
    exact linkGoesDown_shows ((s.dev.tick t).modHost fun v => { v with perstN := false }) unsent
  | hot =>
    rw [decide_eq_false (by decide), Bool.and_false]
    exact linkGoesDown_shows (s.dev.tick t) unsent
  | functionLevel =>
    rw [decide_eq_true rfl, Bool.and_true]
    exact endpointReset_shows (d := s.dev.tick t) rfl unsent

theorem linkDown_completes (unsent : Nat) :
    Completes (.linkDown t unsent) s fun e => e.host.linkUp = false ∧ e.host.ingest = [] ∧ e.host.bufs = [] ∧ e.host.rings = [] :=
  ⟨_, rfl, rfl, rfl, (linkGoesDown_shows (s.dev.tick t) unsent).parts⟩

/-- Where D7 is on the link comes up with its rate and width (R68, R124, R126). -/
theorem pcieLinkUp_completes (rate width : Nat) (cfg : PcieCfg) (hrate : rate < 16) (hwidth : width < 16)
    (hon : natBit (s.dev.fld PWR_DOM_STATUS PWR_DOM_STATUS_ON) 7 = true) :
    Completes (.pcieLinkUp t rate width cfg) s fun e => e.host.linkUp = true ∧ e.host.pcie = cfg ∧ e.host.perstN = true ∧ e.host.l1 = false ∧
      e.fld HIF_LINK HIF_LINK_RATE = rate ∧ e.fld HIF_LINK HIF_LINK_WIDTH = width ∧ ∀ a, a ≠ HIF_LINK → e.reg a = s.dev.reg a := by
  have hon' : (s.dev.tick t).domainIsOn 7 = true := hon
  refine ⟨_, rfl, rfl, rfl, ?_⟩
  dsimp only
  rw [if_neg (by simp [hon'])]
  generalize hd : s.dev.tick t = d
  refine ⟨rfl, rfl, rfl, rfl, ?_, ?_, fun a ha => ?_⟩
  · calc (((d.setFld HIF_LINK HIF_LINK_RATE rate).setFld HIF_LINK HIF_LINK_WIDTH width).setFlag HIF_LINK HIF_LINK_SLOW (decide (rate < 3))).fld
          HIF_LINK HIF_LINK_RATE
      _ = (d.setFld HIF_LINK HIF_LINK_RATE rate).fld HIF_LINK HIF_LINK_RATE := by
        rw [fld_setFlag_other _ _ _ (by decide) (by decide), fld_setFld_other _ _ _ (by decide) (by decide)]
      _ = rate := (fld_setFld_self d HIF_LINK (by decide) rate).trans (Nat.mod_eq_of_lt hrate)
  · exact (fld_setFlag_other _ HIF_LINK _ (by decide) (by decide)).trans
      ((fld_setFld_self (d.setFld HIF_LINK HIF_LINK_RATE rate) HIF_LINK (by decide) width).trans (Nat.mod_eq_of_lt hwidth))
  · refine (reg_setFlag_ne _ _ _ ha).trans ((reg_setFld_ne _ _ _ ha).trans ((reg_setFld_ne d _ _ ha).trans ?_))
    rw [← hd, reg_tick]

/-- The link enters L1 where nothing of the host is in progress (R127). -/
theorem aspmL1Entry_completes (hup : s.dev.host.linkUp = true) (hl1 : s.dev.pcie.aspmL1 = true) (hidle : s.dev.hostBusy = false) :
    Completes (.aspmL1Entry t) s fun e => e.host.l1 = true ∧ ∀ a, e.reg a = s.dev.reg a := by
  have hgo : ((s.dev.tick t).host.linkUp && (s.dev.tick t).pcie.aspmL1 && !(s.dev.tick t).hostBusy) = true := by
    rw [show (s.dev.tick t).host.linkUp = true from hup, show (s.dev.tick t).pcie.aspmL1 = true from hl1,
      show (s.dev.tick t).hostBusy = false from hidle]
    rfl
  refine ⟨_, rfl, rfl, rfl, ?_⟩
  dsimp only
  rw [if_pos hgo]
  exact ⟨rfl, fun _ => rfl⟩

/-- With MSI-X enabled and the vector unmasked, its interrupt is sent (R157). -/
theorem sendIrq_sends (d : Device) {v : Nat} (hon : d.pcie.msixOn = true) (hmask : d.pcie.msixMask = false)
    (hvec : (sget msixDefault d.host.msix (4 * v + 3)).getLsbD 0 = false) :
    d.sendIrq v = d.modHost fun h => { h with sent := sput (fun _ => 0) h.sent v (sget (fun _ => 0) h.sent v + 1) } := by
  unfold Device.sendIrq
  rw [hon, hmask, hvec, if_neg (by decide), if_neg (by decide)]

/-- A vector's moderation time sends its interrupt and leaves nothing unsignalled (R157). -/
theorem interruptModerationTimeout_completes (n : Fin 64) (htime : s.dev.fld HIF_EVT_MOD HIF_EVT_MOD_TIME ≠ 0)
    (hwaits : sget (fun _ => 0) s.dev.host.unsignalled n ≠ 0) (hon : s.dev.pcie.msixOn = true) (hmask : s.dev.pcie.msixMask = false)
    (hvec : (sget msixDefault s.dev.host.msix (4 * n.val + 3)).getLsbD 0 = false) :
    Completes (.interruptModerationTimeout t n) s fun e => sget (fun _ => 0) e.host.unsignalled n = 0 ∧
      sget (fun _ => 0) e.host.sent n = sget (fun _ => 0) s.dev.host.sent n + 1 ∧ ∀ a, e.reg a = s.dev.reg a := by
  have hgo : ¬((s.dev.tick t).fld HIF_EVT_MOD HIF_EVT_MOD_TIME = 0 ∨ sget (fun _ => 0) (s.dev.tick t).host.unsignalled n = 0) :=
    not_or.mpr ⟨htime, hwaits⟩
  refine ⟨_, rfl, rfl, rfl, ?_⟩
  dsimp only
  rw [if_neg hgo, sendIrq_sends ((s.dev.tick t).modHost fun v => { v with unsignalled := sput (fun _ => 0) v.unsignalled n 0 }) hon hmask hvec]
  exact ⟨sget_put (fun _ => 0) s.dev.host.unsignalled n 0, sget_put (fun _ => 0) s.dev.host.sent n (sget (fun _ => 0) s.dev.host.sent n + 1), fun _ => rfl⟩

end

/-! The backlog (R155). -/

/-- The backlog, the events lost since the last OVERFLOW entry, and the producer index. -/
def backlogView (d : Device) : List Event × Nat × Word := (d.host.backlog, d.host.lost, d.reg HIF_EVT_PROD)

theorem backlogView_sendIrq (d : Device) (v : Nat) : backlogView (d.sendIrq v) = backlogView d := by
  unfold Device.sendIrq
  split
  · rfl
  · split
    · rfl
    · rfl

theorem backlogView_announce (d : Device) (e : Event) : backlogView (d.announce e) = backlogView d := by
  unfold Device.announce
  split
  · exact backlogView_sendIrq d 1
  · extract_lets v n
    split
    · exact backlogView_sendIrq (d.modHost _) v
    · rfl

theorem backlogView_postedWrite (d : Device) (a : Nat) (l : List Byte) (event : Bool) :
    backlogView (d.postedWrite a l event) = backlogView d := by
  unfold Device.postedWrite
  extract_lets x
  obtain ⟨m, hm⟩ := setBytes_only l (d.modHost fun v => { v with wrAttr := {}, posted := (x :: v.posted).take postedMax }) (hostAddr a)
  rw [hm]
  rfl

/-- An event that enters the ring advances PROD and leaves the backlog (R152, R154). -/
theorem toRing_shows (d : Device) (e : Event) :
    (d.toRing e).host.backlog = d.host.backlog ∧ (d.toRing e).host.lost = d.host.lost ∧
      (d.toRing e).nat HIF_EVT_PROD = (d.nat HIF_EVT_PROD + 1) % 2 ^ 32 := by
  unfold Device.toRing
  extract_lets d1 prod size
  generalize hw : d1.postedWrite _ _ _ = w
  have hwrite : backlogView w = backlogView d := by
    rw [← hw]
    exact backlogView_postedWrite d1 _ _ _
  obtain ⟨hbacklog, hrest⟩ := Prod.mk.inj (backlogView_announce (w.setNat HIF_EVT_PROD (prod + 1)) e)
  obtain ⟨hlost, hprod⟩ := Prod.mk.inj hrest
  obtain ⟨hbacklog', hrest'⟩ := Prod.mk.inj hwrite
  obtain ⟨hlost', -⟩ := Prod.mk.inj hrest'
  exact ⟨hbacklog.trans hbacklog', hlost.trans hlost', (congrArg BitVec.toNat hprod).trans (nat_setNat_self w HIF_EVT_PROD (prod + 1))⟩

theorem drain_empty {d : Device} (h : d.host.backlog = []) (n : Nat) : d.drain n = d := by
  cases n with
  | zero => rfl
  | succ n => rw [Device.drain, h]

/-- The only event of the backlog enters the ring, where it has room. -/
theorem drain_single {d : Device} {x : Event} (hroom : d.evtRoom = true) (h : d.host.backlog = [x]) (n : Nat) :
    d.drain (n + 1) = (d.modHost fun v => { v with backlog := [] }).toRing x := by
  obtain ⟨hempty, -, -⟩ := toRing_shows (d.modHost fun v => { v with backlog := [] }) x
  rw [Device.drain, h]
  dsimp only
  rw [if_pos hroom, drain_empty hempty]

theorem overflow_none {d : Device} (h : d.host.lost = 0) : d.overflow = d := if_pos (.inl h)

theorem backlogDrain_completes (t : Nat) (s : State) (x : Event) (hroom : s.dev.evtRoom = true) (hone : s.dev.host.backlog = [x])
    (hlost : s.dev.host.lost = 0) :
    Completes (.backlogDrain t) s fun e => e.host.backlog = [] ∧ e.nat HIF_EVT_PROD = (s.dev.nat HIF_EVT_PROD + 1) % 2 ^ 32 := by
  obtain ⟨hempty, hlost', hprod⟩ := toRing_shows ((s.dev.tick t).modHost fun v => { v with backlog := [] }) x
  refine ⟨_, rfl, rfl, rfl, ?_⟩
  dsimp only
  unfold Device.drainAll backlogMax
  rw [drain_single (d := s.dev.tick t) hroom hone, overflow_none (hlost'.trans hlost), drain_empty hempty]
  exact ⟨hempty, hprod⟩

/-- Settles O22: `LinkKept` for what goes down, one lemma for each of the other commands. -/
theorem linkAndInterrupts : Obligations.LinkAndInterrupts := by
  intro t s
  exact ⟨pcieLinkUp_completes t s, pcieReset_completes t s, linkDown_completes t s, aspmL1Entry_completes t s,
    interruptModerationTimeout_completes t s, backlogDrain_completes t s⟩

end Sys2Proof.Machine

end

section

set_option Elab.async false

namespace Sys2Proof.Machine

/-! # Motor drives (R375, R455 to R476) -/

/-- What a fold brings about at each element of its list, and the changes for other elements do not undo, holds for every one of them in the
end. `I` is what a change relies on. -/
theorem each_attains {α : Type} {f : α → Device → Device} {I : Device → Prop} {P : α → Device → Prop} (hinv : ∀ x e, I e → I (f x e))
    (hself : ∀ x e, I e → P x (f x e)) (hkeep : ∀ x y e, P x e → P x (f y e)) :
    ∀ (l : List α) (d : Device), I d → ∀ x ∈ l, P x (d.each l f) := by
  intro l
  induction l with
  | nil => intro d _ x hx; cases hx
  | cons y r ih =>
    intro d hd x hx
    rcases List.mem_cons.mp hx with rfl | hx
    · exact each_inv (hkeep x) r _ (hself x d hd)
    · exact ih (f y d) (hinv y d hd) x hx

/-! Registers and records of a controller. -/

section

variable (d : Device) (q : Side) (n : Nat)

@[simp] theorem reg_setPoly (v : PolyS) (a : Nat) : (d.setPoly q n v).reg a = d.reg a := rfl

@[simp] theorem reg_setPmsm (v : PmsmS) (a : Nat) : (d.setPmsm q n v).reg a = d.reg a := rfl

@[simp] theorem reg_setBridge (x : Option (List (Nat × Nat))) (a : Nat) : (d.setBridge q n x).reg a = d.reg a := rfl

@[simp] theorem polyS_setBridge (x : Option (List (Nat × Nat))) (p : Nat) : (d.setBridge q n x).polyS q p = d.polyS q p := rfl

@[simp] theorem pmsmS_setReg (a : Nat) (v : Word) : (d.setReg a v).pmsmS q n = d.pmsmS q n := rfl

@[simp] theorem motorEntry_setReg (a : Nat) (v : Word) : (d.setReg a v).motorEntry n = d.motorEntry n := rfl

theorem polyS_setPoly (v : PolyS) : (d.setPoly q n v).polyS q n = v := sget_put (fun _ => ({} : PolyS)) d.mot.poly (8 * q.code + n) v

theorem pmsmS_setPmsm (v : PmsmS) : (d.setPmsm q n v).pmsmS q n = v := sget_put (fun _ => ({} : PmsmS)) d.mot.pmsm (4 * q.code + n) v

theorem pmsmS_setPmsm_ne {k : Nat} (h : k ≠ n) (v : PmsmS) : (d.setPmsm q n v).pmsmS q k = d.pmsmS q k :=
  sget_sput_ne (fun _ => ({} : PmsmS)) d.mot.pmsm v (by omega)

end

theorem currentOf_congr {d e : Device} {q : Side} (h : d.reg (MOT_BUS_STATUS q) = e.reg (MOT_BUS_STATUS q)) (b : List Byte) (y : Int) :
    d.currentOf q b y = e.currentOf q b y := by
  unfold Device.currentOf Device.regenMax
  rw [fld_congr h]

/-! A period boundary (R375, R455): duties are latched, and the owner's pulses go out. -/

/-- A channel latches the duty that it is asked for. -/
def Device.latchDuty (q : Side) (ch : Nat) (d : Device) : Device :=
  d.modMot fun v => { v with duty := sput (fun _ => none) v.duty (pwmKey q ch) (sget (fun _ => none) v.want (pwmKey q ch)) }

/-- The channels of a period group latch their duties. -/
def Device.latchDuties (d : Device) (q : Side) (g : Nat) : Device := d.each (groupChannels g) (Device.latchDuty q)

/-- The pulse of a channel goes out at its pin. -/
def Device.pinOut (q : Side) (g ch : Nat) (d : Device) : Device :=
  d.modMot fun v => { v with pins := sput (fun _ => none) v.pins ch (d.pulseOf q g ch) }

/-- A period group passes its boundary: it goes to the Quarter that holds the token (R375). -/
def Device.passOn (d : Device) (g : Nat) : Device :=
  d.modMot fun v => { v with edge := sput (fun _ => 0) v.edge g d.now, owns := sput (fun _ => .north) v.owns g d.owner }

section

variable (d : Device) (q : Side) (g : Nat)

theorem latchDuties_only : ∃ x, d.latchDuties q g = { d with mot := { d.mot with duty := x } } := by
  refine each_inv (P := fun e => ∃ x, e = { d with mot := { d.mot with duty := x } }) ?_ (groupChannels g) d ⟨_, rfl⟩
  rintro ch _ ⟨x, rfl⟩
  exact ⟨_, rfl⟩

/-- What does not look at the duties is as it was. -/
theorem latchDuties_keeps {β : Type} {p : Device → β} (h : ∀ e x, p { e with mot := { e.mot with duty := x } } = p e) :
    p (d.latchDuties q g) = p d := by
  obtain ⟨x, hx⟩ := latchDuties_only d q g
  rw [hx, h]

theorem reg_latchDuties (a : Nat) : (d.latchDuties q g).reg a = d.reg a := latchDuties_keeps d q g (p := fun d => d.reg a) fun _ _ => rfl

theorem latchDuties_duty {ch : Nat} (h : ch ∈ groupChannels g) :
    sget (fun _ => none) (d.latchDuties q g).mot.duty (pwmKey q ch) = sget (fun _ => none) d.mot.want (pwmKey q ch) := by
  have hduty := each_attains (f := Device.latchDuty q) (I := fun _ => True)
    (P := fun ch e => sget (fun _ => none) e.mot.duty (pwmKey q ch) = sget (fun _ => none) e.mot.want (pwmKey q ch))
    (fun _ _ _ => trivial) (fun x e _ => sget_put (fun _ => none) e.mot.duty (pwmKey q x) _)
    (fun x y e hx => ?_) (groupChannels g) d trivial ch h
  · exact Eq.trans hduty (latchDuties_keeps d q g (p := fun d => sget (fun _ => none) d.mot.want (pwmKey q ch)) fun _ _ => rfl)
  · change sget (fun _ => none) (sput (fun _ => none) e.mot.duty (pwmKey q y) (sget (fun _ => none) e.mot.want (pwmKey q y))) (pwmKey q x) = _
    rw [sget_sput]
    split
    · next heq => rw [heq]; rfl
    · exact hx

theorem pinsOut_only : ∃ x, d.each (groupChannels g) (Device.pinOut q g) = { d with mot := { d.mot with pins := x } } := by
  refine each_inv (P := fun e => ∃ x, e = { d with mot := { d.mot with pins := x } }) ?_ (groupChannels g) d ⟨_, rfl⟩
  rintro ch _ ⟨x, rfl⟩
  exact ⟨_, rfl⟩

/-- What goes out at the pins changes neither registers nor the duties and controllers. -/
theorem latchPins_only : ∃ x y z, d.latchPins q g = { d with mot := { d.mot with pins := x, edge := y, owns := z } } := by
  obtain ⟨x, hx⟩ := pinsOut_only d q g
  unfold Device.latchPins
  extract_lets owner foreign d1
  by_cases hq : (if foreign = true then owner.other else owner) ≠ q
  · rw [if_pos hq]
    exact ⟨_, _, _, rfl⟩
  · have hd1 : ∃ x, d1 = { d with mot := { d.mot with pins := x } } := by
      unfold d1
      split
      · exact ⟨_, rfl⟩
      · exact ⟨x, hx⟩
    obtain ⟨x', hx'⟩ := hd1
    rw [if_neg hq, hx']
    exact ⟨_, _, _, rfl⟩

theorem latchPins_own (hown : d.pwmOwner g = q) (hpll : natBit d.clk.tbOther q.code = false) :
    d.latchPins q g = (d.each (groupChannels g) (Device.pinOut q g)).passOn g := by
  unfold Device.latchPins
  dsimp only
  rw [hown, hpll, if_neg (by simp), if_neg (by decide)]
  rfl

/-- What does not look at the pins is as it was. -/
theorem latchPins_keeps {β : Type} {p : Device → β} (h : ∀ e x y z, p { e with mot := { e.mot with pins := x, edge := y, owns := z } } = p e) :
    p (d.latchPins q g) = p d := by
  obtain ⟨x, y, z, hpins⟩ := latchPins_only d q g
  rw [hpins, h]

theorem reg_latchPins (a : Nat) : (d.latchPins q g).reg a = d.reg a := latchPins_keeps d q g (p := fun d => d.reg a) fun _ _ _ _ => rfl

/-- The Quarter that owns the pins puts its pulses out, and the group goes to the Quarter that holds the token (R375, R455). -/
theorem latchPins_owner (hown : d.pwmOwner g = q) (hpll : natBit d.clk.tbOther q.code = false) :
    (∀ ch ∈ groupChannels g, sget (fun _ => none) (d.latchPins q g).mot.pins ch = (d.latchPins q g).pulseOf q g ch) ∧
      (d.latchPins q g).pwmOwner g = d.owner := by
  obtain ⟨x, hx⟩ := pinsOut_only d q g
  have hpins := each_attains (f := Device.pinOut q g) (I := fun _ => True)
    (P := fun ch e => sget (fun _ => none) e.mot.pins ch = e.pulseOf q g ch)
    (fun _ _ _ => trivial) (fun y e _ => sget_put (fun _ => none) e.mot.pins y (e.pulseOf q g y)) (fun y z e hy => ?_) (groupChannels g) d trivial
  · rw [latchPins_own d q g hown hpll]
    rw [hx] at hpins ⊢
    exact ⟨hpins, sget_put (fun _ => Side.north) d.mot.owns g d.owner⟩
  · change sget (fun _ => none) (sput (fun _ => none) e.mot.pins z (e.pulseOf q g z)) y = e.pulseOf q g y
    rw [sget_sput]
    split
    · next heq => rw [heq]
    · exact hy

end

/-! The commands of a boundary without samples, and with that of one controller. -/

section

variable (t : Nat) (s : State) (q : Side)

theorem exec_boundary_booting (g : Fin 4) (l : List MotorSample) (hst : s.dev.st = .booting) :
    exec (.pwmPeriodBoundary t q g l) s = .next { s with dev := s.dev.tick t } := by
  refine congrArg (fun d => Host.Outcome.next { s with dev := d }) ?_
  exact if_pos hst

theorem exec_boundary_idle (g : Fin 4) (hst : s.dev.st ≠ .booting) :
    exec (.pwmPeriodBoundary t q g []) s = .next { s with dev := ((s.dev.tick t).latchDuties q g).latchPins q g } := by
  refine congrArg (fun d => Host.Outcome.next { s with dev := d }) ?_
  refine (if_neg hst).trans ?_
  split
  · rfl
  · rfl
  · rfl

theorem exec_boundary_polygon (m : MotorSample) (hst : s.dev.st ≠ .booting) :
    exec (.pwmPeriodBoundary t q 0 [m]) s =
      .next { s with dev := ((((s.dev.tick t).latchDuties q 0).polyPeriod q 0 m).polyBridge q 0 m).latchPins q 0 } := by
  refine congrArg (fun d => Host.Outcome.next { s with dev := d }) ?_
  exact if_neg hst

theorem exec_boundary_pmsm (m : MotorSample) (hst : s.dev.st ≠ .booting) :
    exec (.pwmPeriodBoundary t q 1 [m]) s =
      .next { s with dev := ((((s.dev.tick t).latchDuties q 1).pmsmPeriod q 0 m).pmsmBridge q 0 m).latchPins q 1 } := by
  refine congrArg (fun d => Host.Outcome.next { s with dev := d }) ?_
  exact if_neg hst

/-- The duties that are asked for are latched; the owner of the pins puts its pulses out (R375, R455). -/
theorem boundary_latches (g : Fin 4) (hst : s.dev.st ≠ .booting) :
    Completes (.pwmPeriodBoundary t q g []) s fun e => (∀ a, e.reg a = s.dev.reg a) ∧
      (∀ ch ∈ groupChannels g, sget (fun _ => none) e.mot.duty (pwmKey q ch) = sget (fun _ => none) s.dev.mot.want (pwmKey q ch)) ∧
      (s.dev.pwmOwner g = q → natBit s.dev.clk.tbOther q.code = false →
        (∀ ch ∈ groupChannels g, sget (fun _ => none) e.mot.pins ch = e.pulseOf q g ch) ∧ e.pwmOwner g = s.dev.owner) := by
  refine ⟨_, exec_boundary_idle t s q g hst, rfl, rfl, ?_⟩
  obtain ⟨htoken, hclk, howns⟩ : ((s.dev.tick t).latchDuties q g).owner = s.dev.owner ∧ ((s.dev.tick t).latchDuties q g).clk = s.dev.clk ∧
      ((s.dev.tick t).latchDuties q g).pwmOwner g = s.dev.pwmOwner g :=
    ⟨latchDuties_keeps (s.dev.tick t) q g (p := Device.owner) fun _ _ => rfl, latchDuties_keeps (s.dev.tick t) q g (p := Device.clk) fun _ _ => rfl,
      latchDuties_keeps (s.dev.tick t) q g (p := fun d => d.pwmOwner g) fun _ _ => rfl⟩
  refine ⟨fun a => (reg_latchPins _ q g a).trans (reg_latchDuties _ q g a), fun ch hch => ?_, fun hown hpll => ?_⟩
  · exact (latchPins_keeps _ q g (p := fun d => sget (fun _ => none) d.mot.duty (pwmKey q ch)) fun _ _ _ _ => rfl).trans
      (latchDuties_duty (s.dev.tick t) q g hch)
  · obtain ⟨hout, hgoes⟩ := latchPins_owner ((s.dev.tick t).latchDuties q g) q g (howns.trans hown) (by rw [hclk]; exact hpll)
    exact ⟨hout, hgoes.trans htoken⟩

end

/-! The controllers at a boundary (R464, R469). -/

/-- What a polygon's period takes from its sample: skipped samples, the confidence and the speed (R464 to R466). -/
def Device.polyMeasured (d : Device) (q : Side) (p : Nat) (m : MotorSample) : Device :=
  let b := d.motorEntry p
  let d1 := d.addSat (MOT_POLY_CNT q p) MOT_POLY_CNT_SHUNT_SKIP
    (shuntSkips (4 * d.fld (MOT_PWM_PERIOD q 0) MOT_PWM_PERIOD_PERIOD) (4 * mTMin b) m.onU m.onV m.onW)
  (d1.setFld (MOT_POLY_STATUS q p) MOT_POLY_STATUS_CONF (nextConf (d1.fld (MOT_POLY_STATUS q p) MOT_POLY_STATUS_CONF) m.iErr (mIMax b))).setReg
    (MOT_POLY_SPEED q p) (BitVec.ofInt 32 m.speed)

/-- What a PMSM controller's period takes from its sample: skipped samples and the currents (R464, R465). -/
def Device.pmsmMeasured (d : Device) (q : Side) (n : Nat) (m : MotorSample) : Device :=
  let b := d.motorEntry (8 + n)
  let d1 := if mShunt b = 0 then d.addSat (MOT_PMSM_CNT q n) MOT_PMSM_CNT_SHUNT_SKIP
    (shuntSkips (4 * d.fld (MOT_PWM_PERIOD q 1) MOT_PWM_PERIOD_PERIOD) (4 * mTMin b) m.onU m.onV m.onW) else d
  (d1.setFld (MOT_PMSM_IDQ q n) MOT_PMSM_IDQ_IQ (ofSigned 16 m.iq)).setFld (MOT_PMSM_IDQ q n) MOT_PMSM_IDQ_ID (ofSigned 16 m.id)

section

variable (d : Device) (q : Side) (n : Nat) (m : MotorSample)

theorem polyMeasured_only : OnlyRegs d (d.polyMeasured q n m) [MOT_POLY_CNT q n, MOT_POLY_STATUS q n, MOT_POLY_SPEED q n] :=
  (OnlyRegs.refl d _).addSat.setFld.setReg

theorem polyMeasured_shows : (d.polyMeasured q n m).poState q n = d.poState q n ∧
    (d.polyMeasured q n m).reg (MOT_POLY_SPEED q n) = BitVec.ofInt 32 m.speed ∧
    (d.polyMeasured q n m).reg (MOT_BUS_STATUS q) = d.reg (MOT_BUS_STATUS q) := by
  have hspeed : MOT_POLY_STATUS q n ≠ MOT_POLY_SPEED q n := by unfold MOT_POLY_STATUS MOT_POLY_SPEED; omega
  have hcnt : MOT_POLY_STATUS q n ≠ MOT_POLY_CNT q n := by unfold MOT_POLY_STATUS MOT_POLY_CNT; omega
  refine ⟨?_, reg_setReg_self _ _ _, (polyMeasured_only d q n m).reg ?_⟩
  · unfold Device.polyMeasured Device.poState
    rw [fld_congr (reg_setReg_ne _ _ hspeed), fld_setFld_other _ _ _ (by decide) (by decide)]
    exact fld_setFld_ne d _ _ _ hcnt
  · simp only [MOT_BUS_STATUS, MOT_POLY_CNT, MOT_POLY_STATUS, MOT_POLY_SPEED, List.mem_cons, List.not_mem_nil, or_false]
    omega

theorem pmsmMeasured_only : OnlyRegs d (d.pmsmMeasured q n m) [MOT_PMSM_CNT q n, MOT_PMSM_IDQ q n] :=
  ((OnlyRegs.refl d _).addSat.ite (OnlyRegs.refl d _)).setFld.setFld

theorem pmsmMeasured_shows : (d.pmsmMeasured q n m).fld (MOT_PMSM_IDQ q n) MOT_PMSM_IDQ_IQ = ofSigned 16 m.iq ∧
    (d.pmsmMeasured q n m).fld (MOT_PMSM_IDQ q n) MOT_PMSM_IDQ_ID = ofSigned 16 m.id ∧
    (d.pmsmMeasured q n m).reg (MOT_PMSM_STATUS q n) = d.reg (MOT_PMSM_STATUS q n) := by
  refine ⟨?_, ?_, (pmsmMeasured_only d q n m).reg ?_⟩
  · unfold Device.pmsmMeasured
    rw [fld_setFld_other _ _ _ (by decide) (by decide), fld_setFld_self _ _ (by decide)]
    exact Nat.mod_eq_of_lt (ofSigned_lt 16 m.iq)
  · unfold Device.pmsmMeasured
    rw [fld_setFld_self _ _ (by decide)]
    exact Nat.mod_eq_of_lt (ofSigned_lt 16 m.id)
  · simp only [MOT_PMSM_STATUS, MOT_PMSM_CNT, MOT_PMSM_IDQ, List.mem_cons, List.not_mem_nil, or_false]
    omega

end

/-- A polygon controller in RUN that is confident goes on in RUN, shows its speed, and its current follows the command (R464, R466). -/
theorem polyPeriod_run {d : Device} {q : Side} {p : Nat} {m : MotorSample} (hkind : mKind (d.motorEntry p) = 1)
    (htrip : d.busTripped q (d.motorEntry p) = false) (hrun : d.poState q p = poRun) (hwind : (d.polyS q p).winding = false)
    (hover : (d.polyS q p).handedOver = true)
    (hconf : mConfTh (d.motorEntry p) ≤ nextConf (d.fld (MOT_POLY_STATUS q p) MOT_POLY_STATUS_CONF) m.iErr (mIMax (d.motorEntry p))) :
    (d.polyPeriod q p m).poState q p = poRun ∧ (d.polyPeriod q p m).reg (MOT_POLY_SPEED q p) = BitVec.ofInt 32 m.speed ∧
      ((d.polyPeriod q p m).polyS q p).iRef = d.currentOf q (d.motorEntry p) (d.polyS q p).command := by
  obtain ⟨hstate, hspeed, hbus⟩ := polyMeasured_shows d q p m
  have hpoly : (d.polyMeasured q p m).polyS q p = d.polyS q p :=
    (polyMeasured_only d q p m).keeps (p := fun d => d.polyS q p) fun _ => rfl
  unfold Device.polyPeriod
  extract_lets b x per d1 conf d2 v past iw dw want step i low d3
  have hgo : ¬(mKind b ≠ 1 ∨ d.busTripped q b = true ∨ x ≠ poRamp ∧ x ≠ poRun) := by
    rintro (h | h | ⟨-, h⟩)
    · exact h hkind
    · exact absurd (htrip.symm.trans h) (by decide)
    · exact h hrun
  have hramp : x ≠ poRamp := fun h => absurd (hrun.symm.trans h) (by decide)
  have hv : v = d.polyS q p := hpoly
  have hbus' : d2.reg (MOT_BUS_STATUS q) = d.reg (MOT_BUS_STATUS q) := hbus
  have hsame : d1.fld (MOT_POLY_STATUS q p) MOT_POLY_STATUS_CONF = d.fld (MOT_POLY_STATUS q p) MOT_POLY_STATUS_CONF :=
    fld_setFld_ne d _ _ _ (by unfold MOT_POLY_STATUS MOT_POLY_CNT; omega)
  have hconf' : mConfTh b ≤ conf := by
    unfold conf
    rw [hsame]
    exact hconf
  have hlow : low = 0 := if_neg (Nat.not_lt.mpr hconf')
  rw [if_neg hgo, if_neg hramp, if_neg (by rw [hv, hwind]; decide), if_neg (by rw [hlow]; decide)]
  refine ⟨?_, ?_, ?_⟩
  · exact (fld_congr (reg_setPoly d2 q p _ _) _).trans (hstate.trans hrun)
  · exact (reg_setPoly d2 q p _ _).trans hspeed
  · have hi : i = want := if_pos (by rw [hv]; exact hover)
    calc (d3.polyS q p).iRef
      _ = i := congrArg PolyS.iRef (polyS_setPoly d2 q p _)
      _ = d2.currentOf q b v.command := hi
      _ = d.currentOf q b (d.polyS q p).command := by rw [hv, currentOf_congr hbus']

/-- A PMSM controller that drives its bridge shows its currents and goes on (R464, R469). -/
theorem pmsmPeriod_drives {d : Device} {q : Side} {n : Nat} {m : MotorSample}
    (hrun : d.flag (MOT_PMSM_STATUS q n) MOT_PMSM_STATUS_RUNNING = true) (hwind : (d.pmsmS q n).winding = false) :
    (d.pmsmPeriod q n m).fld (MOT_PMSM_IDQ q n) MOT_PMSM_IDQ_IQ = ofSigned 16 m.iq ∧
      (d.pmsmPeriod q n m).fld (MOT_PMSM_IDQ q n) MOT_PMSM_IDQ_ID = ofSigned 16 m.id ∧
      (d.pmsmPeriod q n m).flag (MOT_PMSM_STATUS q n) MOT_PMSM_STATUS_RUNNING = true := by
  obtain ⟨hiq, hid, hstatus⟩ := pmsmMeasured_shows d q n m
  have hpmsm : (d.pmsmMeasured q n m).pmsmS q n = d.pmsmS q n :=
    (pmsmMeasured_only d q n m).keeps (p := fun d => d.pmsmS q n) fun _ => rfl
  unfold Device.pmsmPeriod
  extract_lets b per d1 d2 v indexed alignedAt i d3
  have hv : v = d.pmsmS q n := hpmsm
  have hreg (a : Nat) : d3.reg a = (d.pmsmMeasured q n m).reg a := reg_setPmsm d2 q n _ a
  rw [if_neg (by rw [hrun]; decide), if_neg (by rw [hv, hwind]; simp), fld_congr (hreg _), fld_congr (hreg _), flag_congr (hreg _)]
  exact ⟨hiq, hid, (flag_congr hstatus _).trans hrun⟩

section

variable (t : Nat) (s : State) (q : Side)

theorem boundary_runsPolygon (m : MotorSample) (hst : s.dev.st ≠ .booting) (hkind : mKind (s.dev.motorEntry 0) = 1)
    (htrip : s.dev.busTripped q (s.dev.motorEntry 0) = false) (hrun : s.dev.poState q 0 = poRun) (hwind : (s.dev.polyS q 0).winding = false)
    (hover : (s.dev.polyS q 0).handedOver = true)
    (hconf : mConfTh (s.dev.motorEntry 0) ≤ nextConf (s.dev.fld (MOT_POLY_STATUS q 0) MOT_POLY_STATUS_CONF) m.iErr (mIMax (s.dev.motorEntry 0))) :
    Completes (.pwmPeriodBoundary t q 0 [m]) s fun e => e.poState q 0 = poRun ∧ e.reg (MOT_POLY_SPEED q 0) = BitVec.ofInt 32 m.speed ∧
      (e.polyS q 0).iRef = s.dev.currentOf q (s.dev.motorEntry 0) (s.dev.polyS q 0).command := by
  refine ⟨_, exec_boundary_polygon t s q m hst, rfl, rfl, ?_⟩
  generalize hd : (s.dev.tick t).latchDuties q 0 = d
  have hreg (a : Nat) : d.reg a = s.dev.reg a := hd ▸ reg_latchDuties (s.dev.tick t) q 0 a
  have hentry : d.motorEntry 0 = s.dev.motorEntry 0 := hd ▸ latchDuties_keeps (s.dev.tick t) q 0 (p := fun d => d.motorEntry 0) fun _ _ => rfl
  have hpoly : d.polyS q 0 = s.dev.polyS q 0 := hd ▸ latchDuties_keeps (s.dev.tick t) q 0 (p := fun d => d.polyS q 0) fun _ _ => rfl
  have htrip' : d.busTripped q (d.motorEntry 0) = false := by
    rw [hentry]
    exact (congrArg (fun n => natBit n _) (fld_congr (hreg _) _)).trans htrip
  obtain ⟨hstate, hspeed, href⟩ := polyPeriod_run (d := d) (q := q) (p := 0) (m := m) (by rw [hentry]; exact hkind) htrip'
    ((fld_congr (hreg _) _).trans hrun) (by rw [hpoly]; exact hwind) (by rw [hpoly]; exact hover)
    (by rw [hentry, fld_congr (hreg _)]; exact hconf)
  have hout (a : Nat) : (((d.polyPeriod q 0 m).polyBridge q 0 m).latchPins q 0).reg a = (d.polyPeriod q 0 m).reg a :=
    (reg_latchPins _ q 0 a).trans (reg_setBridge _ q 0 _ a)
  have hpoly' : (((d.polyPeriod q 0 m).polyBridge q 0 m).latchPins q 0).polyS q 0 = (d.polyPeriod q 0 m).polyS q 0 :=
    (latchPins_keeps _ q 0 (p := fun d => d.polyS q 0) fun _ _ _ _ => rfl).trans (polyS_setBridge _ q 0 _ 0)
  refine ⟨(fld_congr (hout _) _).trans hstate, (hout _).trans hspeed, ?_⟩
  rw [hpoly', href, hentry, hpoly, currentOf_congr (hreg _)]

theorem boundary_runsPmsm (m : MotorSample) (hst : s.dev.st ≠ .booting)
    (hrun : s.dev.flag (MOT_PMSM_STATUS q 0) MOT_PMSM_STATUS_RUNNING = true) (hwind : (s.dev.pmsmS q 0).winding = false) :
    Completes (.pwmPeriodBoundary t q 1 [m]) s fun e => e.fld (MOT_PMSM_IDQ q 0) MOT_PMSM_IDQ_IQ = ofSigned 16 m.iq ∧
      e.fld (MOT_PMSM_IDQ q 0) MOT_PMSM_IDQ_ID = ofSigned 16 m.id ∧ e.flag (MOT_PMSM_STATUS q 0) MOT_PMSM_STATUS_RUNNING = true := by
  refine ⟨_, exec_boundary_pmsm t s q m hst, rfl, rfl, ?_⟩
  generalize hd : (s.dev.tick t).latchDuties q 1 = d
  have hreg (a : Nat) : d.reg a = s.dev.reg a := hd ▸ reg_latchDuties (s.dev.tick t) q 1 a
  have hpmsm : d.pmsmS q 0 = s.dev.pmsmS q 0 := hd ▸ latchDuties_keeps (s.dev.tick t) q 1 (p := fun d => d.pmsmS q 0) fun _ _ => rfl
  obtain ⟨hiq, hid, hrun'⟩ := pmsmPeriod_drives (d := d) (q := q) (n := 0) (m := m) ((flag_congr (hreg _) _).trans hrun)
    (by rw [hpmsm]; exact hwind)
  have hout (a : Nat) : (((d.pmsmPeriod q 0 m).pmsmBridge q 0 m).latchPins q 1).reg a = (d.pmsmPeriod q 0 m).reg a :=
    (reg_latchPins _ q 1 a).trans (reg_setBridge _ q 8 _ a)
  exact ⟨(fld_congr (hout _) _).trans hiq, (fld_congr (hout _) _).trans hid, (flag_congr (hout _) _).trans hrun'⟩

end

/-! Enables, disables and the encoder's index (R51, R457, R469, R471, R476). -/

section

variable {d : Device} {q : Side} {n : Nat}

/-- A PMSM controller starts where its entry and its block allow it, and aligns (R469). -/
theorem pmsmStart_shows (hkind : mKind (d.motorEntry (8 + n)) = 2) (hon : d.motOn q = true) :
    (d.pmsmStart q n).flag (MOT_PMSM_STATUS q n) MOT_PMSM_STATUS_RUNNING = true ∧
      ((d.pmsmStart q n).pmsmS q n).iRef = mIAlign (d.motorEntry (8 + n)) ∧
      (d.pmsmStart q n).reg (MOT_PMSM_CTRL q n) = d.reg (MOT_PMSM_CTRL q n) := by
  have hctrl : MOT_PMSM_CTRL q n ≠ MOT_PMSM_STATUS q n := by
    unfold MOT_PMSM_CTRL MOT_PMSM_STATUS
    omega
  unfold Device.pmsmStart
  extract_lets b d1
  rw [if_pos ⟨hkind, hon⟩]
  refine ⟨?_, congrArg PmsmS.iRef (pmsmS_setPmsm d1 q n _), ?_⟩
  · rw [flag_congr (reg_setPmsm d1 q n _ _)]
    exact (flag_setFlag_other _ _ _ (by decide) (by decide)).trans (flag_setFlag_self d _ (by decide) (by decide) true)
  · exact (reg_setPmsm d1 q n _ _).trans ((reg_setFlag_ne _ _ _ hctrl).trans (reg_setFlag_ne d _ _ hctrl))

theorem pmsmOn_starts (hoff : d.flag (MOT_PMSM_CTRL q n) MOT_PMSM_CTRL_ENABLE = false)
    (hidle : d.flag (MOT_PMSM_CTRL q n) MOT_PMSM_CTRL_BUSY = false) (hkind : mKind (d.motorEntry (8 + n)) = 2) (hon : d.motOn q = true) :
    (d.pmsmOn q n).flag (MOT_PMSM_CTRL q n) MOT_PMSM_CTRL_ENABLE = true ∧
      (d.pmsmOn q n).flag (MOT_PMSM_STATUS q n) MOT_PMSM_STATUS_RUNNING = true ∧
      ((d.pmsmOn q n).pmsmS q n).iRef = mIAlign (d.motorEntry (8 + n)) := by
  have hblock : MOT_CTRL q ≠ MOT_PMSM_CTRL q n := by
    unfold MOT_CTRL MOT_PMSM_CTRL
    omega
  unfold Device.pmsmOn
  extract_lets d1
  have hon' : d1.motOn q = true := by
    unfold d1 Device.motOn at *
    rw [flag_setFlag_ne d _ _ _ hblock, flag_setFlag_ne d _ _ _ hblock, setFlag_st]
    exact hon
  have hentry : d1.motorEntry (8 + n) = d.motorEntry (8 + n) := motorEntry_setReg d _ _ _
  have henable : d1.flag (MOT_PMSM_CTRL q n) MOT_PMSM_CTRL_ENABLE = true := flag_setFlag_self d _ (by decide) (by decide) true
  have hidle' : d1.flag (MOT_PMSM_CTRL q n) MOT_PMSM_CTRL_BUSY = false := (flag_setFlag_other d _ _ (by decide) (by decide)).trans hidle
  clear_value d1
  obtain ⟨hrun, href, hctrl⟩ := pmsmStart_shows (d := d1) (n := n) (hentry ▸ hkind) hon'
  rw [if_neg (by rw [hoff]; decide), if_neg (by rw [hidle']; decide)]
  exact ⟨(flag_congr hctrl _).trans henable, hrun, hentry ▸ href⟩

/-- A disable winds down a controller that runs (R476). -/
theorem pmsmOff_winds (hon : d.flag (MOT_PMSM_CTRL q n) MOT_PMSM_CTRL_ENABLE = true) :
    (d.pmsmOff q n).flag (MOT_PMSM_CTRL q n) MOT_PMSM_CTRL_ENABLE = false ∧
      (d.flag (MOT_PMSM_STATUS q n) MOT_PMSM_STATUS_RUNNING = true →
        (d.pmsmOff q n).flag (MOT_PMSM_CTRL q n) MOT_PMSM_CTRL_BUSY = true ∧ ((d.pmsmOff q n).pmsmS q n).winding = true) := by
  have hstatus : MOT_PMSM_STATUS q n ≠ MOT_PMSM_CTRL q n := by
    unfold MOT_PMSM_CTRL MOT_PMSM_STATUS
    omega
  unfold Device.pmsmOff
  rw [if_pos hon]
  generalize he : d.setFlag (MOT_PMSM_CTRL q n) MOT_PMSM_CTRL_ENABLE false = e
  have hoff : e.flag (MOT_PMSM_CTRL q n) MOT_PMSM_CTRL_ENABLE = false := by
    rw [← he]
    exact flag_setFlag_self d _ (by decide) (by decide) false
  have hrun : e.flag (MOT_PMSM_STATUS q n) MOT_PMSM_STATUS_RUNNING = d.flag (MOT_PMSM_STATUS q n) MOT_PMSM_STATUS_RUNNING := by
    rw [← he]
    exact flag_setFlag_ne d _ _ false hstatus
  unfold Device.pmsmWind
  split
  · generalize hw : e.setPmsm q n { e.pmsmS q n with winding := true } = w
    have hwind : (w.pmsmS q n).winding = true := by
      rw [← hw, pmsmS_setPmsm]
    have hoff' : w.flag (MOT_PMSM_CTRL q n) MOT_PMSM_CTRL_ENABLE = false := by
      rw [← hw, flag_congr (reg_setPmsm e q n _ _)]
      exact hoff
    exact ⟨(flag_setFlag_other w _ _ (by decide) (by decide)).trans hoff',
      fun _ => ⟨flag_setFlag_self w _ (by decide) (by decide) true, (congrArg PmsmS.winding (pmsmS_setReg w q n _ _)).trans hwind⟩⟩
  · next hidle => exact ⟨hoff, fun h => absurd (hrun.trans h) hidle⟩

end

/-- A PMSM controller takes the count of its encoder at the first index (R469). -/
def Device.takeIndex (q : Side) (r : Int) (n : Nat) (d : Device) : Device :=
  if d.flag (MOT_PMSM_STATUS q n) MOT_PMSM_STATUS_INDEXED then d
  else (d.setFlag (MOT_PMSM_STATUS q n) MOT_PMSM_STATUS_INDEXED true).setPmsm q n { d.pmsmS q n with indexAt := r }

/-- The controller has its angle from the count `r`. -/
def IndexedAt (q : Side) (r : Int) (n : Nat) (d : Device) : Prop :=
  d.flag (MOT_PMSM_STATUS q n) MOT_PMSM_STATUS_INDEXED = true ∧ (d.pmsmS q n).indexAt = r

section

variable {q : Side} {r : Int} {n : Nat}

theorem takeIndex_indexed {d : Device} (h : d.flag (MOT_PMSM_STATUS q n) MOT_PMSM_STATUS_INDEXED = false ∨ IndexedAt q r n d) :
    IndexedAt q r n (Device.takeIndex q r n d) := by
  unfold Device.takeIndex
  split
  · next hon => exact h.resolve_left (by rw [hon]; decide)
  · refine ⟨?_, congrArg PmsmS.indexAt (pmsmS_setPmsm _ q n _)⟩
    rw [flag_congr (reg_setPmsm _ q n _ _)]
    exact flag_setFlag_self d _ (by decide) (by decide) true

/-- Another controller of the encoder keeps its flag and its angle. -/
theorem takeIndex_other (d : Device) {k : Nat} (hk : n ≠ k) :
    (Device.takeIndex q r k d).flag (MOT_PMSM_STATUS q n) MOT_PMSM_STATUS_INDEXED = d.flag (MOT_PMSM_STATUS q n) MOT_PMSM_STATUS_INDEXED ∧
      (Device.takeIndex q r k d).pmsmS q n = d.pmsmS q n := by
  have hreg : MOT_PMSM_STATUS q n ≠ MOT_PMSM_STATUS q k := by
    unfold MOT_PMSM_STATUS
    omega
  unfold Device.takeIndex
  split
  · exact ⟨rfl, rfl⟩
  · refine ⟨?_, (pmsmS_setPmsm_ne _ q k hk _).trans (pmsmS_setReg d q n _ _)⟩
    rw [flag_congr (reg_setPmsm _ q k _ _)]
    exact flag_setFlag_ne d _ _ true hreg

theorem takeIndex_keeps {d : Device} {k : Nat} (h : IndexedAt q r n d) : IndexedAt q r n (Device.takeIndex q r k d) := by
  by_cases hk : n = k
  · subst hk
    exact takeIndex_indexed (.inr h)
  · obtain ⟨hflag, hpmsm⟩ := takeIndex_other (q := q) (r := r) d hk
    exact ⟨hflag.trans h.1, (congrArg PmsmS.indexAt hpmsm).trans h.2⟩

theorem takeIndex_fresh {d : Device} {k : Nat} (h : d.flag (MOT_PMSM_STATUS q n) MOT_PMSM_STATUS_INDEXED = false ∨ IndexedAt q r n d) :
    (Device.takeIndex q r k d).flag (MOT_PMSM_STATUS q n) MOT_PMSM_STATUS_INDEXED = false ∨ IndexedAt q r n (Device.takeIndex q r k d) := by
  by_cases hk : n = k
  · subst hk
    exact .inr (takeIndex_indexed h)
  · obtain ⟨hflag, -⟩ := takeIndex_other (q := q) (r := r) d hk
    exact h.imp hflag.trans takeIndex_keeps

/-- The first index gives their angle to all the controllers that it reaches. -/
theorem takeIndex_all (l : List Nat) (d : Device) (h : ∀ n ∈ l, d.flag (MOT_PMSM_STATUS q n) MOT_PMSM_STATUS_INDEXED = false) :
    ∀ n ∈ l, IndexedAt q r n (d.each l (Device.takeIndex q r)) := by
  intro n hn
  refine each_attains (f := Device.takeIndex q r)
    (I := fun e => ∀ n ∈ l, e.flag (MOT_PMSM_STATUS q n) MOT_PMSM_STATUS_INDEXED = false ∨ IndexedAt q r n e)
    (P := fun n e => n ∈ l → IndexedAt q r n e) ?_ ?_ ?_ l d (fun n hn => .inl (h n hn)) n hn hn
  · exact fun k e he n hn => takeIndex_fresh (he n hn)
  · exact fun n e he hn => takeIndex_indexed (he n hn)
  · exact fun n k e he hn => takeIndex_keeps (he hn)

end

/-- The PMSM controllers of an encoder. -/
def Device.encoderUsers (d : Device) (x : Nat) : List Nat :=
  (List.range 4).filter fun n => mKind (d.motorEntry (8 + n)) == 2 && mEncoder (d.motorEntry (8 + n)) == x

/-- All the PMSM controllers of an encoder take its count at an index. -/
def Device.takeIndexes (d : Device) (q : Side) (x : Nat) : Device :=
  d.each (d.encoderUsers x) (Device.takeIndex q (d.int (AXS_ENC_RAW q x)))

theorem mem_encoderUsers (d : Device) (x n : Nat) :
    n ∈ d.encoderUsers x ↔ n < 4 ∧ mKind (d.motorEntry (8 + n)) = 2 ∧ mEncoder (d.motorEntry (8 + n)) = x := by
  simp [Device.encoderUsers]

section

variable (t : Nat) (s : State) (q : Side)

/-- An index pulse that is the first for each controller of the encoder is no fault (R469, R471). -/
theorem exec_encoderIndex_first (x : Fin 8)
    (h : ∀ n ∈ (s.dev.tick t).encoderUsers x, s.dev.flag (MOT_PMSM_STATUS q n) MOT_PMSM_STATUS_INDEXED = false) :
    exec (.encoderIndex t q x) s = .next { s with dev := (s.dev.tick t).takeIndexes q x } := by
  refine congrArg (fun d => Host.Outcome.next { s with dev := d }) ?_
  refine if_neg ?_
  rw [Bool.not_eq_true, List.any_eq_false]
  intro n hn
  rw [flag_tick, h n hn]
  simp

theorem encoderIndex_completes (x : Fin 8)
    (h : ∀ n < 4, mKind (s.dev.motorEntry (8 + n)) = 2 → mEncoder (s.dev.motorEntry (8 + n)) = x.val →
      s.dev.flag (MOT_PMSM_STATUS q n) MOT_PMSM_STATUS_INDEXED = false) :
    Completes (.encoderIndex t q x) s fun e => ∀ n < 4, mKind (s.dev.motorEntry (8 + n)) = 2 → mEncoder (s.dev.motorEntry (8 + n)) = x.val →
      e.flag (MOT_PMSM_STATUS q n) MOT_PMSM_STATUS_INDEXED = true ∧ (e.pmsmS q n).indexAt = s.dev.int (AXS_ENC_RAW q x) := by
  have hfirst : ∀ n ∈ (s.dev.tick t).encoderUsers x, s.dev.flag (MOT_PMSM_STATUS q n) MOT_PMSM_STATUS_INDEXED = false := by
    intro n hn
    obtain ⟨hlt, hkind, henc⟩ := (mem_encoderUsers _ _ _).mp hn
    exact h n hlt hkind henc
  refine ⟨_, exec_encoderIndex_first t s q x hfirst, rfl, rfl, fun n hlt hkind henc => ?_⟩
  exact takeIndex_all _ (s.dev.tick t) hfirst n ((mem_encoderUsers _ _ _).mpr ⟨hlt, hkind, henc⟩)

theorem pwmDisable_completes (ch : Fin 128) :
    Completes (.pwmDisable t q ch) s fun e => sget (fun _ => none) e.mot.want (pwmKey q ch) = none ∧ ∀ a, e.reg a = s.dev.reg a :=
  ⟨_, rfl, rfl, rfl, sget_put (fun _ => none) s.dev.mot.want (pwmKey q ch) none, fun _ => rfl⟩

end

/-- Settles O44: what a boundary latches, one lemma for the controller that runs at it, and one for each of the other commands. -/
theorem drivesRunAtPeriods : Obligations.DrivesRunAtPeriods := by
  intro t s q
  refine ⟨fun g => ⟨fun hst l => ⟨_, exec_boundary_booting t s q g l hst, rfl, rfl, rfl⟩, boundary_latches t s q g⟩,
    boundary_runsPolygon t s q, boundary_runsPmsm t s q, pwmDisable_completes t s q, fun n => ⟨?_, ?_⟩, encoderIndex_completes t s q⟩
  · exact fun hoff hidle hkind hon => ⟨_, rfl, rfl, rfl, pmsmOn_starts (d := s.dev.tick t) hoff hidle hkind hon⟩
  · exact fun hon => ⟨_, rfl, rfl, rfl, pmsmOff_winds (d := s.dev.tick t) hon⟩

end Sys2Proof.Machine

end

section

set_option Elab.async false

namespace Sys2Proof.Machine

/-! # Descriptors of the job rings (R88, R132, R144, R148 to R151) -/

/-- The read of one slot of ring `r`: the link leaves L1, and CONS passes the slot (R132). -/
def Device.slotRead (d : Device) (r : Nat) : Device :=
  ((d.modHost (fun v => { v with l1 := false })).hostRead r).setNat (HIF_RING_CONS r) (d.nat (HIF_RING_CONS r) + 1)

/-- What a slot of ring `r` does once it is read. -/
def Device.slotTaken (d : Device) (f : Fuses) (r : Nat) (x : FetchedSlot) : Device :=
  match r with
  | 0 => (d.slotRead 0).fetchPage (d.nat (HIF_RING_CONS 0)) x
  | 1 => (d.slotRead 1).fetchParam f (d.nat (HIF_RING_CONS 1) % 2 ^ (d.force 1).log2) x
  | r => (d.slotRead r).fetchBuffer x

/-- A batch of one slot: it is read and taken, and CONS is written back (R132). -/
theorem fetchRing_single {d : Device} {r : Nat} (h : d.mayFetch r = true) (f : Fuses) (x : FetchedSlot) :
    d.fetchRing f r [x] = (d.slotTaken f r x).writeBack r := by
  have hread : ((d.modHost fun v => { v with l1 := false }).hostRead r).mayFetch r = true := h
  unfold Device.fetchRing
  rw [if_neg (by simp [h])]
  dsimp only
  rw [show [x].take fetchBatch = [x] from rfl, Device.fetchSlots, if_neg (by simp [hread])]
  dsimp only
  rw [Device.fetchSlots]
  rcases r with _ | _ | r
  · rfl
  · rfl
  · rfl

section

variable (d : Device)

/-- A write-back of CONS is a posted write (R132, R136). -/
theorem writeBack_keeps {β : Type} {p : Device → β} (hm : ∀ e a b, 2 ^ 63 ≤ a → p (Device.setByte e a b) = p e)
    (hh : ∀ e f, EventsOnly f → p (Device.modHost e f) = p e) (r : Nat) : p (d.writeBack r) = p d := by
  unfold Device.writeBack
  extract_lets wb
  split
  · rfl
  · exact postedWrite_keeps d hm hh _ _ _

theorem reg_writeBack (r a : Nat) : (d.writeBack r).reg a = d.reg a :=
  writeBack_keeps d (p := fun e => e.reg a) (fun _ _ _ _ => rfl) (fun _ _ _ => rfl) r

/-- A posted write leaves the pages in ingest and what else the job rings have brought. -/
theorem EventsOnly.rings {f : HostIf → HostIf} (hf : EventsOnly f) (h : HostIf) :
    (f h).ingest = h.ingest ∧ (f h).bound = h.bound ∧ (f h).bufs = h.bufs := by
  obtain ⟨-, -, hingest, -, -, -, -, hbound, hbufs, -⟩ := hf h
  exact ⟨hingest, hbound, hbufs⟩

theorem ingest_writeBack (r : Nat) : (d.writeBack r).host.ingest = d.host.ingest :=
  writeBack_keeps d (p := fun e => e.host.ingest) (fun _ _ _ _ => rfl) (fun e _ hf => (hf.rings e.host).1) r

theorem bound_writeBack (r : Nat) : (d.writeBack r).host.bound = d.host.bound :=
  writeBack_keeps d (p := fun e => e.host.bound) (fun _ _ _ _ => rfl) (fun e _ hf => (hf.rings e.host).2.1) r

theorem bufs_writeBack (r : Nat) : (d.writeBack r).host.bufs = d.host.bufs :=
  writeBack_keeps d (p := fun e => e.host.bufs) (fun _ _ _ _ => rfl) (fun e _ hf => (hf.rings e.host).2.2) r

theorem nat_writeBack (r a : Nat) : (d.writeBack r).nat a = d.nat a := congrArg BitVec.toNat (reg_writeBack d r a)

/-- What a first side is judged by is not changed by the read of its slot. -/
theorem firstVerdict_slotRead (x : FetchedSlot) : (d.slotRead 0).firstVerdict x = d.firstVerdict x := by
  have hweb : (d.slotRead 0).web = d.web := flag_congr (reg_setNat_ne _ _ (by decide)) _
  unfold Device.firstVerdict Device.descBad Device.templateOk
  rw [hweb]
  rfl

theorem wsn_readTable {p q : PageSide} {b : Nat} {l : List (List Byte)} (h : readTable p b l = some q) : q.wsn = p.wsn := by
  unfold readTable at h
  split at h
  · cases h
    rfl
  · cases h

theorem settleIngest_none (n : Nat) {x : IngestS} {rest : List IngestS} (h : d.host.ingest = x :: rest) (hv : x.verdict = none) :
    d.settleIngest n = d := by
  cases n with
  | zero => rfl
  | succ n => rw [Device.settleIngest, h]; dsimp only; rw [hv]

theorem settleIngest_empty (n : Nat) (h : d.host.ingest = []) : d.settleIngest n = d := by
  cases n with
  | zero => rfl
  | succ n => rw [Device.settleIngest, h]

theorem reg_ingestWait (b : Bool) {a : Nat} (h : a ≠ PGS_ALLOC_PAGES) : (d.ingestWait b).reg a = d.reg a :=
  reg_setFlag_ne d PGS_ALLOC_PAGES_WAIT b h

theorem ingest_ingestWait (b : Bool) : (d.ingestWait b).host.ingest = d.host.ingest := rfl

theorem haltRing_keeps {β : Type} {p : Device → β} (hr : ∀ a ∈ postRegs, ∀ e v, p (Device.setReg e a v) = p e)
    (hm : ∀ e a b, 2 ^ 63 ≤ a → p (Device.setByte e a b) = p e) (hh : ∀ e f, EventsOnly f → p (Device.modHost e f) = p e) (r c : Nat)
    (hs : ∀ e v, p (Device.setReg e (HIF_RING_STATUS r) v) = p e) : p (d.haltRing r c) = p d :=
  (post_keeps _ hr hm hh _ _ _ _ _).trans ((hs _ _).trans (hs d _))

/-- A status that halts takes all pages out of ingest, puts CONS back to the slot of the first, and halts the page ring with that cause (R143,
R144). -/
theorem endHead_halts {x : IngestS} {rest : List IngestS} {v : Nat} (h : d.host.ingest = x :: rest) (hv : haltsRing v = true) (hlt : v < 16) :
    (d.endHead v).host.ingest = [] ∧ (d.endHead v).ringHalted 0 = true ∧
      (d.endHead v).fld (HIF_RING_STATUS 0) HIF_RING_STATUS_HALT_CAUSE = v ∧
      (d.endHead v).reg (HIF_RING_CONS 0) = BitVec.ofNat 32 x.slot := by
  unfold Device.endHead
  rw [h]
  dsimp only
  rw [if_pos hv, if_pos hv]
  generalize hd1 : ((d.setIngest []).each (x :: rest) fun y d => d.freePage y.page) = d1
  have h1 : d1.host.ingest = [] := by
    rw [← hd1]
    exact each_keeps (f := fun (y : IngestS) e => e.freePage y.page) (p := fun e => e.host.ingest) (fun _ _ => rfl) (x :: rest) (d.setIngest [])
  generalize hd2 : d1.dropChains.post _ _ _ _ _ = d2
  have h2 : d2.host.ingest = [] := by
    rw [← hd2]
    exact (congrArg (fun w => w.2.2) ((gateView_post _ _ _ _ _ _).trans (gateView_dropChains d1))).trans h1
  generalize hd3 : d2.modHost _ = d3
  have h3 : d3.host.ingest = [] := by
    rw [← hd3]
    exact h2
  generalize hd4 : ((d3.setNat (HIF_RING_CONS 0) x.slot).writeBack 0).ingestWait false = d4
  have h4 : d4.host.ingest = [] ∧ d4.reg (HIF_RING_CONS 0) = BitVec.ofNat 32 x.slot := by
    rw [← hd4, ingest_ingestWait, ingest_writeBack, reg_ingestWait _ _ (by decide), reg_writeBack]
    exact ⟨h3, reg_setNat_self d3 _ _⟩
  obtain ⟨hingest, hcons⟩ := h4
  obtain ⟨hhalted, hcause⟩ := haltRing_shows d4 0 hlt
  refine ⟨?_, hhalted, hcause, ?_⟩
  · exact (haltRing_keeps d4 (p := fun e => e.host.ingest) (fun _ _ _ _ => rfl) (fun _ _ _ _ => rfl) (fun e _ hf => (hf.rings e.host).1) 0 v
      (fun _ _ => rfl)).trans hingest
  · exact (haltRing_keeps d4 (p := fun e => e.reg (HIF_RING_CONS 0)) (reg_setReg_mem (by decide)) (fun _ _ _ _ => rfl) (fun _ _ _ => rfl) 0 v
      (fun e w => reg_setReg_ne e w (by decide))).trans hcons

/-- A first side that ingest takes waits in it for the second side (R91, R137). -/
theorem newPage_first {slot : Nat} {x : FetchedSlot} (h : d.host.ingest = []) (hok : x.descOk = true) (hv : d.firstVerdict x = none)
    (hdup : (parseSide x.desc).duplex = true) :
    ∃ y, d.newPage slot x = d.setIngest [y] ∧ y.awaits = true ∧ y.verdict = none ∧ y.page.first.wsn = (parseSide x.desc).wsn := by
  have hwsn : ((readTable (parseSide x.desc) 0 x.table).getD (parseSide x.desc)).wsn = (parseSide x.desc).wsn := by
    cases hr : readTable (parseSide x.desc) 0 x.table with
    | none => rfl
    | some q => exact wsn_readTable hr
  unfold Device.newPage
  rw [hv, hok, h]
  extract_lets p v halts pair p' y d1
  have hawaits : y.awaits = true := by simp [y, pair, p, hdup, halts, v]
  have hlive : y.verdict = none := rfl
  have hone : d1.host.ingest = [y] := rfl
  refine ⟨y, ?_, hawaits, hlive, hwsn⟩
  rw [settleIngest_none d1 3 hone hlive]
  unfold Device.ingestBegin
  rw [hone]
  simp only [List.length_singleton, Nat.sub_self, List.getElem?_cons_zero, hawaits, Bool.or_true, Bool.true_or, if_true]
  rfl

/-- A first side with a status that halts the ring ends at once (R88, R144). -/
theorem newPage_halts {slot v : Nat} {x : FetchedSlot} (h : d.host.ingest = []) (hv : d.firstVerdict x = some v) (hhalt : haltsRing v = true)
    (hlt : v < 16) :
    (d.newPage slot x).host.ingest = [] ∧ (d.newPage slot x).ringHalted 0 = true ∧
      (d.newPage slot x).fld (HIF_RING_STATUS 0) HIF_RING_STATUS_HALT_CAUSE = v ∧
      (d.newPage slot x).reg (HIF_RING_CONS 0) = BitVec.ofNat 32 slot := by
  unfold Device.newPage
  rw [hv, h]
  extract_lets p v' halts pair p' y d1
  have hone : d1.host.ingest = [y] := rfl
  have hawaits : y.awaits = false := by simp [y, halts, v', hhalt]
  have hverdict : y.verdict = some v := rfl
  obtain ⟨hnone, hends⟩ := endHead_halts d1 hone hhalt hlt
  have hsettle : (d1.settleIngest 3).ingestBegin (d1.host.ingest.length - 1) = d1.endHead v := by
    rw [Device.settleIngest, hone]
    dsimp only
    rw [hverdict]
    dsimp only
    rw [hawaits, if_neg (by decide), settleIngest_empty _ 2 hnone]
    unfold Device.ingestBegin
    rw [hnone]
    rfl
  rw [hsettle]
  exact ⟨hnone, hends⟩

theorem fetchPage_empty {slot : Nat} {x : FetchedSlot} (h : d.host.ingest = []) : d.fetchPage slot x = d.newPage slot x := by
  unfold Device.fetchPage
  rw [h]
  rfl

/-- A parameter slot is judged by registers that the read of a slot leaves (R149). -/
theorem paramOk_slotRead {r : Nat} (hr : r < 3) (slot v : Nat) : (d.slotRead r).paramOk slot v = d.paramOk slot v := by
  have hreg (a : Nat) (ha : 0x10071000 ≤ a) : (d.slotRead r).reg a = d.reg a :=
    reg_setNat_ne _ _ (by unfold HIF_RING_CONS; omega)
  have hnat (a : Nat) (ha : 0x10071000 ≤ a) : (d.slotRead r).nat a = d.nat a := congrArg BitVec.toNat (hreg a ha)
  have hint (a : Nat) (ha : 0x10071000 ≤ a) : (d.slotRead r).int a = d.int a := congrArg BitVec.toInt (hreg a ha)
  unfold Device.paramOk
  rw [hnat (HIF_PARAM_ADDR slot) (Nat.le_add_right _ _), flag_congr (hreg (HIF_PARAM_FIELD slot) (by unfold HIF_PARAM_FIELD; omega)),
    hnat (HIF_PARAM_MIN slot) (by unfold HIF_PARAM_MIN; omega), hnat (HIF_PARAM_MAX slot) (by unfold HIF_PARAM_MAX; omega),
    hint (HIF_PARAM_MIN slot) (by unfold HIF_PARAM_MIN; omega), hint (HIF_PARAM_MAX slot) (by unfold HIF_PARAM_MAX; omega)]

theorem nat_cons_slotRead (r : Nat) : (d.slotRead r).nat (HIF_RING_CONS r) = (d.nat (HIF_RING_CONS r) + 1) % 2 ^ 32 := nat_setNat_self _ _ _

/-- A well-formed descriptor for a page that is not yet delivered is bound to it (R148, R149). -/
theorem fetchParam_binds {f : Fuses} {slot : Nat} {x : FetchedSlot} (hok : x.descOk = true) (hform : paramFormOk x.desc = true)
    (hargs : (paramEntries x.desc).all (fun e => d.paramOk e.1 e.2) = true) (hw : applyWsn x.desc ≠ 0) (hlast : d.dlv.last < applyWsn x.desc) :
    d.fetchParam f slot x =
      d.modHost fun v => { v with bound := v.bound ++ [{ wsn := applyWsn x.desc, slot, entries := paramEntries x.desc }] } := by
  unfold Device.fetchParam
  dsimp only
  rw [if_neg (by simp [hok]), if_neg (by rw [hform, hargs]; decide), if_neg hw, if_neg (by omega)]

/-- A buffer that the device can fill waits (R151). -/
theorem fetchBuffer_adds {x : FetchedSlot} (hok : x.descOk = true) (htype : bytesAt x.desc 8 1 = 3)
    (hend : bytesAt x.desc 0 8 + bytesAt x.desc 16 4 ≤ 2 ^ 63) (haddr : bytesAt x.desc 0 8 < 2 ^ 63) :
    d.fetchBuffer x =
      d.modHost fun v => { v with bufs := v.bufs ++ [{ addr := bytesAt x.desc 0 8, len := bytesAt x.desc 16 4, tag := bytesAt x.desc 24 4 }] } := by
  unfold Device.fetchBuffer
  dsimp only
  rw [if_neg (by simp [hok]), if_neg (by omega)]

end

section

variable (t : Nat) (s : State) (x : FetchedSlot)

theorem descriptorFetch_completes {r : Fin 3} {P : Device → Prop} (hmay : s.dev.mayFetch r = true)
    (h : P (((s.dev.tick t).slotTaken s.fuses r x).writeBack r)) : Completes (.descriptorFetch t r [x]) s P := by
  refine ⟨_, rfl, rfl, rfl, ?_⟩
  have hrun := fetchRing_single (d := s.dev.tick t) hmay s.fuses x
  dsimp only
  rw [hrun]
  exact h

/-- The page ring (R88, R132, R144). -/
theorem descriptorFetch_page (hok : x.descOk = true) (hmay : s.dev.mayFetch 0 = true) (hempty : s.dev.host.ingest = []) :
    (s.dev.firstVerdict x = none → (parseSide x.desc).duplex = true →
      Completes (.descriptorFetch t 0 [x]) s fun e => ∃ y, e.host.ingest = [y] ∧ y.awaits = true ∧ y.verdict = none ∧
        y.page.first.wsn = (parseSide x.desc).wsn ∧ e.nat (HIF_RING_CONS 0) = (s.dev.nat (HIF_RING_CONS 0) + 1) % 2 ^ 32) ∧
    (∀ v, s.dev.firstVerdict x = some v → haltsRing v = true → v < 16 →
      Completes (.descriptorFetch t 0 [x]) s fun e => e.host.ingest = [] ∧ e.ringHalted 0 = true ∧
        e.fld (HIF_RING_STATUS 0) HIF_RING_STATUS_HALT_CAUSE = v ∧ e.reg (HIF_RING_CONS 0) = s.dev.reg (HIF_RING_CONS 0)) := by
  generalize hd : (s.dev.tick t).slotRead 0 = d
  have hnil : d.host.ingest = [] := by
    rw [← hd]
    exact hempty
  have hverdict : d.firstVerdict x = s.dev.firstVerdict x := by
    rw [← hd]
    exact firstVerdict_slotRead (s.dev.tick t) x
  have hcons : d.nat (HIF_RING_CONS 0) = (s.dev.nat (HIF_RING_CONS 0) + 1) % 2 ^ 32 := by
    rw [← hd]
    exact nat_cons_slotRead (s.dev.tick t) 0
  have htaken : (s.dev.tick t).slotTaken s.fuses 0 x = d.newPage (s.dev.nat (HIF_RING_CONS 0)) x := by
    rw [← fetchPage_empty d hnil, ← hd]
    rfl
  constructor
  · intro hv hdup
    refine descriptorFetch_completes t s x hmay ?_
    obtain ⟨y, hnew, hawaits, hnone, hwsn⟩ := newPage_first d (slot := s.dev.nat (HIF_RING_CONS 0)) hnil hok (hverdict.trans hv) hdup
    rw [show ((0 : Fin 3) : Nat) = 0 from rfl, htaken, hnew, ingest_writeBack, nat_writeBack]
    exact ⟨y, rfl, hawaits, hnone, hwsn, hcons⟩
  · intro v hv hhalt hlt
    refine descriptorFetch_completes t s x hmay ?_
    obtain ⟨hnone, hhalted, hcause, hback⟩ := newPage_halts d (slot := s.dev.nat (HIF_RING_CONS 0)) hnil (hverdict.trans hv) hhalt hlt
    rw [show ((0 : Fin 3) : Nat) = 0 from rfl, htaken, ingest_writeBack, reg_writeBack, fld_congr (reg_writeBack _ 0 _)]
    refine ⟨hnone, (flag_congr (reg_writeBack _ 0 _) _).trans hhalted, hcause, hback.trans ?_⟩
    exact BitVec.ofNat_toNat _ _

/-- The parameter ring (R148). -/
theorem descriptorFetch_param (hok : x.descOk = true) (hmay : s.dev.mayFetch 1 = true) (hform : paramFormOk x.desc = true)
    (hargs : (paramEntries x.desc).all (fun e => s.dev.paramOk e.1 e.2) = true) (hw : applyWsn x.desc ≠ 0)
    (hlast : s.dev.dlv.last < applyWsn x.desc) :
    Completes (.descriptorFetch t 1 [x]) s fun e => e.nat (HIF_RING_CONS 1) = (s.dev.nat (HIF_RING_CONS 1) + 1) % 2 ^ 32 ∧
      e.host.bound = s.dev.host.bound ++
        [{ wsn := applyWsn x.desc, slot := s.dev.nat (HIF_RING_CONS 1) % 2 ^ (s.dev.force 1).log2, entries := paramEntries x.desc }] := by
  refine descriptorFetch_completes t s x hmay ?_
  have hargs' : (paramEntries x.desc).all (fun e => ((s.dev.tick t).slotRead 1).paramOk e.1 e.2) = true := by
    simp only [paramOk_slotRead (s.dev.tick t) (show 1 < 3 by decide)]
    exact hargs
  rw [show ((1 : Fin 3) : Nat) = 1 from rfl, nat_writeBack, bound_writeBack, Device.slotTaken,
    fetchParam_binds ((s.dev.tick t).slotRead 1) hok hform hargs' hw hlast]
  exact ⟨nat_cons_slotRead (s.dev.tick t) 1, rfl⟩

/-- The inspection ring (R151). -/
theorem descriptorFetch_buffer (hok : x.descOk = true) (hmay : s.dev.mayFetch 2 = true) (htype : bytesAt x.desc 8 1 = 3)
    (hend : bytesAt x.desc 0 8 + bytesAt x.desc 16 4 ≤ 2 ^ 63) (haddr : bytesAt x.desc 0 8 < 2 ^ 63) :
    Completes (.descriptorFetch t 2 [x]) s fun e => e.nat (HIF_RING_CONS 2) = (s.dev.nat (HIF_RING_CONS 2) + 1) % 2 ^ 32 ∧
      e.host.bufs = s.dev.host.bufs ++ [{ addr := bytesAt x.desc 0 8, len := bytesAt x.desc 16 4, tag := bytesAt x.desc 24 4 }] := by
  refine descriptorFetch_completes t s x hmay ?_
  rw [show ((2 : Fin 3) : Nat) = 2 from rfl, nat_writeBack, bufs_writeBack, Device.slotTaken,
    fetchBuffer_adds ((s.dev.tick t).slotRead 2) hok htype hend haddr]
  · exact ⟨nat_cons_slotRead (s.dev.tick t) 2, rfl⟩
  all_goals decide

end

/-- Settles O21: one lemma for each of the job rings. -/
theorem descriptorsAreFetched : Obligations.DescriptorsAreFetched := by
  intro t s x hok
  exact ⟨descriptorFetch_page t s x hok, descriptorFetch_param t s x hok, descriptorFetch_buffer t s x hok⟩

end Sys2Proof.Machine

end

section

set_option Elab.async false

namespace Sys2Proof.Machine

/-! # Acceptance and delivery (R89 to R102, R113, R119, R185) -/

section

variable {β : Type} {p : Device → β} (d : Device)

/-! A page that is accepted. -/

theorem writeBack_dlv (r : Nat) : (d.writeBack r).dlv = d.dlv :=
  writeBack_keeps d (p := Device.dlv) (fun _ _ _ _ => rfl) (fun _ _ _ => rfl) r

theorem haltRing_dlv (r c : Nat) : (d.haltRing r c).dlv = d.dlv := post_dlv _ _ _ _ _ _

theorem ingestWait_dlv (b : Bool) : (d.ingestWait b).dlv = d.dlv := rfl

theorem dropChains_dlv : d.dropChains.dlv = d.dlv := congrArg (fun v => v.1) (gateView_dropChains d)

theorem paceRaise_dlv : d.paceRaise.dlv = d.dlv := by
  have hrequest : d.paceRequest.dlv = d.dlv := by
    fun_cases Device.paceRequest d with
    | case1 => rfl
    | case2 => exact paceStep_keeps _ (p := Device.dlv) (fun _ _ => rfl) (fun _ _ => rfl)
  fun_cases Device.paceRaise d with
  | case1 => exact hrequest
  | case2 => rfl

/-- The sheets are not touched by what becomes of pages in ingest (R143 to R145). -/
theorem endHead_dlv (v : Nat) : (d.endHead v).dlv = d.dlv := by
  unfold Device.endHead
  split
  · rfl
  · extract_lets w data d1 d2 top d3
    have h1 : d1.dlv = d.dlv := by
      unfold d1
      split
      · exact each_keeps (f := fun (y : IngestS) e => e.freePage y.page) (p := Device.dlv) (fun _ _ => rfl) _ _
      · rfl
    have h2 : d2.dlv = d.dlv := (post_dlv _ _ _ _ _ _).trans ((dropChains_dlv d1).trans h1)
    split
    · rw [haltRing_dlv, ingestWait_dlv, writeBack_dlv]
      exact h2
    · exact h2

theorem settleIngest_dlv (n : Nat) : ∀ d : Device, (d.settleIngest n).dlv = d.dlv := by
  induction n with
  | zero => exact fun _ => rfl
  | succ n ih =>
    intro d
    unfold Device.settleIngest
    split
    · split
      · split
        · rfl
        · exact (ih _).trans (endHead_dlv d _)
      · rfl
    · rfl

theorem ingestFail_dlv (i v : Nat) : (d.ingestFail i v).dlv = d.dlv := by
  unfold Device.ingestFail
  split
  · split
    · exact (settleIngest_dlv 3 _).trans (dropChains_dlv _)
    · rfl
  · rfl

theorem newHandle_dlv {e : Device} {h : Nat} (hnew : d.newHandle = some (e, h)) : e.dlv = d.dlv := by
  unfold Device.newHandle at hnew
  split at hnew
  · cases hnew
  · cases hnew
    rfl

theorem ingestBegin_dlv (i : Nat) : (d.ingestBegin i).dlv = d.dlv := by
  unfold Device.ingestBegin
  split
  · rfl
  · split
    · rfl
    · split
      · exact ingestFail_dlv d i _
      · split
        next e h hnew =>
          have he : e.dlv = d.dlv := newHandle_dlv d hnew
          exact he
        next => rfl

/-- The page that passes the Tollgate is held after the others (R89, R185). -/
theorem acceptPage_shows (x : Page) (rest : List IngestS) :
    (d.acceptPage x rest).dlv.pages = d.dlv.pages ++ [x] ∧ (d.acceptPage x rest).dlv.horizon = x.top := by
  unfold Device.acceptPage
  extract_lets d1 d2 d3
  have hdlv : (((d3.dropChains.post evPageStatus false psAccepted x.first.wsn 0).paceRaise).ingestBegin 0).dlv = d3.dlv :=
    (ingestBegin_dlv _ 0).trans ((paceRaise_dlv _).trans ((post_dlv _ _ _ _ _ _).trans (dropChains_dlv d3)))
  rw [hdlv]
  exact ⟨rfl, rfl⟩

/-! A sheet that leaves. -/

theorem maskList_lt {n m s : Nat} (h : s ∈ maskList n m) : s < n := by
  unfold maskList at h
  simp only [List.mem_filter, List.mem_range] at h
  exact h.1

/-- A count is written back with a flag of its station and the units' records alone (R585). -/
theorem writeback_keeps {s : Nat} (hr : ∀ e v, p (Device.setReg e (CNS_STATUS s) v) = p e) (hc : ∀ e f, p (Device.modCns e f) = p e) (b : Bool) :
    p (d.writeback s b) = p d := by
  have hcount : p (d.writeCount s) = p d := by
    unfold Device.writeCount
    extract_lets u newest no bands d1
    have h1 : p d1 = p d := hr d _
    split
    · exact (hc d1 _).trans h1
    · exact (hc d1 _).trans h1
  unfold Device.writeback
  split
  · rfl
  · split
    · split
      · exact (hr _ _).trans (hr d _)
      · exact hr d _
    · exact hcount

/-- Counting a sheet touches the stations' units and their status alone (R585). -/
theorem countSheet_keeps (hr : ∀ s < 8, ∀ e v, p (Device.setReg e (CNS_STATUS s) v) = p e) (hc : ∀ e f, p (Device.modCns e f) = p e) (m : Nat) :
    p (d.countSheet m) = p d := by
  unfold Device.countSheet
  extract_lets lim
  refine each_keeps_mem _ d fun s hs e => ?_
  extract_lets u
  split
  · exact (writeback_keeps _ (hr s (maskList_lt hs)) hc false).trans (hc e _)
  · exact hc e _

theorem plannedNow_none (h : d.planned = none) : d.plannedNow = d := by
  unfold Device.plannedNow
  rw [h]

theorem settle_keeps (hr : ∀ a ∈ postRegs, ∀ e v, p (Device.setReg e a v) = p e)
    (hm : ∀ e a b, 2 ^ 63 ≤ a → p (Device.setByte e a b) = p e)
    (hh : ∀ e f, EventsOnly f → p (Device.modHost e f) = p e) (hs : ∀ e v, p (Device.withSt e v) = p e) : p d.settle = p d := by
  unfold Device.settle
  split
  · exact setSt_keeps d hr hm hh hs _
  · rfl

/-- What a sheet's end in the engine leaves, where no transfer waits: the state can go from Draining to Ready, events are posted, the sheet is
counted, and its instance is in flight no more (R4, R153, R585). -/
structure LeaveKeeps (p : Device → β) : Prop where
  post : ∀ a ∈ postRegs, ∀ e v, p (Device.setReg e a v) = p e
  cns : ∀ s < 8, ∀ e v, p (Device.setReg e (CNS_STATUS s) v) = p e
  mem : ∀ e a b, 2 ^ 63 ≤ a → p (Device.setByte e a b) = p e
  host : ∀ e f, EventsOnly f → p (Device.modHost e f) = p e
  units : ∀ e f, p (Device.modCns e f) = p e
  st : ∀ e v, p (Device.withSt e v) = p e
  inst : ∀ e n i, p (Device.setInst e n i) = p e

/-- The sheet of instance `n` has left. -/
def Device.sheetLeft (d : Device) (n m : Nat) : Device := ((d.outOfFlight n).countSheet m).settleSheets

theorem outOfFlight_keeps (hi : ∀ e n i, p (Device.setInst e n i) = p e) (n : Nat) : p (d.outOfFlight n) = p d := by
  unfold Device.outOfFlight
  split
  · exact hi d _ _
  · rfl

/-- Where no transfer waits, the last sheet in flight ends Draining and nothing else follows (R4). -/
theorem sheetLeft_eq (hplan : d.planned = none) (n m : Nat) : d.sheetLeft n m = ((d.outOfFlight n).countSheet m).settle := by
  have hnone : ((d.outOfFlight n).countSheet m).settle.planned = none :=
    calc ((d.outOfFlight n).countSheet m).settle.planned
      _ = ((d.outOfFlight n).countSheet m).planned :=
        settle_keeps _ (fun _ _ _ _ => rfl) (fun _ _ _ _ => rfl) (fun _ _ _ => rfl) (fun _ _ => rfl)
      _ = (d.outOfFlight n).planned := countSheet_keeps _ (fun _ _ _ _ => rfl) (fun _ _ => rfl) m
      _ = d.planned := outOfFlight_keeps d (fun _ _ _ => rfl) n
      _ = none := hplan
  unfold Device.sheetLeft Device.settleSheets
  dsimp only
  rw [plannedNow_none _ hnone, ite_self]

theorem counted_keeps (h : LeaveKeeps p) (n m : Nat) : p ((d.outOfFlight n).countSheet m) = p d :=
  (countSheet_keeps _ h.cns h.units m).trans (outOfFlight_keeps d h.inst n)

theorem sheetLeft_keeps (h : LeaveKeeps p) (hplan : d.planned = none) (n m : Nat) : p (d.sheetLeft n m) = p d := by
  rw [sheetLeft_eq d hplan]
  exact (settle_keeps _ h.post h.mem h.host h.st).trans (counted_keeps d h n m)

/-- The commit register and the sheet journal. -/
def delivered (d : Device) : Nat × List SheetEntry := (d.dlv.last, d.dlv.journal)

theorem leaveKeeps_delivered : LeaveKeeps delivered where
  post _ _ _ _ := rfl
  cns _ _ _ _ := rfl
  mem _ _ _ _ := rfl
  host _ _ _ := rfl
  units _ _ := rfl
  st _ _ := rfl
  inst _ _ _ := rfl

theorem last_commit (v : DeliveryS) (w : Nat) : (v.commit w).last = w := by
  unfold DeliveryS.commit
  split
  · simp [DeliveryS.last, DeliveryS.slot1Newer]
  · next h =>
    have hvalid : v.slot0.valid = true := by
      simp only [Bool.or_eq_true, Bool.not_eq_true', not_or, Bool.not_eq_false] at h
      exact h.2
    simp [DeliveryS.last, DeliveryS.slot1Newer]

/-- The newest entry of the sheet journal, by what it says of its sheet. -/
def Device.newest (d : Device) : Option (Nat × Nat × Nat) := d.dlv.journal.head?.map fun x => (x.kind, x.wsn, x.cause)

theorem newest_sheetJournal (k w c m : Nat) (re du : Bool) (h : Nat) : (d.sheetJournal k w c m re du h).newest = some (k, w, c) := rfl

theorem fixHorizon_delivered : delivered d.fixHorizon = delivered d := by
  unfold Device.fixHorizon
  split
  · rfl
  · rfl

/-- A page that is delivered is held no more; the commit register and the journal stay. -/
theorem dropPage_delivered (w : Nat) : delivered (d.dropPage w) = delivered d := by
  unfold Device.dropPage
  extract_lets gone d1 d2
  have h1 : delivered d1 = delivered d :=
    each_keeps (f := fun (x : Page) e => e.freePage x) (p := delivered) (fun _ _ => rfl) gone d
  exact (fixHorizon_delivered d2).trans h1

theorem dropPage_planned (w : Nat) : (d.dropPage w).planned = d.planned := by
  have hfix (e : Device) : e.fixHorizon.planned = e.planned := by
    unfold Device.fixHorizon
    split
    · rfl
    · rfl
  unfold Device.dropPage
  extract_lets gone d1 d2
  have h1 : d1.planned = d.planned :=
    each_keeps (f := fun (x : Page) e => e.freePage x) (p := Device.planned) (fun _ _ => rfl) gone d
  exact (hfix d2).trans h1

/-- A delivery changes the commit register and the journal at its beginning alone (R96). -/
theorem deliver_delivered {n : Nat} {i : Instance} (hi : d.inst n = some i) (hplan : d.planned = none) :
    delivered (d.deliver n) = delivered ((d.modDlv fun v => v.commit i.top).sheetJournal skDelivered i.top i.cause i.stations i.reprint
      (i.wsn2 != 0) i.handle) := by
  unfold Device.deliver
  split
  next hnone => cases hnone.symm.trans hi
  next j hj =>
  cases hi.symm.trans hj
  extract_lets d1 d2 d3 d4
  have hplan4 : d4.planned = none := (post_planned d3 _ _ _ _ _).trans ((dropPage_planned d2 i.wsn).trans hplan)
  calc delivered (d4.sheetLeft n i.stations)
    _ = delivered d4 := sheetLeft_keeps d4 leaveKeeps_delivered hplan4 n i.stations
    _ = delivered d3 := congrArg (fun v : DeliveryS => (v.last, v.journal)) (post_dlv d3 _ _ _ _ _)
    _ = delivered d2 := dropPage_delivered d2 i.wsn

/-- A delivery commits the sheet's WSN and journals it (R96, R98, R102). -/
theorem deliver_shows {n : Nat} {i : Instance} (hi : d.inst n = some i) (hplan : d.planned = none) :
    (d.deliver n).dlv.last = i.top ∧ (d.deliver n).newest = some (skDelivered, i.top, i.cause) := by
  obtain ⟨hlast, hjournal⟩ := Prod.mk.inj (deliver_delivered d hi hplan)
  refine ⟨hlast.trans (last_commit d.dlv i.top), ?_⟩
  unfold Device.newest
  rw [hjournal]
  exact newest_sheetJournal (d.modDlv fun v => v.commit i.top) _ _ _ _ _ _ _

/-! Entry into Safe leaves the commit register. -/

theorem putOut_dlv (q : Side) (n : Nat) (y : Int) : (d.putOut q n y).dlv = d.dlv := by
  unfold Device.putOut
  extract_lets dst i d1
  have h1 : d1.dlv = d.dlv := setReg_dlv d _ _
  split
  · exact (modMot_dlv d1 _).trans h1
  · exact (setReg_dlv d1 _ _).trans h1
  · exact (modMot_dlv d1 _).trans h1
  · exact (modMot_dlv d1 _).trans h1
  · exact h1

theorem setFallback_dlv (q : Side) (n : Nat) (b : Bool) (c : Nat) : (d.setFallback q n b c).dlv = d.dlv := by
  unfold Device.setFallback
  dsimp only
  rw [setFld_dlv, setFld_dlv, setFlag_dlv]

theorem safeSlot_dlv (q : Side) (n : Nat) : (d.safeSlot q n).dlv = d.dlv := by
  unfold Device.safeSlot
  extract_lets h c d1 d2
  have h1 : d1.dlv = d.dlv := setFallback_dlv d q n true 4
  have h2 : d2.dlv = d.dlv := by
    unfold d2
    split
    · rfl
    · split
      · exact (ledgerBase_dlv d1 _ _ _ _).trans h1
      · exact h1
  split
  · exact (putOut_dlv _ q n _).trans ((modRgl_dlv d2 _).trans h2)
  · rfl

theorem safePoly_dlv (q : Side) (n : Nat) : (d.safePoly q n).dlv = d.dlv := by
  unfold Device.safePoly Device.setPoly
  rw [modMot_dlv, setReg_dlv, setFlag_dlv, setFld_dlv]

theorem safePmsm_dlv (q : Side) (n : Nat) : (d.safePmsm q n).dlv = d.dlv := by
  unfold Device.safePmsm Device.setPmsm
  rw [modMot_dlv, setFlag_dlv, setFlag_dlv]

theorem axisRest_dlv (q : Side) (a v : Nat) : (d.axisRest q a v).dlv = d.dlv := by
  unfold Device.axisRest Device.setAxis
  dsimp only
  rw [modAxs_dlv, setFlag_dlv, setFlag_dlv, setFlag_dlv, setFlag_dlv, setReg_dlv, setReg_dlv, setReg_dlv]

theorem safeQuarter_dlv (q : Side) : (d.safeQuarter q).dlv = d.dlv := by
  unfold Device.safeQuarter
  extract_lets d1 d2 d3 d4
  have h1 : d1.dlv = d.dlv := each_keeps (p := Device.dlv) (fun n e => safeSlot_dlv e q n) _ d
  have h2 : d2.dlv = d1.dlv := each_keeps (p := Device.dlv) (fun n e => safePoly_dlv e q n) _ d1
  have h3 : d3.dlv = d2.dlv := each_keeps (p := Device.dlv) (fun n e => safePmsm_dlv e q n) _ d2
  have h4 : d4.dlv = d3.dlv := each_keeps (p := Device.dlv) (fun a e => axisRest_dlv e q a _) _ d3
  exact (modMot_dlv d4 _).trans (h4.trans (h3.trans (h2.trans h1)))

theorem safeHooks_dlv : d.safeHooks.dlv = d.dlv :=
  (modBmo_dlv _ _).trans (each_keeps (p := Device.dlv) (fun q e => safeQuarter_dlv e q) bothSides d)

theorem last_modDlv {f : DeliveryS → DeliveryS} (h : ∀ v, (f v).last = v.last) : (d.modDlv f).dlv.last = d.dlv.last := h d.dlv

theorem strand_last : d.strand.dlv.last = d.dlv.last := by
  unfold Device.strand
  extract_lets l d1 opened d2
  have h1 : d1.dlv.last = d.dlv.last := by
    refine each_keeps (p := fun e => e.dlv.last) (fun x e => ?_) l d
    rw [post_dlv]
    rfl
  have h2 : d2.dlv.last = d1.dlv.last := last_modDlv d1 fun _ => rfl
  rw [last_modDlv, modTml_dlv]
  · exact h2.trans h1
  · exact fun _ => rfl

theorem enterSafe_last (t : Nat) : (d.enterSafe t).dlv.last = d.dlv.last := by
  unfold Device.enterSafe
  extract_lets d1 d2 d3
  have h3 : d3.dlv = d.dlv := by
    unfold d3
    split
    · rfl
    · rfl
  calc ((d3.setSt .safe).strand.stopTransmitting.safeHooks).dlv.last
    _ = (d3.setSt .safe).strand.dlv.last := congrArg DeliveryS.last (safeHooks_dlv _)
    _ = (d3.setSt .safe).dlv.last := strand_last _
    _ = d3.dlv.last := congrArg DeliveryS.last
      (setSt_keeps d3 (p := Device.dlv) (fun _ _ _ _ => rfl) (fun _ _ _ _ => rfl) (fun _ _ _ => rfl) (fun _ _ => rfl) _)
    _ = d.dlv.last := congrArg DeliveryS.last h3

theorem kerbTrigger_last (t o x : Nat) : (d.kerbTrigger t o x).dlv.last = d.dlv.last := by
  have hlatch (e : Device) : (e.latchCause t).dlv = e.dlv := rfl
  have hbase (e : Device) : (e.ledgerBase t o x 0).dlv.last = e.dlv.last := congrArg DeliveryS.last (ledgerBase_dlv e t o x 0)
  unfold Device.kerbTrigger
  extract_lets d1
  split
  · rfl
  · rfl
  · exact hbase d1
  · exact hbase d1
  · rw [hlatch, enterSafe_last]
    exact hbase d1

/-- A ledger event leaves LAST_DELIVERED, whatever follows from it. -/
theorem ledgerEvent_last (b o x y : Nat) : (d.ledgerEvent b o x y).dlv.last = d.dlv.last := by
  unfold Device.ledgerEvent
  extract_lets d1
  have h1 : d1.dlv.last = d.dlv.last := congrArg DeliveryS.last (ledgerBase_dlv d b o x y)
  split
  · exact (kerbTrigger_last d1 _ _ _).trans h1
  · exact h1

end

section

variable (t : Nat) (s : State)

/-- The Tollgate takes the page at the head of ingest (R89, R113, R119). -/
theorem tollgateCheck_accepts {x : IngestS} {rest : List IngestS} (hingest : s.dev.host.ingest = x :: rest) (hlive : x.live = true)
    (hawaits : x.awaits = false) (hready : x.page.ready = true) (hpass : ((s.dev.tick t).gateCheck x.page).kind = 0) :
    Completes (.tollgateCheck t) s fun e => e.dlv.pages = s.dev.dlv.pages ++ [x.page] ∧ e.dlv.horizon = x.page.top := by
  have hgate : (s.dev.tick t).tollgate = ((s.dev.tick t).acceptPage x.page rest).settleIngest 3 := by
    unfold Device.tollgate
    rw [show (s.dev.tick t).host.ingest = x :: rest from hingest]
    dsimp only
    rw [if_neg (by simp [hlive, hawaits, hready]), if_pos hpass]
  refine ⟨_, rfl, rfl, rfl, ?_⟩
  dsimp only
  rw [hgate, settleIngest_dlv]
  exact acceptPage_shows (s.dev.tick t) x.page rest

/-- A detection in an open window delivers the lowest sheet in it (R96). -/
theorem stackerDetect_delivers (g : Fin 64) {n : Nat} {i : Instance}
    (hleast : leastBy (fun (x y : Nat × Instance) => decide (x.2.wsn < y.2.wsn)) (s.dev.openInsts.filter (fun x => s.dev.takesDetect g x.2)) =
      some (n, i)) (hi : s.dev.inst n = some i) (hplan : s.dev.planned = none) :
    Completes (.stackerDetect t g) s fun e => e.dlv.last = i.top ∧ e.newest = some (skDelivered, i.top, i.cause) := by
  have hedge : (s.dev.tick t).stackerEdge g = (s.dev.tick t).deliver n := by
    unfold Device.stackerEdge
    rw [show leastBy _ ((s.dev.tick t).openInsts.filter fun x => (s.dev.tick t).takesDetect g x.2) = some (n, i) from hleast]
  refine ⟨_, rfl, rfl, rfl, ?_⟩
  dsimp only
  rw [hedge]
  exact deliver_shows (s.dev.tick t) hi hplan

/-- A detection outside every window is counted (R100). -/
theorem stackerDetect_unexpected (g : Fin 64) (hnone : s.dev.openInsts.filter (fun x => s.dev.takesDetect g x.2) = []) :
    Completes (.stackerDetect t g) s fun e => e.dlv.last = s.dev.dlv.last ∧
      e.fld (LDG_CNT lbSheetUnexpected) LDG_CNT_EVENTS = min (s.dev.fld (LDG_CNT lbSheetUnexpected) LDG_CNT_EVENTS + 1) 65535 := by
  generalize hd : s.dev.tick t = d
  have hedge : d.stackerEdge g = (d.ledgerEvent lbSheetUnexpected shared 0 0).post evSheetUnexpected false 0 0 d.usec := by
    unfold Device.stackerEdge
    rw [← hd, show ((s.dev.tick t).openInsts.filter fun x => (s.dev.tick t).takesDetect g x.2) = [] from hnone]
    rfl
  refine ⟨_, rfl, rfl, rfl, ?_⟩
  dsimp only
  rw [hd, hedge, post_dlv, fld_congr (reg_post _ _ _ _ _ _ (by decide)), ledgerEvent_events d (by decide) (by decide) (by decide), ledgerEvent_last,
    ← hd]
  exact ⟨rfl, rfl⟩

/-- The commit register is cleared where no page is held in Held (R99). -/
theorem commitClear_completes :
    (s.dev.st = .held → s.dev.dlv.pages = [] →
      Completes (.commitClear t 0xC0DE) s fun e => e.resp = .ok ∧ e.dlv.last = 0 ∧ e.dlv.horizon = 0 ∧ e.dlv.journal = []) ∧
    (s.dev.st ≠ .held → Completes (.commitClear t 0xC0DE) s fun e => e.resp = .errState ∧ e.dlv = s.dev.dlv) := by
  constructor
  · intro hst hpages
    have hgo : (s.dev.tick t).st = .held ∧ (s.dev.tick t).dlv.pages.isEmpty = true := ⟨hst, List.isEmpty_iff.mpr hpages⟩
    refine ⟨_, rfl, rfl, rfl, ?_⟩
    dsimp only
    rw [Device.commitClear, if_neg (by decide), if_pos hgo]
    exact ⟨rfl, rfl, rfl, rfl⟩
  · intro hst
    have hstop : ¬ ((s.dev.tick t).st = .held ∧ (s.dev.tick t).dlv.pages.isEmpty = true) := fun h => hst h.1
    refine ⟨_, rfl, rfl, rfl, ?_⟩
    dsimp only
    rw [Device.commitClear, if_neg (by decide), if_neg hstop]
    exact ⟨rfl, rfl⟩

end

/-- Settles O19: one lemma for the Tollgate, two for the stacker's sensor, one for the commit register's clearing. -/
theorem pagesAcceptedAndSheetsCommitted : Obligations.PagesAcceptedAndSheetsCommitted := by
  intro t s
  obtain ⟨hclear, hrefused⟩ := commitClear_completes t s
  exact ⟨fun x rest => tollgateCheck_accepts t s,
    fun g => ⟨fun n i => stackerDetect_delivers t s g, stackerDetect_unexpected t s g⟩, hclear, hrefused⟩

end Sys2Proof.Machine

end

section

set_option Elab.async false

namespace Sys2Proof.Machine

/-! # Entries of the Timeline that move a sheet (R92, R96, R106, R107, R122, R123, R386, R394, R397, R404 to R410)

An entry that fires is logged and moves its cursor first; `Fired` says what the device is then, and its effect is a function of that device. -/

section

variable (d : Device)

/-- The registers that show the firing of an entry (R394, R410). -/
def firedRegs : List Nat := [TML_LOG .north, TML_LOG .south, TML_STATUS .north, TML_STATUS .south, TML_CNT .north, TML_CNT .south]

/-- Entry `k` is logged for instance `x` of number `n`, which becomes `y`. -/
def Device.hasFired (d : Device) (n : Nat) (x y : Instance) (k : Nat) : Device :=
  d.modTml fun v =>
    { v with log := (ActionEntry.mk x.wsn k d.now :: v.log).take 4096, insts := sput (fun _ => none) v.insts n (some y) }

/-- `g` is `d` once entry `k` has fired for instance `x` of number `n`, which has become `y`. -/
structure Fired (d : Device) (n : Nat) (x y : Instance) (k : Nat) (g : Device) : Prop where
  only : OnlyRegs (d.hasFired n x y k) g firedRegs
  moved : x.clearout = false → ∃ b, y = { x with cursor := x.cursor + 1, fired := d.now, late := b }

/-- What is written to the Timeline beside the registers. -/
theorem onlyRegs_hasFired {d e : Device} {l : List Nat} (h : OnlyRegs d e l) (n : Nat) (x y : Instance) (k : Nat) :
    OnlyRegs (d.hasFired n x y k)
      ((e.modTml fun v => { v with log := (ActionEntry.mk x.wsn k e.now :: v.log).take 4096 }).setInst n (some y)) l := by
  obtain ⟨⟨r, rfl⟩, hreg⟩ := h
  exact ⟨⟨r, rfl⟩, hreg⟩

theorem onlyRegs_each {α : Type} {l : List Nat} {f : α → Device → Device} {d : Device} (xs : List α)
    (h : ∀ x e, OnlyRegs d e l → OnlyRegs d (f x e) l) : ∀ e, OnlyRegs d e l → OnlyRegs d (e.each xs f) l :=
  each_inv h xs

theorem fired_fired (n : Nat) (x : Instance) (k : Nat) : ∃ y, Fired d n x y k (d.fired n x k) := by
  unfold Device.fired
  extract_lets d1 d2 d3
  have h1 : OnlyRegs d d1 firedRegs :=
    onlyRegs_each bothSides (fun q e h => h.setReg (by cases q <;> simp [firedRegs])) d (OnlyRegs.refl d _)
  have h2 : OnlyRegs d d2 firedRegs :=
    onlyRegs_each _ (fun q e h => OnlyRegs.ite ((h.setFlag (by cases q <;> simp [firedRegs])).addSat (by cases q <;> simp [firedRegs])) h) d1 h1
  have hnow : d3.now = d.now := h2.keeps (p := Device.now) fun _ => rfl
  refine ⟨d3.settleCursor { x with cursor := x.cursor + 1, fired := d3.now }, onlyRegs_hasFired h2 n x _ k, fun hsheet => ?_⟩
  rw [settleCursor_of_sheet d3 (i := { x with cursor := x.cursor + 1, fired := d3.now }) hsheet, hnow]
  exact ⟨_, rfl⟩

namespace Fired

variable {d : Device} {n : Nat} {x y : Instance} {k : Nat} {g : Device} (h : Fired d n x y k g)

include h

/-- What neither registers nor the Timeline's state show is as before. -/
theorem keeps {β : Type} {p : Device → β} (hr : ∀ e r, p { e with regs := r } = p e) (ht : ∀ e f, p (Device.modTml e f) = p e) : p g = p d :=
  (h.only.keeps (hr _)).trans (ht d _)

theorem reg {a : Nat} (ha : a ∉ firedRegs) : g.reg a = d.reg a := h.only.reg ha

theorem now : g.now = d.now := h.keeps (fun _ _ => rfl) (fun _ _ => rfl)

theorem inst : g.inst n = some y :=
  (h.only.keeps (p := fun e => e.inst n) fun _ => rfl).trans (sget_put (fun _ => none) d.tml.insts n (some y))

theorem driven : g.tml.driven = d.tml.driven := h.only.keeps (p := fun e => e.tml.driven) fun _ => rfl

theorem insts : g.tml.insts = sput (fun _ => none) d.tml.insts n (some y) := h.only.keeps (p := fun e => e.tml.insts) fun _ => rfl

/-- What keeps the action log and the time keeps the entry the newest one. -/
theorem logged {e : Device} (hlog : e.tml.log = g.tml.log) (hnow : e.now = g.now) : e.logged x.wsn k := by
  have hg : g.tml.log = (ActionEntry.mk x.wsn k d.now :: d.tml.log).take 4096 := h.only.keeps (p := fun e => e.tml.log) fun _ => rfl
  refine ⟨d.tml.log.take 4095, ?_⟩
  rw [hlog, hnow, hg, h.now]
  rfl

end Fired

/-- The entry at the cursor fires, and its effect takes place on the device that has fired it (R394). -/
theorem canFire_fires {d : Device} {t n a : Nat} {x : Instance} {k : Nat} {e : TmlEntry} (h : d.canFire t n a x k e)
    (f : TmlEntry → Instance → Device → Device) :
    ∃ y g, (d.tick t).fire n a f = f e x g ∧ Fired (d.tick t) n x y k g := by
  obtain ⟨hon, hinst, hcursor, haction, hdue⟩ := h
  obtain ⟨y, hfired⟩ := fired_fired (d.tick t) n x k
  refine ⟨y, _, ?_, hfired⟩
  have hgo : ((d.tick t).tmlOn && e.action == a && (d.tick t).entryDue (d.tick t).owner x e) = true := by
    rw [show (d.tick t).tmlOn = true from hon, haction, show (d.tick t).entryDue (d.tick t).owner x e = true from hdue]
    simp
  unfold Device.fire
  rw [show (d.tick t).inst n = some x from hinst]
  dsimp only
  rw [show (d.tick t).cursorEntry x = some (k, e) from hcursor]
  dsimp only
  rw [if_pos hgo]

/-! Instances. -/

theorem inst_setInst (n : Nat) (i : Option Instance) : (d.setInst n i).inst n = i := sget_put (fun _ => none) d.tml.insts n i

theorem onInst_some {n : Nat} {i : Instance} (h : d.inst n = some i) (f : Instance → Instance) : d.onInst n f = d.setInst n (some (f i)) := by
  unfold Device.onInst
  rw [h]

theorem showImage_keeps {β : Type} {p : Device → β} (hr : ∀ q e v, p (Device.setReg e (ENW_INSP_STATUS q) v) = p e) : p d.showImage = p d := by
  unfold Device.showImage
  exact each_keeps (fun q e => hr q e _) bothSides d

/-- The end of an inspection window changes its instance, the image in progress and the flag that shows it (R355). -/
theorem inspectEnd_keeps {β : Type} {p : Device → β} (hr : ∀ q e v, p (Device.setReg e (ENW_INSP_STATUS q) v) = p e)
    (hi : ∀ e n i, p (Device.setInst e n i) = p e) (ha : ∀ e f, p (Device.modArc e f) = p e) (n : Nat) : p (d.inspectEnd n) = p d := by
  unfold Device.inspectEnd
  extract_lets d1
  have h1 : p d1 = p d := by
    unfold d1 Device.onInst
    split
    · exact hi d _ _
    · rfl
  split
  · split
    · exact (ha _ _).trans ((showImage_keeps _ hr).trans ((ha d1 _).trans h1))
    · exact h1
  · split
    · exact (ha d1 _).trans h1
    · exact h1

theorem closeInst_shows (n : Nat) (x : Instance) :
    (d.closeInst n x).inst n = none ∧ (d.closeInst n x).tml.log = d.tml.log ∧ (d.closeInst n x).now = d.now := by
  unfold Device.closeInst
  extract_lets d1
  have h1 : d1.inst n = none := inst_setInst d n none
  split
  · exact ⟨h1, rfl, rfl⟩
  · exact ⟨h1, rfl, rfl⟩

end

section

variable {t : Nat} {s : State} {i : Fin 16} {x : Instance} {k : Nat} {e : TmlEntry}

/-- END (R397). -/
theorem tmlEnd_completes (hcan : s.dev.canFire t i taEnd x k e) :
    Completes (.tmlEnd t i) s fun d => d.inst i = none ∧ d.logged x.wsn k := by
  obtain ⟨y, g, hfire, hg⟩ := canFire_fires hcan fun _ x d => (d.inspectEnd i).closeInst i x
  refine ⟨_, rfl, rfl, rfl, ?_⟩
  dsimp only
  rw [hfire]
  obtain ⟨hnone, hlog, hnow⟩ := closeInst_shows (g.inspectEnd i) i x
  refine ⟨hnone, hg.logged (hlog.trans ?_) (hnow.trans ?_)⟩
  · exact inspectEnd_keeps g (p := fun d => d.tml.log) (fun _ e v => congrArg TimelineS.log (setReg_tml e _ v)) (fun _ _ _ => rfl)
      (fun _ _ => rfl) i
  · exact inspectEnd_keeps g (p := Device.now) (fun _ e v => setReg_now e _ v) (fun _ _ _ => rfl) (fun _ _ => rfl) i

/-- COMMIT (R122). -/
theorem tmlCommit_completes (hcan : s.dev.canFire t i taCommit x k e) :
    (s.dev.planned = none → x.onItsWay = true → x.divert = false →
      Completes (.tmlCommit t i) s fun d => d.dlv.last = x.top ∧ d.newest = some (skDelivered, x.top, x.cause)) ∧
    (x.divert = true → Completes (.tmlCommit t i) s fun d => d.logged x.wsn k ∧ d.dlv = s.dev.dlv) := by
  obtain ⟨y, g, hfire, hg⟩ := canFire_fires hcan fun _ x d => if x.onItsWay && !x.divert then d.deliver i else d
  constructor
  · intro hplan hway hdivert
    have hsheet : x.clearout = false := by
      unfold Instance.onItsWay at hway
      simp only [Bool.and_eq_true, Bool.not_eq_true'] at hway
      exact hway.1.1
    obtain ⟨b, rfl⟩ := hg.moved hsheet
    refine ⟨_, rfl, rfl, rfl, ?_⟩
    dsimp only
    rw [hfire, if_pos (by simp [hway, hdivert])]
    have hplan' : g.planned = none := (hg.keeps (fun _ _ => rfl) (fun _ _ => rfl)).trans hplan
    have hdelivered := deliver_shows g hg.inst hplan'
    exact hdelivered
  · intro hdivert
    refine ⟨_, rfl, rfl, rfl, ?_⟩
    dsimp only
    rw [hfire, if_neg (by simp [hdivert])]
    exact ⟨hg.logged rfl rfl, hg.keeps (fun _ _ => rfl) (fun _ _ => rfl)⟩

/-- ACCEPT_OPEN (R406). -/
theorem tmlAcceptOpen_completes (hcan : s.dev.canFire t i taAcceptOpen x k e) (hsheet : x.clearout = false) :
    Completes (.tmlAcceptOpen t i) s fun d => d.logged x.wsn k ∧ ∃ y, d.inst i = some y ∧ y.windowOpen = true ∧ y.cursor = x.cursor + 1 := by
  obtain ⟨y, g, hfire, hg⟩ := canFire_fires hcan fun _ _ d => d.onInst i fun y => { y with windowOpen := true }
  obtain ⟨b, rfl⟩ := hg.moved hsheet
  refine ⟨_, rfl, rfl, rfl, ?_⟩
  dsimp only
  rw [hfire, onInst_some g hg.inst]
  exact ⟨hg.logged rfl rfl, _, inst_setInst g i _, rfl, rfl⟩

end
/-! A sheet that does not come (R406, R600). -/

section

variable (d : Device)

theorem latchCause_shows {t : Nat} (ht : t < 11) : natBit ((d.latchCause t).fld KRB_CAUSE KRB_CAUSE_CAUSE) t = true := by
  unfold Device.latchCause
  rw [fld_setFld_natBit d KRB_CAUSE (by decide) ht true, natBit_setNatBit_self]

theorem safeHooks_st : d.safeHooks.st = d.st :=
  safeHooks_keeps d
    { quarter := fun _ _ _ _ => rfl, ledger := fun _ _ _ _ => rfl, mem := fun _ _ _ _ => rfl, host := fun _ _ _ => rfl, ldg := fun _ _ => rfl,
      rgl := fun _ _ => rfl, mot := fun _ _ => rfl, axs := fun _ _ => rfl, bmo := fun _ _ => rfl, dlv := fun _ _ => rfl, tml := fun _ _ => rfl }

theorem enterSafe_st (t : Nat) : (d.enterSafe t).st = .safe := by
  unfold Device.enterSafe
  extract_lets d1 d2 d3
  have hstop (e : Device) : e.stopTransmitting.st = e.st := rfl
  rw [safeHooks_st, hstop, st_strand, setSt_st]

/-- In Printing and in Safe a trigger of the Kerb ends in Safe with its bit in CAUSE (R599 to R601). -/
theorem kerbTrigger_safe {t : Nat} (ht : t < 11) (o x : Nat) (hst : d.st = .printing ∨ d.st = .safe) :
    (d.kerbTrigger t o x).st = .safe ∧ natBit ((d.kerbTrigger t o x).fld KRB_CAUSE KRB_CAUSE_CAUSE) t = true := by
  have hlatch (e : Device) : (e.latchCause t).st = e.st := rfl
  unfold Device.kerbTrigger
  extract_lets d1
  have h1 : d1.st = d.st := rfl
  rcases hst with hst | hst
  · rw [h1, hst]
    dsimp only
    exact ⟨(hlatch _).trans (enterSafe_st _ t), latchCause_shows _ ht⟩
  · rw [h1, hst]
    dsimp only
    refine ⟨?_, latchCause_shows _ ht⟩
    rw [hlatch, ledgerBase_st, h1, hst]

/-- In Printing an event of the ledger leaves the state or ends in Safe (R595, R600). -/
theorem ledgerEvent_printing (hst : d.st = .printing) (b o x y : Nat) :
    (d.ledgerEvent b o x y).st = .printing ∨ (d.ledgerEvent b o x y).st = .safe := by
  unfold Device.ledgerEvent
  extract_lets d1
  have h1 : d1.st = .printing := (ledgerBase_st ..).trans hst
  split
  · exact .inr (kerbTrigger_safe d1 (by decide) _ _ (.inl h1)).1
  · exact .inl h1

end

section

variable {t : Nat} {s : State} {i : Fin 16} {x : Instance} {k : Nat} {e : TmlEntry}

/-- ACCEPT_CLOSE (R406). -/
theorem tmlAcceptClose_completes (hcan : s.dev.canFire t i taAcceptClose x k e) (hsheet : x.clearout = false) :
    (x.onItsWay = false → Completes (.tmlAcceptClose t i) s fun d => d.logged x.wsn k ∧
      ∃ y, d.inst i = some y ∧ y.windowOpen = false ∧ y.cursor = x.cursor + 1) ∧
    (x.onItsWay = true → s.dev.st = .printing → Completes (.tmlAcceptClose t i) s fun d => d.st = .safe ∧
      natBit (d.fld KRB_CAUSE KRB_CAUSE_CAUSE) ktJam = true) := by
  obtain ⟨y, g, hfire, hg⟩ := canFire_fires hcan fun _ x d =>
    let d := d.onInst i (fun y => { y with windowOpen := false })
    if x.onItsWay then (d.ledgerEvent lbSheetMissing shared 0 0).kerbTrigger ktJam shared 0 else d
  obtain ⟨b, rfl⟩ := hg.moved hsheet
  dsimp only at hfire
  rw [onInst_some g hg.inst] at hfire
  constructor
  · intro hway
    refine ⟨_, rfl, rfl, rfl, ?_⟩
    dsimp only
    rw [hfire, if_neg (by simp [hway])]
    exact ⟨hg.logged rfl rfl, _, inst_setInst g i _, rfl, rfl⟩
  · intro hway hst
    have hst' : g.st = .printing := (hg.keeps (fun _ _ => rfl) (fun _ _ => rfl)).trans hst
    refine ⟨_, rfl, rfl, rfl, ?_⟩
    dsimp only
    rw [hfire, if_pos hway]
    generalize hd : g.setInst i _ = d
    have hd' : d.st = .printing := by
      rw [← hd]
      exact hst'
    exact kerbTrigger_safe _ (by decide) _ _ (ledgerEvent_printing d hd' _ _ _ _)

end

/-! A planned transfer at a gap (R386, R407). -/

section

variable (d : Device)

theorem other_other (q : Side) : q.other.other = q := by cases q <;> rfl

theorem q_setQ (q : Side) (v : QuarterS) : (d.setQ q v).q q = v := by cases q <;> rfl

theorem q_setQ_other (q : Side) (v : QuarterS) : (d.setQ q v).q q.other = d.q q.other := by cases q <;> rfl

theorem setQ_keeps {β : Type} {p : Device → β} (hn : ∀ e v, p { e with north := v } = p e) (hs : ∀ e v, p { e with south := v } = p e) (q : Side)
    (v : QuarterS) : p (d.setQ q v) = p d := by
  cases q with
  | north => exact hn d v
  | south => exact hs d v

/-- Who holds the token, the action log and the time. -/
def tokenView (d : Device) : Option Side × List ActionEntry × Nat := (d.token, d.tml.log, d.now)

theorem tokenView_setQ (q : Side) (v : QuarterS) : tokenView (d.setQ q v) = tokenView d := setQ_keeps d (fun _ _ => rfl) (fun _ _ => rfl) q v

theorem tokenView_setFld (a : Nat) (f : Fld) (v : Nat) : tokenView (d.setFld a f v) = tokenView d := rfl

theorem role_setFld (a : Nat) (f : Fld) (v : Nat) (q : Side) : (d.setFld a f v).role q = d.role q := by cases q <;> rfl

theorem tokenView_post (typ : Nat) (nmi : Bool) (code wsn data : Nat) : tokenView (d.post typ nmi code wsn data) = tokenView d := by
  unfold tokenView
  rw [post_token, post_tml, post_now]

theorem role_post (typ : Nat) (nmi : Bool) (code wsn data : Nat) (q : Side) : (d.post typ nmi code wsn data).role q = d.role q := by
  cases q
  · exact congrArg QuarterS.role (post_north ..)
  · exact congrArg QuarterS.role (post_south ..)

/-- A Quarter that is not Yielded does not enter Testing (R382). -/
theorem testIfYielded_other {q : Side} (h : d.role q ≠ .yielded) : d.testIfYielded q = d := by
  unfold Device.testIfYielded
  rw [if_neg fun c => h c.1]

theorem role_setTransmits (q r : Side) (b : Bool) : (d.setTransmits q b).role r = d.role r := by
  cases q <;> cases r <;> rfl

theorem role_withTransfer (v : Option Transfer) (q : Side) : (d.withTransfer v).role q = d.role q := by cases q <;> rfl

theorem role_setRole_other (q : Side) (r : Role) : (d.setRole q r).role q.other = d.role q.other :=
  congrArg QuarterS.role (q_setQ_other d q _)

/-- The overlap of a planned transfer ends without a test of the old Quarter (R374, R386). -/
theorem endOverlap_planned {x : Transfer} (hx : d.transfer = some x) (h : d.role x.old = .standby) : tokenView d.endOverlap = tokenView d := by
  unfold Device.endOverlap
  rw [hx]
  dsimp only
  rw [testIfYielded_other]
  · exact (tokenView_setQ _ _ _).trans rfl
  · rw [role_setTransmits, role_withTransfer, role_setFld, h]
    decide

theorem holdPanic_tokenView (q : Side) (m : Nat) : tokenView (d.holdPanic q m) = tokenView d := by
  unfold Device.holdPanic
  exact each_keeps (p := tokenView) (fun _ e => tokenView_setFld e _ _ _) _ _

theorem rejoin_tokenView (q : Side) (m : Nat) : tokenView (d.rejoin q m) = tokenView d := by
  unfold Device.rejoin
  exact each_keeps (p := tokenView) (fun _ _ => by rfl) _ _

theorem rejoin_role (q : Side) (m : Nat) (r : Side) : (d.rejoin q m).role r = d.role r := by
  unfold Device.rejoin
  exact each_keeps (p := fun e => e.role r) (fun _ _ => by cases r <;> rfl) _ _

/-- The token moves; the old Quarter of a planned transfer is in Standby already (R370, R386). -/
theorem passToken_planned {old : Side} (h : d.role old = .standby) : tokenView (d.passToken old 3) = (some old.other, d.tml.log, d.now) := by
  unfold Device.passToken
  extract_lets new waiting age d1 d2 d3 d4 d5 d6
  have h5 : d5 = d4 := if_neg (by decide)
  have hview2 : tokenView d2 = (some old.other, d.tml.log, d.now) := (tokenView_setQ _ _ _).trans (tokenView_setQ d1 _ _)
  have hview4 : tokenView d4 = tokenView d2 := by
    rw [tokenView_setFld, tokenView_setFld, tokenView_setFld, tokenView_setFld]
  have hview5 : tokenView d5 = (some old.other, d.tml.log, d.now) := by
    rw [h5, hview4, hview2]
  have hview6 : tokenView d6 = (some old.other, d.tml.log, d.now) := (rejoin_tokenView d5 new waiting).trans hview5
  have hrole1 : d1.role old = .standby := by
    rw [← h]
    cases old
    · rfl
    · rfl
  have hrole2 : d2.role old = .standby := by
    rw [role_setTransmits, ← other_other old, role_setRole_other, other_other]
    exact hrole1
  have hrole6 : d6.role old = .standby := by
    rw [role_withTransfer, rejoin_role, h5, role_setFld, role_setFld, role_setFld, role_setFld]
    exact hrole2
  split
  · exact (endOverlap_planned d6 rfl hrole6).trans hview6
  · rw [if_neg (by decide)]
    exact (holdPanic_tokenView d6 new waiting).trans hview6

/-- A transfer that waits and may take place now moves the token (R386). -/
theorem plannedNow_moves {p : Planned} (hplan : d.planned = some p) (hst : d.st = .printing) (hcan : d.canTake p.newQ = true)
    (hsheets : ∀ y ∈ d.openInsts, y.2.divert = false) (htoken : d.token = some p.newQ.other) (hidle : d.transfer = none) :
    tokenView d.plannedNow = (some p.newQ, d.tml.log, d.now) := by
  have hdivert : d.openInsts.any (fun y => y.2.divert && !y.2.gateFired && !y.2.clearout) = false := by
    rw [List.any_eq_false]
    intro y hy
    simp [hsheets y hy]
  have hother : p.newQ.other ≠ p.newQ := by cases p.newQ <;> decide
  unfold Device.plannedNow
  rw [hplan]
  dsimp only
  rw [if_neg (by simp [hst, hdivert, hcan, htoken, hidle, hother])]
  unfold Device.plannedTransfer
  extract_lets d1 d2
  have hrole : d2.role p.newQ.other = .standby := (role_post ..).trans (congrArg QuarterS.role (q_setQ d1 _ _))
  have hview : tokenView d2 = tokenView d := (tokenView_post _ _ _ _ _ _).trans (tokenView_setQ d1 _ _)
  obtain ⟨-, hrest⟩ := Prod.mk.inj hview
  rw [passToken_planned d2 hrole, other_other]
  exact congrArg (Prod.mk _) hrest

/-- The bits of every sheet, where all image the same stations. -/
theorem foldl_stations {l : List (Nat × Instance)} {m : Nat} (h : ∀ z ∈ l, z.2.stations = m) (hne : l ≠ []) :
    l.foldl (fun m x => m ||| x.2.stations) 0 = m := by
  have hsame : ∀ l : List (Nat × Instance), (∀ z ∈ l, z.2.stations = m) → l.foldl (fun m x => m ||| x.2.stations) m = m := by
    intro l
    induction l with
    | nil => exact fun _ => rfl
    | cons z r ih =>
      intro hl
      rw [List.foldl_cons, hl z List.mem_cons_self, Nat.or_self]
      exact ih fun y hy => hl y (List.mem_cons_of_mem z hy)
  cases l with
  | nil => exact absurd rfl hne
  | cons z r =>
    rw [List.foldl_cons, h z List.mem_cons_self, Nat.zero_or]
    exact hsame r fun y hy => h y (List.mem_cons_of_mem z hy)

/-- The first imaging station, where the sheets image the same stations (R386). -/
theorem firstStation_of {m : Nat} (h : ∀ z ∈ d.openInsts, z.2.stations = m ∧ z.2.clearout = false) (hne : d.openInsts ≠ []) :
    d.firstStation = (maskList 8 m).head? := by
  have hall : d.openInsts.filter (fun x => !x.2.clearout) = d.openInsts :=
    List.filter_eq_self.mpr fun z hz => by simp [(h z hz).2]
  unfold Device.firstStation
  rw [hall, foldl_stations (fun z hz => (h z hz).1) hne]

theorem mem_sins {α : Type} {m : List (Nat × α)} {j : Nat} {v : α} {z : Nat × α} (h : z ∈ sins m j v) : z = (j, v) ∨ z ∈ m := by
  induction m with
  | nil => exact .inl (List.mem_singleton.mp h)
  | cons w r ih =>
    unfold sins at h
    split at h
    · exact List.mem_cons.mp h
    · split at h
      · exact (List.mem_cons.mp h).imp_right (List.mem_cons_of_mem w)
      · rcases List.mem_cons.mp h with h | h
        · exact .inr (h ▸ List.mem_cons_self)
        · exact (ih h).imp_right (List.mem_cons_of_mem w)

theorem self_mem_sins {α : Type} (m : List (Nat × α)) (j : Nat) (v : α) : (j, v) ∈ sins m j v := by
  induction m with
  | nil => exact List.mem_singleton_self _
  | cons w r ih =>
    unfold sins
    split
    · exact List.mem_cons_self
    · split
      · exact List.mem_cons_self
      · exact List.mem_cons_of_mem w ih

theorem mem_openInsts {z : Nat × Instance} : z ∈ d.openInsts ↔ (z.1, some z.2) ∈ d.tml.insts := by
  unfold Device.openInsts
  simp only [List.mem_filterMap, Option.map_eq_some_iff]
  constructor
  · rintro ⟨⟨j, o⟩, hmem, v, rfl, rfl⟩
    exact hmem
  · exact fun h => ⟨_, h, z.2, rfl, rfl⟩

/-- The sheets after an entry has fired are those before it and the one whose entry it was. -/
theorem Fired.openInsts {d : Device} {n : Nat} {x y : Instance} {k : Nat} {g : Device} (h : Fired d n x y k g) :
    (n, y) ∈ g.openInsts ∧ ∀ z ∈ g.openInsts, z = (n, y) ∨ z ∈ d.openInsts := by
  have hsins : g.tml.insts = sins d.tml.insts n (some y) := h.insts.trans (if_neg (Option.some_ne_none y))
  constructor
  · rw [mem_openInsts, hsins]
    exact self_mem_sins _ n _
  · intro z hz
    rw [mem_openInsts, hsins] at hz
    rcases mem_sins hz with hnew | hold
    · obtain ⟨hn, hy⟩ := Prod.mk.inj hnew
      exact .inl (Prod.ext hn (Option.some.inj hy))
    · exact .inr ((mem_openInsts d).mpr hold)

end

section

variable {t : Nat} {s : State} {i : Fin 16} {x : Instance} {k : Nat} {e : TmlEntry}

/-- GAP (R386, R407). -/
theorem tmlGap_completes (hcan : s.dev.canFire t i taGap x k e) (hsheet : x.clearout = false) :
    (s.dev.planned = none → Completes (.tmlGap t i) s fun d => d.logged x.wsn k ∧ d.token = s.dev.token ∧
      ∃ y, d.inst i = some y ∧ y.cursor = x.cursor + 1) ∧
    (∀ p, s.dev.planned = some p → s.dev.firstStation = some e.arg → s.dev.st = .printing → s.dev.canTake p.newQ = true →
      s.dev.openInsts = [(i.val, x)] → x.divert = false → s.dev.token = some p.newQ.other → s.dev.transfer = none →
      Completes (.tmlGap t i) s fun d => d.token = some p.newQ ∧ d.logged x.wsn k) := by
  obtain ⟨y, g, hfire, hg⟩ := canFire_fires hcan fun e _ d => if d.firstStation = some e.arg ∨ d.firstStation = none then d.plannedNow else d
  obtain ⟨b, rfl⟩ := hg.moved hsheet
  constructor
  · intro hplan
    have hplan' : g.planned = none := (hg.keeps (fun _ _ => rfl) (fun _ _ => rfl)).trans hplan
    refine ⟨_, rfl, rfl, rfl, ?_⟩
    dsimp only
    rw [hfire, plannedNow_none g hplan', ite_self]
    exact ⟨hg.logged rfl rfl, hg.keeps (fun _ _ => rfl) (fun _ _ => rfl), _, hg.inst, rfl⟩
  · intro p hplan hfirst hst htake honly hdivert htoken hidle
    obtain ⟨hself, hsheets⟩ := hg.openInsts
    have hlike : ∀ z ∈ g.openInsts, (z.2.stations = x.stations ∧ z.2.clearout = false) ∧ z.2.divert = false := by
      intro z hz
      rcases hsheets z hz with rfl | hold
      · exact ⟨⟨rfl, hsheet⟩, hdivert⟩
      · obtain rfl : z = (i.val, x) := List.mem_singleton.mp (honly ▸ hold)
        exact ⟨⟨rfl, hsheet⟩, hdivert⟩
    have hbefore : s.dev.firstStation = (maskList 8 x.stations).head? := by
      refine firstStation_of s.dev (fun z hz => ?_) (by simp [honly])
      rw [honly] at hz
      obtain rfl := List.mem_singleton.mp hz
      exact ⟨rfl, hsheet⟩
    have hafter : g.firstStation = some e.arg :=
      (firstStation_of g (fun z hz => (hlike z hz).1) (List.ne_nil_of_mem hself)).trans (hbefore.symm.trans hfirst)
    have hview := plannedNow_moves g (p := p) ((hg.keeps (fun _ _ => rfl) (fun _ _ => rfl)).trans hplan)
      ((hg.keeps (fun _ _ => rfl) (fun _ _ => rfl)).trans hst)
      ((hg.keeps (p := fun d => d.canTake p.newQ) (fun _ _ => by cases p.newQ <;> rfl) (fun _ _ => by cases p.newQ <;> rfl)).trans htake)
      (fun z hz => (hlike z hz).2) ((hg.keeps (fun _ _ => rfl) (fun _ _ => rfl)).trans htoken)
      ((hg.keeps (fun _ _ => rfl) (fun _ _ => rfl)).trans hidle)
    obtain ⟨hmoved, hrest⟩ := Prod.mk.inj hview
    obtain ⟨hlog, hnow⟩ := Prod.mk.inj hrest
    refine ⟨_, rfl, rfl, rfl, ?_⟩
    dsimp only
    rw [hfire, if_pos (.inl hafter)]
    exact ⟨hmoved, hg.logged hlog hnow⟩

end

end Sys2Proof.Machine

end

section

set_option Elab.async false

namespace Sys2Proof.Machine

/-! # Sheets that are diverted, marked and released by the Timeline (R92, R107, R123, R150, R290, R398, R404, R405) -/

/-! Diversion (R107, R123). -/

section

variable {β : Type} {p : Device → β} (d : Device)

theorem sheetJournal_keeps (hd : ∀ e f, p (Device.modDlv e f) = p e) (k w c m : Nat) (re du : Bool) (h : Nat) :
    p (d.sheetJournal k w c m re du h) = p d := by
  unfold Device.sheetJournal
  exact hd d _

theorem divertSheet_keeps (h : LeaveKeeps p) (hd : ∀ e f, p (Device.modDlv e f) = p e) (hplan : d.planned = none) (n : Nat) :
    p (d.divertSheet n) = p d := by
  unfold Device.divertSheet
  split
  · rfl
  next i hi =>
  extract_lets d1 d2
  calc p (d2.sheetLeft n i.stations)
    _ = p d2 := sheetLeft_keeps d2 h ((post_planned d1 _ _ _ _ _).trans hplan) n _
    _ = p d1 := post_keeps d1 h.post h.mem h.host _ _ _ _ _
    _ = p d := sheetJournal_keeps d hd _ _ _ _ _ _ _

/-- A diversion is journaled, and the commit register stays (R107). -/
theorem divertSheet_shows {n : Nat} {i : Instance} (hi : d.inst n = some i) (hplan : d.planned = none) :
    (d.divertSheet n).dlv.last = d.dlv.last ∧ (d.divertSheet n).newest = some (skDiverted, i.top, i.cause) := by
  have hview : delivered (d.divertSheet n) =
      delivered (d.sheetJournal skDiverted i.top i.cause i.stations i.reprint (i.wsn2 != 0) i.handle) := by
    unfold Device.divertSheet
    split
    next hnone => cases hnone.symm.trans hi
    next j hj =>
    cases hi.symm.trans hj
    extract_lets d1 d2
    calc delivered (d2.sheetLeft n i.stations)
      _ = delivered d2 := sheetLeft_keeps d2 leaveKeeps_delivered ((post_planned d1 _ _ _ _ _).trans hplan) n _
      _ = delivered d1 := congrArg (fun v : DeliveryS => (v.last, v.journal)) (post_dlv d1 _ _ _ _ _)
  obtain ⟨hlast, hjournal⟩ := Prod.mk.inj hview
  refine ⟨hlast, ?_⟩
  unfold Device.newest
  rw [hjournal]
  exact newest_sheetJournal d _ _ _ _ _ _ _

/-- The last sheet in flight ends Draining; no diversion changes the state else (R4). -/
theorem divertSheet_st (hplan : d.planned = none) (n : Nat) : (d.divertSheet n).st = d.st ∨ (d.divertSheet n).st = .ready := by
  unfold Device.divertSheet
  split
  · exact .inl rfl
  next i hi =>
  extract_lets d1 d2
  have h2 : d2.st = d.st := post_st d1 _ _ _ _ _
  have hplan2 : d2.planned = none := (post_planned d1 _ _ _ _ _).trans hplan
  have hcounted : ((d2.outOfFlight n).countSheet i.stations).st = d2.st :=
    (countSheet_keeps _ (fun _ _ _ _ => rfl) (fun _ _ => rfl) _).trans (outOfFlight_keeps d2 (fun _ _ _ => rfl) n)
  change (d2.sheetLeft n i.stations).st = d.st ∨ (d2.sheetLeft n i.stations).st = .ready
  rw [sheetLeft_eq d2 hplan2]
  unfold Device.settle
  split
  · exact .inr (setSt_st _ _)
  · exact .inl (hcounted.trans h2)

/-! Outputs (R63, R398, R540, R600). -/

/-- An action that nothing outranks drives its output (R398). -/
theorem drives_runs {key rank : Nat} (h : (sget (fun _ => {}) d.tml.driven key).tick ≠ d.timeTick ∨ (sget (fun _ => {}) d.tml.driven key).rank ≤ rank)
    (f : Device → Device) :
    d.drives key rank f = f (d.modTml fun v => { v with driven := sput (fun _ => {}) v.driven key { tick := d.timeTick, rank } }) := by
  unfold Device.drives
  dsimp only
  rw [if_neg]
  rw [Bool.and_eq_true, beq_iff_eq, decide_eq_true_eq]
  rintro ⟨htick, hrank⟩
  rcases h with h | h
  · exact h htick
  · omega

/-- Whether the Kerb forces pin `a`, and the levels driven last. -/
def pinView (a : Nat) (d : Device) : Bool × List (Nat × Bool) := (d.gpioForced a, d.tml.gpioOut)

theorem gpioForced_congr {d e : Device} (hstatus : e.reg KRB_STATUS = d.reg KRB_STATUS) (hlo : e.reg KRB_GPIO_MASK_LO = d.reg KRB_GPIO_MASK_LO)
    (hhi : e.reg (KRB_GPIO_MASK_LO + 4) = d.reg (KRB_GPIO_MASK_LO + 4)) (a : Nat) : e.gpioForced a = d.gpioForced a := by
  unfold Device.gpioForced Device.nat64 Device.nat
  rw [flag_congr hstatus, hlo, hhi]

theorem pinView_setReg {a b : Nat} (hstatus : KRB_STATUS ≠ b) (hlo : KRB_GPIO_MASK_LO ≠ b) (hhi : KRB_GPIO_MASK_LO + 4 ≠ b) (v : Word) :
    pinView a (d.setReg b v) = pinView a d :=
  congrArg (fun c => (c, d.tml.gpioOut))
    (gpioForced_congr (d := d) (reg_setReg_ne d v hstatus) (reg_setReg_ne d v hlo) (reg_setReg_ne d v hhi) a)

theorem leaveKeeps_pinView (a : Nat) : LeaveKeeps (pinView a) where
  post b hb e v := by
    simp only [postRegs, List.mem_cons, List.not_mem_nil, or_false] at hb
    rcases hb with rfl | rfl
    · exact pinView_setReg e (by decide) (by decide) (by decide) v
    · exact pinView_setReg e (by decide) (by decide) (by decide) v
  cns s hs e v := by
    refine pinView_setReg e ?_ ?_ ?_ v
    · unfold KRB_STATUS CNS_STATUS; omega
    · unfold KRB_GPIO_MASK_LO CNS_STATUS; omega
    · unfold KRB_GPIO_MASK_LO CNS_STATUS; omega
  mem _ _ _ _ := rfl
  host _ _ _ := rfl
  units _ _ := rfl
  st _ _ := rfl
  inst _ _ _ := rfl

/-- A pin that the Kerb does not force shows the level driven last, where the device is on (R540, R600). -/
theorem gpioPin_driven {a : Nat} {b : Bool} {m : List (Nat × Bool)} (hparked : d.st ≠ .parked) (hoff : d.st ≠ .off)
    (hview : pinView a d = (false, sput (fun _ => false) m a b)) : d.gpioPin a = b := by
  obtain ⟨hforced, hout⟩ := Prod.mk.inj hview
  unfold Device.gpioPin
  rw [if_neg (by simp [hparked, hoff]), hforced, if_neg (by decide), hout]
  exact sget_put (fun _ => false) m a b

theorem driveGpio_drives {a : Nat} (hforced : d.gpioForced a = false) (hboot : d.st ≠ .booting) (b : Bool) :
    d.driveGpio a b = d.modTml fun v => { v with gpioOut := sput (fun _ => false) v.gpioOut a b } := by
  unfold Device.driveGpio
  rw [if_neg (by simp [hforced, hboot])]

theorem driveGpio_keeps (a : Nat) (b : Bool) :
    (d.driveGpio a b).tml.insts = d.tml.insts ∧ (d.driveGpio a b).planned = d.planned := by
  unfold Device.driveGpio
  split
  · exact ⟨rfl, rfl⟩
  · exact ⟨rfl, rfl⟩

/-- A pulse that nothing outranks is the newest one, whether or not its pin can be driven (R398, R602). -/
theorem pulse_begins {v : Pulse}
    (h : (sget (fun _ => {}) d.tml.driven v.gpio).tick ≠ d.timeTick ∨ (sget (fun _ => {}) d.tml.driven v.gpio).rank ≤ v.rank) (b : Bool) :
    (d.pulse v b).tml.pulses.head? = some v ∧ (d.pulse v b).tml.insts = d.tml.insts ∧ (d.pulse v b).planned = d.planned := by
  unfold Device.pulse
  rw [drives_runs d h]
  generalize hu : d.modTml _ = u
  obtain ⟨hinsts, hplan⟩ := driveGpio_keeps u v.gpio b
  refine ⟨rfl, hinsts.trans ?_, hplan.trans ?_⟩
  · rw [← hu]
    rfl
  · rw [← hu]
    rfl

end

namespace Fired

variable {d : Device} {t n : Nat} {x y : Instance} {k : Nat} {g : Device} (h : Fired (d.tick t) n x y k g)

include h

theorem unranked {key rank : Nat} (hrank : d.unranked t key rank) :
    (sget (fun _ => {}) g.tml.driven key).tick ≠ g.timeTick ∨ (sget (fun _ => {}) g.tml.driven key).rank ≤ rank := by
  have htick : g.timeTick = (d.tick t).timeTick := congrArg (· / 80) h.now
  rw [h.driven, htick]
  exact hrank

theorem gpioForced (a : Nat) : g.gpioForced a = d.gpioForced a :=
  gpioForced_congr (h.reg (by decide)) (h.reg (by decide)) (h.reg (by decide)) a

theorem st : g.st = d.st := h.keeps (fun _ _ => rfl) (fun _ _ => rfl)

theorem dlv : g.dlv = d.dlv := h.keeps (fun _ _ => rfl) (fun _ _ => rfl)

theorem planned : g.planned = d.planned := h.keeps (fun _ _ => rfl) (fun _ _ => rfl)

/-- A pin is driven, and then the sheet passes the gate. -/
theorem passesGate {a rank : Nat} (hpin : d.drivesPin t a rank) (b : Bool) :
    ∃ u m, (g.drives a rank fun d => d.driveGpio a b).onInst n (fun y => { y with gateFired := true }) = u ∧
      u.inst n = some { y with gateFired := true } ∧ pinView a u = (false, sput (fun _ => false) m a b) ∧ u.st = d.st ∧ u.dlv = d.dlv ∧
      u.planned = d.planned := by
  obtain ⟨hforced, hboot, -, -, hrank⟩ := hpin
  have hfree : g.gpioForced a = false := (h.gpioForced a).trans hforced
  rw [drives_runs g (h.unranked hrank)]
  generalize hu : g.modTml _ = u
  have hfree' : u.gpioForced a = false := hu ▸ hfree
  have hst : u.st = d.st := hu ▸ h.st
  rw [driveGpio_drives u hfree' (hst ▸ hboot)]
  generalize hv : u.modTml _ = v
  have hinst : v.inst n = some y := by
    rw [← hv, ← hu]
    exact h.inst
  have hkept : v.st = d.st ∧ v.dlv = d.dlv ∧ v.planned = d.planned := by
    rw [← hv, ← hu]
    exact ⟨h.st, h.dlv, h.planned⟩
  refine ⟨_, u.tml.gpioOut, onInst_some v hinst _, inst_setInst v n _, ?_, hkept⟩
  rw [← hv]
  exact Prod.ext hfree' rfl

end Fired

section

variable {t : Nat} {s : State} {i : Fin 16} {x : Instance} {k : Nat} {e : TmlEntry}

/-- GATE (R107, R405). -/
theorem tmlGate_completes (hcan : s.dev.canFire t i taGate x k e) (hsheet : x.clearout = false) (hplan : s.dev.planned = none) :
    (x.divert = false → s.dev.drivesPin t e.arg (x.wsn + 1) →
      Completes (.tmlGate t i) s fun d => d.gpioPin e.arg = natBit e.value2 0 ∧ d.dlv.journal = s.dev.dlv.journal ∧
        ∃ y, d.inst i = some y ∧ y.gateFired = true ∧ y.cursor = x.cursor + 1) ∧
    (x.divert = true → s.dev.drivesPin t e.arg (x.wsn + 1) →
      Completes (.tmlGate t i) s fun d => d.gpioPin e.arg = natBit e.value 0 ∧ d.newest = some (skDiverted, x.top, x.cause) ∧
        d.dlv.last = s.dev.dlv.last) := by
  obtain ⟨y, g, hfire, hg⟩ := canFire_fires hcan fun e x d =>
    let d := d.drives e.arg (x.wsn + 1) (fun d => d.driveGpio e.arg (natBit (if x.divert then e.value else e.value2) 0))
    let d := d.onInst i (fun y => { y with gateFired := true })
    if x.divert && !x.clearout then d.divertSheet i else d
  have hy : y.cursor = x.cursor + 1 ∧ y.top = x.top ∧ y.cause = x.cause := by
    obtain ⟨b, rfl⟩ := hg.moved hsheet
    exact ⟨rfl, rfl, rfl⟩
  obtain ⟨hcursor, htop, hcause⟩ := hy
  dsimp only at hfire
  constructor
  · intro hdivert hpin
    have hvalue : (if x.divert then e.value else e.value2) = e.value2 := if_neg (by simp [hdivert])
    obtain ⟨u, m, hgate, hinst, hview, hst, hdlv, -⟩ := hg.passesGate hpin (natBit e.value2 0)
    obtain ⟨-, -, hparked, hoff, -⟩ := hpin
    rw [hvalue, hgate, if_neg (by simp [hdivert])] at hfire
    refine ⟨_, rfl, rfl, rfl, ?_⟩
    dsimp only
    rw [hfire]
    exact ⟨gpioPin_driven u (hst ▸ hparked) (hst ▸ hoff) hview, congrArg DeliveryS.journal hdlv, _, hinst, rfl, hcursor⟩
  · intro hdivert hpin
    have hvalue : (if x.divert then e.value else e.value2) = e.value := if_pos hdivert
    obtain ⟨u, m, hgate, hinst, hview, hst, hdlv, hplan'⟩ := hg.passesGate hpin (natBit e.value 0)
    obtain ⟨-, -, hparked, hoff, -⟩ := hpin
    rw [hvalue, hgate, if_pos (by simp [hdivert, hsheet])] at hfire
    have hnone : u.planned = none := hplan'.trans hplan
    have hon : (u.divertSheet i).st ≠ .parked ∧ (u.divertSheet i).st ≠ .off := by
      rcases divertSheet_st u hnone i with h | h
      · rw [h, hst]
        exact ⟨hparked, hoff⟩
      · rw [h]
        decide
    have hpins : pinView e.arg (u.divertSheet i) = pinView e.arg u :=
      divertSheet_keeps u (leaveKeeps_pinView e.arg) (fun _ _ => rfl) hnone i
    obtain ⟨hlast, hnewest⟩ := divertSheet_shows u hinst hnone
    refine ⟨_, rfl, rfl, rfl, ?_⟩
    dsimp only
    rw [hfire]
    refine ⟨gpioPin_driven _ hon.1 hon.2 (hpins.trans hview), ?_, hlast.trans (congrArg DeliveryS.last hdlv)⟩
    rw [← htop, ← hcause]
    exact hnewest

theorem leaveKeeps_pulses : LeaveKeeps (fun d => d.tml.pulses) where
  post _ _ e v := congrArg TimelineS.pulses (setReg_tml e _ v)
  cns _ _ e v := congrArg TimelineS.pulses (setReg_tml e _ v)
  mem _ _ _ _ := rfl
  host _ _ _ := rfl
  units _ _ := rfl
  st _ _ := rfl
  inst _ _ _ := rfl

/-- The position of the pitch source is shown by none of the registers of a firing (R391, R392). -/
theorem Fired.pitchPos {d : Device} {n : Nat} {x y : Instance} {k : Nat} {g : Device} (h : Fired d n x y k g) : g.pitchPos = d.pitchPos := by
  have howner : g.owner = d.owner := h.keeps (fun _ _ => rfl) (fun _ _ => rfl)
  have hsrc : g.pitchSrc = d.pitchSrc := fld_congr (h.reg (by decide)) _
  have hbase := base_eq d.owner
  have hint (a : Nat) (ha : a < d.owner.base + 0x10000 ∨ d.owner.base + 0x20000 ≤ a) (hlt : a < d.owner.base + 0x100000)
      (hle : d.owner.base ≤ a) : g.int a = d.int a := by
    refine congrArg BitVec.toInt (h.reg ?_)
    simp only [firedRegs, TML_LOG, TML_STATUS, TML_CNT, List.mem_cons, List.not_mem_nil, or_false, show Side.base .north = 0x01000000 from rfl,
      show Side.base .south = 0x02000000 from rfl]
    omega
  unfold Device.pitchPos Device.position
  rw [howner, hsrc]
  split
  · exact hint _ (by unfold AXS_ENC_POS; omega) (by unfold AXS_ENC_POS; omega) (by unfold AXS_ENC_POS; omega)
  · split
    · exact hint _ (by unfold AXS_POS; omega) (by unfold AXS_POS; omega) (by unfold AXS_POS; omega)
    · rfl

/-- WASTE_MARK (R123). -/
theorem tmlWasteMark_completes (hcan : s.dev.canFire t i taWasteMark x k e) (hsheet : x.clearout = false) (hplan : s.dev.planned = none)
    (hdivert : x.divert = true) (hrank : s.dev.unranked t e.arg (x.wsn + 1)) :
    Completes (.tmlWasteMark t i) s fun d => (d.tml.pulses.head? = some
        { gpio := e.arg, level := false, rank := x.wsn + 1, byCounts := true, due := s.dev.pitchPos + (e.value : Int) }) ∧
      d.newest = some (skDiverted, x.top, x.cause) := by
  obtain ⟨y, g, hfire, hg⟩ := canFire_fires hcan fun e x d =>
    let d := d.onInst i (fun y => { y with gateFired := true })
    if x.divert then
      let d := d.pulse { gpio := e.arg, level := false, rank := x.wsn + 1, byCounts := true, due := d.pitchPos + (e.value : Int) } true
      if x.clearout then d else d.divertSheet i
    else d
  have hy : y.top = x.top ∧ y.cause = x.cause := by
    obtain ⟨b, rfl⟩ := hg.moved hsheet
    exact ⟨rfl, rfl⟩
  obtain ⟨htop, hcause⟩ := hy
  dsimp only at hfire
  rw [if_pos hdivert, if_neg (by simp [hsheet]), onInst_some g hg.inst] at hfire
  generalize hd : g.setInst i _ = d at hfire
  have hpos : d.pitchPos = s.dev.pitchPos := by
    rw [← hd]
    exact hg.pitchPos
  have hfree : (sget (fun _ => {}) d.tml.driven e.arg).tick ≠ d.timeTick ∨ (sget (fun _ => {}) d.tml.driven e.arg).rank ≤ x.wsn + 1 := by
    rw [← hd]
    exact hg.unranked hrank
  rw [hpos] at hfire
  generalize hv : Pulse.mk e.arg false (x.wsn + 1) true (s.dev.pitchPos + (e.value : Int)) = v at hfire
  obtain ⟨hhead, hinsts, hplan'⟩ := pulse_begins d (v := v) (by rw [← hv]; exact hfree) true
  generalize d.pulse v true = u at hfire hhead hinsts hplan'
  have hinst : u.inst i = some { y with gateFired := true } := by
    unfold Device.inst
    rw [hinsts, ← hd]
    exact inst_setInst g i _
  have hnone : u.planned = none := by
    rw [hplan', ← hd]
    exact hg.planned.trans hplan
  have hpulses : (u.divertSheet i).tml.pulses = u.tml.pulses :=
    divertSheet_keeps u (p := fun d => d.tml.pulses) leaveKeeps_pulses (fun _ _ => rfl) hnone i
  refine ⟨_, rfl, rfl, rfl, ?_⟩
  dsimp only
  rw [hfire, hpulses, ← htop, ← hcause]
  exact ⟨hhead, (divertSheet_shows u hinst hnone).2⟩

end

/-! RELEASE (R92, R150, R290, R404). -/

section

variable {β : Type} {p : Device → β} (d : Device)

/-- The registers that say whether station `s` may be released, and when its next line starts, where Quarter `q` owns the outputs (R259, R290,
R339, R463, R587). -/
def releaseReads (q : Side) (s : Nat) : List Nat :=
  [PXS_STATUS .north s, PXS_STATUS .south s, PXS_PERIOD q s, ENW_STATUS q s, BMO_CTRL q s, MOT_POLY_STATUS q s, CNS_CFG, CNS_STATUS s]

/-- What says so beside those registers. -/
structure ReleaseView where
  token : Option Side
  north : QuarterS
  south : QuarterS
  headSafe : Nat
  otherSafe : Nat
  prints : List (Nat × Option PrintS)
  synth : List (Nat × SynthS)
  bound : List BoundParam
  now : Nat

def Device.releaseView (d : Device) : ReleaseView where
  token := d.token
  north := d.north
  south := d.south
  headSafe := d.bmo.headSafe
  otherSafe := d.bmo.otherSafe
  prints := d.bmo.prints
  synth := d.synth
  bound := d.host.bound
  now := d.now

theorem releasable_congr {d e : Device} {s : Nat} (htoken : e.token = d.token) (hnorth : e.north = d.north) (hsouth : e.south = d.south)
    (hhead : e.bmo.headSafe = d.bmo.headSafe) (hother : e.bmo.otherSafe = d.bmo.otherSafe)
    (hreg : ∀ a ∈ releaseReads d.owner s, e.reg a = d.reg a) : e.releasable s = d.releasable s := by
  have howner : e.owner = d.owner := congrArg (fun q => q.getD .north) htoken
  have hrole (q : Side) : e.role q = d.role q := by
    cases q with
    | north => exact congrArg QuarterS.role hnorth
    | south => exact congrArg QuarterS.role hsouth
  simp only [releaseReads, List.mem_cons, List.not_mem_nil, or_false, forall_eq_or_imp, forall_eq] at hreg
  obtain ⟨hpxn, hpxs, -, henw, hbmo, hpoly, hcfg, hunit⟩ := hreg
  unfold Device.releasable Device.isSafe Device.unitReleasable Device.unitFailed Device.pxState Device.enState
  simp only [howner, hrole, hhead, hother, fld_congr hpxn, fld_congr hpxs, fld_congr henw, flag_congr henw, flag_congr hbmo, fld_congr hpoly,
    flag_congr hcfg, flag_congr hunit]

theorem releaseReads_ne {q : Side} {s a : Nat} (ha : a ∈ releaseReads q s) :
    a ∉ firedRegs ∧ a ≠ PWR_PACE ∧ ∀ r, a ≠ BMO_STATUS r s := by
  have hbase := base_eq q
  have hn : Side.base .north = 0x01000000 := rfl
  have hs' : Side.base .south = 0x02000000 := rfl
  simp only [releaseReads, PXS_STATUS, PXS_PERIOD, ENW_STATUS, BMO_CTRL, MOT_POLY_STATUS, CNS_CFG, CNS_STATUS, List.mem_cons, List.not_mem_nil,
    or_false] at ha
  refine ⟨?_, ?_, fun r => ?_⟩
  · simp only [firedRegs, TML_LOG, TML_STATUS, TML_CNT, List.mem_cons, List.not_mem_nil, or_false]
    omega
  · unfold PWR_PACE
    omega
  · have hr := base_eq r
    unfold BMO_STATUS
    omega

theorem paceSettle_keeps (hr : ∀ e v, p (Device.setReg e PWR_PACE v) = p e) (hp : ∀ e f, p (Device.modPwr e f) = p e) :
    p d.paceSettle = p d := by
  unfold Device.paceSettle
  split
  · exact paceDone_keeps d hr hp
  · rfl

/-- What a RELEASE does before the station prints: a pace step that is over ends, the sheet is in flight, and a measurement is abandoned (R35,
R92, R319). -/
def Device.approach (d : Device) (n s : Nat) : Device :=
  let d := d.paceSettle.onInst n (fun i => { i with inFlight := true })
  if (sget (fun _ => none) d.bmo.meas s).isSome then d.measStop s else d

/-- What the approach of a sheet to station `s` can change. -/
structure ApproachKeeps (s : Nat) (p : Device → β) : Prop where
  pace : ∀ e v, p (Device.setReg e PWR_PACE v) = p e
  status : ∀ q e v, p (Device.setReg e (BMO_STATUS q s) v) = p e
  pwr : ∀ e f, p (Device.modPwr e f) = p e
  meas : ∀ e m, p (Device.modBmo e fun v => { v with meas := m }) = p e

theorem measStop_keeps {s : Nat} (h : ApproachKeeps s p) : p (d.measStop s) = p d := by
  unfold Device.measStop
  extract_lets d1
  exact (each_keeps (fun q e => h.status q e _) bothSides d1).trans (h.meas d (sput (fun _ => none) d.bmo.meas s none))

/-- The approach turns the sheet's instance into one in flight, and keeps what `ApproachKeeps` and the instances ask. -/
theorem approach_shows {n s : Nat} {y : Instance} (hy : d.inst n = some y) :
    (d.approach n s).inst n = some { y with inFlight := true } ∧
      ∀ {γ : Type} {p : Device → γ}, ApproachKeeps s p → (∀ e n i, p (Device.setInst e n i) = p e) → p (d.approach n s) = p d := by
  have hinst : d.paceSettle.inst n = some y :=
    (paceSettle_keeps d (p := fun e => e.inst n) (fun _ _ => rfl) (fun _ _ => rfl)).trans hy
  unfold Device.approach
  rw [onInst_some _ hinst]
  dsimp only
  generalize he : d.paceSettle.setInst n _ = e
  have hnew : e.inst n = some { y with inFlight := true } := he ▸ inst_setInst _ n _
  constructor
  · split
    · refine (measStop_keeps e (p := fun e => e.inst n) ⟨fun _ _ => rfl, fun _ e v => ?_, fun _ _ => rfl, fun _ _ => rfl⟩).trans hnew
      exact congrArg (fun v => sget (fun _ => none) v.insts n) (setReg_tml e _ v)
    · exact hnew
  · intro γ p h hi
    have h1 : p e = p d := by
      rw [← he]
      exact (hi _ _ _).trans (paceSettle_keeps d h.pace h.pwr)
    split
    · exact (measStop_keeps e h).trans h1
    · exact h1

theorem releaseView_setReg (a : Nat) (v : Word) : (d.setReg a v).releaseView = d.releaseView := rfl

theorem approachKeeps_releaseView (s : Nat) : ApproachKeeps s Device.releaseView where
  pace e v := releaseView_setReg e _ v
  status _ e v := releaseView_setReg e _ v
  pwr _ _ := rfl
  meas _ _ := rfl

theorem approachKeeps_log (s : Nat) : ApproachKeeps s (fun d => d.tml.log) where
  pace e v := congrArg TimelineS.log (setReg_tml e _ v)
  status _ e v := congrArg TimelineS.log (setReg_tml e _ v)
  pwr _ _ := rfl
  meas _ _ := rfl

theorem approachKeeps_reg {q : Side} {s a : Nat} (ha : a ∈ releaseReads q s) : ApproachKeeps s (fun d => d.reg a) where
  pace e v := reg_setReg_ne e v (releaseReads_ne ha).2.1
  status r e v := reg_setReg_ne e v ((releaseReads_ne ha).2.2 r)
  pwr _ _ := rfl
  meas _ _ := rfl

/-- No line in progress starts nearer to now than the next one (R290). -/
theorem nearLine_late {q : Side} {s : Nat} (h : d.nat (PXS_PERIOD q s) ≤ 2 * (d.now - (d.synthS q s).lastStart)) : d.nearLine q s = false := by
  unfold Device.nearLine
  dsimp only
  rw [decide_eq_false (Nat.not_lt.mpr h), Bool.and_false]

theorem endPrint_none {s : Nat} (h : d.print s = none) : d.endPrint s = d := by
  unfold Device.endPrint
  rw [h]

theorem print_setPrint (s : Nat) (v : Option PrintS) : (d.setPrint s v).print s = v := sget_put (fun _ => none) d.bmo.prints s v

theorem applyBound_none {f : Fuses} {w : Nat} (h : d.host.bound = []) : d.applyBound f w = d := by
  unfold Device.applyBound
  rw [h]
  rfl

/-- A print that waits for the next line start (R290). -/
theorem startPrint_waits {n s side total : Nat} {y : Instance} (hprint : d.print s = none) (hy : d.inst n = some y)
    (hlate : d.nat (PXS_PERIOD d.owner s) ≤ 2 * (d.now - (d.synthS d.owner s).lastStart)) :
    ∃ u, d.startPrint n s side total false = u ∧ u.tml.log = d.tml.log ∧ u.now = d.now ∧
      u.print s = some { inst := n, total, tail := false, tick := d.timeTick } ∧
      u.inst n = some { y with
        imaging := setNatBit y.imaging s true, released := setNatBit y.released s true, side2 := setNatBit y.side2 s (side == 1) } := by
  unfold Device.startPrint
  rw [endPrint_none d hprint]
  dsimp only
  rw [onInst_some d hy]
  generalize hu : (d.setInst n _).setPrint s _ = u
  have hnear : u.nearLine u.owner s = false := by
    refine nearLine_late u ?_
    rw [← hu]
    exact hlate
  have hstart : u.startNear s = u := by
    unfold Device.startNear
    rw [hnear, if_neg (by decide)]
  refine ⟨u, hstart, ?_⟩
  rw [← hu]
  exact ⟨rfl, rfl, print_setPrint _ s _, inst_setInst d n _⟩

/-- A sheet without a cause that may be released starts its print (R404). -/
theorem releaseStation_prints {f : Fuses} {n s : Nat} {y : Instance} (hy : d.inst n = some y) (hsheet : y.clearout = false)
    (hstation : natBit y.stations s = true) (hcause : y.cause = 0) (hweb : d.web = false) (hmay : (d.approach n s).releasable s = true) :
    d.releaseStation f n s 0 = (d.approach n s).released f n s 0 y := by
  have happroach : (if (sget (fun _ => none) (d.paceSettle.onInst n fun i => { i with inFlight := true }).bmo.meas s).isSome then
      (d.paceSettle.onInst n fun i => { i with inFlight := true }).measStop s
      else d.paceSettle.onInst n fun i => { i with inFlight := true }) = d.approach n s := rfl
  unfold Device.releaseStation
  rw [hy]
  dsimp only
  rw [if_neg (by simp [hsheet, hstation]), hweb, Bool.false_and, if_neg Bool.false_ne_true, happroach, if_neg (by simp [hcause]), if_neg (by simp [hmay])]

theorem released_waits {f : Fuses} {n s side : Nat} {y z : Instance} (hbound : d.host.bound = []) (hprint : d.print s = none)
    (hy : d.inst n = some y) (hlate : d.nat (PXS_PERIOD d.owner s) ≤ 2 * (d.now - (d.synthS d.owner s).lastStart)) :
    ∃ u total, d.released f n s side z = u ∧ u.tml.log = d.tml.log ∧ u.now = d.now ∧
      u.print s = some { inst := n, total, tail := false, tick := d.timeTick } ∧
      u.inst n = some { y with
        imaging := setNatBit y.imaging s true, released := setNatBit y.released s true, side2 := setNatBit y.side2 s (side == 1) } := by
  unfold Device.released
  extract_lets first d1 page bands
  have h1 : d1 = d := (congrArg (ite _ · d) (applyBound_none d hbound)).trans (ite_self d)
  rw [h1]
  obtain ⟨u, hu⟩ := startPrint_waits d (total := bands) hprint hy hlate
  exact ⟨u, bands, hu⟩

theorem releaseStation_none {f : Fuses} {n s side : Nat} {y : Instance} (hy : d.inst n = some y) (hstation : natBit y.stations s = false) :
    d.releaseStation f n s side = d := by
  unfold Device.releaseStation
  rw [hy]
  dsimp only
  rw [if_pos (by simp [hstation])]

end

section

variable {t : Nat} {s : State} {i : Fin 16} {x : Instance} {k : Nat} {e : TmlEntry}

/-- RELEASE of a station that the page does not image (R404). -/
theorem tmlRelease_none (hcan : s.dev.canFire t i taRelease x k e) (hsheet : x.clearout = false) (hstation : natBit x.stations e.arg = false) :
    Completes (.tmlRelease t i) s fun d => d.logged x.wsn k ∧ d.bmo = s.dev.bmo ∧
      ∃ y, d.inst i = some y ∧ y.cursor = x.cursor + 1 ∧ y.released = x.released := by
  obtain ⟨y, g, hfire, hg⟩ := canFire_fires hcan fun e _ d => d.releaseStation s.fuses i e.arg e.side
  obtain ⟨b, rfl⟩ := hg.moved hsheet
  refine ⟨_, rfl, rfl, rfl, ?_⟩
  dsimp only
  rw [hfire, releaseStation_none g hg.inst hstation]
  exact ⟨hg.logged rfl rfl, hg.keeps (fun _ _ => rfl) (fun _ _ => rfl), _, hg.inst, rfl, rfl⟩

/-- The approach of a sheet that has fired its RELEASE changes nothing that the release reads. -/
theorem Fired.approach {d : Device} {n : Nat} {x y : Instance} {k : Nat} {g : Device} (h : Fired d n x y k g) (s : Nat) :
    (g.approach n s).inst n = some { y with inFlight := true } ∧ (g.approach n s).releaseView = d.releaseView ∧
      (g.approach n s).tml.log = g.tml.log ∧ ∀ a ∈ releaseReads d.owner s, (g.approach n s).reg a = d.reg a := by
  obtain ⟨hinst, hkeeps⟩ := approach_shows g (s := s) h.inst
  refine ⟨hinst, ?_, hkeeps (approachKeeps_log s) fun _ _ _ => rfl, fun a ha => ?_⟩
  · exact (hkeeps (approachKeeps_releaseView s) fun _ _ _ => rfl).trans (h.keeps (fun _ _ => rfl) (fun _ _ => rfl))
  · exact (hkeeps (approachKeeps_reg ha) fun _ _ _ => rfl).trans (h.reg (releaseReads_ne ha).1)

/-- What a release reads, by `releaseView` and its registers (R259, R290). -/
theorem release_congr {d u : Device} {s : Nat} (hview : u.releaseView = d.releaseView) (hreg : ∀ a ∈ releaseReads d.owner s, u.reg a = d.reg a) :
    u.releasable s = d.releasable s ∧ u.print s = d.print s ∧ u.host.bound = d.host.bound ∧ u.now = d.now ∧
      u.nat (PXS_PERIOD u.owner s) = d.nat (PXS_PERIOD d.owner s) ∧ u.synthS u.owner s = d.synthS d.owner s := by
  have htoken : u.token = d.token := congrArg ReleaseView.token hview
  have howner : u.owner = d.owner := congrArg (fun q => q.getD .north) htoken
  have hprints : u.bmo.prints = d.bmo.prints := congrArg ReleaseView.prints hview
  have hsynth : u.synth = d.synth := congrArg ReleaseView.synth hview
  refine ⟨?_, ?_, congrArg ReleaseView.bound hview, congrArg ReleaseView.now hview, ?_, ?_⟩
  · exact releasable_congr htoken (congrArg ReleaseView.north hview) (congrArg ReleaseView.south hview)
      (congrArg ReleaseView.headSafe hview) (congrArg ReleaseView.otherSafe hview) hreg
  · unfold Device.print
    rw [hprints]
  · rw [howner]
    exact congrArg BitVec.toNat (hreg _ (by simp [releaseReads]))
  · unfold Device.synthS
    rw [howner, hsynth]

/-- A sheet that may be released prints from the next line start on. -/
theorem Fired.prints {d : Device} {n : Nat} {x y : Instance} {k : Nat} {g : Device} (h : Fired d n x y k g) {f : Fuses} {s : Nat}
    (hsheet : x.clearout = false) (hstation : natBit x.stations s = true) (hcause : x.cause = 0) (hweb : d.web = false)
    (hmay : d.releasable s = true) (hprint : d.print s = none) (hbound : d.host.bound = [])
    (hlate : d.nat (PXS_PERIOD d.owner s) ≤ 2 * (d.now - (d.synthS d.owner s).lastStart)) :
    ∃ u p z, g.releaseStation f n s 0 = u ∧ u.tml.log = g.tml.log ∧ u.now = g.now ∧ u.print s = some p ∧ p.inst = n ∧ p.started = false ∧
      u.inst n = some z ∧ z.cursor = x.cursor + 1 ∧ z.inFlight = true ∧ natBit z.released s = true ∧ natBit z.imaging s = true := by
  obtain ⟨hinst, hview, hlog, hreg⟩ := h.approach s
  obtain ⟨hmay', hprint', hbound', hnow, hperiod, hsynth⟩ := release_congr hview hreg
  have hy : y.clearout = false ∧ natBit y.stations s = true ∧ y.cause = 0 ∧ y.cursor = x.cursor + 1 := by
    obtain ⟨b, rfl⟩ := h.moved hsheet
    exact ⟨hsheet, hstation, hcause, rfl⟩
  obtain ⟨hysheet, hystation, hycause, hcursor⟩ := hy
  have hgo := releaseStation_prints g (f := f) h.inst hysheet hystation hycause ((flag_congr (h.reg (by decide)) _).trans hweb)
    (hmay'.trans hmay)
  obtain ⟨u, total, hreleased, hulog, hunow, huprint, huinst⟩ :=
    released_waits (g.approach n s) (f := f) (side := 0) (z := y) (hbound'.trans hbound) (hprint'.trans hprint) hinst
      (by rw [hperiod, hsynth, hnow]; exact hlate)
  exact ⟨u, _, _, hgo.trans hreleased, hulog.trans hlog, hunow.trans (hnow.trans h.now.symm), huprint, rfl, rfl, huinst, hcursor, rfl,
    natBit_setNatBit_self _ true _, natBit_setNatBit_self _ true _⟩

/-- RELEASE of a station that prints from the next line start on (R92, R290, R404). -/
theorem tmlRelease_prints (hcan : s.dev.canFire t i taRelease x k e) (hsheet : x.clearout = false) (hstation : natBit x.stations e.arg = true)
    (hside : e.side = 0) (hcause : x.cause = 0) (hweb : s.dev.web = false) (hmay : s.dev.releasable e.arg = true)
    (hprint : s.dev.print e.arg = none) (hbound : s.dev.host.bound = [])
    (hlate : s.dev.nat (PXS_PERIOD s.dev.owner e.arg) ≤ 2 * (max s.dev.now t - (s.dev.synthS s.dev.owner e.arg).lastStart)) :
    Completes (.tmlRelease t i) s fun d => d.logged x.wsn k ∧ (∃ p, d.print e.arg = some p ∧ p.inst = i.val ∧ p.started = false) ∧
      ∃ y, d.inst i = some y ∧ y.cursor = x.cursor + 1 ∧ y.inFlight = true ∧ natBit y.released e.arg = true ∧
        natBit y.imaging e.arg = true := by
  obtain ⟨y, g, hfire, hg⟩ := canFire_fires hcan fun e _ d => d.releaseStation s.fuses i e.arg e.side
  obtain ⟨u, p, z, hrelease, hlog, hnow, hp, hpinst, hstarted, hz, hcursor, hflight, hreleased, himaging⟩ :=
    hg.prints (f := s.fuses) hsheet hstation hcause hweb hmay hprint hbound hlate
  rw [hside, hrelease] at hfire
  refine ⟨_, rfl, rfl, rfl, ?_⟩
  dsimp only
  rw [hfire]
  exact ⟨hg.logged hlog hnow, ⟨p, hp, hpinst, hstarted⟩, z, hz, hcursor, hflight, hreleased, himaging⟩

end

/-- Settles O38: `Fired` for what every entry does, and one lemma for the effect of each. -/
theorem sheetEntriesFire : Obligations.SheetEntriesFire := by
  intro t s i x k e
  refine ⟨tmlEnd_completes, fun hcan hsheet => ⟨tmlRelease_none hcan hsheet, ?_⟩, tmlGap_completes, tmlGate_completes, tmlAcceptOpen_completes,
    tmlAcceptClose_completes, tmlCommit_completes, tmlWasteMark_completes⟩
  intro _ hstation hside hcause hweb hmay hprint hbound hlate
  exact tmlRelease_prints hcan hsheet hstation hside hcause hweb hmay hprint hbound hlate

end Sys2Proof.Machine

end

section

set_option Elab.async false

namespace Sys2Proof.Machine

/-! # Ingest that fails and resumes (R142, R144, R189) -/

section

variable (d : Device)

/-- A halting status of the first page in ingest takes all pages out of ingest, puts CONS back to its slot, and halts the page ring with that
cause (R143, R144). -/
theorem ingestFail_halts {x : IngestS} {rest : List IngestS} {v : Nat} (h : d.host.ingest = x :: rest) (hlive : x.live = true)
    (hv : haltsRing v = true) (hlt : v < 16) :
    (d.ingestFail 0 v).host.ingest = [] ∧ (d.ingestFail 0 v).ringHalted 0 = true ∧
      (d.ingestFail 0 v).fld (HIF_RING_STATUS 0) HIF_RING_STATUS_HALT_CAUSE = v ∧
      (d.ingestFail 0 v).reg (HIF_RING_CONS 0) = BitVec.ofNat 32 x.slot := by
  generalize hy : ({ x with verdict := some v, awaits := false } : IngestS) = y
  have hverdict : y.verdict = some v := by rw [← hy]
  have hawaits : y.awaits = false := by rw [← hy]
  have hslot : y.slot = x.slot := by rw [← hy]
  generalize he : (d.setIngestAt 0 y).dropChains = e
  have hingest : e.host.ingest = y :: rest :=
    calc e.host.ingest
      _ = (d.setIngestAt 0 y).host.ingest := by
        rw [← he]
        exact congrArg (fun w => w.2.2) (gateView_dropChains (d.setIngestAt 0 y))
      _ = d.host.ingest.set 0 y := rfl
      _ = y :: rest := by rw [h, List.set_cons_zero]
  have hend := endHead_halts e hingest hv hlt
  have hfail : d.ingestFail 0 v = e.endHead v := by
    unfold Device.ingestFail
    rw [h, List.getElem?_cons_zero]
    dsimp only
    rw [if_pos hlive, hy, he, Device.settleIngest, hingest]
    dsimp only
    rw [hverdict]
    dsimp only
    rw [hawaits, if_neg (by decide), settleIngest_empty _ 2 hend.1]
  rw [hfail, ← hslot]
  exact hend

theorem isSome_newHandle : d.newHandle.isSome = (freeSlot d.slotsUsed 4096 0).isSome := by
  unfold Device.newHandle
  split
  · next h => rw [h]; rfl
  · next h => rw [h]; rfl

/-- With no page in ingest, nothing waits any more once blocks and a handle are free. -/
theorem ingestResume_completes (t : Nat) (s : State) (hfree : s.dev.freeBlocks ≠ 0) (hshort : s.dev.ps.short ≤ s.dev.freeBlocks)
    (hhandle : s.dev.newHandle.isSome = true) (hempty : s.dev.host.ingest = []) :
    Completes (.ingestResume t) s fun e => e.flag PGS_ALLOC_PAGES PGS_ALLOC_PAGES_WAIT = false ∧
      ∀ a, a ≠ PGS_ALLOC_PAGES → e.reg a = s.dev.reg a := by
  generalize hd : s.dev.tick t = d
  have hgo : ¬(d.freeBlocks = 0 ∨ d.freeBlocks < d.ps.short ∨ d.newHandle.isNone = true) := by
    have hnone : d.newHandle.isNone = false := by
      rw [← hd, ← Option.not_isSome, isSome_newHandle]
      rw [isSome_newHandle] at hhandle
      exact congrArg (!·) hhandle
    rw [hnone, ← hd]
    exact not_or.mpr ⟨hfree, not_or.mpr ⟨Nat.not_lt.mpr hshort, by decide⟩⟩
  have hnil : (d.ingestWait false).host.ingest = [] := by
    rw [← hd]
    exact hempty
  refine ⟨_, rfl, rfl, rfl, ?_⟩
  dsimp only
  rw [hd, if_neg hgo, hnil]
  refine ⟨flag_setFlag_self d PGS_ALLOC_PAGES (by decide) (by decide) false, fun a ha => ?_⟩
  exact (reg_ingestWait d false ha).trans (by rw [← hd, reg_tick])

end

/-- Settles O23: `ingestFail_halts` for the page that fails, `ingestResume_completes` for the wait that ends. -/
theorem ingestFailsAndResumes : Obligations.IngestFailsAndResumes := by
  intro t s
  refine ⟨fun x hingest hlive => ⟨_, rfl, rfl, rfl, ?_⟩, ingestResume_completes t s⟩
  obtain ⟨hempty, hhalted, hcause, hcons⟩ := ingestFail_halts (s.dev.tick t) (v := psHostRead) hingest hlive (by decide) (by decide)
  exact ⟨hempty, hhalted, hcause, (congrArg BitVec.toNat hcons).trans (BitVec.toNat_ofNat _ _)⟩

end Sys2Proof.Machine

end

section

set_option Elab.async false

namespace Sys2Proof.Machine

/-! # Rings enabled, disabled and rung (R127 to R133, R145, R633) -/

/-- A field of a union is the union of the fields. -/
theorem Fld.get_or (f : Fld) (v w : Word) : f.get (v ||| w) = f.get v ||| f.get w := by
  apply Nat.eq_of_testBit_eq
  intro i
  rw [Nat.testBit_or, Fld.get_testBit, Fld.get_testBit, Fld.get_testBit, BitVec.getLsbD_or, Bool.and_or_distrib_left]

theorem Fld.get_and (f : Fld) (v w : Word) : f.get (v &&& w) = f.get v &&& f.get w := by
  apply Nat.eq_of_testBit_eq
  intro i
  rw [Nat.testBit_and, Fld.get_testBit, Fld.get_testBit, Fld.get_testBit, BitVec.getLsbD_and]
  cases decide (i < f.hi + 1 - f.lo)
  · rfl
  · rfl

/-- An enable is a write with ENABLE = 1 and the size that the host gives (R128). -/
theorem get_enable (v : Word) : HIF_RING_CFG_ENABLE.get (v ||| 0x80000000) = 1 := by
  have hbit : HIF_RING_CFG_ENABLE.get v < 2 := Nat.mod_lt _ (by decide)
  rw [Fld.get_or, show HIF_RING_CFG_ENABLE.get 0x80000000 = 1 by decide]
  interval_cases HIF_RING_CFG_ENABLE.get v
  · rfl
  · rfl

theorem get_disable (v : Word) : HIF_RING_CFG_ENABLE.get (v &&& 0x7FFFFFFF) = 0 := by
  rw [Fld.get_and, show HIF_RING_CFG_ENABLE.get 0x7FFFFFFF = 0 by decide, Nat.and_zero]

theorem get_size_enable (v : Word) : HIF_RING_CFG_LOG2_SIZE.get (v ||| 0x80000000) = HIF_RING_CFG_LOG2_SIZE.get v := by
  rw [Fld.get_or, show HIF_RING_CFG_LOG2_SIZE.get 0x80000000 = 0 by decide, Nat.or_zero]

theorem reg_modHost (d : Device) (f : HostIf → HostIf) (a : Nat) : (d.modHost f).reg a = d.reg a := reg_congr (modHost_regs d f) a

theorem fld_setFld_get (d : Device) (a : Nat) {f : Fld} (h : f.hi < 32) (v : Word) : (d.setFld a f (f.get v)).fld a f = f.get v :=
  (fld_setFld_self d a h _).trans (Nat.mod_mod _ _)

theorem OnlyRegs.nat64 {d e : Device} {l : List Nat} (h : OnlyRegs d e l) {a : Nat} (ha : a ∉ l) (ha' : a + 4 ∉ l) :
    e.nat64 a = d.nat64 a := by
  unfold Device.nat64 Device.nat
  rw [h.reg ha, h.reg ha']

/-! Job rings. -/

section

variable {d : Device} {r : Nat}

/-- ENABLE takes effect where the ring does not wind down (R51). -/
theorem ringEnabled_iff : d.ringEnabled r = true ↔
    d.flag (HIF_RING_CFG r) HIF_RING_CFG_ENABLE = true ∧ d.flag (HIF_RING_CFG r) HIF_RING_CFG_BUSY = false := by
  unfold Device.ringEnabled
  rw [Bool.and_eq_true, Bool.not_eq_true']

/-- The read attributes of a ring are written whatever its state (R51, R128). -/
def Device.ringAttrs (d : Device) (r : Nat) (v : Word) : Device :=
  (d.setFld (HIF_RING_CFG r) HIF_RING_CFG_RO_READ (HIF_RING_CFG_RO_READ.get v)).setFld (HIF_RING_CFG r) HIF_RING_CFG_NS (HIF_RING_CFG_NS.get v)

theorem ringAttrs_only (v : Word) : OnlyRegs d (d.ringAttrs r v) [HIF_RING_CFG r] := (OnlyRegs.refl d _).setFld.setFld

theorem ringAttrs_busy (v : Word) :
    (d.ringAttrs r v).flag (HIF_RING_CFG r) HIF_RING_CFG_BUSY = d.flag (HIF_RING_CFG r) HIF_RING_CFG_BUSY :=
  (flag_setFld_other _ _ _ (by decide) (by decide)).trans (flag_setFld_other d _ _ (by decide) (by decide))

theorem ringCfg_enables {v : Word} (hoff : d.ringEnabled r = false) (hidle : d.flag (HIF_RING_CFG r) HIF_RING_CFG_BUSY = false) :
    d.ringCfg r (v ||| 0x80000000) =
      ((d.ringAttrs r (v ||| 0x80000000)).setFld (HIF_RING_CFG r) HIF_RING_CFG_LOG2_SIZE (HIF_RING_CFG_LOG2_SIZE.get v)).ringOn r := by
  unfold Device.ringCfg
  rw [hoff, hidle, get_enable, get_size_enable]
  rfl

theorem ringCfg_disables {v : Word} (hon : d.ringEnabled r = true) :
    d.ringCfg r (v &&& 0x7FFFFFFF) = (d.ringAttrs r (v &&& 0x7FFFFFFF)).ringOff r := by
  obtain ⟨-, hidle⟩ := ringEnabled_iff.mp hon
  unfold Device.ringCfg
  rw [hon, hidle, get_disable]
  rfl

/-- Where base, size and write-back address allow it, an enable starts the ring at index 0 and leaves a halt (R128, R133, R145). -/
theorem ringOn_shows (hargs : ringArgsOk (d.nat64 (HIF_RING_BASE_LO r)) (d.fld (HIF_RING_CFG r) HIF_RING_CFG_LOG2_SIZE) = true)
    (halign : d.nat64 (HIF_RING_WB_LO r) % 8 = 0) (hwb : d.nat64 (HIF_RING_WB_LO r) < 2 ^ 63)
    (hidle : d.flag (HIF_RING_CFG r) HIF_RING_CFG_BUSY = false) :
    (d.ringOn r).ringEnabled r = true ∧ (d.ringOn r).reg (HIF_RING_PROD r) = 0 ∧ (d.ringOn r).reg (HIF_RING_CONS r) = 0 ∧
      (d.ringOn r).ringHalted r = d.ringHalted r := by
  have hgo : ¬(!ringArgsOk (d.nat64 (HIF_RING_BASE_LO r)) (d.fld (HIF_RING_CFG r) HIF_RING_CFG_LOG2_SIZE) ||
      d.nat64 (HIF_RING_WB_LO r) % 8 != 0 || decide (2 ^ 63 ≤ d.nat64 (HIF_RING_WB_LO r))) = true := by
    rw [hargs, halign, decide_eq_false (Nat.not_le.mpr hwb)]
    decide
  unfold Device.ringOn
  dsimp only
  rw [if_neg hgo]
  generalize he : d.setFlag (HIF_RING_CFG r) HIF_RING_CFG_ENABLE true = e
  generalize hu : (e.setReg (HIF_RING_PROD r) 0).setReg (HIF_RING_CONS r) 0 = u
  have hreg (a : Nat) (hp : a ≠ HIF_RING_PROD r) (hc : a ≠ HIF_RING_CONS r) : u.reg a = e.reg a := by
    rw [← hu, reg_setReg_ne _ _ hc, reg_setReg_ne _ _ hp]
  have hcfg : u.reg (HIF_RING_CFG r) = e.reg (HIF_RING_CFG r) :=
    hreg _ (by unfold HIF_RING_CFG HIF_RING_PROD; omega) (by unfold HIF_RING_CFG HIF_RING_CONS; omega)
  have hstatus : u.reg (HIF_RING_STATUS r) = d.reg (HIF_RING_STATUS r) := by
    rw [hreg _ (by unfold HIF_RING_STATUS HIF_RING_PROD; omega) (by unfold HIF_RING_STATUS HIF_RING_CONS; omega), ← he,
      reg_setFlag_ne _ _ _ (by unfold HIF_RING_STATUS HIF_RING_CFG; omega)]
  have hon : u.ringEnabled r = true := by
    rw [ringEnabled_iff, flag_congr hcfg, flag_congr hcfg, ← he]
    exact ⟨flag_setFlag_self d _ (by decide) (by decide) true, (flag_setFlag_other d _ _ (by decide) (by decide)).trans hidle⟩
  refine ⟨hon, ?_, ?_, flag_congr hstatus _⟩
  · change u.reg (HIF_RING_PROD r) = 0
    rw [← hu, reg_setReg_ne _ _ (by unfold HIF_RING_PROD HIF_RING_CONS; omega), reg_setReg_self]
  · change u.reg (HIF_RING_CONS r) = 0
    rw [← hu, reg_setReg_self]

/-- A ring that is idle is off at once (R50, R133). -/
theorem ringOff_idle (hidle : d.ringIdle r = true) (hbusy : d.flag (HIF_RING_CFG r) HIF_RING_CFG_BUSY = false) :
    (d.ringOff r).ringEnabled r = false ∧ (d.ringOff r).flag (HIF_RING_CFG r) HIF_RING_CFG_BUSY = false := by
  unfold Device.ringOff
  extract_lets d1 d2
  have hreg (a : Nat) : d2.reg a = d1.reg a := by
    unfold d2
    split
    · rfl
    · rfl
  have hstill : d2.ringIdle r = true := by
    unfold Device.ringIdle at hidle ⊢
    unfold d2
    split
    next h0 =>
      have hnil : d.host.ingest = [] := by simpa [h0] using hidle
      have hnil1 : d1.host.ingest = [] := hnil
      rw [hnil1]
      exact Bool.or_true _
    next => exact hidle
  rw [if_pos hstill]
  constructor
  · unfold Device.ringEnabled
    rw [flag_congr (hreg _), flag_setFlag_self d _ (by decide) (by decide) false]
    rfl
  · rw [flag_congr (hreg _)]
    exact (flag_setFlag_other d _ _ (by decide) (by decide)).trans hbusy

/-- A doorbell of an enabled ring takes the link out of L1; what it does beside that depends on how far PROD would be ahead (R127, R131). -/
theorem doorbell_eq (hon : d.ringEnabled r = true) (v : Nat) :
    d.doorbell r v =
      if 0 < d.ringAhead r v ∧ d.ringAhead r v ≤ 2 ^ (d.force r).log2 then (d.modHost fun h => { h with l1 := false }).setNat (HIF_RING_PROD r) v
      else if d.ringHalted r then d.modHost fun h => { h with l1 := false }
      else (d.modHost fun h => { h with l1 := false }).haltRing r hcBadDoorbell := by
  generalize he : (d.modHost fun h => { h with l1 := false }) = e
  have hreg (a : Nat) : e.reg a = d.reg a := by
    rw [← he]
    exact reg_modHost d _ a
  have hahead : e.ringAhead r v = d.ringAhead r v := by
    unfold Device.ringAhead Device.nat
    rw [hreg]
  have hforce : e.force r = d.force r := by
    rw [← he]
    rfl
  have hhalted : e.ringHalted r = d.ringHalted r := flag_congr (hreg _) _
  unfold Device.doorbell
  rw [hon, if_neg (by decide)]
  dsimp only
  rw [he, hahead, hforce, hhalted]

/-- A halt leaves PROD. -/
theorem reg_prod_haltRing (hr : r < 3) (c : Nat) : (d.haltRing r c).reg (HIF_RING_PROD r) = d.reg (HIF_RING_PROD r) := by
  have hpost : HIF_RING_PROD r ∉ postRegs := by
    simp only [postRegs, HIF_RING_PROD, HIF_EVT_PROD, HIF_EVT_LOST, List.mem_cons, List.not_mem_nil, or_false]
    omega
  exact haltRing_keeps d (p := fun e => e.reg (HIF_RING_PROD r)) (reg_setReg_mem hpost) (fun _ _ _ _ => rfl) (fun _ _ _ => rfl) r c
    (fun e w => reg_setReg_ne e w (by unfold HIF_RING_PROD HIF_RING_STATUS; omega))

/-- RETRY clears the halt and nothing else (R145). -/
theorem ringCmd_retry (hhalted : d.ringHalted r = true) : d.ringCmd r 1 = d.setReg (HIF_RING_STATUS r) 0 := by
  unfold Device.ringCmd
  rw [hhalted]
  rfl

/-- SKIP clears the halt of every ring (R145). -/
theorem ringCmd_skip_clears (hhalted : d.ringHalted r = true) : (d.ringCmd r 2).reg (HIF_RING_STATUS r) = 0 := by
  unfold Device.ringCmd
  rw [hhalted, if_neg (by decide)]
  extract_lets cause d1 d2
  have h1 : d1.reg (HIF_RING_STATUS r) = 0 := reg_setReg_self d _ 0
  split
  · rw [reg_writeBack, reg_setNat_ne _ _ (by unfold HIF_RING_STATUS HIF_RING_CONS; omega)]
    exact h1
  · exact h1

/-- SKIP of a page status moves CONS past the slots of the page (R145). -/
theorem ringCmd_skip_passes (hhalted : d.ringHalted 0 = true) (hcause : d.fld (HIF_RING_STATUS 0) HIF_RING_STATUS_HALT_CAUSE ≠ hcBadDoorbell) :
    (d.ringCmd 0 2).nat (HIF_RING_CONS 0) = (d.nat (HIF_RING_CONS 0) + d.host.haltSlots) % 2 ^ 32 := by
  unfold Device.ringCmd
  rw [hhalted, if_neg (by decide)]
  extract_lets cause d1 d2
  have hcons : d2.nat (HIF_RING_CONS 0) = d.nat (HIF_RING_CONS 0) :=
    congrArg BitVec.toNat (reg_setReg_ne d (a := HIF_RING_STATUS 0) (x := HIF_RING_CONS 0) 0 (by decide))
  rw [if_pos ⟨rfl, rfl, hcause⟩, nat_writeBack, nat_setNat_self, hcons]
  rfl

end

section

variable (t : Nat) (s : State) (r : Fin 3) (v : Word)

theorem ringEnable_completes (hoff : s.dev.ringEnabled r = false) (hidle : s.dev.flag (HIF_RING_CFG r) HIF_RING_CFG_BUSY = false)
    (hargs : ringArgsOk (s.dev.nat64 (HIF_RING_BASE_LO r)) (HIF_RING_CFG_LOG2_SIZE.get v) = true)
    (halign : s.dev.nat64 (HIF_RING_WB_LO r) % 8 = 0) (hwb : s.dev.nat64 (HIF_RING_WB_LO r) < 2 ^ 63) :
    Completes (.ringEnable t r v) s fun e => e.ringEnabled r = true ∧ e.reg (HIF_RING_PROD r) = 0 ∧ e.reg (HIF_RING_CONS r) = 0 ∧
      e.ringHalted r = s.dev.ringHalted r := by
  generalize hu : ((s.dev.tick t).ringAttrs r (v ||| 0x80000000)).setFld (HIF_RING_CFG r) HIF_RING_CFG_LOG2_SIZE (HIF_RING_CFG_LOG2_SIZE.get v) = u
  have honly : OnlyRegs (s.dev.tick t) u [HIF_RING_CFG r] := by
    rw [← hu]
    exact (ringAttrs_only _).setFld
  have hbase : u.nat64 (HIF_RING_BASE_LO r) = s.dev.nat64 (HIF_RING_BASE_LO r) :=
    honly.nat64 (by simp [HIF_RING_BASE_LO, HIF_RING_CFG]) (by simp [HIF_RING_BASE_LO, HIF_RING_CFG]; omega)
  have hback : u.nat64 (HIF_RING_WB_LO r) = s.dev.nat64 (HIF_RING_WB_LO r) :=
    honly.nat64 (by simp [HIF_RING_WB_LO, HIF_RING_CFG]) (by simp [HIF_RING_WB_LO, HIF_RING_CFG]; omega)
  have hhalt : u.ringHalted r = s.dev.ringHalted r := flag_congr (honly.reg (by simp [HIF_RING_STATUS, HIF_RING_CFG])) _
  have hsize : u.fld (HIF_RING_CFG r) HIF_RING_CFG_LOG2_SIZE = HIF_RING_CFG_LOG2_SIZE.get v := by
    rw [← hu]
    exact fld_setFld_get _ _ (by decide) v
  have hbusy : u.flag (HIF_RING_CFG r) HIF_RING_CFG_BUSY = false := by
    rw [← hu, flag_setFld_other _ _ _ (by decide) (by decide), ringAttrs_busy]
    exact hidle
  refine ⟨_, rfl, rfl, rfl, ?_⟩
  dsimp only
  rw [ringCfg_enables (d := s.dev.tick t) hoff hidle, hu, ← hhalt]
  exact ringOn_shows (by rw [hbase, hsize]; exact hargs) (by rw [hback]; exact halign) (by rw [hback]; exact hwb) hbusy

theorem ringDisable_completes (hon : s.dev.ringEnabled r = true) (hidle : s.dev.ringIdle r = true) :
    Completes (.ringDisable t r v) s fun e => e.ringEnabled r = false ∧ e.flag (HIF_RING_CFG r) HIF_RING_CFG_BUSY = false := by
  obtain ⟨-, hbusy⟩ := ringEnabled_iff.mp hon
  refine ⟨_, rfl, rfl, rfl, ?_⟩
  dsimp only
  rw [ringCfg_disables (d := s.dev.tick t) hon]
  exact ringOff_idle hidle ((ringAttrs_busy _).trans hbusy)

theorem jobDoorbell_completes (hon : s.dev.ringEnabled r = true) :
    (0 < s.dev.ringAhead r v.toNat → s.dev.ringAhead r v.toNat ≤ 2 ^ (s.dev.force r).log2 →
      Completes (.jobDoorbell t r v) s fun e => e.reg (HIF_RING_PROD r) = v ∧ e.host.l1 = false ∧
        ∀ a, a ≠ HIF_RING_PROD r → e.reg a = s.dev.reg a) ∧
    (2 ^ (s.dev.force r).log2 < s.dev.ringAhead r v.toNat → s.dev.ringHalted r = false →
      Completes (.jobDoorbell t r v) s fun e => e.ringHalted r = true ∧ e.fld (HIF_RING_STATUS r) HIF_RING_STATUS_HALT_CAUSE = 0xE ∧
        e.reg (HIF_RING_PROD r) = s.dev.reg (HIF_RING_PROD r)) := by
  constructor
  · intro hpos hfits
    refine ⟨_, rfl, rfl, rfl, ?_⟩
    dsimp only
    rw [doorbell_eq (d := s.dev.tick t) hon, if_pos ⟨hpos, hfits⟩]
    refine ⟨?_, rfl, fun a ha => (reg_setNat_ne _ _ ha).trans (reg_modHost _ _ a)⟩
    rw [reg_setNat_self, BitVec.ofNat_toNat, BitVec.setWidth_eq]
  · intro hbeyond hruns
    refine ⟨_, rfl, rfl, rfl, ?_⟩
    dsimp only
    rw [doorbell_eq (d := s.dev.tick t) hon, if_neg (fun h => Nat.not_le.mpr hbeyond h.2), if_neg (Bool.not_eq_true _ ▸ hruns)]
    obtain ⟨hhalted, hcause⟩ := haltRing_shows ((s.dev.tick t).modHost fun h => { h with l1 := false }) r (cause := hcBadDoorbell) (by decide)
    exact ⟨hhalted, hcause, (reg_prod_haltRing r.isLt _).trans (reg_modHost _ _ _)⟩

theorem retry_completes (hhalted : s.dev.ringHalted r = true) :
    Completes (.retry t r) s fun e => e.reg (HIF_RING_STATUS r) = 0 ∧ e.reg (HIF_RING_CONS r) = s.dev.reg (HIF_RING_CONS r) := by
  refine ⟨_, rfl, rfl, rfl, ?_⟩
  dsimp only
  rw [ringCmd_retry (d := s.dev.tick t) hhalted]
  exact ⟨reg_setReg_self _ _ 0, reg_setReg_ne _ _ (by unfold HIF_RING_CONS HIF_RING_STATUS; omega)⟩

theorem skip_completes (hhalted : s.dev.ringHalted r = true) :
    Completes (.skip t r) s fun e => e.reg (HIF_RING_STATUS r) = 0 ∧
      (r = 0 → s.dev.fld (HIF_RING_STATUS 0) HIF_RING_STATUS_HALT_CAUSE ≠ 0xE →
        e.nat (HIF_RING_CONS 0) = (s.dev.nat (HIF_RING_CONS 0) + s.dev.host.haltSlots) % 2 ^ 32) := by
  refine ⟨_, rfl, rfl, rfl, ringCmd_skip_clears (d := s.dev.tick t) hhalted, ?_⟩
  rintro rfl hcause
  exact ringCmd_skip_passes (d := s.dev.tick t) hhalted hcause

/-! The event ring. -/

theorem eventRingEnable_completes (hoff : s.dev.evtOn = false)
    (hargs : ringArgsOk (s.dev.nat64 HIF_EVT_BASE_LO) (HIF_EVT_CFG_LOG2_SIZE.get v) = true) :
    Completes (.eventRingEnable t v) s fun e => e.evtOn = true ∧ e.reg HIF_EVT_PROD = 0 ∧ e.reg HIF_EVT_CONS = 0 := by
  generalize hu : (s.dev.tick t).setFld HIF_EVT_CFG HIF_EVT_CFG_LOG2_SIZE (HIF_EVT_CFG_LOG2_SIZE.get v) = u
  have honly : OnlyRegs (s.dev.tick t) u [HIF_EVT_CFG] := by
    rw [← hu]
    exact (OnlyRegs.refl _ _).setFld
  have hbase : u.nat64 HIF_EVT_BASE_LO = s.dev.nat64 HIF_EVT_BASE_LO := honly.nat64 (by decide) (by decide)
  have hsize : u.fld HIF_EVT_CFG HIF_EVT_CFG_LOG2_SIZE = HIF_EVT_CFG_LOG2_SIZE.get v := by
    rw [← hu]
    exact fld_setFld_get _ _ (by decide) v
  have hcfg : ∃ f, (s.dev.tick t).evtCfg (v ||| 0x80000000) =
      (((u.setFlag HIF_EVT_CFG HIF_EVT_CFG_ENABLE true).setReg HIF_EVT_PROD 0).setReg HIF_EVT_CONS 0).modHost f := by
    have hwant : HIF_EVT_CFG_ENABLE.get (v ||| 0x80000000) = 1 := get_enable v
    have hget : HIF_EVT_CFG_LOG2_SIZE.get (v ||| 0x80000000) = HIF_EVT_CFG_LOG2_SIZE.get v := get_size_enable v
    unfold Device.evtCfg
    dsimp only
    rw [show (s.dev.tick t).evtOn = false from hoff, if_neg (by decide), hwant, hget, hu, if_pos (by rw [hbase, hsize, hargs]; rfl)]
    exact ⟨_, rfl⟩
  obtain ⟨f, hf⟩ := hcfg
  refine ⟨_, rfl, rfl, rfl, ?_⟩
  dsimp only
  rw [hf, reg_modHost, reg_modHost, reg_setReg_self, reg_setReg_ne _ _ (by decide), reg_setReg_self]
  refine ⟨(flag_congr (d := Device.modHost _ f) ?_ _).trans (flag_setFlag_self u HIF_EVT_CFG (by decide) (by decide) true), rfl, rfl⟩
  rw [reg_modHost, reg_setReg_ne _ _ (by decide), reg_setReg_ne _ _ (by decide)]

theorem eventDoorbell_completes (hon : s.dev.evtOn = true) (hfits : (v.toNat + 2 ^ 32 - s.dev.nat HIF_EVT_CONS) % 2 ^ 32 ≤ s.dev.evtUsed) :
    Completes (.eventDoorbell t v) s fun e => e.reg HIF_EVT_CONS = v ∧ ∀ a, a ≠ HIF_EVT_CONS → e.reg a = s.dev.reg a := by
  have hbell : (s.dev.tick t).evtDoorbell v.toNat = (s.dev.tick t).setNat HIF_EVT_CONS v.toNat := if_pos ⟨hon, hfits⟩
  refine ⟨_, rfl, rfl, rfl, ?_⟩
  dsimp only
  rw [hbell, reg_setNat_self, BitVec.ofNat_toNat, BitVec.setWidth_eq]
  exact ⟨rfl, fun a ha => reg_setNat_ne _ _ ha⟩

end

/-- Settles O20: one lemma for each command of a ring. -/
theorem ringsEnableAndRing : Obligations.RingsEnableAndRing := by
  intro t s r v
  exact ⟨ringEnable_completes t s r v, fun hon _ _ hidle => ringDisable_completes t s r v hon hidle, jobDoorbell_completes t s r v,
    fun hhalted => ⟨retry_completes t s r hhalted, skip_completes t s r hhalted⟩, eventRingEnable_completes t s v, eventDoorbell_completes t s v⟩

end Sys2Proof.Machine

end

section

set_option Elab.async false

namespace Sys2Proof.Machine

/-! # Inspection images (R151, R250 to R253, R353 to R357) -/

theorem length_leBytes (n : Nat) : ∀ v, (leBytes n v).length = n := by
  induction n with
  | zero => intro v; rfl
  | succ n ih => intro v; exact congrArg (· + 1) (ih (v / 256))

/-- The header of an image fills the 64 bytes before its stream (R250). -/
theorem length_header (x : InspImg) (bits : Nat) : (x.header bits).length = 64 := by
  simp [InspImg.header, withCrc, length_leBytes]

section

variable {d : Device} {q : Side} {x : InspImg}

/-! A port. -/

theorem inspAligned_congr {e : Device} (h : e.reg (ENW_INSP_STATUS q) = d.reg (ENW_INSP_STATUS q)) : e.inspAligned q = d.inspAligned q :=
  flag_congr h _

/-- The status of a port is no register of the shared core. -/
theorem inspStatus_lt (q : Side) : ENW_INSP_STATUS q < 0x10000000 := by
  have hbase := base_eq q
  unfold ENW_INSP_STATUS
  omega

theorem inspStatus_ne {a : Nat} (q : Side) (h : 0x10000000 ≤ a) : a ≠ ENW_INSP_STATUS q := by
  have hlt := inspStatus_lt q
  omega

/-- Showing an image in progress leaves the ports' alignment. -/
theorem inspAligned_setImage (p : Side) (b : Bool) :
    (d.setFlag (ENW_INSP_STATUS p) ENW_INSP_STATUS_IN_IMAGE b).inspAligned q = d.inspAligned q := by
  by_cases h : q = p
  · subst h
    exact flag_setFlag_other d _ _ (by decide) (by decide)
  · refine inspAligned_congr (reg_setFlag_ne d _ _ ?_)
    cases q <;> cases p
    · exact absurd rfl h
    · decide
    · decide
    · exact absurd rfl h

theorem arc_showImage : d.showImage.arc = d.arc := showImage_keeps d fun _ e v => setReg_arc e _ v

/-- A register of the shared core is none of those that show an image in progress. -/
theorem reg_showImage {a : Nat} (h : 0x10000000 ≤ a) : d.showImage.reg a = d.reg a :=
  showImage_keeps d (p := fun e => e.reg a) fun p e v => reg_setReg_ne e v (inspStatus_ne p h)

theorem openImage_single (h : d.arc.imgs = [x]) (hended : x.ended = false) : d.openImage = some x := by
  unfold Device.openImage
  rw [h]
  dsimp only [List.getLast?_singleton]
  rw [hended]
  rfl

/-! An image fails (R252). -/

/-- The images, their counts, and whether the port of a Quarter is aligned. -/
def inspView (q : Side) (d : Device) : CodecS × Word × Bool := (d.arc, d.reg ARC_INSP_CNT, d.inspAligned q)

theorem inspView_congr {e : Device} (harc : e.arc = d.arc) (hcnt : e.reg ARC_INSP_CNT = d.reg ARC_INSP_CNT)
    (haligned : e.inspAligned q = d.inspAligned q) : inspView q e = inspView q d := by
  unfold inspView
  rw [harc, hcnt, haligned]

theorem inspView_setReg {a : Nat} (h : 0x10000000 ≤ a) (ha : a ≠ ARC_INSP_CNT) (v : Word) : inspView q (d.setReg a v) = inspView q d :=
  inspView_congr (setReg_arc d a v) (reg_setReg_ne d v ha.symm) (inspAligned_congr (reg_setReg_ne d v (inspStatus_ne q h).symm))

theorem inspView_scramble (a n : Nat) : inspView q (d.scramble a n) = inspView q d := by
  obtain ⟨m, hm⟩ := setBytes_only ((List.range n).map fun i => Config.freeByte d.frees (a + i)) d a
  unfold Device.scramble
  rw [hm]
  rfl

theorem inspView_post (typ : Nat) (nmi : Bool) (code wsn data : Nat) : inspView q (d.post typ nmi code wsn data) = inspView q d := by
  refine inspView_congr (post_arc d _ _ _ _ _) (reg_post d _ _ _ _ _ (by decide)) (inspAligned_congr (reg_post d _ _ _ _ _ ?_))
  cases q
  · decide
  · decide

theorem inspView_ledgerEvent {b : Nat} (hb : ARC_INSP_CNT ∉ ledgerRegs b) (o u v : Nat) :
    inspView q (d.ledgerEvent b o u v) = inspView q d := by
  refine inspView_congr (ledgerEvent_arc d b o u v) (reg_ledgerEvent d (by decide) (by decide) hb (by decide) (by decide) o u v) ?_
  refine inspAligned_congr (reg_ledgerEvent_quarter d (inspStatus_lt q) ?_ b o u v)
  have hbase := base_eq q
  unfold inLoops ENW_INSP_STATUS
  omega

theorem inspView_showImage : inspView q d.showImage = inspView q d :=
  inspView_congr arc_showImage (reg_showImage (by decide))
    (each_keeps (p := fun e => e.inspAligned q) (fun _ _ => inspAligned_setImage _ _) bothSides d)

/-- A failed image is taken no more and counted; the ports keep their alignment. -/
theorem imageFail_shows (code : Nat) :
    (d.imageFail x code).arc.imgs = d.arc.imgs.filter (· != x) ∧
      (d.imageFail x code).fld ARC_INSP_CNT ARC_INSP_CNT_FAILED = min (d.fld ARC_INSP_CNT ARC_INSP_CNT_FAILED + 1) 65535 ∧
      (d.imageFail x code).inspAligned q = d.inspAligned q := by
  have hcount (e : Device) : (e.count ARC_INSP_CNT ARC_INSP_CNT_FAILED).arc = e.arc ∧
      (e.count ARC_INSP_CNT ARC_INSP_CNT_FAILED).inspAligned q = e.inspAligned q :=
    ⟨setReg_arc e _ _, inspAligned_congr (reg_setFld_ne e _ _ (inspStatus_ne q (by decide)).symm)⟩
  unfold Device.imageFail
  extract_lets d1 d2 d3 d4 d5
  have h2 : inspView q d2 = inspView q d1 := inspView_setReg (by decide) (by decide) _
  have h5 : inspView q d5 = inspView q d4 := by
    unfold d5
    split
    · exact inspView_ledgerEvent (by decide) _ _ _
    · rfl
  have hview : inspView q d5.showImage.showInsp = inspView q (d2.count ARC_INSP_CNT ARC_INSP_CNT_FAILED) :=
    calc inspView q d5.showImage.showInsp
      _ = inspView q d5.showImage := inspView_setReg (by decide) (by decide) _
      _ = inspView q d5 := inspView_showImage
      _ = inspView q d4 := h5
      _ = inspView q d3 := inspView_post _ _ _ _ _
      _ = inspView q (d2.count ARC_INSP_CNT ARC_INSP_CNT_FAILED) := inspView_scramble _ _
  obtain ⟨harc, hrest⟩ := Prod.mk.inj hview
  obtain ⟨hcnt, haligned⟩ := Prod.mk.inj hrest
  obtain ⟨harc2, hrest2⟩ := Prod.mk.inj h2
  obtain ⟨hcnt2, haligned2⟩ := Prod.mk.inj hrest2
  obtain ⟨hcountArc, hcountAligned⟩ := hcount d2
  refine ⟨congrArg CodecS.imgs (harc.trans (hcountArc.trans harc2)), ?_, haligned.trans (hcountAligned.trans haligned2)⟩
  rw [fld_congr hcnt, fld_count_self d2 ARC_INSP_CNT (by decide), fld_congr hcnt2]
  rfl

theorem imageFail_single (h : d.arc.imgs = [x]) (code : Nat) : (d.imageFail x code).arc.imgs = [] := by
  obtain ⟨himgs, -⟩ := imageFail_shows (d := d) (q := .north) (x := x) code
  rw [himgs, h]
  simp

/-! Lines. -/

variable {line : InspectionLine}

theorem imageSpace_room (hfull : line.full = false) (hblock : line.noBlock = false) : d.imageSpace line = d := by
  unfold Device.imageSpace
  rw [hfull, hblock]
  split
  · rfl
  · rfl

theorem inspWindow_congr {e : Device} (h : e.tml = d.tml) : e.inspWindow = d.inspWindow := by
  unfold Device.inspWindow Device.openInsts
  rw [h]

/-- Closing an image changes the codec and what shows its image alone (R355). -/
theorem closeImage_keeps {β : Type} {p : Device → β} (hr : ∀ q e v, p (Device.setReg e (ENW_INSP_STATUS q) v) = p e)
    (ha : ∀ e f, p (Device.modArc e f) = p e) : p d.closeImage = p d :=
  (showImage_keeps _ hr).trans (ha d _)

theorem reg_closeImage {a : Nat} (h : 0x10000000 ≤ a) : d.closeImage.reg a = d.reg a :=
  closeImage_keeps (p := fun e => e.reg a) (fun p e v => reg_setReg_ne e v (inspStatus_ne p h)) fun e f => reg_congr (modArc_regs e f) a

theorem arc_closeImage_none (h : d.arc.imgs = []) : d.closeImage.arc.imgs = [] := by
  unfold Device.closeImage
  rw [arc_showImage]
  change d.arc.imgs.map _ = []
  rw [h]
  rfl

/-- What a FIRST line makes of the next buffer. -/
def Device.firstImage (d : Device) (q : Side) (line : InspectionLine) (n : Nat) (i : Instance) (b : InspBuf) : InspImg :=
  { buf := b, port := q, inst := n, wsn := i.wsn, start := d.usec, lineBytes := line.lineBytes, lineNo := line.lineNo, group := d.groupLines,
    data := [fitTo line.lineBytes line.payload] }

/-- With the codec on, a FIRST line takes the next buffer for an image of its sheet (R247, R355). -/
theorem firstInsp_starts {n : Nat} {i : Instance} {b : InspBuf} {rest : List InspBuf} (hbufs : d.host.bufs = b :: rest)
    (hnone : d.arc.imgs = []) (hon : d.arcOn = true) (hen : d.fld ARC_CTRL ARC_CTRL_INSP_EN = 3) :
    (d.firstInsp q line n i).arc.imgs = [d.firstImage q line n i b] ∧ (d.firstInsp q line n i).arc.port = q ∧
      (d.firstInsp q line n i).host.bufs = rest := by
  unfold Device.firstInsp
  extract_lets d1
  have hbufs1 : d1.host.bufs = b :: rest := hbufs
  rw [hbufs1]
  dsimp only
  generalize hd3 : Device.setFld _ (ENW_INSP_STATUS q) ENW_INSP_STATUS_LINE_BYTES line.lineBytes = d3
  have hreg (a : Nat) (ha : 0x10000000 ≤ a) : d3.reg a = d.reg a := by
    rw [← hd3]
    exact reg_setFld_ne _ _ _ (inspStatus_ne q ha)
  have hgo : (d3.arcOn && d3.fld ARC_CTRL ARC_CTRL_INSP_EN == 3) = true := by
    have hon3 : d3.arcOn = true := by
      unfold Device.arcOn at hon ⊢
      rw [flag_congr (hreg ARC_CTRL (by decide)), flag_congr (hreg ARC_CTRL (by decide)), fld_congr (hreg PWR_DOM_STATUS (by decide))]
      exact hon
    rw [hon3, fld_congr (hreg ARC_CTRL (by decide)), hen]
    rfl
  rw [if_pos hgo]
  have hshow {β : Type} {p : Device → β} (hr : ∀ e a v, p (Device.setReg e a v) = p e) : p d3.showImage.showInsp = p d3 :=
    (hr _ _ _).trans (showImage_keeps d3 fun _ e v => hr e _ v)
  rw [hshow (p := Device.arc) setReg_arc, hshow (p := Device.host) setReg_host, ← hd3]
  refine ⟨?_, rfl, rfl⟩
  change d.arc.imgs ++ [d.firstImage q line n i b] = [d.firstImage q line n i b]
  rw [hnone, List.nil_append]

/-- A FIRST line in a window where no image is in progress (R355). -/
theorem goodInsp_first {n : Nat} {i : Instance} (hfirst : line.first = true) (hlast : line.last = false) (hfull : line.full = false)
    (hblock : line.noBlock = false) (hwin : d.inspWindow = some (n, i)) :
    d.goodInsp q line = d.closeImage.firstInsp q line n i := by
  have hwin' : d.closeImage.inspWindow = some (n, i) :=
    (inspWindow_congr (closeImage_keeps (fun _ e v => setReg_tml e _ v) modArc_tml)).trans hwin
  unfold Device.goodInsp
  rw [hfirst, hlast, if_pos rfl]
  dsimp only
  rw [hwin']
  dsimp only
  rw [if_pos rfl, imageSpace_room hfull hblock]
  rfl

/-- A later line in a window belongs to the image in progress (R355). -/
theorem goodInsp_next {y : Nat × Instance} (hfirst : line.first = false) (hlast : line.last = false) (hfull : line.full = false)
    (hblock : line.noBlock = false) (hwin : d.inspWindow = some y) (hopen : d.openImage = some x) :
    d.goodInsp q line = d.nextInsp q line x := by
  unfold Device.goodInsp
  rw [hfirst, hlast]
  simp only [Bool.false_eq_true, if_false]
  rw [hwin]
  dsimp only
  rw [hopen]
  exact imageSpace_room hfull hblock

/-- A line outside every window is counted (R355). -/
theorem goodInsp_outside (hfirst : line.first = false) (hwin : d.inspWindow = none) :
    d.goodInsp q line = d.count (ENW_INSP_CNT1 q) ENW_INSP_CNT1_OUTSIDE := by
  unfold Device.goodInsp
  rw [hfirst, if_neg (by decide)]
  dsimp only
  rw [hwin]

/-- The line that follows the last one of the image in progress is added to it (R355, R356). -/
theorem nextInsp_adds (himgs : d.arc.imgs = [x]) (hopen : x.ended = false) (hno : line.lineNo = x.lineNo + 1)
    (hbytes : line.lineBytes = x.lineBytes) :
    ∃ f, d.nextInsp q line x = d.setArc f ∧
      (f d.arc).imgs = [{ x with lines := x.lines + 1, lineNo := x.lineNo + 1, data := fitTo x.lineBytes line.payload :: x.data }] := by
  have hgap : line.lineNo - x.lineNo - 1 = 0 := by omega
  unfold Device.nextInsp
  rw [if_neg (by omega), if_neg (not_not.mpr hbytes), hgap]
  refine ⟨_, rfl, ?_⟩
  dsimp only
  rw [himgs, List.map_singleton, hopen, hno]
  rfl

end

section

variable (t : Nat) (s : State) (q : Side)

/-- A port whose lanes are locked is aligned (R353). -/
theorem inspectionPortAligned_completes (hen : s.dev.flag (ENW_INSP_CTRL q) ENW_INSP_CTRL_ENABLE = true)
    (hon : s.dev.domainIsOn (laneDomain q) = true) :
    Completes (.inspectionPortAligned t q) s fun e => e.inspAligned q = true ∧
      e.fld (ENW_INSP_STATUS q) ENW_INSP_STATUS_LANE_LOCK = 3 ∧ OnlyRegs (s.dev.tick t) e [ENW_INSP_STATUS q] := by
  have hgo : ((s.dev.tick t).flag (ENW_INSP_CTRL q) ENW_INSP_CTRL_ENABLE && (s.dev.tick t).domainIsOn (laneDomain q)) = true := by
    rw [flag_tick, hen]
    exact hon
  refine ⟨_, rfl, rfl, rfl, ?_⟩
  dsimp only
  rw [if_pos hgo]
  refine ⟨(flag_setFld_other _ _ _ (by decide) (by decide)).trans (flag_setFlag_self _ _ (by decide) (by decide) true), ?_,
    (OnlyRegs.refl _ _).setFlag.setFld⟩
  exact fld_setFld_self _ _ (by decide) 3

/-- What an aligned port makes of a line: the Arcade takes a good one from the port that it prefers, or, within an image, from the port in use
(R354, R357). -/
def Device.lineTaken (d : Device) (q : Side) (line : InspectionLine) : Device :=
  if !line.good then d.count (ENW_INSP_CNT0 q) ENW_INSP_CNT0_CRC_ERR
  else if (if line.first then d.inspPreferred else d.inspRouted) = q then d.goodInsp q line
  else d

section

variable {line : InspectionLine} (hen : s.dev.flag (ENW_INSP_CTRL q) ENW_INSP_CTRL_ENABLE = true) (hal : s.dev.inspAligned q = true)

include hen hal

theorem exec_inspectionLine : exec (.inspectionLine t q line) s = .next { s with dev := (s.dev.tick t).lineTaken q line } := by
  have hgo : ¬(!(s.dev.tick t).flag (ENW_INSP_CTRL q) ENW_INSP_CTRL_ENABLE || !(s.dev.tick t).inspAligned q) = true := by
    rw [flag_tick, hen, show (s.dev.tick t).inspAligned q = true from hal]
    decide
  exact congrArg (fun d => Host.Outcome.next { s with dev := d }) (if_neg hgo)

/-- A good line of the port that the Arcade takes. -/
theorem inspectionLine_good {P : Device → Prop} (hgood : line.good = true)
    (hport : (if line.first then s.dev.inspPreferred else s.dev.inspRouted) = q) (h : P ((s.dev.tick t).goodInsp q line)) :
    Completes (.inspectionLine t q line) s P := by
  refine ⟨_, exec_inspectionLine t s q hen hal, rfl, rfl, ?_⟩
  have htaken : (s.dev.tick t).lineTaken q line = (s.dev.tick t).goodInsp q line := by
    unfold Device.lineTaken
    rw [hgood, if_neg (by decide)]
    exact if_pos hport
  dsimp only
  rw [htaken]
  exact h

theorem inspectionLine_bad (hbad : line.good = false) :
    Completes (.inspectionLine t q line) s fun e => e.fld (ENW_INSP_CNT0 q) ENW_INSP_CNT0_CRC_ERR =
      min (s.dev.fld (ENW_INSP_CNT0 q) ENW_INSP_CNT0_CRC_ERR + 1) 65535 ∧ OnlyRegs (s.dev.tick t) e [ENW_INSP_CNT0 q] := by
  refine ⟨_, exec_inspectionLine t s q hen hal, rfl, rfl, ?_⟩
  dsimp only
  unfold Device.lineTaken
  rw [hbad, if_pos (by decide)]
  exact ⟨fld_count_self (s.dev.tick t) (ENW_INSP_CNT0 q) (by decide), (OnlyRegs.refl _ _).addSat⟩

theorem inspectionLine_starts {n : Nat} {i : Instance} {b : InspBuf} {rest : List InspBuf} (hgood : line.good = true) (hfirst : line.first = true)
    (hlast : line.last = false) (hfull : line.full = false) (hblock : line.noBlock = false) (hport : s.dev.inspPreferred = q)
    (hnone : s.dev.arc.imgs = []) (hwin : s.dev.inspWindow = some (n, i)) (hbufs : s.dev.host.bufs = b :: rest)
    (hon : s.dev.arcOn = true) (hinsp : s.dev.fld ARC_CTRL ARC_CTRL_INSP_EN = 3) :
    Completes (.inspectionLine t q line) s fun e => e.host.bufs = rest ∧ e.arc.port = q ∧ ∃ x, e.arc.imgs = [x] ∧ x.buf = b ∧
      x.wsn = i.wsn ∧ x.lines = 1 ∧ x.lineNo = line.lineNo ∧ x.lineBytes = line.lineBytes ∧ x.ended = false ∧
      x.data = [fitTo line.lineBytes line.payload] := by
  refine inspectionLine_good t s q hen hal hgood (by rw [hfirst]; exact hport) ?_
  rw [goodInsp_first hfirst hlast hfull hblock (d := s.dev.tick t) hwin]
  generalize hd : (s.dev.tick t).closeImage = d
  have hreg (a : Nat) (ha : 0x10000000 ≤ a) : d.reg a = s.dev.reg a := by
    rw [← hd]
    exact reg_closeImage ha
  have hbufs' : d.host.bufs = b :: rest := by
    rw [← hd]
    exact (congrArg HostIf.bufs (closeImage_keeps (fun _ e v => setReg_host e _ v) modArc_host)).trans hbufs
  have hnone' : d.arc.imgs = [] := by
    rw [← hd]
    exact arc_closeImage_none (d := s.dev.tick t) hnone
  have hon' : d.arcOn = true := by
    unfold Device.arcOn at hon ⊢
    rw [flag_congr (hreg ARC_CTRL (by decide)), flag_congr (hreg ARC_CTRL (by decide)), fld_congr (hreg PWR_DOM_STATUS (by decide))]
    exact hon
  obtain ⟨himgs, hq, hrest⟩ := firstInsp_starts (q := q) (line := line) (n := n) (i := i) hbufs' hnone' hon'
    ((fld_congr (hreg ARC_CTRL (by decide)) _).trans hinsp)
  exact ⟨hrest, hq, _, himgs, rfl, rfl, rfl, rfl, rfl, rfl, rfl⟩

theorem inspectionLine_adds {x : InspImg} {y : Nat × Instance} (hgood : line.good = true) (hfirst : line.first = false)
    (hlast : line.last = false) (hfull : line.full = false) (hblock : line.noBlock = false) (hport : s.dev.arc.port = q)
    (himgs : s.dev.arc.imgs = [x]) (hended : x.ended = false) (hwin : s.dev.inspWindow = some y) (hno : line.lineNo = x.lineNo + 1)
    (hbytes : line.lineBytes = x.lineBytes) :
    Completes (.inspectionLine t q line) s fun e => e.arc.imgs =
      [{ x with lines := x.lines + 1, lineNo := x.lineNo + 1, data := fitTo x.lineBytes line.payload :: x.data }] ∧
      ∀ a, e.reg a = s.dev.reg a := by
  have hopen : s.dev.openImage = some x := openImage_single himgs hended
  have hrouted : s.dev.inspRouted = q := by
    unfold Device.inspRouted
    rw [hopen]
    exact hport
  refine inspectionLine_good t s q hen hal hgood (by rw [hfirst]; exact hrouted) ?_
  obtain ⟨f, hnext, hf⟩ := nextInsp_adds (d := s.dev.tick t) (q := q) himgs hended hno hbytes
  rw [goodInsp_next (d := s.dev.tick t) hfirst hlast hfull hblock hwin hopen, hnext]
  exact ⟨hf, fun _ => rfl⟩

theorem inspectionLine_outside (hgood : line.good = true) (hfirst : line.first = false) (hport : s.dev.inspRouted = q)
    (hwin : s.dev.inspWindow = none) :
    Completes (.inspectionLine t q line) s fun e => e.fld (ENW_INSP_CNT1 q) ENW_INSP_CNT1_OUTSIDE =
      min (s.dev.fld (ENW_INSP_CNT1 q) ENW_INSP_CNT1_OUTSIDE + 1) 65535 ∧ e.arc = s.dev.arc := by
  refine inspectionLine_good t s q hen hal hgood (by rw [hfirst]; exact hport) ?_
  rw [goodInsp_outside (d := s.dev.tick t) hfirst hwin]
  exact ⟨fld_count_self (s.dev.tick t) (ENW_INSP_CNT1 q) (by decide), rfl⟩

end

end

/-! An image that is complete (R250, R251). -/

section

variable (d : Device)

/-- While the event ring is off, an event that is posted writes no memory (R155). -/
theorem mem_post_off (h : d.evtOn = false) (typ : Nat) (nmi : Bool) (code wsn data : Nat) : (d.post typ nmi code wsn data).mem = d.mem := by
  unfold Device.post
  extract_lets e
  generalize hu : d.modHost _ = u
  have hmem : u.mem = d.mem := by
    rw [← hu]
    rfl
  have hroom : u.evtRoom = false := by
    rw [← hu]
    exact congrArg (· && _) h
  have hlost : u.loseEvent.mem = u.mem := rfl
  unfold Device.place
  rw [hroom, Bool.false_and, if_neg (by decide), ← hmem]
  split
  · rfl
  · split
    · split
      · exact hlost
      · exact hlost
    · exact hlost

/-- What SLOW_STAGE's ledger event keeps, the timing of a compressor keeps (R55). -/
theorem slowCompressor_keeps {β : Type} {p : Device → β} (h : KerbKeeps lbSlowStage p) (ht : KerbKeeps ktLedger p) (unit bytes : Nat)
    (times : List Nat) : p (d.slowCompressor unit bytes times) = p d := by
  refine each_keeps (fun x e => ?_) times d
  unfold Device.slowStage
  split
  · exact ledgerEvent_keeps e h ht _ _ _
  · rfl

/-- The staging of the oldest image is charged, and its compression is timed, before it is written (R55, R194). -/
def Device.imageStaged (d : Device) (x : InspImg) (rest : List InspImg) (n : Nat) (times : List Nat) : Device :=
  ((d.chargeStaging (2 * chargeOf n)).setArc fun c => { c with imgs := rest }).each ((List.range times.length).zip times) fun y d =>
    d.slowCompressor (unitInspection (y.1 % 2)) (x.group * x.lineBytes) [y.2]

theorem imageStaged_keeps {β : Type} {p : Device → β} (h : KerbKeeps lbSlowStage p) (ht : KerbKeeps ktLedger p) (x : InspImg)
    (rest : List InspImg) (n : Nat) (times : List Nat) :
    p (d.imageStaged x rest n times) = p ((d.chargeStaging (2 * chargeOf n)).setArc fun c => { c with imgs := rest }) := by
  unfold Device.imageStaged
  exact each_keeps (f := fun (y : Nat × Nat) e => e.slowCompressor (unitInspection (y.1 % 2)) (x.group * x.lineBytes) [y.2])
    (fun y e => slowCompressor_keeps e h ht _ _ [y.2]) _ _

theorem imageStaged_shows (x : InspImg) (rest : List InspImg) (n : Nat) (times : List Nat) :
    (d.imageStaged x rest n times).arc.imgs = rest ∧ (d.imageStaged x rest n times).reg ARC_INSP_CNT = d.reg ARC_INSP_CNT ∧
      (d.imageStaged x rest n times).evtOn = d.evtOn := by
  have hregs : ((d.chargeStaging (2 * chargeOf n)).setArc fun c => { c with imgs := rest }).regs = d.regs := by
    unfold Device.chargeStaging Device.setArc
    rw [modArc_regs, modPs_regs]
  have hreg {a : Nat} (hloops : ¬ inLoops a) (hfall : a ∉ ledgerRegs lbRegFallback) (hslow : a ∉ ledgerRegs lbSlowStage)
      (hkerb : a ∉ ledgerRegs ktLedger) (hsafe : a ∉ safeRegs) : (d.imageStaged x rest n times).reg a = d.reg a :=
    (imageStaged_keeps d (kerbKeeps_reg hloops hfall hslow hsafe) (kerbKeeps_reg hloops hfall hkerb hsafe) x rest n times).trans
      (reg_congr hregs a)
  refine ⟨congrArg CodecS.imgs (imageStaged_keeps d (kerbKeeps_arc _) (kerbKeeps_arc _) x rest n times), ?_, flag_congr ?_ _⟩
  · exact hreg (by decide) (by decide) (by decide) (by decide) (by decide)
  · exact hreg (by decide) (by decide) (by decide) (by decide) (by decide)

/-- The stream of an image, the table behind it and the header before it in host memory (R250). -/
def Device.imageWritten (d : Device) (a table : Nat) (stream offs header : List Byte) : Device :=
  ((d.setBytes (a + 64) stream).setBytes (a + table) offs).setBytes a header

theorem imageWritten_only (a table : Nat) (stream offs header : List Byte) :
    ∃ m, d.imageWritten a table stream offs header = { d with mem := m } := by
  unfold Device.imageWritten
  obtain ⟨m1, h1⟩ := setBytes_only stream d (a + 64)
  obtain ⟨m2, h2⟩ := setBytes_only offs (d.setBytes (a + 64) stream) (a + table)
  obtain ⟨m3, h3⟩ := setBytes_only header ((d.setBytes (a + 64) stream).setBytes (a + table) offs) a
  exact ⟨m3, by rw [h3, h2, h1]⟩

theorem fld_setBytes (l : List Byte) (a b : Nat) (f : Fld) : (d.setBytes a l).fld b f = d.fld b f := fld_congr (reg_setBytes d l a b) f

/-- The stream stands behind the header, where neither the header nor the table reaches. -/
theorem byte_imageWritten {a table : Nat} {stream offs header : List Byte} (hheader : header.length = 64) (htable : 64 + stream.length ≤ table)
    {i : Nat} (hi : i < stream.length) : (d.imageWritten a table stream offs header).byte (a + 64 + i) = stream.getD i 0 := by
  unfold Device.imageWritten
  rw [byte_setBytes_out _ _ _ _ (by omega), byte_setBytes_out _ _ _ _ (by omega), byte_setBytes_in _ _ _ _ hi]

/-- A written image is counted done and announced (R251). -/
def Device.imageCounted (d : Device) (x : InspImg) (size : Nat) : Device :=
  ((d.setFld ARC_INSP_CNT ARC_INSP_CNT_DONE (d.fld ARC_INSP_CNT ARC_INSP_CNT_DONE + 1)).post evInspectDone false 0 x.wsn
    (inspData x.buf size)).showInsp

theorem imageCounted_shows (x : InspImg) (size : Nat) :
    (d.imageCounted x size).arc = d.arc ∧
      (d.imageCounted x size).fld ARC_INSP_CNT ARC_INSP_CNT_DONE = (d.fld ARC_INSP_CNT ARC_INSP_CNT_DONE + 1) % 65536 ∧
      (d.evtOn = false → ∀ a, (d.imageCounted x size).byte a = d.byte a) := by
  unfold Device.imageCounted
  generalize hu : d.setFld ARC_INSP_CNT ARC_INSP_CNT_DONE (d.fld ARC_INSP_CNT ARC_INSP_CNT_DONE + 1) = u
  have harc : u.arc = d.arc := by
    rw [← hu]
    rfl
  have hdone : u.fld ARC_INSP_CNT ARC_INSP_CNT_DONE = (d.fld ARC_INSP_CNT ARC_INSP_CNT_DONE + 1) % 65536 := by
    rw [← hu]
    exact fld_setFld_self d ARC_INSP_CNT (by decide) _
  have hshow (e : Device) : e.showInsp.arc = e.arc ∧ e.showInsp.reg ARC_INSP_CNT = e.reg ARC_INSP_CNT ∧ e.showInsp.mem = e.mem :=
    ⟨rfl, reg_setFld_ne e _ _ (by decide), rfl⟩
  obtain ⟨hshowArc, hshowReg, hshowMem⟩ := hshow (u.post evInspectDone false 0 x.wsn (inspData x.buf size))
  refine ⟨hshowArc.trans ((post_arc u _ _ _ _ _).trans harc), ?_, fun hoff a => ?_⟩
  · rw [fld_congr (hshowReg.trans (reg_post u _ _ _ _ _ (by decide)))]
    exact hdone
  · have hoff' : u.evtOn = false := by
      rw [← hu]
      exact (flag_congr (reg_setFld_ne d _ _ (by decide)) _).trans hoff
    refine byte_congr (hshowMem.trans ((mem_post_off u hoff' _ _ _ _ _).trans ?_)) a
    rw [← hu]
    rfl

/-- Bytes of an image's stream, before its table (R250). -/
abbrev Device.imageStream (x : InspImg) (choices : List (List BlockChoice)) : List Byte := (d.imageGroups x choices).flatten

/-- Bytes that an image with `n` bytes of stream takes of its buffer (R250). -/
abbrev InspImg.sizeWith (x : InspImg) (n : Nat) : Nat := 64 + (n + 3) / 4 * 4 + 4 * x.groups

/-- The oldest image, written to its buffer in host memory and counted (R250, R251). -/
def Device.imageDone (x : InspImg) (rest : List InspImg) (choices : List (List BlockChoice)) (times : List Nat) : Device :=
  let n := (d.imageStream x choices).length
  ((d.imageStaged x rest n times).imageWritten (hostAddr x.buf.addr) (64 + (n + 3) / 4 * 4) (d.imageStream x choices)
    ((offsets (d.imageGroups x choices)).flatMap fun o => leBytes 4 o) (x.header n)).imageCounted x (x.sizeWith n)

/-- What is made of the oldest image: it fails where its buffer is too small (R252). -/
def Device.imageEnds (x : InspImg) (rest : List InspImg) (choices : List (List BlockChoice)) (times : List Nat) : Device :=
  if x.buf.len < x.sizeWith (d.imageStream x choices).length then d.imageFail x jeNoSpace else d.imageDone x rest choices times

theorem imageDone_shows (x : InspImg) (rest : List InspImg) (choices : List (List BlockChoice)) (times : List Nat) :
    (d.imageDone x rest choices times).arc.imgs = rest ∧
      (d.imageDone x rest choices times).fld ARC_INSP_CNT ARC_INSP_CNT_DONE = (d.fld ARC_INSP_CNT ARC_INSP_CNT_DONE + 1) % 65536 ∧
      (d.evtOn = false → ∀ i < (d.imageStream x choices).length,
        (d.imageDone x rest choices times).byte (hostAddr x.buf.addr + 64 + i) = (d.imageStream x choices).getD i 0) := by
  unfold Device.imageDone
  extract_lets n
  obtain ⟨himgs, hcnt, hevt⟩ := imageStaged_shows d x rest n times
  generalize d.imageStaged x rest n times = e at himgs hcnt hevt
  have htable : 64 + (d.imageStream x choices).length ≤ 64 + (n + 3) / 4 * 4 := by omega
  have hstream {i : Nat} (hi : i < n) := byte_imageWritten e (a := hostAddr x.buf.addr)
    (offs := (offsets (d.imageGroups x choices)).flatMap fun o => leBytes 4 o) (length_header x n) htable hi
  obtain ⟨m, hm⟩ := imageWritten_only e (hostAddr x.buf.addr) (64 + (n + 3) / 4 * 4) (d.imageStream x choices)
    ((offsets (d.imageGroups x choices)).flatMap fun o => leBytes 4 o) (x.header n)
  generalize e.imageWritten (hostAddr x.buf.addr) _ (d.imageStream x choices) _ (x.header n) = u at hstream hm
  obtain ⟨harc, hdone, hbyte⟩ := imageCounted_shows u x (x.sizeWith n)
  have hreg (a : Nat) : u.reg a = e.reg a := reg_congr (by rw [hm]) a
  refine ⟨?_, ?_, fun hoff i hi => ?_⟩
  · rw [harc, hm]
    exact himgs
  · rw [hdone, fld_congr ((hreg _).trans hcnt)]
  · rw [hbyte ((flag_congr (hreg _) _).trans (hevt.trans hoff))]
    exact hstream hi

end

section

variable (t : Nat) (s : State) {x : InspImg}

/-- Where staging is granted, the oldest image ends once its last line has come (R193, R251). -/
theorem exec_inspectImageDone (choices : List (List BlockChoice)) (times : List Nat) (himgs : s.dev.arc.imgs = [x]) (hended : x.ended = true)
    (hheld : s.dev.storeHeld = false) :
    exec (.inspectImageDone t choices times) s = .next { s with dev := (s.dev.tick t).imageEnds x [] choices times } := by
  have hgo : ¬(!x.ended || (s.dev.tick t).storeHeld) = true := by
    rw [hended, show (s.dev.tick t).storeHeld = false from hheld]
    decide
  refine congrArg (fun d => Host.Outcome.next { s with dev := d }) ?_
  dsimp only
  rw [show (s.dev.tick t).arc.imgs = [x] from himgs]
  dsimp only
  rw [if_neg hgo]
  unfold Device.imageEnds Device.imageDone Device.imageCounted Device.imageWritten
  dsimp only
  rw [fld_setBytes _ (x.header _)]
  rfl

theorem inspAlignLoss_fails (q : Side) (himgs : s.dev.arc.imgs = [x]) (hopen : x.ended = false) (hport : x.port = q) :
    Completes (.inspAlignLoss t q) s fun e => e.inspAligned q = false ∧ e.arc.imgs = [] ∧
      e.fld ARC_INSP_CNT ARC_INSP_CNT_FAILED = min (s.dev.fld ARC_INSP_CNT ARC_INSP_CNT_FAILED + 1) 65535 := by
  generalize hu : (s.dev.tick t).setFlag (ENW_INSP_STATUS q) ENW_INSP_STATUS_ALIGNED false = u
  have himgs' : u.arc.imgs = [x] := by
    rw [← hu]
    exact himgs
  have hlost : u.inspAligned q = false := by
    rw [← hu]
    exact flag_setFlag_self _ _ (by decide) (by decide) false
  have hcnt : u.reg ARC_INSP_CNT = s.dev.reg ARC_INSP_CNT := by
    rw [← hu, reg_setFlag_ne _ _ _ (inspStatus_ne q (by decide)), reg_tick]
  obtain ⟨-, hfailed, haligned⟩ := imageFail_shows (d := u) (q := q) (x := x) jeSrc
  refine ⟨_, rfl, rfl, rfl, ?_⟩
  dsimp only
  rw [hu, openImage_single himgs' hopen]
  dsimp only
  rw [if_pos hport, haligned, hfailed, imageFail_single himgs', fld_congr hcnt]
  exact ⟨hlost, rfl, rfl⟩

end

/-- Settles O29: one lemma for each command and what its line or image is. -/
theorem inspectionImagesAreTaken : Obligations.InspectionImagesAreTaken := by
  intro t s q
  refine ⟨inspectionPortAligned_completes t s q, fun line hen hal => ⟨?_, ?_, ?_, ?_⟩, fun x choices times himgs => ⟨fun hended hheld => ⟨?_, ?_⟩,
    inspAlignLoss_fails t s q himgs⟩⟩
  · exact inspectionLine_bad t s q hen hal
  · intro n i b rest
    exact inspectionLine_starts t s q hen hal
  · intro x y
    exact inspectionLine_adds t s q hen hal
  · exact inspectionLine_outside t s q hen hal
  · intro hfits
    refine ⟨_, exec_inspectImageDone t s choices times himgs hended hheld, rfl, rfl, ?_⟩
    have hdone : (s.dev.tick t).imageEnds x [] choices times = (s.dev.tick t).imageDone x [] choices times := if_neg (Nat.not_lt.mpr hfits)
    dsimp only
    rw [hdone]
    exact imageDone_shows (s.dev.tick t) x [] choices times
  · intro hsmall
    refine ⟨_, exec_inspectImageDone t s choices times himgs hended hheld, rfl, rfl, ?_⟩
    have hfail : (s.dev.tick t).imageEnds x [] choices times = (s.dev.tick t).imageFail x jeNoSpace := if_pos hsmall
    dsimp only
    rw [hfail]
    obtain ⟨-, hfailed, -⟩ := imageFail_shows (d := s.dev.tick t) (q := q) (x := x) jeNoSpace
    exact ⟨imageFail_single (d := s.dev.tick t) himgs _, hfailed⟩

end Sys2Proof.Machine

end

section

set_option Elab.async false

namespace Sys2Proof.Machine

/-! # The page store: drift, ECC, scrub, refresh, row disturbance (R164 to R178, R197, R198) -/

/-! A change of the store: its registers, and what it keeps beside them. -/

/-- Beside the store's own state, nothing but the registers of `l` changes. -/
def StoreOnly (d e : Device) (l : List Nat) : Prop := OnlyRegs { d with ps := e.ps } e l

namespace StoreOnly

variable {d x : Device} {l : List Nat}

theorem refl (d : Device) (l : List Nat) : StoreOnly d d l := OnlyRegs.refl d l

theorem setReg (h : StoreOnly d x l) {a : Nat} {v : Word} (ha : a ∈ l := by simp) : StoreOnly d (x.setReg a v) l := OnlyRegs.setReg h ha

theorem setFlag (h : StoreOnly d x l) {a : Nat} {f : Fld} {b : Bool} (ha : a ∈ l := by simp) : StoreOnly d (x.setFlag a f b) l := h.setReg ha

theorem modPs (h : StoreOnly d x l) {f : StoreS → StoreS} : StoreOnly d (x.modPs f) l := by
  obtain ⟨⟨r, hr⟩, hreg⟩ := h
  refine ⟨⟨r, ?_⟩, hreg⟩
  unfold Device.modPs
  rw [hr]

end StoreOnly

/-! The check code (R175). -/

/-- The code counts symbols in error that differ. -/
theorem dedup_symbols {l : List (Fin 36)} (h : l.Nodup) : (l.map fun x => x.val).dedup = l.map fun x => x.val :=
  (h.map Fin.val_injective).dedup

section

variable (addr : Nat) {x y z : Fin 36}

theorem blockRead_one : blockRead addr (.symbols [x]) = .corrected := by
  unfold blockRead
  dsimp only
  rw [dedup_symbols (List.nodup_singleton x)]
  rfl

theorem blockRead_two (hxy : x ≠ y) : blockRead addr (.symbols [x, y]) = .failed := by
  unfold blockRead
  dsimp only
  rw [dedup_symbols (by simp [hxy])]
  rfl

theorem blockRead_three (hxy : x ≠ y) (hxz : x ≠ z) (hyz : y ≠ z) : blockRead addr (.symbols [x, y, z]) = .failed := by
  unfold blockRead
  dsimp only
  rw [dedup_symbols (by simp [hxy, hxz, hyz])]
  rfl

end

/-! A sheet that becomes defective (R107, R110, R112). -/

section

variable {β : Type} {p : Device → β} (d : Device)

/-- What a projection must not look at to be kept while sheets become defective: the registers of the event ring, the count of free blocks,
host memory, and the parts of the device that hold pages, instances and lines. -/
structure DefectKeeps (p : Device → β) : Prop where
  post : ∀ a ∈ postRegs, ∀ e v, p (Device.setReg e a v) = p e
  blocks : ∀ e v, p (Device.setReg e PGS_ALLOC_BLOCKS v) = p e
  mem : ∀ e a b, 2 ^ 63 ≤ a → p (Device.setByte e a b) = p e
  host : ∀ e f, EventsOnly f → p (Device.modHost e f) = p e
  st : ∀ e v, p (Device.withSt e v) = p e
  dlv : ∀ e f, p (Device.modDlv e f) = p e
  tml : ∀ e f, p (Device.modTml e f) = p e
  bmo : ∀ e f, p (Device.modBmo e f) = p e

variable (h : DefectKeeps p)

include h

theorem mapInsts_keeps (f : Nat → Instance → Instance) : p (d.mapInsts f) = p d := h.tml d _

theorem setInst_keeps (n : Nat) (i : Option Instance) : p (d.setInst n i) = p d := h.tml d _

theorem mapPages_keeps (f : Page → Page) : p (d.mapPages f) = p d := h.dlv d _

theorem againFrom_keeps (w : Nat) : p (d.againFrom w) = p d := by
  unfold Device.againFrom
  exact (h.dlv _ _).trans (mapPages_keeps d h _)

theorem enterDraining_keeps : p d.enterDraining = p d := by
  unfold Device.enterDraining
  split
  · exact (settle_keeps _ h.post h.mem h.host h.st).trans (setSt_keeps d h.post h.mem h.host h.st _)
  · rfl

theorem withdrawFrom_keeps (x : Page) : p (d.withdrawFrom x) = p d := by
  unfold Device.withdrawFrom
  extract_lets w d1 gone d2 d3
  calc p (d3.post evResubmitFrom false 0 w 0).enterDraining
    _ = p (d3.post evResubmitFrom false 0 w 0) := enterDraining_keeps _ h
    _ = p d3 := post_keeps d3 h.post h.mem h.host _ _ _ _ _
    _ = p d2 := h.dlv d2 _
    _ = p d1 := each_keeps (fun _ e => h.blocks e _) gone d1
    _ = p d := sheetJournal_keeps d h.dlv _ _ _ _ _ _ _

theorem sheetDefective_keeps (n cause : Nat) : p (d.sheetDefective n cause) = p d := by
  unfold Device.sheetDefective
  split
  · rfl
  · next i _ =>
    split
    · rfl
    · split
      · exact setInst_keeps d h _ _
      · split
        · exact (enterDraining_keeps _ h).trans (mapInsts_keeps d h _)
        · extract_lets d1 d2
          have h1 : p d1 = p d := mapInsts_keeps d h _
          have h2 : p d2 = p d1 := againFrom_keeps d1 h _
          split
          · exact h1
          · split
            · exact (withdrawFrom_keeps d1 h _).trans h1
            · split
              · exact (mapPages_keeps d2 h _).trans (h2.trans h1)
              · exact h2.trans h1

theorem stationsDefective_keeps (mask cause : Nat) : p (d.stationsDefective mask cause) = p d := by
  have hsheet (x : Nat × Instance) (e : Device) : p (e.sheetDefective x.1 cause) = p e := sheetDefective_keeps e h x.1 cause
  exact each_keeps hsheet _ d

/-- An uncorrectable error of a real-time read marks its line, and its sheet defective (R177). -/
theorem realTimeUe_keeps (q : Side) (st sub : Nat) : p (d.realTimeUe q st sub) = p d := by
  unfold Device.realTimeUe
  split
  · exact (stationsDefective_keeps _ h _ _).trans (h.bmo d _)
  · rfl

end

/-! An uncorrectable error (R176). -/

section

variable (d : Device)

/-- A channel that ends changes its own registers alone, an enable that waited for its end or not (R51, R162). -/
theorem dmaEnd_only (e : Engine) (c err : Nat) :
    ChannelOnly d (d.dmaEnd e c err) [aly e c + alyCtrl, aly e c + alyStatus] := by
  have hhalt : ChannelOnly d (d.dmaHalt e c err) [aly e c + alyCtrl, aly e c + alyStatus] := (((ChannelOnly.refl d _).setFld).setFlag).setChan
  have hstart (u : Device) (hu : ChannelOnly d u [aly e c + alyCtrl, aly e c + alyStatus]) :
      ChannelOnly d (u.dmaStart e c) [aly e c + alyCtrl, aly e c + alyStatus] := by
    unfold Device.dmaStart
    extract_lets u1
    have hu1 : ChannelOnly d u1 [aly e c + alyCtrl, aly e c + alyStatus] := hu.setFld.setChan
    split
    · exact hu1
    · exact hu1.setFld.setFlag.setChan
  unfold Device.dmaEnd
  extract_lets waits d1 d2
  have h2 : ChannelOnly d d2 [aly e c + alyCtrl, aly e c + alyStatus] := by
    unfold d2
    split
    · exact hhalt.setFlag
    · exact hhalt
  split
  · exact hstart d2 h2
  · exact h2

/-- What an uncorrectable error leaves to be read: its count, its data block and the answer of its access (R176). -/
def eccView (d : Device) : Word × Word × Word × Resp := (d.reg RDB_ECC_UE, d.reg RDB_ECC_ADDR_LO, d.reg (RDB_ECC_ADDR_LO + 4), d.resp)

/-- The registers of `eccView`. -/
def eccRegs : List Nat := [RDB_ECC_UE, RDB_ECC_ADDR_LO, RDB_ECC_ADDR_LO + 4]

theorem eccView_congr {e : Device} (hreg : ∀ a ∈ eccRegs, e.reg a = d.reg a) (hresp : e.resp = d.resp) : eccView e = eccView d := by
  unfold eccView
  rw [hreg RDB_ECC_UE (by simp [eccRegs]), hreg RDB_ECC_ADDR_LO (by simp [eccRegs]), hreg (RDB_ECC_ADDR_LO + 4) (by simp [eccRegs]), hresp]

theorem eccView_setReg {a : Nat} (h : a ∉ eccRegs) (v : Word) : eccView (d.setReg a v) = eccView d :=
  eccView_congr d (fun _ hx => reg_setReg_ne d v fun c => h (c ▸ hx)) (setReg_resp d a v)

theorem postRegs_notMem_eccRegs : ∀ a ∈ postRegs, a ∉ eccRegs := by decide

theorem defectKeeps_eccView : DefectKeeps eccView where
  post _ ha e v := eccView_setReg e (postRegs_notMem_eccRegs _ ha) v
  blocks e v := eccView_setReg e (by decide) v
  mem _ _ _ _ := rfl
  host _ _ _ := rfl
  st _ _ := rfl
  dlv _ _ := rfl
  tml _ _ := rfl
  bmo _ _ := rfl

/-- The registers of a channel are none of `eccView`. -/
theorem channel_notMem_eccRegs {e : Engine} (c : Fin 16) {o : Nat} (ho : o < 0x40) : aly e c + o ∉ eccRegs := by
  have hc := c.isLt
  simp only [eccRegs, List.mem_cons, List.not_mem_nil, or_false, RDB_ECC_UE, RDB_ECC_ADDR_LO, aly]
  cases e with
  | shared =>
    simp only [ALYS_SRC_LO]
    omega
  | quarter q =>
    simp only [ALYQ_SRC_LO]
    rcases base_eq q with hb | hb
    · omega
    · omega

theorem eccView_dmaEnd (e : Engine) (c : Fin 16) (err : Nat) : eccView (d.dmaEnd e c err) = eccView d := by
  have honly := dmaEnd_only d e c err
  refine eccView_congr d (fun a ha => honly.reg ?_) (honly.keeps fun _ _ => rfl)
  intro hmem
  simp only [List.mem_cons, List.not_mem_nil, or_false] at hmem
  rcases hmem with rfl | rfl
  · exact channel_notMem_eccRegs c (by decide) ha
  · exact channel_notMem_eccRegs c (by decide) ha

/-- The count, the data block and the answer of an uncorrectable error (R176). -/
theorem storeUe_shows {addr : Nat} (h : addr < 2 ^ 64) :
    (d.storeUe addr).fld RDB_ECC_UE RDB_ECC_UE_COUNT = min (d.fld RDB_ECC_UE RDB_ECC_UE_COUNT + 1) 65535 ∧
      (d.storeUe addr).nat64 RDB_ECC_ADDR_LO = addr - addr % 64 ∧ (d.storeUe addr).resp = .errEcc := by
  unfold Device.storeUe
  extract_lets d1
  have hreg {a : Nat} (h1 : ¬ inLoops a) (h2 : a ∉ ledgerRegs lbRegFallback) (h3 : a ∉ ledgerRegs lbPsUe) (h4 : a ∉ ledgerRegs ktLedger)
      (h5 : a ∉ safeRegs) : ((d1.ledgerEvent lbPsUe shared 0 0).reply .errEcc).reg a = d1.reg a :=
    reg_ledgerEvent d1 h1 h2 h3 h4 h5 shared 0 0
  refine ⟨?_, ?_, rfl⟩
  · rw [fld_congr (hreg (by decide) (by decide) (by decide) (by decide) (by decide))]
    have hd1 : d1.reg RDB_ECC_UE = (d.count RDB_ECC_UE RDB_ECC_UE_COUNT).reg RDB_ECC_UE :=
      (reg_setNat_ne _ _ (by decide)).trans (reg_setNat_ne _ _ (by decide))
    rw [fld_congr hd1]
    exact fld_count_self d RDB_ECC_UE (by decide)
  · unfold Device.nat64 Device.nat
    rw [hreg (by decide) (by decide) (by decide) (by decide) (by decide), hreg (by decide) (by decide) (by decide) (by decide) (by decide)]
    have hlo : d1.reg RDB_ECC_ADDR_LO = BitVec.ofNat 32 (addr - addr % 64) :=
      (reg_setNat_ne _ _ (by decide)).trans (reg_setNat_self _ _ _)
    have hhi : d1.reg (RDB_ECC_ADDR_LO + 4) = BitVec.ofNat 32 ((addr - addr % 64) / 2 ^ 32) := reg_setNat_self _ _ _
    rw [hlo, hhi, BitVec.toNat_ofNat, BitVec.toNat_ofNat]
    omega

end

section

variable (d : Device)

theorem dma_storeUe (addr : Nat) : (d.storeUe addr).dma = d.dma := by
  unfold Device.storeUe
  exact ledgerEvent_dma _ _ _ _ _

/-- A ledger event leaves the registers between the ledger and the Kerb, among them those of the shared engine (R42). -/
theorem reg_ledgerEvent_engine {a b : Nat} (hlo : 0x100A0000 ≤ a) (hhi : a < 0x100D0000) (hb : b < 256) (o x y : Nat) :
    (d.ledgerEvent b o x y).reg a = d.reg a := by
  have hledger {c : Nat} (hc : c < 256) : a ∉ ledgerRegs c := by
    intro h
    simp only [ledgerRegs, List.mem_append, List.mem_cons, List.not_mem_nil, or_false, HIF_EVT_PROD, HIF_EVT_LOST, LDG_CNT, LDG_STICKY,
      LDG_NMI] at h
    rcases h with h | h
    · omega
    · split at h
      · rw [List.mem_singleton.mp h] at hlo
        exact absurd hlo (by decide)
      · cases h
  have hsafe : a ∉ safeRegs := by
    intro h
    simp only [safeRegs, List.mem_cons, List.not_mem_nil, or_false, KRB_STATUS, KRB_CAUSE, KRB_TIME_LO, LDG_NMI, RDB_PANIC] at h
    omega
  exact reg_ledgerEvent d (by unfold inLoops; omega) (hledger (by decide)) (hledger hb) (hledger (by decide)) hsafe o x y

theorem channelStatus_eq (c : Nat) : ALYS_STATUS c = aly .shared c + alyStatus := by
  simp only [ALYS_STATUS, aly, ALYS_SRC_LO, alyStatus]
  omega

/-- The registers of the shared channels stay. -/
theorem reg_storeUe_channel {addr : Nat} (c : Fin 16) {o : Nat} (ho : o < 0x40) :
    (d.storeUe addr).reg (aly .shared c + o) = d.reg (aly .shared c + o) := by
  have hc := c.isLt
  have haly : aly .shared c + o = 0x100B0000 + 0x40 * c + o := rfl
  have hne {x : Nat} (hx : x < 0x100B0000) : aly .shared c + o ≠ x := by omega
  unfold Device.storeUe
  refine (reg_ledgerEvent_engine _ (b := lbPsUe) (by omega) (by omega) (by decide) _ _ _).trans ?_
  exact (reg_setNat_ne _ _ (hne (by decide))).trans ((reg_setNat_ne _ _ (hne (by decide))).trans (reg_setFld_ne d _ _ (hne (by decide))))

end

/-! Activates (R197, R198). -/

section

variable (d : Device) (bank : Nat)

/-- An activate within the budget updates its bank's table and count, and RDB_RH_CNT alone among the registers. -/
theorem activateNow_shows (row : Nat) :
    sget (fun _ => 0) (d.activateNow bank row).ps.acts bank = sget (fun _ => 0) d.ps.acts bank + 1 ∧
      sget (fun _ => []) (d.activateNow bank row).ps.rows bank = (rhUpdate d.rhT (sget (fun _ => []) d.ps.rows bank) row).1 ∧
      (d.activateNow bank row).ps.waiting = d.ps.waiting ∧ StoreOnly d (d.activateNow bank row) [RDB_RH_CNT] := by
  unfold Device.activateNow
  extract_lets x d1
  have hacts : sget (fun _ => 0) d1.ps.acts bank = sget (fun _ => 0) d.ps.acts bank + 1 :=
    sget_put (fun _ => 0) d.ps.acts bank (sget (fun _ => 0) d.ps.acts bank + 1)
  have hrows : sget (fun _ => []) d1.ps.rows bank = x.1 := sget_put (fun _ => []) d.ps.rows bank x.1
  have hd1 : StoreOnly d d1 [RDB_RH_CNT] := (StoreOnly.refl d _).modPs
  split
  · exact ⟨hacts, hrows, rfl, hd1.setReg⟩
  · exact ⟨hacts, hrows, rfl, hd1⟩

/-- An activate beyond the budget counts, and waits for the next interval (R198). -/
def Device.deferRow (d : Device) (bank row : Nat) : Device :=
  (d.addSat RDB_ACT_DEFER wholeWord 1).modPs fun v =>
    { v with waiting := sput (fun _ => []) v.waiting bank (sget (fun _ => []) v.waiting bank ++ [row]) }

/-- An access opens its row within the budget of the bank, and waits beyond it (R198). -/
def Device.openRow (d : Device) (bank row : Nat) : Device :=
  if sget (fun _ => 0) d.ps.acts bank < d.rhT then d.activateNow bank row else d.deferRow bank row

/-- Activates within the budget count one by one, and leave what waits. -/
theorem each_activateNow (l : List Nat) : ∀ d : Device,
    sget (fun _ => 0) (d.each l fun r d => d.activateNow bank r).ps.acts bank = sget (fun _ => 0) d.ps.acts bank + l.length ∧
      (d.each l fun r d => d.activateNow bank r).ps.waiting = d.ps.waiting := by
  induction l with
  | nil => exact fun d => ⟨rfl, rfl⟩
  | cons r rest ih =>
    intro d
    obtain ⟨hacts, -, hwaiting, -⟩ := activateNow_shows d bank r
    obtain ⟨hacts', hwaiting'⟩ := ih (d.activateNow bank r)
    refine ⟨hacts'.trans ?_, hwaiting'.trans hwaiting⟩
    rw [hacts, List.length_cons]
    omega

end

/-! Drift (R168 to R170). -/

section

variable {β : Type} {p : Device → β} (d : Device)

/-- The registers in which a zone's level and the slow-down are shown. -/
def storeZoneRegs : List Nat := [THM_ZONE_STATUS 16, THM_STATUS]

/-- The slow-down changes THM_STATUS, posts events, and changes the thermal state. -/
theorem slowDown_keeps (hp : ∀ a ∈ postRegs, ∀ e v, p (Device.setReg e a v) = p e) (hm : ∀ e a b, 2 ^ 63 ≤ a → p (Device.setByte e a b) = p e)
    (hh : ∀ e f, EventsOnly f → p (Device.modHost e f) = p e) (hr : ∀ e v, p (Device.setReg e THM_STATUS v) = p e)
    (ht : ∀ e f, p (Device.modThm e f) = p e) : p d.slowDown = p d := by
  have hpost (e : Device) (typ : Nat) (code wsn data : Nat) : p (e.post typ false code wsn data) = p e := post_keeps e hp hm hh _ _ _ _ _
  unfold Device.slowDown
  extract_lets f was old d1 d2 d3 d4
  have h1 : p d1 = p d := hr d _
  have h2 : p d2 = p d := (hr d1 _).trans h1
  have h3 : p d3 = p d := (hr _ _).trans ((hr d2 _).trans h2)
  have h4 : p d4 = p d := (hr _ _).trans ((hr _ _).trans ((hr d1 _).trans h1))
  split
  · split
    · split
      · exact h2
      · exact (hpost d2 _ _ _ _).trans h2
    · exact (hpost _ _ _ _ _).trans ((ht d3 _).trans h3)
  · split
    · exact (hpost _ _ _ _ _).trans ((hr d4 _).trans h4)
    · exact h1

/-- The page-store zone stands at normal or at throttle (R170): its evaluation makes ledger events, and slows the device down. -/
theorem evalStoreZone_keeps (hw : KerbKeeps lbThermWarn p) (hthrottle : KerbKeeps lbThermThrottle p) (hk : KerbKeeps ktLedger p)
    (hr : ∀ a ∈ storeZoneRegs, ∀ e v, p (Device.setReg e a v) = p e) (ht : ∀ e f, p (Device.modThm e f) = p e) :
    p d.evalStoreZone = p d := by
  unfold Device.evalStoreZone
  generalize hn : (if d.ps.hot = 0 then 0 else 2) = n
  have hn3 : ¬ 3 ≤ n := by
    rw [← hn]
    split <;> omega
  unfold Device.setLevel
  extract_lets old d1 d2 d3 d4
  have h1 : p d1 = p d := hr _ (by simp [storeZoneRegs]) d _
  have h2 : p d2 = p d := by
    unfold d2
    split
    · exact (ledgerEvent_keeps d1 hw hk _ _ _).trans h1
    · exact h1
  have h3 : p d3 = p d := by
    unfold d3
    split
    · exact (ledgerEvent_keeps d2 hthrottle hk _ _ _).trans h2
    · exact h2
  have h4 : p d4 = p d := (slowDown_keeps d3 hk.post hk.mem hk.host (hr _ (by simp [storeZoneRegs])) ht).trans h3
  rw [if_neg (show ¬ (old < 3 ∧ 3 ≤ n) from fun c => hn3 c.2), ite_self]
  exact h4

theorem ps_evalStoreZone : d.evalStoreZone.ps = d.ps :=
  evalStoreZone_keeps d (kerbKeeps_ps _) (kerbKeeps_ps _) (kerbKeeps_ps _) (fun _ _ _ _ => rfl) fun _ _ => rfl

theorem reg_evalStoreZone_mr4 : d.evalStoreZone.reg RDB_MR4 = d.reg RDB_MR4 :=
  evalStoreZone_keeps d (p := fun e => e.reg RDB_MR4) (kerbKeeps_reg (by decide) (by decide) (by decide) (by decide))
    (kerbKeeps_reg (by decide) (by decide) (by decide) (by decide)) (kerbKeeps_reg (by decide) (by decide) (by decide) (by decide))
    (reg_setReg_mem (by decide)) fun _ _ => rfl

/-- The correction of a channel takes the drift up to its limit; one beyond it is a ledger event (R169). -/
def Device.driftCorrected (d : Device) (ch : Nat) (x : Int) : Device :=
  let d := d.modPs (fun v => { v with drift := sput (fun _ => 0) v.drift ch (driftStep x) })
  if driftStep x = x then d else (d.modPs (fun v => { v with retrain := true })).ledgerEvent lbPsDrift shared ch 0

theorem drift_driftCorrected (ch : Nat) (x : Int) : sget (fun _ => 0) (d.driftCorrected ch x).ps.drift ch = max (-250) (min 250 x) := by
  unfold Device.driftCorrected
  extract_lets d1
  have h1 : sget (fun _ => 0) d1.ps.drift ch = driftStep x := sget_put (fun _ => 0) d.ps.drift ch (driftStep x)
  split
  · exact h1
  · rw [ledgerEvent_ps]
    exact h1

/-- The MR4 code of a channel is shown, and its zone follows where the code asks for too high a refresh rate (R170). -/
def Device.rateShown (d : Device) (ch : Nat) (mr4 : BitVec 5) : Device :=
  let d := (d.setFld RDB_MR4 (mr4Fld ch) mr4.toNat).modPs (fun v => { v with hot := setNatBit v.hot ch (mr4Hot mr4.toNat) })
  (if mr4Hot mr4.toNat then d.ledgerEvent lbPsHot shared ch 0 else d).evalStoreZone

theorem rateShown_shows (ch : Fin 4) (mr4 : BitVec 5) :
    (d.rateShown ch mr4).ps.drift = d.ps.drift ∧ (d.rateShown ch mr4).fld RDB_MR4 (mr4Fld ch) = mr4.toNat ∧
      natBit (d.rateShown ch mr4).ps.hot ch = mr4Hot mr4.toNat := by
  have hch := ch.isLt
  have hcode : (d.setFld RDB_MR4 (mr4Fld ch) mr4.toNat).fld RDB_MR4 (mr4Fld ch) = mr4.toNat := by
    rw [fld_setFld_self d RDB_MR4 (show 8 * ch.val + 4 < 32 by omega)]
    refine Nat.mod_eq_of_lt (Nat.lt_of_lt_of_eq mr4.isLt (congrArg (2 ^ ·) ?_))
    exact (show 5 = 8 * ch.val + 4 + 1 - 8 * ch.val by omega)
  unfold Device.rateShown
  extract_lets d1
  have hps : (if mr4Hot mr4.toNat then d1.ledgerEvent lbPsHot shared ch 0 else d1).ps = d1.ps := by
    split
    · exact ledgerEvent_ps d1 _ _ _ _
    · rfl
  have hreg : (if mr4Hot mr4.toNat then d1.ledgerEvent lbPsHot shared ch 0 else d1).reg RDB_MR4 = d1.reg RDB_MR4 := by
    split
    · exact reg_ledgerEvent d1 (by decide) (by decide) (by decide) (by decide) (by decide) _ _ _
    · rfl
  rw [ps_evalStoreZone, hps, fld_congr ((reg_evalStoreZone_mr4 _).trans hreg)]
  exact ⟨rfl, hcode, natBit_setNatBit_self _ _ _⟩

end

section

variable (t : Nat) (s : State)

theorem driftTrackTick_completes (hon : s.dev.storeOff = false) (ch : Fin 4) (x : Int) (mr4 : BitVec 5)
    (htrained : s.dev.flag RDB_STATUS RDB_STATUS_TRAINED = true) :
    Completes (.driftTrackTick t ch x mr4) s fun e => sget (fun _ => 0) e.ps.drift ch = max (-250) (min 250 x) ∧
      e.fld RDB_MR4 (mr4Fld ch) = mr4.toNat ∧ natBit e.ps.hot ch = mr4Hot mr4.toNat := by
  have hgo : ¬((s.dev.tick t).storeOff || !(s.dev.tick t).flag RDB_STATUS RDB_STATUS_TRAINED) = true := by
    rw [show (s.dev.tick t).storeOff = false from hon, flag_tick, htrained]
    decide
  have htrack : exec (.driftTrackTick t ch x mr4) s = .next { s with dev := ((s.dev.tick t).driftCorrected ch x).rateShown ch mr4 } := by
    refine congrArg (fun d => Host.Outcome.next { s with dev := d }) ?_
    dsimp only
    rw [if_neg hgo]
    rfl
  obtain ⟨hdrift, hcode, hhot⟩ := rateShown_shows ((s.dev.tick t).driftCorrected ch x) ch mr4
  refine ⟨_, htrack, rfl, rfl, ?_, hcode, hhot⟩
  exact (congrArg (sget (fun _ => 0) · (ch : Nat)) hdrift).trans (drift_driftCorrected _ ch x)

theorem patrolScrub_completes (hon : s.dev.storeOff = false) (hsome : s.dev.scrubBlocks ≠ 0) :
    Completes (.patrolScrub t) s fun e => e.ps.scrub = (s.dev.ps.scrub + 1) % s.dev.scrubBlocks ∧ ∀ a, e.reg a = s.dev.reg a := by
  have hgo : ¬((s.dev.tick t).storeOff || (s.dev.tick t).scrubBlocks == 0) = true := by
    rw [show (s.dev.tick t).storeOff = false from hon, Bool.false_or, beq_iff_eq]
    exact hsome
  refine ⟨_, rfl, rfl, rfl, ?_⟩
  dsimp only
  rw [if_neg hgo]
  exact ⟨rfl, fun _ => rfl⟩

section

variable {addr : Nat} {x : BlockError} (hbase : storeBase ≤ addr)

include hbase

theorem psEccCe_completes (h : blockRead addr x = .corrected) :
    Completes (.psEccCe t addr x) s fun e =>
      e.fld RDB_ECC_CE wholeWord = min (s.dev.fld RDB_ECC_CE wholeWord + 1) (2 ^ 32 - 1) ∧ OnlyRegs (s.dev.tick t) e [RDB_ECC_CE] := by
  refine ⟨_, rfl, rfl, rfl, ?_⟩
  dsimp only
  rw [if_neg (not_or.mpr ⟨Nat.not_lt.mpr hbase, not_not.mpr h⟩)]
  exact ⟨fld_count_self (s.dev.tick t) RDB_ECC_CE (by decide), (OnlyRegs.refl _ _).addSat⟩

/-- What the access that met an uncorrectable error does with it (R177, R178, R187). -/
def Device.readerFails (d : Device) : StoreReader → Device
  | .realTime q st sub => d.realTimeUe q st sub
  | .channel e c => if d.dmaBusy e c then d.dmaEnd e c deEcc else d
  | .scrub => d
  | .system => d

omit hbase in
theorem eccView_readerFails (d : Device) (r : StoreReader) : eccView (d.readerFails r) = eccView d := by
  cases r with
  | realTime q st sub => exact realTimeUe_keeps d defectKeeps_eccView q st sub
  | channel e c =>
    unfold Device.readerFails
    dsimp only
    split
    · exact eccView_dmaEnd d e c deEcc
    · rfl
  | scrub => rfl
  | system => rfl

theorem exec_psEccUe (h : blockRead addr x = .failed) (r : StoreReader) :
    exec (.psEccUe t addr x r) s = .next { s with dev := ((s.dev.tick t).storeUe addr).readerFails r } := by
  refine congrArg (fun d => Host.Outcome.next { s with dev := d }) ?_
  dsimp only
  rw [if_neg (not_or.mpr ⟨Nat.not_lt.mpr hbase, not_not.mpr h⟩)]
  cases r <;> rfl

theorem psEccUe_shows (hlt : addr < 2 ^ 64) (h : blockRead addr x = .failed) (r : StoreReader) :
    Completes (.psEccUe t addr x r) s fun e =>
      e.fld RDB_ECC_UE RDB_ECC_UE_COUNT = min (s.dev.fld RDB_ECC_UE RDB_ECC_UE_COUNT + 1) 65535 ∧
      e.nat64 RDB_ECC_ADDR_LO = addr - addr % 64 ∧ e.resp = .errEcc := by
  refine ⟨_, exec_psEccUe t s hbase h r, rfl, rfl, ?_⟩
  obtain ⟨hcount, haddr, hresp⟩ := storeUe_shows (s.dev.tick t) hlt
  dsimp only
  generalize (s.dev.tick t).storeUe addr = u at hcount haddr hresp
  obtain ⟨hue, hrest⟩ := Prod.mk.inj (eccView_readerFails u r)
  obtain ⟨hlo, hrest⟩ := Prod.mk.inj hrest
  obtain ⟨hhi, hr⟩ := Prod.mk.inj hrest
  refine ⟨(fld_congr hue _).trans hcount, ?_, hr.trans hresp⟩
  rw [← haddr]
  unfold Device.nat64 Device.nat
  rw [hlo, hhi]

/-- The channel whose read met the error ends with ERR_ECC (R187). -/
theorem psEccUe_channel (h : blockRead addr x = .failed) (c : Fin 16) (hbusy : s.dev.dmaBusy .shared c = true)
    (hwaits : (s.dev.chan .shared c).waits = false) :
    Completes (.psEccUe t addr x (.channel .shared c)) s fun e =>
      e.fld (ALYS_STATUS c) ALYS_STATUS_ERR = deEcc ∧ e.dmaBusy .shared c = false := by
  refine ⟨_, exec_psEccUe t s hbase h _, rfl, rfl, ?_⟩
  generalize hu : (s.dev.tick t).storeUe addr = u
  have hreg : u.reg (aly .shared c + alyCtrl) = s.dev.reg (aly .shared c + alyCtrl) := by
    rw [← hu]
    exact reg_storeUe_channel (s.dev.tick t) c (by decide)
  have hchan : (u.chan .shared c).waits = false := by
    rw [← hu]
    exact (congrArg (fun m => (sget (fun _ => ({} : ChanS)) m (chanKey .shared c)).waits) (dma_storeUe (s.dev.tick t) addr)).trans hwaits
  have hgo : u.dmaBusy .shared c = true := (flag_congr hreg _).trans hbusy
  have hend : u.readerFails (.channel .shared c) = u.dmaEnd .shared c deEcc := if_pos hgo
  obtain ⟨herr, hidle, -, -⟩ := dmaEnd_shows u .shared c (err := deEcc) (by decide) hchan
  dsimp only
  rw [hend, channelStatus_eq]
  exact ⟨herr, hidle⟩

end

theorem refreshDue_completes (bank : Fin 256) (granted : Nat) (hon : s.dev.storeOff = false) :
    Completes (.refreshDue t bank granted) s fun e =>
      sget (fun _ => 0) e.ps.postponed bank = min 8 (sget (fun _ => 0) s.dev.ps.postponed bank + 1 - granted) ∧
      ∀ a, e.reg a = s.dev.reg a := by
  have hgo : ¬((s.dev.tick t).storeOff && !(s.dev.tick t).ps.entering) = true := by
    rw [show (s.dev.tick t).storeOff = false from hon, Bool.false_and]
    decide
  refine ⟨_, rfl, rfl, rfl, ?_⟩
  dsimp only
  rw [if_neg hgo]
  exact ⟨sget_put _ _ _ _, fun _ => rfl⟩

section

variable {addr : Nat} (hsr : s.dev.flag RDB_STATUS RDB_STATUS_SR = false) (hin : s.dev.inStore addr = true)

include hsr hin

/-- An access to the installed store, out of self-refresh, opens its row now, or waits for the next interval of its bank (R198). -/
theorem exec_activate : exec (.activate t addr) s =
    .next { s with dev := (s.dev.tick t).openRow (s.dev.placeOf (addr - storeBase)).bankNo (s.dev.placeOf (addr - storeBase)).row } := by
  have hopen : ¬((s.dev.tick t).flag RDB_STATUS RDB_STATUS_SR || decide (addr < storeBase) ||
      decide (storeBase + (s.dev.tick t).storeBlocks * 2 ^ 20 ≤ addr)) = true := by
    unfold Device.inStore at hin
    simp only [Bool.and_eq_true, decide_eq_true_eq] at hin
    obtain ⟨hlo, hhi⟩ := hin
    rw [flag_tick, hsr]
    simp only [Bool.false_or, Bool.or_eq_true, decide_eq_true_eq, not_or, Nat.not_lt, Nat.not_le]
    exact ⟨hlo, hhi⟩
  refine congrArg (fun d => Host.Outcome.next { s with dev := d }) ?_
  dsimp only
  rw [if_neg hopen]
  rfl

theorem activate_within (h : sget (fun _ => 0) s.dev.ps.acts (s.dev.placeOf (addr - storeBase)).bankNo < s.dev.rhT) :
    Completes (.activate t addr) s fun e =>
      sget (fun _ => 0) e.ps.acts (s.dev.placeOf (addr - storeBase)).bankNo =
        sget (fun _ => 0) s.dev.ps.acts (s.dev.placeOf (addr - storeBase)).bankNo + 1 ∧
      sget (fun _ => []) e.ps.rows (s.dev.placeOf (addr - storeBase)).bankNo =
        (rhUpdate s.dev.rhT (sget (fun _ => []) s.dev.ps.rows (s.dev.placeOf (addr - storeBase)).bankNo)
          (s.dev.placeOf (addr - storeBase)).row).1 ∧
      OnlyRegs { s.dev.tick t with ps := e.ps } e [RDB_RH_CNT] := by
  obtain ⟨hacts, hrows, -, honly⟩ := activateNow_shows (s.dev.tick t) (s.dev.placeOf (addr - storeBase)).bankNo (s.dev.placeOf (addr - storeBase)).row
  refine ⟨_, exec_activate t s hsr hin, rfl, rfl, ?_⟩
  dsimp only
  rw [show (s.dev.tick t).openRow _ _ = _ from if_pos h]
  exact ⟨hacts, hrows, honly⟩

theorem activate_beyond (h : s.dev.rhT ≤ sget (fun _ => 0) s.dev.ps.acts (s.dev.placeOf (addr - storeBase)).bankNo) :
    Completes (.activate t addr) s fun e =>
      sget (fun _ => []) e.ps.waiting (s.dev.placeOf (addr - storeBase)).bankNo =
        sget (fun _ => []) s.dev.ps.waiting (s.dev.placeOf (addr - storeBase)).bankNo ++ [(s.dev.placeOf (addr - storeBase)).row] ∧
      OnlyRegs { s.dev.tick t with ps := e.ps } e [RDB_ACT_DEFER] := by
  refine ⟨_, exec_activate t s hsr hin, rfl, rfl, ?_⟩
  dsimp only
  rw [show (s.dev.tick t).openRow _ _ = _ from if_neg (Nat.not_lt.mpr h)]
  exact ⟨sget_put (fun _ => []) s.dev.ps.waiting _ _, (StoreOnly.refl (s.dev.tick t) [RDB_ACT_DEFER]).setReg.modPs⟩

end

section

variable (bank : Fin 256)

theorem rhTableClear_completes :
    Completes (.rhTableClear t bank) s fun e => sget (fun _ => []) e.ps.rows bank = [] ∧ ∀ a, e.reg a = s.dev.reg a :=
  ⟨_, rfl, rfl, rfl, sget_put (fun _ => []) s.dev.ps.rows bank [], fun _ => rfl⟩

theorem actIntervalStart_completes :
    Completes (.actIntervalStart t bank) s fun e =>
      sget (fun _ => 0) e.ps.acts bank = min s.dev.rhT (sget (fun _ => []) s.dev.ps.waiting bank).length ∧
      sget (fun _ => []) e.ps.waiting bank = (sget (fun _ => []) s.dev.ps.waiting bank).drop s.dev.rhT := by
  refine ⟨_, rfl, rfl, rfl, ?_⟩
  dsimp only
  generalize hd : (s.dev.tick t).modPs _ = d
  have hacts : sget (fun _ => 0) d.ps.acts bank = 0 := by
    rw [← hd]
    exact sget_put (fun _ => 0) s.dev.ps.acts bank 0
  have hwaiting : sget (fun _ => []) d.ps.waiting bank = (sget (fun _ => []) s.dev.ps.waiting bank).drop s.dev.rhT := by
    rw [← hd]
    exact sget_put (fun _ => []) s.dev.ps.waiting bank _
  have hT : d.rhT = s.dev.rhT := by
    rw [← hd]
    rfl
  obtain ⟨hacts', hwaiting'⟩ := each_activateNow bank ((sget (fun _ => []) (s.dev.tick t).ps.waiting bank).take d.rhT) d
  rw [hacts', hwaiting', hacts, hwaiting, hT, List.length_take, Nat.zero_add]
  exact ⟨rfl, rfl⟩

end

end

/-- Settles O25: one lemma for each command. -/
theorem storeTracksAndGuards : Obligations.StoreTracksAndGuards := by
  intro t s
  refine ⟨fun hon => ⟨driftTrackTick_completes t s hon, patrolScrub_completes t s hon⟩, fun addr x => ⟨rfl, blockRead_one addr, ?_⟩, ?_,
    refreshDue_completes t s, ?_, fun bank => ⟨rhTableClear_completes t s bank, actIntervalStart_completes t s bank⟩⟩
  · exact fun y z hxy hxz hyz => ⟨blockRead_two addr hxy, blockRead_three addr hxy hxz hyz⟩
  · exact fun addr x hbase hlt => ⟨psEccCe_completes t s hbase, fun h => ⟨psEccUe_shows t s hbase hlt h, psEccUe_channel t s hbase h⟩⟩
  · exact fun addr hsr hin => ⟨activate_within t s hsr hin, activate_beyond t s hsr hin⟩

end Sys2Proof.Machine

end

section

set_option Elab.async false

namespace Sys2Proof.Machine

/-! # Self-refresh (R200, R202 to R204, R531) -/

section

variable (d : Device)

/-- The bit of the gate status that shows the store's clock reads what it was set to. -/
theorem natBit_storeClock (closed : Bool) : natBit ((d.storeClock closed).fld CLK_GATE_STATUS CLK_GATE_STATUS_CLOSED) 2 = closed := by
  unfold Device.storeClock
  rw [fld_setFld_natBit d CLK_GATE_STATUS (by decide) (by decide)]
  exact natBit_setNatBit_self _ closed 2

theorem reg_storeClock {a : Nat} (h : a ≠ CLK_GATE_STATUS) (closed : Bool) : (d.storeClock closed).reg a = d.reg a := reg_setFld_ne d _ _ h

theorem srBegin_enters (h : d.storeGated = false) : d.srBegin = d.modPs fun v => { v with entering := true } := by
  unfold Device.srBegin
  rw [h]
  rfl

/-- An activate changes RDB_RH_CNT alone among the registers. -/
theorem reg_activateNow {a : Nat} (h : a ≠ RDB_RH_CNT) (bank r : Nat) : (d.activateNow bank r).reg a = d.reg a := by
  obtain ⟨-, -, -, honly⟩ := activateNow_shows d bank r
  exact honly.reg (List.mem_singleton.not.mpr h)

theorem reg_finishWaiting {a : Nat} (h : a ≠ RDB_RH_CNT) : d.finishWaiting.reg a = d.reg a := by
  have hbank (x : Nat × List Nat) (e : Device) : (e.each x.2 fun r e => e.activateNow x.1 r).reg a = e.reg a :=
    each_keeps (p := fun e => e.reg a) (fun r e => reg_activateNow e h x.1 r) x.2 e
  exact each_keeps (p := fun e => e.reg a) hbank d.ps.waiting d

/-- Once the entry completes, the store is in self-refresh, its clock is stopped and no activate table holds an entry (R200, R202, R530). -/
theorem srFinish_shows :
    d.srFinish.flag RDB_STATUS RDB_STATUS_SR = true ∧ d.srFinish.ps.entering = false ∧ d.srFinish.ps.rows = [] ∧
      natBit (d.srFinish.fld CLK_GATE_STATUS CLK_GATE_STATUS_CLOSED) 2 = true ∧ d.srFinish.reg CLK_GATE = d.reg CLK_GATE := by
  unfold Device.srFinish
  have hfinish : d.finishWaiting.reg CLK_GATE = d.reg CLK_GATE := reg_finishWaiting d (by decide)
  generalize d.finishWaiting = u at hfinish
  have hreg {a : Nat} (h : a ≠ RDB_STATUS) : ((u.storeClock true).setFlag RDB_STATUS RDB_STATUS_SR true).reg a = (u.storeClock true).reg a :=
    reg_setFlag_ne _ _ _ h
  refine ⟨flag_setFlag_self (u.storeClock true) RDB_STATUS (by decide) (by decide) true, rfl, rfl, ?_, ?_⟩
  · exact (congrArg (natBit · 2) (fld_congr (hreg (by decide)) _)).trans (natBit_storeClock u true)
  · exact (hreg (by decide)).trans ((reg_storeClock u (by decide) true).trans hfinish)

end

section

variable (t : Nat) (s : State)

theorem srEnter_held (hst : s.dev.st = .held) (hgate : s.dev.storeGated = false) :
    Completes (.srEnter t) s fun e => e.ps.entering = true ∧ ∀ a, e.reg a = s.dev.reg a := by
  have henter : (s.dev.tick t).srEnter = (s.dev.tick t).modPs fun v => { v with entering := true } :=
    (if_pos hst).trans (srBegin_enters _ hgate)
  refine ⟨_, rfl, rfl, rfl, ?_⟩
  dsimp only
  rw [henter]
  exact ⟨rfl, fun _ => rfl⟩

theorem srEnter_refused (hst : s.dev.st ≠ .held) :
    Completes (.srEnter t) s fun e => e.ps = s.dev.ps ∧ e.flag RDB_STATUS RDB_STATUS_SR_REFUSED = true ∧
      OnlyRegs (s.dev.tick t) e [RDB_STATUS] := by
  have hrefuse : (s.dev.tick t).srEnter = (s.dev.tick t).setFlag RDB_STATUS RDB_STATUS_SR_REFUSED true := if_neg hst
  refine ⟨_, rfl, rfl, rfl, ?_⟩
  dsimp only
  rw [hrefuse]
  exact ⟨rfl, flag_setFlag_self _ RDB_STATUS (by decide) (by decide) true, (OnlyRegs.refl _ _).setFlag⟩

theorem srIdleTimeout_held (hst : s.dev.st = .held) (hgate : s.dev.storeGated = false)
    (hidle : s.dev.fld RDB_SR_CTRL RDB_SR_CTRL_IDLE_MS ≠ 0) :
    Completes (.srIdleTimeout t) s fun e => e.ps.entering = true ∧ ∀ a, e.reg a = s.dev.reg a := by
  refine ⟨_, rfl, rfl, rfl, ?_⟩
  dsimp only
  rw [if_pos ⟨hst, hidle⟩, srBegin_enters (s.dev.tick t) hgate]
  exact ⟨rfl, fun _ => rfl⟩

/-- An EXIT waits for the entry in progress (R204). -/
theorem srExit_waits (hentering : s.dev.ps.entering = true) :
    Completes (.srExit t) s fun e => e.ps.exitHeld = true ∧ e.ps.entering = true ∧ ∀ a, e.reg a = s.dev.reg a := by
  have hwait : (s.dev.tick t).srExit = (s.dev.tick t).modPs fun v => { v with exitHeld := true } := if_pos hentering
  refine ⟨_, rfl, rfl, rfl, ?_⟩
  dsimp only
  rw [hwait]
  exact ⟨rfl, hentering, fun _ => rfl⟩

theorem srExit_begins (hentering : s.dev.ps.entering = false) (hsr : s.dev.flag RDB_STATUS RDB_STATUS_SR = true) :
    Completes (.srExit t) s fun e => e.ps.exiting = true ∧
      natBit (e.fld CLK_GATE_STATUS CLK_GATE_STATUS_CLOSED) 2 = natBit (s.dev.fld CLK_GATE CLK_GATE_CLOSE) 2 ∧
      ∀ a, a ≠ CLK_GATE_STATUS → e.reg a = s.dev.reg a := by
  have hexit : (s.dev.tick t).srExit =
      ((s.dev.tick t).storeClock (natBit (s.dev.fld CLK_GATE CLK_GATE_CLOSE) 2)).modPs fun v => { v with exiting := true } := by
    have hno : ¬ (s.dev.tick t).ps.entering = true := by
      rw [tick_ps, hentering]
      decide
    exact (if_neg hno).trans (if_pos hsr)
  refine ⟨_, rfl, rfl, rfl, ?_⟩
  dsimp only
  rw [hexit]
  exact ⟨rfl, natBit_storeClock (s.dev.tick t) _, fun a ha => reg_storeClock (s.dev.tick t) ha _⟩

/-- The entry completes; an EXIT that waited runs at once, and restarts the clock but for a gate that CLK_GATE closes (R202, R204). -/
theorem srEntryComplete_completes (hentering : s.dev.ps.entering = true) :
    Completes (.srEntryComplete t) s fun e => e.flag RDB_STATUS RDB_STATUS_SR = true ∧ e.ps.entering = false ∧ e.ps.rows = [] ∧
      e.ps.exiting = s.dev.ps.exitHeld ∧ e.ps.exitHeld = false ∧ natBit (e.fld CLK_GATE_STATUS CLK_GATE_STATUS_CLOSED) 2 =
        (!s.dev.ps.exitHeld || natBit (s.dev.fld CLK_GATE CLK_GATE_CLOSE) 2) := by
  obtain ⟨hsr, hdone, hrows, hclosed, hgate⟩ := srFinish_shows (s.dev.tick t)
  refine ⟨_, rfl, rfl, rfl, ?_⟩
  dsimp only
  rw [if_pos (show (s.dev.tick t).ps.entering = true from hentering), tick_ps]
  generalize (s.dev.tick t).srFinish = u at hsr hdone hrows hclosed hgate ⊢
  cases s.dev.ps.exitHeld with
  | false => exact ⟨hsr, hdone, hrows, rfl, rfl, hclosed⟩
  | true =>
    refine ⟨(flag_congr (reg_storeClock u (by decide) _) _).trans hsr, hdone, hrows, rfl, rfl, ?_⟩
    exact (natBit_storeClock u _).trans (congrArg (natBit · 2) (fld_congr hgate _))

theorem srExitComplete_completes (hexiting : s.dev.ps.exiting = true) :
    Completes (.srExitComplete t) s fun e => e.flag RDB_STATUS RDB_STATUS_SR = false ∧ e.ps.exiting = false ∧
      OnlyRegs { s.dev.tick t with ps := e.ps } e [RDB_STATUS] := by
  refine ⟨_, rfl, rfl, rfl, ?_⟩
  dsimp only
  rw [if_pos (show (s.dev.tick t).ps.exiting = true from hexiting)]
  exact ⟨flag_setFlag_self (s.dev.tick t) RDB_STATUS (by decide) (by decide) false, rfl, (StoreOnly.refl (s.dev.tick t) [RDB_STATUS]).setFlag.modPs⟩

end

/-- Settles O26: one lemma for each command and the state that it meets. -/
theorem selfRefreshGoesRound : Obligations.SelfRefreshGoesRound := by
  intro t s
  exact ⟨fun hst hgate => ⟨srEnter_held t s hst hgate, srIdleTimeout_held t s hst hgate⟩, srEnter_refused t s,
    fun hentering => ⟨srExit_waits t s hentering, srEntryComplete_completes t s hentering⟩, srExit_begins t s, srExitComplete_completes t s⟩

end Sys2Proof.Machine

end

section

set_option Elab.async false

namespace Sys2Proof.Machine

/-! # General jobs (R193, R203, R239 to R247) -/

/-! The end of a job (R243, R245, R246). -/

section

variable (d : Device) (j : Job) (st err out : Nat)

/-- The state of a job that ended, its code, its output length and its tag (R245). -/
def Device.jobShown : Device :=
  let d := (d.setFld ARC_JOB_STATUS ARC_JOB_STATUS_STATE st).setFld ARC_JOB_STATUS ARC_JOB_STATUS_ERR err
  let d := d.setFld ARC_JOB_STATUS ARC_JOB_STATUS_COMPLETED (d.fld ARC_JOB_STATUS ARC_JOB_STATUS_COMPLETED + 1)
  (d.setNat ARC_JOB_OUT_LEN out).setNat ARC_JOB_TAG j.tag

theorem jobShown_only : OnlyRegs d (d.jobShown j st err out) [ARC_JOB_STATUS, ARC_JOB_OUT_LEN, ARC_JOB_TAG] :=
  (OnlyRegs.refl d _).setFld.setFld.setFld.setNat.setNat

theorem jobShown_shows (hst : st < 8) :
    (d.jobShown j st err out).fld ARC_JOB_STATUS ARC_JOB_STATUS_STATE = st ∧
      (d.jobShown j st err out).fld ARC_JOB_STATUS ARC_JOB_STATUS_ERR = err % 16 ∧
      (d.jobShown j st err out).nat ARC_JOB_OUT_LEN = out % 2 ^ 32 := by
  unfold Device.jobShown
  extract_lets d1 d2
  have hreg : ((d2.setNat ARC_JOB_OUT_LEN out).setNat ARC_JOB_TAG j.tag).reg ARC_JOB_STATUS = d2.reg ARC_JOB_STATUS :=
    (reg_setNat_ne _ _ (by decide)).trans (reg_setNat_ne d2 _ (by decide))
  have hlen : ((d2.setNat ARC_JOB_OUT_LEN out).setNat ARC_JOB_TAG j.tag).nat ARC_JOB_OUT_LEN = out % 2 ^ 32 :=
    (congrArg BitVec.toNat (reg_setNat_ne _ _ (by decide))).trans (nat_setNat_self d2 ARC_JOB_OUT_LEN out)
  refine ⟨?_, ?_, hlen⟩
  · rw [fld_congr hreg, fld_setFld_other d1 _ _ (by decide) (by decide), fld_setFld_other _ _ _ (by decide) (by decide),
      fld_setFld_self d _ (by decide)]
    exact Nat.mod_eq_of_lt hst
  · rw [fld_congr hreg, fld_setFld_other d1 _ _ (by decide) (by decide), fld_setFld_self _ _ (by decide)]
    rfl

/-- The unit of a job that ends is free (R229, R244). -/
def Device.unitFreed (d : Device) (r : RunJob) : Device :=
  let d := d.setArc (fun a => { a with run := none })
  if r.unit < 4 then (d.cmpBusy r.unit false).setFld ARC_STATUS ARC_STATUS_GEN_JOB 0 else d.setFld ARC_STATUS ARC_STATUS_CHK_BUSY 0

theorem unitFreed_only (r : RunJob) :
    OnlyRegs { d with arc := { d.arc with run := none } } (d.unitFreed r) [ARC_STATUS] := by
  have hfree : OnlyRegs { d with arc := { d.arc with run := none } } (d.setArc fun a => { a with run := none }) [ARC_STATUS] := OnlyRegs.refl _ _
  exact OnlyRegs.ite hfree.setFld.setFld hfree.setFld

theorem reg_unitFreed (r : RunJob) {a : Nat} (ha : a ≠ ARC_STATUS) : (d.unitFreed r).reg a = d.reg a :=
  (unitFreed_only d r).reg (List.mem_singleton.not.mpr ha)

theorem arc_unitFreed (r : RunJob) : (d.unitFreed r).arc.run = none ∧ (d.unitFreed r).arc.jobs = d.arc.jobs :=
  ⟨(unitFreed_only d r).keeps (p := fun e => e.arc.run) fun _ => rfl, (unitFreed_only d r).keeps (p := fun e => e.arc.jobs) fun _ => rfl⟩

theorem mem_unitFreed (r : RunJob) : (d.unitFreed r).mem = d.mem := (unitFreed_only d r).keeps (p := Device.mem) fun _ => rfl

/-- An undefined region changes memory and the count of such regions alone. -/
theorem scramble_only (a n : Nat) : ∃ m k, d.scramble a n = { d with mem := m, frees := k } := by
  obtain ⟨m, hm⟩ := setBytes_only ((List.range n).map fun i => Config.freeByte d.frees (a + i)) d a
  exact ⟨m, d.frees + 1, by rw [Device.scramble, hm]⟩

theorem jobEnd_idle (h : d.arc.run = none) : d.jobEnd j st err out = d.jobShown j st err out := by
  unfold Device.jobEnd
  extract_lets d1 d2 d3
  rw [show d3.arc.run = none from h]
  rfl

theorem jobEnd_running {r : RunJob} (h : d.arc.run = some r) :
    d.jobEnd j st err out =
      if err ≠ jeNone ∧ j.kind = 1 then ((d.jobShown j st err out).unitFreed r).scramble j.dst j.dstLen
      else (d.jobShown j st err out).unitFreed r := by
  unfold Device.jobEnd
  extract_lets d1 d2 d3
  rw [show d3.arc.run = some r from h]
  rfl

/-- What the end of a running job leaves beside its output region, its unit's release leaves. -/
theorem jobEnd_keeps {β : Type} {p : Device → β} (hp : ∀ e m k, p { e with mem := m, frees := k } = p e) {r : RunJob}
    (h : d.arc.run = some r) : p (d.jobEnd j st err out) = p ((d.jobShown j st err out).unitFreed r) := by
  rw [jobEnd_running d j st err out h]
  split
  · obtain ⟨m, k, hm⟩ := scramble_only ((d.jobShown j st err out).unitFreed r) j.dst j.dstLen
    rw [hm, hp]
  · rfl

/-- A running job ends: its unit is free, its state, code and output length are shown, and ARC_CTRL and the queue stay (R245, R246). -/
theorem jobEnd_shows {r : RunJob} (h : d.arc.run = some r) (hst : st < 8) :
    (d.jobEnd j st err out).arc.run = none ∧ (d.jobEnd j st err out).arc.jobs = d.arc.jobs ∧
      (d.jobEnd j st err out).fld ARC_JOB_STATUS ARC_JOB_STATUS_STATE = st ∧
      (d.jobEnd j st err out).fld ARC_JOB_STATUS ARC_JOB_STATUS_ERR = err % 16 ∧ (d.jobEnd j st err out).nat ARC_JOB_OUT_LEN = out % 2 ^ 32 ∧
      (d.jobEnd j st err out).reg ARC_CTRL = d.reg ARC_CTRL := by
  obtain ⟨hstate, hcode, hlen⟩ := jobShown_shows d j st err out hst
  have honly := jobShown_only d j st err out
  have hjobs : (d.jobShown j st err out).arc.jobs = d.arc.jobs := honly.keeps (p := fun e => e.arc.jobs) fun _ => rfl
  have hctrl : (d.jobShown j st err out).reg ARC_CTRL = d.reg ARC_CTRL := honly.reg (by decide)
  have hreg {a : Nat} (ha : a ≠ ARC_STATUS) : (d.jobEnd j st err out).reg a = (d.jobShown j st err out).reg a :=
    (jobEnd_keeps d j st err out (p := fun e => e.reg a) (fun _ _ _ => rfl) h).trans (reg_unitFreed _ r ha)
  have harc : (d.jobEnd j st err out).arc = ((d.jobShown j st err out).unitFreed r).arc :=
    jobEnd_keeps d j st err out (p := Device.arc) (fun _ _ _ => rfl) h
  obtain ⟨hnone, hkept⟩ := arc_unitFreed (d.jobShown j st err out) r
  rw [harc]
  exact ⟨hnone, hkept.trans hjobs, (fld_congr (hreg (by decide)) _).trans hstate, (fld_congr (hreg (by decide)) _).trans hcode,
    (congrArg BitVec.toNat (hreg (by decide))).trans hlen, (hreg (by decide)).trans hctrl⟩

/-- A job that ends done, or a verification, leaves memory as it stands (R244). -/
theorem jobEnd_mem {r : RunJob} (h : d.arc.run = some r) (hkeep : ¬(err ≠ jeNone ∧ j.kind = 1)) : (d.jobEnd j st err out).mem = d.mem := by
  rw [jobEnd_running d j st err out h, if_neg hkeep]
  exact (mem_unitFreed _ r).trans ((jobShown_only d j st err out).keeps (p := Device.mem) fun _ => rfl)

end

/-- What becomes of a running job whose source could be read (R243, R244). -/
def Device.jobDelivers (d : Device) (r : RunJob) (out : List Byte) (dstOk : Bool) : Device :=
  if r.job.kind = 2 then
    if r.job.verify r.input = jeNone then (d.chargeJob r.job 0).jobEnd r.job 2 jeNone 0
    else (d.chargeJob r.job 0).jobEnd r.job 3 (r.job.verify r.input) 0
  else if r.job.dstLen < out.length then d.jobEnd r.job 3 jeNoSpace 0
  else if !dstOk || touchesCheck r.job.dst out.length || d.regionGated r.job.dst then d.jobEnd r.job 3 jeDst 0
  else ((d.chargeJob r.job out.length).jobEnd r.job 2 jeNone out.length).setBytes r.job.dst out

section

variable (d : Device)

theorem chargeJob_keeps {β : Type} {p : Device → β} (hp : ∀ e f, p (Device.modPs e f) = p e) (j : Job) (n : Nat) :
    p (d.chargeJob j n) = p d := by
  unfold Device.chargeJob
  extract_lets d1
  have h1 : p d1 = p d := by
    unfold d1
    split
    · exact hp d _
    · rfl
  split
  · exact (hp d1 _).trans h1
  · exact h1

variable {d} {r : RunJob} {out : List Byte} (h : d.arc.run = some r)

include h

/-- A verification ends with its verdict (R244). -/
theorem jobDelivers_verifies (hkind : r.job.kind = 2) (dstOk : Bool) :
    (d.jobDelivers r out dstOk).arc.run = none ∧
      (d.jobDelivers r out dstOk).fld ARC_JOB_STATUS ARC_JOB_STATUS_STATE = (if r.job.verify r.input = jeNone then 2 else 3) ∧
      (d.jobDelivers r out dstOk).fld ARC_JOB_STATUS ARC_JOB_STATUS_ERR = r.job.verify r.input % 16 := by
  have hrun : (d.chargeJob r.job 0).arc.run = some r := (chargeJob_keeps d (p := fun e => e.arc.run) (fun _ _ => rfl) r.job 0).trans h
  unfold Device.jobDelivers
  rw [if_pos hkind]
  split
  · next hgood =>
    obtain ⟨hnone, -, hstate, hcode, -, -⟩ := jobEnd_shows _ r.job 2 jeNone 0 hrun (by decide)
    rw [hgood]
    exact ⟨hnone, hstate, hcode⟩
  · obtain ⟨hnone, -, hstate, hcode, -, -⟩ := jobEnd_shows _ r.job 3 (r.job.verify r.input) 0 hrun (by decide)
    exact ⟨hnone, hstate, hcode⟩

/-- A compression that fits ends done: its length is shown, and its stream alone is written (R243). -/
theorem jobDelivers_compresses (hkind : r.job.kind ≠ 2) (hfits : out.length ≤ r.job.dstLen) (hdst : touchesCheck r.job.dst out.length = false)
    (hgate : d.regionGated r.job.dst = false) :
    (d.jobDelivers r out true).arc.run = none ∧ (d.jobDelivers r out true).fld ARC_JOB_STATUS ARC_JOB_STATUS_STATE = 2 ∧
      (d.jobDelivers r out true).fld ARC_JOB_STATUS ARC_JOB_STATUS_ERR = jeNone ∧
      (d.jobDelivers r out true).nat ARC_JOB_OUT_LEN = out.length % 2 ^ 32 ∧
      (∀ i < out.length, (d.jobDelivers r out true).byte (r.job.dst + i) = out.getD i 0) ∧
      ∀ a, a < r.job.dst ∨ r.job.dst + out.length ≤ a → (d.jobDelivers r out true).byte a = d.byte a := by
  have hwrite : ¬(!true || touchesCheck r.job.dst out.length || d.regionGated r.job.dst) = true := by
    rw [hdst, hgate]
    decide
  have hdeliver : d.jobDelivers r out true = ((d.chargeJob r.job out.length).jobEnd r.job 2 jeNone out.length).setBytes r.job.dst out :=
    (if_neg hkind).trans ((if_neg (Nat.not_lt.mpr hfits)).trans (if_neg hwrite))
  have hrun : (d.chargeJob r.job out.length).arc.run = some r :=
    (chargeJob_keeps d (p := fun e => e.arc.run) (fun _ _ => rfl) r.job out.length).trans h
  obtain ⟨hnone, -, hstate, hcode, hlen, -⟩ := jobEnd_shows _ r.job 2 jeNone out.length hrun (by decide)
  have hmem : ((d.chargeJob r.job out.length).jobEnd r.job 2 jeNone out.length).mem = d.mem :=
    (jobEnd_mem _ r.job 2 jeNone out.length hrun fun c => c.1 rfl).trans
      (chargeJob_keeps d (p := Device.mem) (fun _ _ => rfl) r.job out.length)
  rw [hdeliver]
  generalize (d.chargeJob r.job out.length).jobEnd r.job 2 jeNone out.length = u at hnone hstate hcode hlen hmem ⊢
  have hreg (a : Nat) : (u.setBytes r.job.dst out).reg a = u.reg a := reg_setBytes u out r.job.dst a
  obtain ⟨m, hm⟩ := setBytes_only out u r.job.dst
  refine ⟨?_, (fld_congr (hreg _) _).trans hstate, (fld_congr (hreg _) _).trans hcode, (congrArg BitVec.toNat (hreg _)).trans hlen,
    fun i hi => byte_setBytes_in out u r.job.dst i hi, fun a ha => ?_⟩
  · rw [hm]
    exact hnone
  · rw [byte_setBytes_out out u r.job.dst a ha]
    exact byte_congr hmem a

end

/-! What stops when the codec is disabled (R247). -/

section

variable (d : Device)

/-- What the stop of chains and images leaves: the running job, how the last one ended, and the codec's control. -/
def jobView (d : Device) : Option RunJob × Word × Word := (d.arc.run, d.reg ARC_JOB_STATUS, d.reg ARC_CTRL)

variable {d} in
theorem jobView_congr {e : Device} (hrun : e.arc.run = d.arc.run) (hstatus : e.reg ARC_JOB_STATUS = d.reg ARC_JOB_STATUS)
    (hctrl : e.reg ARC_CTRL = d.reg ARC_CTRL) : jobView e = jobView d := by
  unfold jobView
  rw [hrun, hstatus, hctrl]

theorem jobView_setReg {a : Nat} (hstatus : ARC_JOB_STATUS ≠ a) (hctrl : ARC_CTRL ≠ a) (v : Word) : jobView (d.setReg a v) = jobView d :=
  jobView_congr rfl (reg_setReg_ne d v hstatus) (reg_setReg_ne d v hctrl)

theorem jobView_post (typ : Nat) (nmi : Bool) (code wsn data : Nat) : jobView (d.post typ nmi code wsn data) = jobView d :=
  jobView_congr (congrArg CodecS.run (post_arc d _ _ _ _ _)) (reg_post d _ _ _ _ _ (by decide)) (reg_post d _ _ _ _ _ (by decide))

theorem jobView_dropChains : jobView d.dropChains = jobView d := by
  unfold Device.dropChains
  extract_lets keep gone
  refine each_keeps (p := jobView) (fun x e => ?_) gone d
  exact (jobView_setReg (e.setFld ARC_STATUS _ _) (a := PGS_ALLOC_BLOCKS) (by decide) (by decide) _).trans
    (jobView_setReg e (a := ARC_STATUS) (by decide) (by decide) _)

theorem jobView_ingestWait (b : Bool) : jobView (d.ingestWait b) = jobView d :=
  jobView_setReg d (a := PGS_ALLOC_PAGES) (by decide) (by decide) _

theorem jobView_freePages (l : List IngestS) (e : Device) : jobView (e.each l fun y e => e.freePage y.page) = jobView e :=
  each_keeps (f := fun (y : IngestS) e => e.freePage y.page) (fun _ e => jobView_setReg e (by decide) (by decide) _) l e

theorem jobView_writeBack (r : Nat) : jobView (d.writeBack r) = jobView d :=
  writeBack_keeps d (p := jobView) (fun _ _ _ _ => rfl) (fun _ _ _ => rfl) r

theorem jobView_haltRing (c : Nat) : jobView (d.haltRing 0 c) = jobView d :=
  (jobView_post _ _ _ _ _ _).trans ((jobView_setReg _ (by decide) (by decide) _).trans (jobView_setReg d (by decide) (by decide) _))

theorem jobView_endHead (v : Nat) : jobView (d.endHead v) = jobView d := by
  unfold Device.endHead
  split
  · rfl
  · extract_lets w data d1 d2 top d3
    have h1 : jobView d1 = jobView d := by
      unfold d1
      split
      · exact jobView_freePages _ (d.setIngest [])
      · rfl
    have h2 : jobView d2 = jobView d := (jobView_post _ _ _ _ _ _).trans ((jobView_dropChains d1).trans h1)
    split
    · calc jobView ((((d3.setNat (HIF_RING_CONS 0) _).writeBack 0).ingestWait false).haltRing 0 v)
        _ = jobView (((d3.setNat (HIF_RING_CONS 0) _).writeBack 0).ingestWait false) := jobView_haltRing _ v
        _ = jobView ((d3.setNat (HIF_RING_CONS 0) _).writeBack 0) := jobView_ingestWait _ false
        _ = jobView (d3.setNat (HIF_RING_CONS 0) _) := jobView_writeBack _ 0
        _ = jobView d3 := jobView_setReg d3 (by decide) (by decide) _
        _ = jobView d := h2
    · exact h2

theorem jobView_settleIngest (n : Nat) : ∀ d : Device, jobView (d.settleIngest n) = jobView d := by
  induction n with
  | zero => exact fun _ => rfl
  | succ n ih =>
    intro d
    unfold Device.settleIngest
    split
    · split
      · split
        · rfl
        · exact (ih _).trans (jobView_endHead d _)
      · rfl
    · rfl

theorem jobView_ingestFail (i v : Nat) : jobView (d.ingestFail i v) = jobView d := by
  unfold Device.ingestFail
  split
  · split
    · exact (jobView_settleIngest 3 _).trans (jobView_dropChains _)
    · rfl
  · rfl

theorem jobView_chainFail (c code : Nat) : jobView (d.chainFail c code) = jobView d := by
  unfold Device.chainFail
  split
  · rfl
  · extract_lets d1
    have h1 : jobView d1 = jobView d := jobView_setReg d (by decide) (by decide) _
    split
    · exact (jobView_ingestFail d1 _ _).trans h1
    · exact h1

theorem jobView_showImage : jobView d.showImage = jobView d :=
  showImage_keeps d fun q e v => jobView_setReg e (inspStatus_ne q (by decide)) (inspStatus_ne q (by decide)) v

theorem jobView_ledgerEvent {b : Nat} (hstatus : ARC_JOB_STATUS ∉ ledgerRegs b) (hctrl : ARC_CTRL ∉ ledgerRegs b) (o x y : Nat) :
    jobView (d.ledgerEvent b o x y) = jobView d :=
  jobView_congr (congrArg CodecS.run (ledgerEvent_arc d b o x y)) (reg_ledgerEvent d (by decide) (by decide) hstatus (by decide) (by decide) o x y)
    (reg_ledgerEvent d (by decide) (by decide) hctrl (by decide) (by decide) o x y)

theorem jobView_imageFail (x : InspImg) (code : Nat) : jobView (d.imageFail x code) = jobView d := by
  unfold Device.imageFail
  extract_lets d1 d2 d3 d4 d5
  have h3 : jobView d3 = jobView d2 := by
    obtain ⟨m, k, hm⟩ := scramble_only (d2.count ARC_INSP_CNT ARC_INSP_CNT_FAILED) (hostAddr x.buf.addr) x.buf.len
    unfold d3
    rw [hm]
    exact jobView_setReg d2 (by decide) (by decide) _
  have h5 : jobView d5 = jobView d4 := by
    unfold d5
    split
    · exact jobView_ledgerEvent d4 (by decide) (by decide) _ _ _
    · rfl
  calc jobView d5.showImage.showInsp
    _ = jobView d5.showImage := jobView_setReg _ (by decide) (by decide) _
    _ = jobView d5 := jobView_showImage d5
    _ = jobView d4 := h5
    _ = jobView d3 := jobView_post d3 _ _ _ _ _
    _ = jobView d2 := h3
    _ = jobView d1 := jobView_setReg d1 (by decide) (by decide) _

theorem jobAbort_running {r : RunJob} (h : d.arc.run = some r) : d.jobAbort = d.jobEnd r.job 4 jeAborted 0 := by
  unfold Device.jobAbort
  rw [h]

/-- A write of ARC_CTRL that disables the codec ends the running job, and BUSY shows that its work winds down (R247). -/
theorem arcCtrl_disables {r : RunJob} {w : Word} (h : d.arc.run = some r) (hw : ARC_CTRL_ENABLE.get w = 0) :
    (d.arcCtrl w).arc.run = none ∧ (d.arcCtrl w).flag ARC_CTRL ARC_CTRL_ENABLE = false ∧ (d.arcCtrl w).flag ARC_CTRL ARC_CTRL_BUSY = true ∧
      (d.arcCtrl w).fld ARC_JOB_STATUS ARC_JOB_STATUS_STATE = 4 := by
  unfold Device.arcCtrl
  extract_lets on cmp insp stopped job img busy d1 d2 d3 d4
  have hoff : ¬ on := by
    intro hon
    rw [show ARC_CTRL_ENABLE.get w = 1 from hon] at hw
    exact absurd hw (by decide)
  have hjob : job = true := by
    have hcmp : cmp = 0 := if_neg hoff
    unfold job
    rw [h]
    dsimp only
    rw [hcmp, decide_eq_false hoff]
    split
    · rw [natBit_eq, Nat.zero_testBit]
      rfl
    · rfl
  have hbusy : busy = true := by
    unfold busy
    rw [hjob, Bool.or_true, Bool.true_or]
  have h2 : jobView d2 = jobView d1 := each_keeps (p := jobView) (fun c e => jobView_chainFail e c jeAborted) stopped d1
  obtain ⟨hrun2, hctrl2⟩ := Prod.mk.inj h2
  obtain ⟨-, hctrl2⟩ := Prod.mk.inj hctrl2
  have h3 : d3 = d2.jobEnd r.job 4 jeAborted 0 := by
    unfold d3
    rw [if_pos hjob]
    exact jobAbort_running d2 (hrun2.trans h)
  obtain ⟨hrun3, -, hstate3, -, -, hctrl3⟩ := jobEnd_shows d2 r.job 4 jeAborted 0 (hrun2.trans h) (by decide)
  rw [← h3] at hrun3 hstate3 hctrl3
  have h4 : jobView d4 = jobView d3 := by
    unfold d4
    split
    · exact each_keeps (p := jobView) (fun x e => jobView_imageFail e x jeAborted) d3.arc.imgs d3
    · rfl
  obtain ⟨hrun4, hrest4⟩ := Prod.mk.inj h4
  obtain ⟨hstatus4, hctrl4⟩ := Prod.mk.inj hrest4
  have henable : d4.flag ARC_CTRL ARC_CTRL_ENABLE = false := by
    rw [flag_congr (hctrl4.trans (hctrl3.trans hctrl2))]
    unfold Device.flag Device.fld
    rw [reg_setReg_self, Fld.get_and, hw, Nat.zero_and]
    rfl
  refine ⟨hrun4.trans hrun3, ?_, ?_, ?_⟩
  · exact (flag_setFlag_other d4 _ _ (by decide) (by decide)).trans henable
  · rw [hbusy]
    exact flag_setFlag_self d4 _ (by decide) (by decide) true
  · exact (fld_congr ((reg_setFlag_ne d4 _ _ (by decide)).trans hstatus4) _).trans hstate3

end

/-! The queue (R240 to R242). -/

section

variable (d : Device)

theorem regs_showQueue {a : Nat} (h : a ≠ ARC_JOB_STATUS) : d.showQueue.reg a = d.reg a := reg_setFld_ne d _ _ h

/-- QUEUED shows how many jobs wait: 4 at most (R241). -/
theorem queued_showQueue (h : d.arc.jobs.length < 8) : d.showQueue.fld ARC_JOB_STATUS ARC_JOB_STATUS_QUEUED = d.arc.jobs.length :=
  (fld_setFld_self d ARC_JOB_STATUS (by decide) _).trans (Nat.mod_eq_of_lt h)

theorem bytes_tick (t n : Nat) : ∀ a, (d.tick t).bytes a n = d.bytes a n := by
  induction n with
  | zero => exact fun _ => rfl
  | succ n ih => exact fun a => congrArg (d.byte a :: ·) (ih (a + 1))

theorem jobWindow_setReg (w v : Word) : (d.setReg (ARC_JOB_D 7) v).jobWindow w = d.jobWindow w := by
  have hword {m : Nat} (hm : m < 7) : (d.setReg (ARC_JOB_D 7) v).nat (ARC_JOB_D m) = d.nat (ARC_JOB_D m) :=
    congrArg BitVec.toNat (reg_setReg_ne d v (by unfold ARC_JOB_D; omega))
  unfold Device.jobWindow
  dsimp only
  rw [hword (m := 0) (by decide), hword (m := 1) (by decide), hword (m := 2) (by decide), hword (m := 3) (by decide),
    hword (m := 4) (by decide), hword (m := 5) (by decide), hword (m := 6) (by decide)]

/-- A job runs on a unit: its input is read, and its state shows it (R242, R245). -/
def Device.jobRuns (d : Device) (j : Job) (rest : List Job) (unit : Nat) (bytes : List Byte) : Device :=
  let d := (d.setArc (fun a => { a with jobs := rest })).showQueue
  let d := d.setArc (fun a => { a with run := some { job := j, unit, input := bytes } })
  let d := ((d.setFld ARC_JOB_STATUS ARC_JOB_STATUS_STATE 1).setFld ARC_JOB_STATUS ARC_JOB_STATUS_ERR 0).setNat ARC_JOB_TAG j.tag
  d.setNat ARC_JOB_OUT_LEN 0

theorem jobRuns_shows (j : Job) (rest : List Job) (unit : Nat) (bytes : List Byte) :
    (d.jobRuns j rest unit bytes).arc.run = some { job := j, unit, input := bytes } ∧ (d.jobRuns j rest unit bytes).arc.jobs = rest ∧
      (d.jobRuns j rest unit bytes).fld ARC_JOB_STATUS ARC_JOB_STATUS_STATE = 1 ∧
      (d.jobRuns j rest unit bytes).reg ARC_JOB_TAG = BitVec.ofNat 32 j.tag := by
  unfold Device.jobRuns
  extract_lets d1 d2 d3
  refine ⟨rfl, rfl, ?_, ?_⟩
  · have hreg : (d3.setNat ARC_JOB_OUT_LEN 0).reg ARC_JOB_STATUS =
        ((d2.setFld ARC_JOB_STATUS ARC_JOB_STATUS_STATE 1).setFld ARC_JOB_STATUS ARC_JOB_STATUS_ERR 0).reg ARC_JOB_STATUS :=
      (reg_setNat_ne d3 _ (by decide)).trans (reg_setNat_ne _ _ (by decide))
    rw [fld_congr hreg, fld_setFld_other _ _ _ (by decide) (by decide), fld_setFld_self d2 _ (by decide)]
    rfl
  · exact (reg_setNat_ne d3 _ (by decide)).trans (reg_setNat_self _ _ _)

/-- What becomes of the oldest job when the codec is on and no job runs (R242). -/
def Device.jobBegins (d : Device) (j : Job) (rest : List Job) (input : List Byte) : Device :=
  if d.badJob j then ((d.setArc (fun a => { a with jobs := rest })).showQueue).jobEnd j 3 jeBadJob 0
  else
    let bytes := if 2 ^ 63 ≤ j.src then fitTo j.srcLen input else d.bytes j.src j.srcLen
    if j.kind = 2 then (d.jobRuns j rest 4 bytes).setFld ARC_STATUS ARC_STATUS_CHK_BUSY 1
    else
      match d.freeCompressor with
      | some c => ((d.jobRuns j rest c bytes).cmpBusy c true).setFld ARC_STATUS ARC_STATUS_GEN_JOB (2 ^ c)
      | none => d

theorem jobBegins_compresses {j : Job} {rest : List Job} {input : List Byte} {c : Nat} (hgood : d.badJob j = false) (hkind : j.kind ≠ 2)
    (hfree : d.freeCompressor = some c) (hhost : 2 ^ 63 ≤ j.src) :
    (d.jobBegins j rest input).arc.run = some { job := j, unit := c, input := fitTo j.srcLen input } ∧
      (d.jobBegins j rest input).arc.jobs = rest ∧ (d.jobBegins j rest input).fld ARC_JOB_STATUS ARC_JOB_STATUS_STATE = 1 ∧
      (d.jobBegins j rest input).reg ARC_JOB_TAG = BitVec.ofNat 32 j.tag := by
  have hbegin : d.jobBegins j rest input =
      ((d.jobRuns j rest c (fitTo j.srcLen input)).cmpBusy c true).setFld ARC_STATUS ARC_STATUS_GEN_JOB (2 ^ c) := by
    unfold Device.jobBegins
    rw [hgood, if_neg (by decide), if_pos hhost, if_neg hkind, hfree]
  obtain ⟨hrun, hqueue, hstate, htag⟩ := jobRuns_shows d j rest c (fitTo j.srcLen input)
  rw [hbegin]
  generalize d.jobRuns j rest c (fitTo j.srcLen input) = u at hrun hqueue hstate htag ⊢
  have hreg {a : Nat} (ha : a ≠ ARC_STATUS) : ((u.cmpBusy c true).setFld ARC_STATUS ARC_STATUS_GEN_JOB (2 ^ c)).reg a = u.reg a :=
    (reg_setFld_ne _ _ _ ha).trans (reg_setFld_ne u _ _ ha)
  exact ⟨hrun, hqueue, (fld_congr (hreg (by decide)) _).trans hstate, (hreg (by decide)).trans htag⟩

theorem jobBegins_verifies {j : Job} {rest : List Job} {input : List Byte} (hgood : d.badJob j = false) (hkind : j.kind = 2)
    (hlocal : j.src < 2 ^ 63) :
    (d.jobBegins j rest input).arc.run = some { job := j, unit := 4, input := d.bytes j.src j.srcLen } ∧
      (d.jobBegins j rest input).arc.jobs = rest ∧ (d.jobBegins j rest input).fld ARC_JOB_STATUS ARC_JOB_STATUS_STATE = 1 := by
  have hbegin : d.jobBegins j rest input = (d.jobRuns j rest 4 (d.bytes j.src j.srcLen)).setFld ARC_STATUS ARC_STATUS_CHK_BUSY 1 := by
    unfold Device.jobBegins
    rw [hgood, if_neg (by decide), if_neg (Nat.not_le.mpr hlocal), if_pos hkind]
  obtain ⟨hrun, hqueue, hstate, -⟩ := jobRuns_shows d j rest 4 (d.bytes j.src j.srcLen)
  rw [hbegin, setFld_arc, fld_congr (reg_setFld_ne _ _ _ (show ARC_JOB_STATUS ≠ ARC_STATUS by decide))]
  exact ⟨hrun, hqueue, hstate⟩

end

section

variable (t : Nat) (s : State)

theorem jobEnqueue_queues (w : Word) (hroom : s.dev.arc.jobs.length < 4) :
    Completes (.jobEnqueue t w) s fun e => e.arc.jobs = s.dev.arc.jobs ++ [s.dev.jobWindow w] ∧
      e.fld ARC_JOB_STATUS ARC_JOB_STATUS_QUEUED = s.dev.arc.jobs.length + 1 ∧ e.reg (ARC_JOB_D 7) = w := by
  refine ⟨_, rfl, rfl, rfl, ?_⟩
  dsimp only
  unfold Device.jobEnqueue
  extract_lets d j d1
  have hwindow : j = s.dev.jobWindow w := jobWindow_setReg (s.dev.tick t) w w
  have hjobs : d1.arc.jobs = s.dev.arc.jobs ++ [j] := rfl
  have hqueued : d1.fld ARC_JOB_STATUS ARC_JOB_STATUS_QUEUED = s.dev.arc.jobs.length + 1 := by
    have hlen : (s.dev.arc.jobs ++ [j]).length = s.dev.arc.jobs.length + 1 := List.length_append
    rw [← hlen]
    exact queued_showQueue (d.setArc fun a => { a with jobs := a.jobs ++ [j] }) (by change (s.dev.arc.jobs ++ [j]).length < 8; omega)
  have hword : d1.reg (ARC_JOB_D 7) = w := (regs_showQueue _ (by decide)).trans (reg_setReg_self _ _ _)
  rw [if_neg (show ¬ 4 ≤ d.arc.jobs.length from Nat.not_le.mpr hroom), ← hwindow]
  split
  · exact ⟨hjobs, (fld_congr (reg_setFld_ne d1 _ _ (by decide)) _).trans hqueued, (reg_setFld_ne d1 _ _ (by decide)).trans hword⟩
  · exact ⟨hjobs, hqueued, hword⟩

theorem jobEnqueue_overflows (w : Word) (hfull : 4 ≤ s.dev.arc.jobs.length) :
    Completes (.jobEnqueue t w) s fun e => e.arc = s.dev.arc ∧ e.flag ARC_JOB_STATUS ARC_JOB_STATUS_OVF = true := by
  have hovf : (s.dev.tick t).jobEnqueue w = ((s.dev.tick t).setReg (ARC_JOB_D 7) w).setFlag ARC_JOB_STATUS ARC_JOB_STATUS_OVF true := if_pos hfull
  refine ⟨_, rfl, rfl, rfl, ?_⟩
  dsimp only
  rw [hovf]
  exact ⟨rfl, flag_setFlag_self _ _ (by decide) (by decide) true⟩

section

variable {j : Job} {rest : List Job} (input : List Byte) (hjobs : s.dev.arc.jobs = j :: rest) (hon : s.dev.arcOn = true)
  (hidle : s.dev.arc.run = none)

include hjobs hon hidle

theorem exec_jobStart : exec (.jobStart t input) s = .next { s with dev := (s.dev.tick t).jobBegins j rest input } := by
  have hgo : ¬(!(s.dev.tick t).arcOn || (s.dev.tick t).arc.run.isSome) = true := by
    rw [show (s.dev.tick t).arcOn = true from hon, tick_arc, hidle]
    decide
  refine congrArg (fun d => Host.Outcome.next { s with dev := d }) ?_
  dsimp only
  rw [show (s.dev.tick t).arc.jobs = j :: rest from hjobs]
  dsimp only
  rw [if_neg hgo]
  rfl

theorem jobStart_compresses {c : Nat} (hgood : s.dev.badJob j = false) (hkind : j.kind ≠ 2) (hfree : s.dev.freeCompressor = some c)
    (hhost : 2 ^ 63 ≤ j.src) :
    Completes (.jobStart t input) s fun e => e.arc.run = some { job := j, unit := c, input := fitTo j.srcLen input } ∧ e.arc.jobs = rest ∧
      e.fld ARC_JOB_STATUS ARC_JOB_STATUS_STATE = 1 ∧ e.reg ARC_JOB_TAG = BitVec.ofNat 32 j.tag :=
  ⟨_, exec_jobStart t s input hjobs hon hidle, rfl, rfl, jobBegins_compresses (s.dev.tick t) hgood hkind hfree hhost⟩

theorem jobStart_verifies (hgood : s.dev.badJob j = false) (hkind : j.kind = 2) (hlocal : j.src < 2 ^ 63) :
    Completes (.jobStart t input) s fun e => e.arc.run = some { job := j, unit := 4, input := s.dev.bytes j.src j.srcLen } ∧
      e.arc.jobs = rest ∧ e.fld ARC_JOB_STATUS ARC_JOB_STATUS_STATE = 1 := by
  refine ⟨_, exec_jobStart t s input hjobs hon hidle, rfl, rfl, ?_⟩
  dsimp only
  obtain ⟨hrun, hqueue, hstate⟩ := jobBegins_verifies (s.dev.tick t) (rest := rest) (input := input) hgood hkind hlocal
  rw [bytes_tick] at hrun
  exact ⟨hrun, hqueue, hstate⟩

theorem jobStart_refuses (hbad : s.dev.badJob j = true) :
    Completes (.jobStart t input) s fun e => e.arc.run = none ∧ e.arc.jobs = rest ∧
      e.fld ARC_JOB_STATUS ARC_JOB_STATUS_STATE = 3 ∧ e.fld ARC_JOB_STATUS ARC_JOB_STATUS_ERR = jeBadJob := by
  refine ⟨_, exec_jobStart t s input hjobs hon hidle, rfl, rfl, ?_⟩
  dsimp only
  unfold Device.jobBegins
  rw [show (s.dev.tick t).badJob j = true from hbad, if_pos rfl]
  generalize hu : ((s.dev.tick t).setArc fun a => { a with jobs := rest }).showQueue = u
  have hrun : u.arc.run = none := by
    rw [← hu]
    exact hidle
  have hrest : u.arc.jobs = rest := by
    rw [← hu]
    rfl
  obtain ⟨hstate, hcode, -⟩ := jobShown_shows u j 3 jeBadJob 0 (by decide)
  have harc : (u.jobShown j 3 jeBadJob 0).arc = u.arc := (jobShown_only u j 3 jeBadJob 0).keeps fun _ => rfl
  rw [jobEnd_idle u j 3 jeBadJob 0 hrun, harc]
  exact ⟨hrun, hrest, hstate, hcode⟩

end

section

variable {r : RunJob} (x : Encoding) (hrun : s.dev.arc.run = some r)

include hrun

/-- With its source readable and its writes granted, a job ends by its kind (R193, R243, R244). -/
theorem exec_jobDone (dstOk : Bool) (hheld : s.dev.jobHeld r.job = false) (hsrc : touchesCheck r.job.src r.job.srcLen = false)
    (hgate : s.dev.regionGated r.job.src = false) :
    exec (.jobDone t x true dstOk) s = .next { s with dev := (s.dev.tick t).jobDelivers r (s.dev.jobOutput r x) dstOk } := by
  have hread : ¬(!true || touchesCheck r.job.src r.job.srcLen || (s.dev.tick t).regionGated r.job.src) = true := by
    rw [hsrc, show (s.dev.tick t).regionGated r.job.src = false from hgate]
    decide
  refine congrArg (fun d => Host.Outcome.next { s with dev := d }) ?_
  dsimp only
  rw [show (s.dev.tick t).arc.run = some r from hrun]
  dsimp only
  rw [show (s.dev.tick t).jobHeld r.job = false from hheld, if_neg (by decide), if_neg hread]
  rfl

theorem jobDone_verifies (dstOk : Bool) (hheld : s.dev.jobHeld r.job = false) (hsrc : touchesCheck r.job.src r.job.srcLen = false)
    (hgate : s.dev.regionGated r.job.src = false) (hkind : r.job.kind = 2) :
    Completes (.jobDone t x true dstOk) s fun e => e.arc.run = none ∧
      e.fld ARC_JOB_STATUS ARC_JOB_STATUS_STATE = (if r.job.verify r.input = jeNone then 2 else 3) ∧
      e.fld ARC_JOB_STATUS ARC_JOB_STATUS_ERR = r.job.verify r.input % 16 :=
  ⟨_, exec_jobDone t s x hrun dstOk hheld hsrc hgate, rfl, rfl, jobDelivers_verifies (d := s.dev.tick t) hrun hkind dstOk⟩

theorem jobDone_compresses (hheld : s.dev.jobHeld r.job = false) (hsrc : touchesCheck r.job.src r.job.srcLen = false)
    (hgate : s.dev.regionGated r.job.src = false) (hkind : r.job.kind ≠ 2) (hfits : (s.dev.jobOutput r x).length ≤ r.job.dstLen)
    (hdst : touchesCheck r.job.dst (s.dev.jobOutput r x).length = false) (hgateDst : s.dev.regionGated r.job.dst = false) :
    Completes (.jobDone t x true true) s fun e => e.arc.run = none ∧ e.fld ARC_JOB_STATUS ARC_JOB_STATUS_STATE = 2 ∧
      e.fld ARC_JOB_STATUS ARC_JOB_STATUS_ERR = jeNone ∧ e.nat ARC_JOB_OUT_LEN = (s.dev.jobOutput r x).length % 2 ^ 32 ∧
      (∀ i < (s.dev.jobOutput r x).length, e.byte (r.job.dst + i) = (s.dev.jobOutput r x).getD i 0) ∧
      ∀ a, a < r.job.dst ∨ r.job.dst + (s.dev.jobOutput r x).length ≤ a → e.byte a = s.dev.byte a :=
  ⟨_, exec_jobDone t s x hrun true hheld hsrc hgate, rfl, rfl, jobDelivers_compresses (d := s.dev.tick t) hrun hkind hfits hdst hgateDst⟩

theorem flush_counts (hkind : r.job.kind = 1) :
    Completes (.flush t) s fun e => e.arc.run = some { r with flushes := r.flushes + 1 } ∧ ∀ a, e.reg a = s.dev.reg a := by
  have hflush : (s.dev.tick t).jobFlush = (s.dev.tick t).setArc fun a => { a with run := some { r with flushes := r.flushes + 1 } } := by
    unfold Device.jobFlush
    rw [show (s.dev.tick t).arc.run = some r from hrun]
    exact if_pos hkind
  refine ⟨_, rfl, rfl, rfl, ?_⟩
  dsimp only
  rw [hflush]
  exact ⟨rfl, fun _ => rfl⟩

theorem abort_ends :
    Completes (.abort t) s fun e => e.arc.run = none ∧ e.fld ARC_JOB_STATUS ARC_JOB_STATUS_STATE = 4 ∧
      e.fld ARC_JOB_STATUS ARC_JOB_STATUS_ERR = jeAborted ∧ e.arc.jobs = s.dev.arc.jobs := by
  obtain ⟨hnone, hqueue, hstate, hcode, -, -⟩ := jobEnd_shows (s.dev.tick t) r.job 4 jeAborted 0 hrun (by decide)
  refine ⟨_, rfl, rfl, rfl, ?_⟩
  dsimp only
  rw [jobAbort_running (s.dev.tick t) hrun]
  exact ⟨hnone, hstate, hcode, hqueue⟩

theorem abortAll_empties :
    Completes (.abortAll t) s fun e => e.arc.run = none ∧ e.arc.jobs = [] ∧ e.fld ARC_JOB_STATUS ARC_JOB_STATUS_QUEUED = 0 ∧
      e.fld ARC_JOB_STATUS ARC_JOB_STATUS_STATE = 4 := by
  obtain ⟨hnone, -, hstate, -, -, -⟩ := jobEnd_shows (s.dev.tick t) r.job 4 jeAborted 0 hrun (by decide)
  refine ⟨_, rfl, rfl, rfl, ?_⟩
  dsimp only
  unfold Device.jobAbortAll
  rw [jobAbort_running (s.dev.tick t) hrun]
  generalize (s.dev.tick t).jobEnd r.job 4 jeAborted 0 = u at hnone hstate ⊢
  refine ⟨hnone, rfl, queued_showQueue (u.setArc fun a => { a with jobs := [] }) (Nat.zero_lt_succ 7), ?_⟩
  exact (fld_setFld_other _ _ _ (by decide) (by decide)).trans hstate

theorem arcadeDisable_aborts (w : Word) (hw : ARC_CTRL_ENABLE.get w = 0) :
    Completes (.arcadeDisable t w) s fun e => e.arc.run = none ∧ e.flag ARC_CTRL ARC_CTRL_ENABLE = false ∧
      e.flag ARC_CTRL ARC_CTRL_BUSY = true ∧ e.fld ARC_JOB_STATUS ARC_JOB_STATUS_STATE = 4 :=
  ⟨_, rfl, rfl, rfl, arcCtrl_disables (s.dev.tick t) hrun hw⟩

end

end

/-- Settles O28: one lemma for each command and what the job is. -/
theorem generalJobsRunAndEnd : Obligations.GeneralJobsRunAndEnd := by
  intro t s
  refine ⟨fun w => ⟨jobEnqueue_queues t s w, jobEnqueue_overflows t s w⟩, fun j rest input hjobs hon hidle => ⟨?_, ?_, ?_⟩,
    fun r x hrun => ⟨fun hheld hsrc hgate => ⟨?_, ?_⟩, flush_counts t s hrun, abort_ends t s hrun, abortAll_empties t s hrun,
      arcadeDisable_aborts t s hrun⟩⟩
  · exact fun c => jobStart_compresses t s input hjobs hon hidle
  · exact jobStart_verifies t s input hjobs hon hidle
  · exact jobStart_refuses t s input hjobs hon hidle
  · exact fun dstOk => jobDone_verifies t s x hrun dstOk hheld hsrc hgate
  · exact jobDone_compresses t s x hrun hheld hsrc hgate

end Sys2Proof.Machine

end

section

set_option Elab.async false

namespace Sys2Proof.Machine

/-! # Bands checked, RAW chains compressed (R189, R221 to R228) -/

/-- A band without the bytes that are not in the page store yet. -/
abbrev BandRec.bare (r : BandRec) : BandRec := { r with data := [] }

theorem recs_mapBand (p : Page) (st b : Nat) (f : BandRec → BandRec) :
    (p.mapBand st b f).recs = p.recs.map fun r => if r.station = st ∧ r.band = b then f r else r := recs_mapRecs p _

/-- Bands that differ in their bytes alone agree in what has been checked of them. -/
theorem checked_of_bare {l m : List BandRec} (h : l.map BandRec.bare = m.map BandRec.bare) {r : BandRec} (hr : r ∈ l) :
    ∃ x ∈ m, x.station = r.station ∧ x.band = r.band ∧ x.checked = r.checked := by
  have hmem : r.bare ∈ m.map BandRec.bare := by
    rw [← h]
    exact List.mem_map.mpr ⟨r, hr, rfl⟩
  obtain ⟨x, hx, hbare⟩ := List.mem_map.mp hmem
  have hst : x.bare.station = r.bare.station := congrArg _ hbare
  have hb : x.bare.band = r.bare.band := congrArg _ hbare
  have hchecked : x.bare.checked = r.bare.checked := congrArg _ hbare
  exact ⟨x, hx, hst, hb, hchecked⟩

/-- The bytes of a page's bands in the chains that it holds (R181). -/
def Device.chainsWritten (d : Device) (p : Page) : Device :=
  d.each (maskList 8 p.first.stations) fun s d => d.each (p.chainBands s) fun y d => d.putBand (p.chains.getD s []) y

section

variable {β : Type} {p : Device → β} (hm : ∀ e a b, p (Device.setByte e a b) = p e)

include hm

theorem putChain_keeps (blocks : List Nat) (l : List Byte) : ∀ (d : Device) (c : Nat), p (d.putChain blocks c l) = p d := by
  induction l with
  | nil => exact fun _ _ => rfl
  | cons b l ih => exact fun d c => (ih (d.setByte (chainAddr blocks c) b) (c + 1)).trans (hm d _ b)

theorem putBand_keeps (blocks : List Nat) (x : BandRec × Nat) (d : Device) : p (d.putBand blocks x) = p d :=
  each_keeps (fun (y : Nat × List Byte) e => putChain_keeps hm blocks y.2 e (subOff x.1 x.2 y.1)) x.1.data d

theorem chainsWritten_keeps (d : Device) (x : Page) : p (d.chainsWritten x) = p d := by
  have hstation (st : Nat) (e : Device) : p (e.each (x.chainBands st) fun y e => e.putBand (x.chains.getD st []) y) = p e :=
    each_keeps (fun y e => putBand_keeps hm (x.chains.getD st []) y e) _ e
  exact each_keeps hstation _ d

/-- Once all bands are stored and checked, memory and the pages in ingest change alone (R185). -/
theorem placeReady_keeps (hh : ∀ e f, p (Device.modHost e f) = p e) (d : Device) (i : Nat) : p (d.placeReady i) = p d := by
  unfold Device.placeReady
  split
  · rfl
  · next x _ =>
    split
    · extract_lets d1
      have h1 : p d1 = p d := chainsWritten_keeps hm d x.page
      unfold Device.setIngestAt Device.setIngest
      exact (hh d1 _).trans h1
    · rfl

end

section

variable (d : Device) {x : IngestS}

/-- The only page in ingest stays, its bands but for their bytes too. -/
theorem ingest_placeReady (h : d.host.ingest = [x]) :
    ∃ y, (d.placeReady 0).host.ingest = [y] ∧ y.page.recs.map BandRec.bare = x.page.recs.map BandRec.bare := by
  unfold Device.placeReady
  rw [h, List.getElem?_cons_zero]
  dsimp only
  split
  · have hwritten : (d.chainsWritten x.page).host.ingest = [x] :=
      (chainsWritten_keeps (p := fun e => e.host.ingest) (fun _ _ _ => rfl) d x.page).trans h
    refine ⟨{ x with page := x.page.mapRecs fun r => { r with data := [] } }, ?_, ?_⟩
    · change (d.chainsWritten x.page).host.ingest.set 0 _ = _
      rw [hwritten, List.set_cons_zero]
    · dsimp only
      rw [recs_mapRecs, List.map_map]
      rfl
  · exact ⟨x, h, rfl⟩

end

/-! Host-compressed bands (R221, R222). -/

/-- The page with one substream of a band read and passed. -/
def IngestS.passed (y : IngestS) (st b sub : Nat) (l : List Byte) : IngestS :=
  { y with page := y.page.mapBand st b fun r =>
      { r with checked := r.checked ||| 2 ^ sub, data := (sub, l) :: r.data.filter (fun x => x.1 != sub) } }

theorem passed_checked (y : IngestS) {st b sub : Nat} {l : List Byte} {r : BandRec} (hr : r ∈ (y.passed st b sub l).page.recs)
    (hst : r.station = st) (hb : r.band = b) : natBit r.checked sub = true := by
  unfold IngestS.passed at hr
  rw [recs_mapBand] at hr
  obtain ⟨x, -, rfl⟩ := List.mem_map.mp hr
  by_cases hx : x.station = st ∧ x.band = b
  · rw [if_pos hx]
    exact natBit_setNatBit_self x.checked true sub
  · rw [if_neg hx] at hst hb
    exact absurd ⟨hst, hb⟩ hx

section

variable (t : Nat) (s : State) (st : Station) (b : Nat) (sub : Fin 8) (bytes : List Byte) {y : IngestS} {r : BandRec}
  (hon : s.dev.arcOn = true) (hingest : s.dev.host.ingest = [y]) (hlive : y.live = true)
  (hfind : y.page.recs.find? (fun r => r.station == st.val && r.band == b && r.format != 0) = some r) (hnew : natBit r.checked sub = false)

include hon hingest hlive hfind hnew

/-- With the codec on, a substream of the only page in ingest that is not checked yet gets its verdict (R221). -/
theorem exec_streamCheckDone : exec (.streamCheckDone t 0 st b sub bytes) s = .next { s with dev :=
    (if checkContainer r.format (4 * (y.page.sideOf b).dots) (r.sub sub bytes) = jeNone then
      ((s.dev.tick t).setIngestAt 0 (y.passed st b sub (r.sub sub bytes))).placeReady 0
    else ((s.dev.tick t).arcErr sub st b 6 (checkContainer r.format (4 * (y.page.sideOf b).dots) (r.sub sub bytes))).ingestFail 0 psCodecFail) } := by
  have hgo : ¬(!(s.dev.tick t).arcOn || !y.live || natBit r.checked sub) = true := by
    rw [show (s.dev.tick t).arcOn = true from hon, hlive, hnew]
    decide
  refine congrArg (fun d => Host.Outcome.next { s with dev := d }) ?_
  dsimp only
  rw [show (s.dev.tick t).host.ingest = [y] from hingest]
  dsimp only [Fin.val_zero, List.getElem?_cons_zero]
  rw [hfind]
  dsimp only
  rw [if_neg hgo]
  rfl

theorem streamCheckDone_passes (hgood : checkContainer r.format (4 * (y.page.sideOf b).dots) (r.sub sub bytes) = jeNone) :
    Completes (.streamCheckDone t 0 st b sub bytes) s fun e => ∃ z, e.host.ingest = [z] ∧
      ∀ r ∈ z.page.recs, r.station = st.val → r.band = b → natBit r.checked sub = true := by
  refine ⟨_, exec_streamCheckDone t s st b sub bytes hon hingest hlive hfind hnew, rfl, rfl, ?_⟩
  dsimp only
  rw [if_pos hgood]
  have hset : ((s.dev.tick t).setIngestAt 0 (y.passed st b sub (r.sub sub bytes))).host.ingest = [y.passed st b sub (r.sub sub bytes)] := by
    change s.dev.host.ingest.set 0 _ = _
    rw [hingest, List.set_cons_zero]
  obtain ⟨z, hz, hbare⟩ := ingest_placeReady _ hset
  refine ⟨z, hz, fun a ha hst hb => ?_⟩
  obtain ⟨x, hx, hxst, hxb, hxc⟩ := checked_of_bare hbare ha
  rw [← hxc]
  exact passed_checked y hx (hxst.trans hst) (hxb.trans hb)

theorem streamCheckDone_fails (hbad : checkContainer r.format (4 * (y.page.sideOf b).dots) (r.sub sub bytes) ≠ jeNone) :
    Completes (.streamCheckDone t 0 st b sub bytes) s fun e => e.host.ingest = [] ∧ e.ringHalted 0 = true ∧
      e.fld (HIF_RING_STATUS 0) HIF_RING_STATUS_HALT_CAUSE = psCodecFail := by
  refine ⟨_, exec_streamCheckDone t s st b sub bytes hon hingest hlive hfind hnew, rfl, rfl, ?_⟩
  dsimp only
  rw [if_neg hbad]
  generalize hu : (s.dev.tick t).arcErr sub st b 6 _ = u
  have hkept : u.host.ingest = [y] := by
    rw [← hu]
    exact hingest
  obtain ⟨hempty, hhalted, hcause, -⟩ := ingestFail_halts u (v := psCodecFail) hkept hlive (by decide) (by decide)
  exact ⟨hempty, hhalted, hcause⟩

end

/-! RAW chains (R224 to R227). -/

section

variable (d : Device)

theorem freeBlocks_setFree {n : Nat} (h : n < 65536) : (d.setFree n).freeBlocks = n :=
  (fld_setFld_self d PGS_ALLOC_BLOCKS (by decide) n).trans (Nat.mod_eq_of_lt h)

theorem freeBlocks_lt : d.freeBlocks < 65536 := fld_lt d _ _

theorem freeBlocks_cmpBusy (c : Nat) (b : Bool) : (d.cmpBusy c b).freeBlocks = d.freeBlocks := fld_congr (reg_setFld_ne d _ _ (by decide)) _

theorem arcChain_setArcChain (c : Nat) (x : Option ChainRun) : (d.setArcChain c x).arcChain c = x := sget_put (fun _ => none) d.arc.chains c x

/-- A compressor within its certified time is not slow (R55). -/
theorem slowCompressor_within (unit bytes : Nat) {times : List Nat} (h : ∀ y ∈ times, y ≤ bytesTime bytes (compressorRate d.paceNow)) :
    d.slowCompressor unit bytes times = d := by
  have hone {y : Nat} (hy : y ∈ times) : d.slowStage shared unit (bytesTime bytes (compressorRate d.paceNow)) y = d :=
    if_neg (Nat.not_lt.mpr (h y hy))
  unfold Device.slowCompressor Device.each
  induction times with
  | nil => rfl
  | cons y rest ih =>
    rw [List.foldl_cons]
    dsimp only
    rw [hone List.mem_cons_self]
    exact ih (fun z hz => h z (List.mem_cons_of_mem y hz)) fun hz => hone (List.mem_cons_of_mem y hz)

/-- Once a chain's only RAW band is compressed, the chain has none (R224). -/
theorem rawBands_compressed {p : Page} {st : Nat} {b z : BandRec} (h : p.rawBands st = [b]) (hz : z.format ≠ 0) :
    (p.mapBand b.station b.band fun _ => z).rawBands st = [] := by
  unfold Page.rawBands
  rw [recs_mapBand, List.filter_eq_nil_iff]
  intro r hr
  obtain ⟨x, hx, rfl⟩ := List.mem_map.mp hr
  split
  · simp [hz]
  · next hother =>
    intro hraw
    have hmem : x ∈ p.rawBands st := List.mem_filter.mpr ⟨hx, hraw⟩
    rw [h, List.mem_singleton] at hmem
    exact hother ⟨congrArg BandRec.station hmem, congrArg BandRec.band hmem⟩

/-- The page with more blocks for a station's chain. -/
def Page.grown (p : Page) (st : Nat) (blocks : List Nat) : Page := { p with chains := p.chains.set st (p.chains.getD st [] ++ blocks) }

/-- A chain gets the blocks that it needs where so many are free (R189, R225). -/
theorem growChain_grows {p : Page} {st n more : Nat} (hmore : n - (p.chains.getD st []).length = more) (h : more ≤ d.freeBlocks) :
    d.growChain p st n = some (d.setFree (d.freeBlocks - more), p.grown st (d.nextBlocks more)) := by
  subst hmore
  exact if_pos h

/-- The bytes of a compressed band are charged, and what its chain reserved is free to be taken (R194, R225). -/
def Device.bandCharged (d : Device) (z : BandRec) (reserved : Nat) : Device :=
  let d := (d.addSat ARC_RAWPASS_CNT wholeWord (popCount 8 z.rawPass)).chargeIngest z.size
  d.setFree (d.freeBlocks + reserved)

theorem reg_chargeIngest (n a : Nat) : (d.chargeIngest n).reg a = d.reg a := reg_congr (modPs_regs d _) a

theorem freeBlocks_bandCharged (z : BandRec) {reserved : Nat} (h : d.freeBlocks + reserved < 65536) :
    (d.bandCharged z reserved).freeBlocks = d.freeBlocks + reserved := by
  unfold Device.bandCharged
  extract_lets d1
  have h1 : d1.freeBlocks = d.freeBlocks := by
    unfold d1 Device.freeBlocks
    rw [fld_congr (reg_chargeIngest _ _ _)]
    exact fld_congr (reg_setFld_ne d _ _ (by decide)) _
  rw [h1]
  exact freeBlocks_setFree d1 h

/-- A chain is finished: its page is `y`, and its compressor is free (R224). -/
def Device.chainFinished (d : Device) (c : Nat) (y : IngestS) : Device :=
  (((d.setIngestAt 0 y).setArcChain c none).cmpBusy c false).placeReady 0

theorem chainFinished_shows {x : IngestS} (h : d.host.ingest = [x]) (c : Nat) (y : IngestS) :
    (d.chainFinished c y).arcChain c = none ∧ (d.chainFinished c y).freeBlocks = d.freeBlocks ∧
      ∃ z, (d.chainFinished c y).host.ingest = [z] ∧ z.page.recs.map BandRec.bare = y.page.recs.map BandRec.bare := by
  unfold Device.chainFinished
  have hchain : (((d.setIngestAt 0 y).setArcChain c none).cmpBusy c false).arcChain c = none := arcChain_setArcChain _ c none
  have hfree : (((d.setIngestAt 0 y).setArcChain c none).cmpBusy c false).freeBlocks = d.freeBlocks := freeBlocks_cmpBusy _ c false
  have hingest : (((d.setIngestAt 0 y).setArcChain c none).cmpBusy c false).host.ingest = [y] := by
    change d.host.ingest.set 0 y = [y]
    rw [h, List.set_cons_zero]
  generalize ((d.setIngestAt 0 y).setArcChain c none).cmpBusy c false = u at hchain hfree hingest ⊢
  refine ⟨?_, ?_, ingest_placeReady u hingest⟩
  · exact (placeReady_keeps (p := fun e => e.arcChain c) (fun _ _ _ => rfl) (fun _ _ => rfl) u 0).trans hchain
  · exact (placeReady_keeps (p := Device.freeBlocks) (fun _ _ _ => rfl) (fun _ _ => rfl) u 0).trans hfree

variable {c : Nat} {r : ChainRun} {x : IngestS} {b : BandRec} {p : Page} {need more : Nat}

/-- The last RAW band of a chain is compressed into the space reserved for it, and what is left of that is free (R224 to R227). -/
theorem chainBandDone_last {choices : List (List BlockChoice)} {z : BandRec} (hz : d.compressed x.page.first.dots b choices = z)
    (hp : x.page.mapBand b.station b.band (fun _ => z) = p) (hneed : blocksFor (p.chainBytes r.station) = need)
    (hmore : need - (p.chains.getD r.station []).length = more)
    (hingest : d.host.ingest = [x]) (hraw : x.page.rawBands r.station = [b])
    (hfits : ((p.chains.set r.station []).map (fun l => l.length)).sum + need ≤ d.pageBlocks)
    (hfree : more ≤ d.freeBlocks + r.reserved) (hlt : d.freeBlocks + r.reserved < 65536) :
    (d.chainBandDone c 0 r x b choices).arcChain c = none ∧
      (d.chainBandDone c 0 r x b choices).freeBlocks = d.freeBlocks + r.reserved - more ∧
      ∃ y, (d.chainBandDone c 0 r x b choices).host.ingest = [y] ∧ y.page.recs.map BandRec.bare = p.recs.map BandRec.bare := by
  have hnone : p.rawBands r.station = [] := by
    rw [← hp, ← hz]
    exact rawBands_compressed hraw (show (1 : Nat) ≠ 0 by decide)
  have hcharged := freeBlocks_bandCharged d z hlt
  have hgrow := growChain_grows (d.bandCharged z r.reserved) hmore (hcharged.symm ▸ hfree)
  rw [hcharged] at hgrow
  obtain ⟨hchain, hblocks, hpage⟩ := chainFinished_shows ((d.bandCharged z r.reserved).setFree (d.freeBlocks + r.reserved - more))
    hingest c { x with page := p.grown r.station ((d.bandCharged z r.reserved).nextBlocks more) }
  replace hblocks := hblocks.trans (freeBlocks_setFree (d.bandCharged z r.reserved) (Nat.lt_of_le_of_lt (Nat.sub_le _ more) hlt))
  subst hz hp hneed
  refine Device.chainBandDone.fun_cases_unfolding d c 0 r x b choices
    (fun e => e.arcChain c = none ∧ e.freeBlocks = d.freeBlocks + r.reserved - more ∧
      ∃ y, e.host.ingest = [y] ∧ y.page.recs.map BandRec.bare =
        (x.page.mapBand b.station b.band fun _ => d.compressed x.page.first.dots b choices).recs.map BandRec.bare) ?_ ?_ ?_ ?_
  · exact fun hover => absurd hover (Nat.not_lt.mpr hfits)
  · exact fun _ hfail => absurd (hgrow.symm.trans hfail) (Option.some_ne_none _)
  · intro _ _ _ _ _ _ _ e y hgrown
    obtain ⟨rfl, rfl⟩ := Prod.mk.inj (Option.some.inj (hgrown.symm.trans hgrow))
    exact fun _ => ⟨hchain, hblocks, hpage⟩
  · intro _ _ _ _ _ _ _ e y hgrown
    obtain ⟨rfl, rfl⟩ := Prod.mk.inj (Option.some.inj (hgrown.symm.trans hgrow))
    exact fun hrest => absurd (List.isEmpty_iff.mpr hnone) hrest

/-- A chain that neither waits for space nor for its payloads compresses its next band (R225, R226). -/
theorem chainBands_one (choices : List (List BlockChoice)) (hchain : d.arcChain c = some r) (hready : r.waits = false)
    (hingest : d.host.ingest = [x]) (hslot : x.slot = r.slot) (hraw : x.page.rawBands r.station = [b]) (hread : b.checked = 255)
    (hon : d.storeOff = false) (hheld : d.storeHeld = false) :
    d.chainBands c [choices] = d.chainBandDone c 0 r x b choices := by
  have hfind : d.host.ingest.findIdx? (fun y => y.slot == r.slot) = some 0 := by
    rw [hingest, List.findIdx?_cons, hslot, beq_self_eq_true, if_pos rfl]
  have hget : d.host.ingest[0]? = some x := by
    rw [hingest]
    rfl
  have hhead : (x.page.rawBands r.station).head? = some b := by
    rw [hraw]
    rfl
  have hgo : ¬(b.checked ≠ 255 ∨ d.storeOff = true ∨ d.storeHeld = true) := by
    rw [hread, hon, hheld]
    decide
  unfold Device.chainBands
  rw [hchain]
  dsimp only
  rw [hfind]
  dsimp only
  rw [hget, hready]
  dsimp only
  rw [Bool.false_and, if_neg Bool.false_ne_true, if_neg Bool.false_ne_true, hchain, hhead]
  dsimp only
  rw [if_neg hgo]
  rfl

end

/-- A free compressor's chain with the space that it reserves (R225). -/
def Device.chainTaken (d : Device) (c : Nat) (x : IngestS) (st need : Nat) : Device :=
  ((d.setFree (d.freeBlocks - need)).setArcChain c (some { slot := x.slot, station := st, reserved := need })).cmpBusy c true

section

variable (t : Nat) (s : State) (c : Fin 4)

section

variable {x : IngestS} {st need : Nat} (hon : s.dev.cmpOn c = true) (hidle : s.dev.arcChain c = none) (hjob : s.dev.jobOn c = false)
  (hnext : s.dev.nextChain = some (x, st)) (hneed : s.dev.chainNeed x.page st = need)

include hon hidle hjob hnext hneed

theorem exec_chainCompressStart : exec (.chainCompressStart t c) s = .next { s with dev :=
    (if need ≤ s.dev.freeBlocks then (s.dev.tick t).chainTaken c x st need else (s.dev.tick t).waitBlocks need) } := by
  have hgo : ¬(!(s.dev.tick t).cmpOn c || ((s.dev.tick t).arcChain c).isSome || (s.dev.tick t).jobOn c) = true := by
    rw [show (s.dev.tick t).cmpOn c = true from hon, show (s.dev.tick t).arcChain c = none from hidle,
      show (s.dev.tick t).jobOn c = false from hjob]
    decide
  refine congrArg (fun d => Host.Outcome.next { s with dev := d }) ?_
  dsimp only
  rw [if_neg hgo, show (s.dev.tick t).nextChain = some (x, st) from hnext]
  dsimp only
  rw [show (s.dev.tick t).chainNeed x.page st = need from hneed]
  rfl

theorem chainCompressStart_takes (hfree : need ≤ s.dev.freeBlocks) :
    Completes (.chainCompressStart t c) s fun e => e.arcChain c = some { slot := x.slot, station := st, reserved := need } ∧
      e.freeBlocks = s.dev.freeBlocks - need ∧ natBit (e.fld ARC_STATUS ARC_STATUS_CMP_BUSY) c = true := by
  refine ⟨_, exec_chainCompressStart t s c hon hidle hjob hnext hneed, rfl, rfl, ?_⟩
  dsimp only
  rw [if_pos hfree]
  have hlt : s.dev.freeBlocks - need < 65536 := Nat.lt_of_le_of_lt (Nat.sub_le _ _) (freeBlocks_lt s.dev)
  change ((s.dev.tick t).chainTaken c x st need).arcChain c = _ ∧ _
  have hfrom : (s.dev.tick t).freeBlocks = s.dev.freeBlocks := rfl
  generalize s.dev.tick t = d at hfrom ⊢
  unfold Device.chainTaken
  rw [hfrom]
  refine ⟨arcChain_setArcChain (d.setFree (s.dev.freeBlocks - need)) c _, ?_, ?_⟩
  · exact (freeBlocks_cmpBusy _ c true).trans (freeBlocks_setFree d hlt)
  · generalize (d.setFree (s.dev.freeBlocks - need)).setArcChain c _ = u
    exact (congrArg (fun n => natBit n c) (fld_setFld_natBit u ARC_STATUS (by decide) c.isLt true)).trans (natBit_setNatBit_self _ true c)

theorem chainCompressStart_waits (hshort : s.dev.freeBlocks < need) :
    Completes (.chainCompressStart t c) s fun e => e.flag PGS_ALLOC_PAGES PGS_ALLOC_PAGES_WAIT = true ∧
      e.ps.short = need ∧ OnlyRegs { s.dev.tick t with ps := e.ps } e [PGS_ALLOC_PAGES] := by
  refine ⟨_, exec_chainCompressStart t s c hon hidle hjob hnext hneed, rfl, rfl, ?_⟩
  dsimp only
  rw [if_neg (Nat.not_le.mpr hshort)]
  generalize s.dev.tick t = d
  exact ⟨flag_setFlag_self d PGS_ALLOC_PAGES (by decide) (by decide) true, rfl, (StoreOnly.refl d [PGS_ALLOC_PAGES]).setFlag.modPs.modPs⟩

end

section

variable {r : ChainRun} {x : IngestS} {times : List Nat} (hchain : s.dev.arcChain c = some r) (hingest : s.dev.host.ingest = [x])
  (hslot : x.slot = r.slot) (htimes : ∀ y ∈ times, y ≤ bytesTime (32 * x.page.first.dots) (compressorRate s.dev.paceNow))

include hchain hingest hslot htimes

theorem exec_chainCompressDone (bands : List (List (List BlockChoice))) :
    exec (.chainCompressDone t c bands times) s = .next { s with dev := (s.dev.tick t).chainBands c bands } := by
  have hfind : (s.dev.tick t).host.ingest.find? (fun y => y.slot == r.slot) = some x := by
    rw [show (s.dev.tick t).host.ingest = [x] from hingest]
    exact List.find?_cons_of_pos (beq_iff_eq.mpr hslot)
  refine congrArg (fun d => Host.Outcome.next { s with dev := d }) ?_
  dsimp only
  rw [show (s.dev.tick t).arcChain c = some r from hchain]
  dsimp only
  rw [hfind]
  dsimp only
  rw [slowCompressor_within (s.dev.tick t) (unitCompressor c) (32 * x.page.first.dots) htimes]

end

end

/-- Settles O27: a substream of the only page in ingest, a free compressor with the next chain, and the last RAW band of a chain. -/
theorem bandsAreCheckedAndCompressed : Obligations.BandsAreCheckedAndCompressed := by
  intro t s
  refine ⟨?_, ?_, ?_⟩
  · exact fun st b sub bytes y r hon hingest hlive hfind hnew =>
      ⟨streamCheckDone_passes t s st b sub bytes hon hingest hlive hfind hnew,
        streamCheckDone_fails t s st b sub bytes hon hingest hlive hfind hnew⟩
  · exact fun c x st hon hidle hjob hnext =>
      ⟨chainCompressStart_takes t s c hon hidle hjob hnext rfl, chainCompressStart_waits t s c hon hidle hjob hnext rfl⟩
  · intro c choices times r x b hchain hready hingest hslot _ hraw hread hon hheld htimes z p need more hfits hfree hlt
    refine ⟨_, exec_chainCompressDone t s c hchain hingest hslot htimes [choices], rfl, rfl, ?_⟩
    dsimp only
    rw [chainBands_one (s.dev.tick t) choices hchain hready hingest hslot hraw hread hon hheld]
    exact chainBandDone_last (s.dev.tick t) rfl rfl rfl rfl hingest hraw hfits hfree hlt

end Sys2Proof.Machine

end

section

set_option Elab.async false

namespace Sys2Proof.Machine

/-! # Segments sent or BLANK (R192, R322, R332 to R338) -/

/-- The registers of the panic levels (R192). -/
abbrev panicRegs : List Nat := [RDB_PANIC, RDB_PANIC_CNT]

theorem fifoLevels_only (d : Device) (q : Side) (s : Nat) : OnlyRegs d (d.fifoLevels q s) panicRegs := by
  unfold Device.fifoLevels
  extract_lets p l low was1 was2 p1 p2 d1 d2 d3
  have h1 : OnlyRegs d d1 panicRegs := (OnlyRegs.refl d _).setFld
  have h2 : OnlyRegs d d2 panicRegs := h1.setFld
  have h3 : OnlyRegs d d3 panicRegs := h2.addSat.ite h2
  exact h3.addSat.ite h3

/-- Two devices that agree in what the sending of segments reads: the registers of the Quarters, and parts of the device beside the registers. -/
structure SendSame (d e : Device) : Prop where
  quarter : ∀ a < 0x10000000, e.reg a = d.reg a
  tables : e.tables = d.tables
  synth : e.synth = d.synth
  token : e.token = d.token
  transfer : e.transfer = d.transfer
  north : e.north = d.north
  south : e.south = d.south
  prints : e.bmo.prints = d.bmo.prints

/-- No panic level is read: their registers lie beyond those of the Quarters. -/
theorem sendSame_panics {d e : Device} (h : OnlyRegs d e panicRegs) : SendSame d e where
  quarter a ha := h.reg (by
    simp only [List.mem_cons, List.not_mem_nil, or_false, RDB_PANIC, RDB_PANIC_CNT]
    omega)
  tables := h.keeps (p := Device.tables) fun _ => rfl
  synth := h.keeps (p := Device.synth) fun _ => rfl
  token := h.keeps (p := Device.token) fun _ => rfl
  transfer := h.keeps (p := Device.transfer) fun _ => rfl
  north := h.keeps (p := Device.north) fun _ => rfl
  south := h.keeps (p := Device.south) fun _ => rfl
  prints := h.keeps (p := fun d => d.bmo.prints) fun _ => rfl

theorem sendSame_decodedTo (d : Device) (t : Nat) (q : Side) (s : Nat) (written : List Nat) : SendSame d ((d.tick t).decodedTo q s written) :=
  ⟨fun _ _ => rfl, rfl, rfl, rfl, rfl, rfl, rfl, rfl⟩

theorem SendSame.trans {d e f : Device} (h : SendSame d e) (h' : SendSame e f) : SendSame d f :=
  ⟨fun a ha => (h'.quarter a ha).trans (h.quarter a ha), h'.tables.trans h.tables, h'.synth.trans h.synth, h'.token.trans h.token,
    h'.transfer.trans h.transfer, h'.north.trans h.north, h'.south.trans h.south, h'.prints.trans h.prints⟩

section

variable {d e : Device} (h : SendSame d e) (q : Side) (st : Station)

include h

theorem quarterFld_same {a : Nat} (ha : a < 0x10000000) (f : Fld) : e.fld a f = d.fld a f := fld_congr (h.quarter a ha) f

theorem quarterFlag_same {a : Nat} (ha : a < 0x10000000) (f : Fld) : e.flag a f = d.flag a f := flag_congr (h.quarter a ha) f

theorem mapNow_same : e.mapNow q st = d.mapNow q st := by
  have hb := base_eq q
  unfold Device.mapNow
  rw [h.quarter _ (by unfold BMO_MAP0; omega), h.quarter _ (by unfold BMO_MAP1; omega)]

theorem slotOf_same (n : Nat) : e.slotOf q st n = d.slotOf q st n := by
  unfold Device.slotOf Device.pos
  rw [mapNow_same h q st]

theorem spares_same : e.spares q st = d.spares q st := by
  unfold Device.spares
  rw [mapNow_same h q st]

theorem groups_same : e.groups q st = d.groups q st := by
  unfold Device.groups
  rw [spares_same h q st]

theorem blankRows_same (g mask : Nat) : e.blankRows q st g mask = d.blankRows q st g mask := by
  unfold Device.blankRows
  simp only [slotOf_same h q st]

theorem segment_same (l : LineS) (g k mask : Nat) : e.segment q st l g k mask = d.segment q st l g k mask := by
  have howner : e.owner = d.owner := congrArg (·.getD .north) h.token
  unfold Device.segment
  rw [blankRows_same h q st, spares_same h q st, howner]

theorem readyGroups_same (hline : e.lineS q st = d.lineS q st) (k : Nat) : e.readyGroups q st k = d.readyGroups q st k := by
  unfold Device.readyGroups Device.groupNeeds
  simp only [hline, groups_same h q st, slotOf_same h q st]

theorem sends_same : e.sends q st = d.sends q st := by
  have hb := base_eq q
  have hq : e.q q = d.q q := by
    cases q with
    | north => exact h.north
    | south => exact h.south
  unfold Device.sends Device.portServes Device.enState Device.print Device.waitsFor
  rw [hq, h.prints, h.transfer, quarterFlag_same h (by unfold ENW_CTRL; omega), quarterFlag_same h (by unfold ENW_CTRL; omega),
    quarterFld_same h (by unfold ENW_STATUS; omega)]

theorem fMdll_same : e.fMdll q st = d.fMdll q st := by
  have hb := base_eq q
  unfold Device.fMdll Device.fIn
  rw [quarterFld_same h (by unfold PXS_CTRL; omega), quarterFld_same h (by unfold PXS_STATUS; omega)]

theorem pxOffset_same : e.int (PXS_OFFSET q st) = d.int (PXS_OFFSET q st) := by
  have hb := base_eq q
  unfold Device.int
  rw [h.quarter _ (by unfold PXS_OFFSET; omega)]

theorem trimOf_same {f : Nat} (hf : f < 256) : e.trimOf q st f = d.trimOf q st f := by
  have hb := base_eq q
  unfold Device.trimOf
  rw [quarterFlag_same h (by unfold PXS_CTRL; omega), quarterFlag_same h (by unfold PXS_FACET_CFG; omega),
    quarterFld_same h (by unfold PXS_TRIM0; omega)]

theorem startTime_same {f : Nat} (hf : f < 256) (res1200 : Bool) : e.startTime q st f res1200 = d.startTime q st f res1200 := by
  have hb := base_eq q
  unfold Device.startTime Device.startPeriods Device.fNom
  rw [quarterFld_same h (by unfold PXS_START; omega), trimOf_same h q st hf, pxOffset_same h q st, fMdll_same h q st]

theorem fPx_same (dots : Nat) (res1200 : Bool) (x : Nat) : e.fPx q st dots res1200 x = d.fPx q st dots res1200 x := by
  have hb := base_eq q
  have hentry (i : Nat) : e.entry 0x06 0 i = d.entry 0x06 0 i := by
    unfold Device.entry
    rw [h.tables]
  unfold Device.fPx Device.dev
  rw [pxOffset_same h q st, fMdll_same h q st, quarterFlag_same h (by unfold PXS_CTRL; omega), quarterFld_same h (by unfold PXS_CTRL; omega),
    hentry]

theorem columnTime_same {f : Nat} (hf : f < 256) (dots : Nat) (res1200 : Bool) (x : Nat) :
    e.columnTime q st f dots res1200 x = d.columnTime q st f dots res1200 x := by
  unfold Device.columnTime
  simp only [startTime_same h q st hf, fPx_same h q st]

theorem chunkDeadline_same (k : Nat) : e.chunkDeadline q st k = d.chunkDeadline q st k := by
  have hb := base_eq q
  have hsynth : e.synthS q st = d.synthS q st := by
    unfold Device.synthS
    rw [h.synth]
  have hfacet : d.fld (PXS_STATUS q st) PXS_STATUS_FACET_ID < 256 := Nat.lt_of_lt_of_le (fld_lt d _ _) (by decide)
  unfold Device.chunkDeadline Device.pxWin Device.nat
  dsimp only
  rw [hsynth, quarterFld_same h (by unfold PXS_BD_CFG; omega), h.quarter _ (by unfold PXS_PERIOD; omega),
    quarterFld_same h (by unfold PXS_STATUS; omega), columnTime_same h q st hfacet, quarterFld_same h (by unfold ENW_TX_CFG; omega)]

theorem chunkStart_same (k : Nat) : e.chunkStart q st k = d.chunkStart q st k := by
  have hb := base_eq q
  unfold Device.chunkStart
  rw [chunkDeadline_same h q st, quarterFld_same h (by unfold ENW_TX_CFG; omega)]

theorem inOverlap_same : e.inOverlap = d.inOverlap := by
  unfold Device.inOverlap
  rw [h.north, h.south]

end

/-! Masks of substreams. -/

theorem setNatBit_zero (n : Nat) : setNatBit 0 n false = 0 := by
  unfold setNatBit
  rw [if_neg Bool.false_ne_true, Nat.zero_or, Nat.xor_self]

/-- No substream is blank: no row is (R332). -/
theorem blankRows_zero (d : Device) (q : Side) (s g : Nat) : d.blankRows q s g 0 = 0 := by
  unfold Device.blankRows
  induction List.range 8 with
  | nil => rfl
  | cons r rest ih =>
    rw [List.foldl_cons]
    split
    · rw [setNatBit_zero, ih]
    · next j _ =>
      rw [show natBit 0 (j / 8) = false by rw [natBit_eq, Nat.zero_testBit], setNatBit_zero, ih]

theorem testBit_foldl_setNatBit (f : Nat → Bool) (l : List Nat) (m i : Nat) :
    (l.foldl (fun m n => setNatBit m n (f n)) m).testBit i = if i ∈ l then f i else m.testBit i := by
  induction l generalizing m with
  | nil => simp
  | cons n rest ih =>
    rw [List.foldl_cons, ih, setNatBit_testBit]
    by_cases hi : i ∈ rest
    · rw [if_pos hi, if_pos (List.mem_cons_of_mem n hi)]
    · by_cases hn : i = n
      · subst hn
        rw [if_neg hi, if_pos rfl, if_pos List.mem_cons_self]
      · rw [if_neg hi, if_neg hn, if_neg (by simp [hi, hn])]

/-- A bit of the mask of what a chunk lacks (R322). -/
theorem natBit_missing (l : LineS) (k n : Nat) : natBit (l.missing k) n = (decide (n < 8) && !l.holds n k) := by
  unfold LineS.missing
  rw [natBit_eq, testBit_foldl_setNatBit, Nat.zero_testBit]
  by_cases hn : n < 8
  · rw [if_pos (List.mem_range.mpr hn), decide_eq_true hn, Bool.true_and]
  · rw [if_neg (by simpa using hn), decide_eq_false hn, Bool.false_and]

theorem missing_lt (l : LineS) (k : Nat) : l.missing k < 2 ^ 8 :=
  Nat.lt_pow_two_of_testBit _ fun n hn => by rw [← natBit_eq, natBit_missing, decide_eq_false (Nat.not_lt.mpr hn), Bool.false_and]

/-- The substreams that a list of cuts names. -/
theorem natBit_blank (l : LineS) (n : Nat) : natBit l.blank n = (l.cut.map Prod.fst).contains n := by
  have hfold (c : List (Nat × Nat)) (m : Nat) :
      (c.foldl (fun m (x : Nat × Nat) => setNatBit m x.1 true) m).testBit n = ((c.map Prod.fst).contains n || m.testBit n) := by
    induction c generalizing m with
    | nil => simp
    | cons x rest ih =>
      rw [List.foldl_cons, ih, setNatBit_testBit, List.map_cons, List.contains_cons]
      by_cases hx : n = x.1
      · rw [if_pos hx, beq_iff_eq.mpr hx, Bool.or_true, Bool.true_or, Bool.true_or]
      · rw [if_neg hx, beq_eq_false_iff_ne.mpr hx, Bool.false_or]
  unfold LineS.blank
  rw [natBit_eq, hfold, Nat.zero_testBit, Bool.or_false]

/-- What goes blank stays so, and the substreams of the mask go blank (R322). -/
theorem natBit_blank_cutFrom (l : LineS) (mask k n : Nat) :
    natBit (l.cutFrom mask k).blank n = (natBit l.blank n || (decide (n < 8) && natBit mask n)) := by
  have hfold (ns : List Nat) (c : List (Nat × Nat)) :
      ((ns.foldl (fun (c : List (Nat × Nat)) n => if (c.map Prod.fst).contains n then c else c ++ [(n, k)]) c).map Prod.fst).contains n =
        ((c.map Prod.fst).contains n || ns.contains n) := by
    induction ns generalizing c with
    | nil => simp
    | cons m rest ih =>
      rw [List.foldl_cons, ih, List.contains_cons]
      by_cases hm : (c.map Prod.fst).contains m = true
      · rw [if_pos hm]
        by_cases hn : n = m
        · rw [hn, hm, Bool.true_or, Bool.true_or]
        · rw [beq_eq_false_iff_ne.mpr hn, Bool.false_or]
      · rw [if_neg hm, List.map_append, List.contains_append, Bool.or_assoc, List.map_cons, List.map_nil,
          List.contains_cons, List.contains_nil, Bool.or_false]
  rw [natBit_blank, natBit_blank]
  refine (hfold (maskList 8 mask) l.cut).trans (congrArg _ ?_)
  unfold maskList
  rw [List.contains_eq_mem]
  simp [Bool.decide_and]

/-- Substreams that are blank from the same chunk on do not go blank a second time. -/
theorem blank_cutFrom_again (l : LineS) (mask k j : Nat) : ((l.cutFrom mask k).cutFrom mask j).blank = (l.cutFrom mask k).blank := by
  refine Nat.eq_of_testBit_eq fun n => ?_
  rw [← natBit_eq, ← natBit_eq, natBit_blank_cutFrom _ mask j, natBit_blank_cutFrom l mask k, Bool.or_assoc, Bool.or_self]

/-- The first substreams that a line lacks are those that stay blank (R322). -/
theorem blank_cutFrom_missing (l : LineS) (k j : Nat) (hcut : l.cut = []) : (l.cutFrom (l.missing k) j).blank = l.missing k := by
  refine Nat.eq_of_testBit_eq fun n => ?_
  rw [← natBit_eq, ← natBit_eq, natBit_blank_cutFrom, natBit_blank, hcut, natBit_missing]
  cases decide (n < 8) <;> simp

/-! What the sending of a chunk changes. -/

/-- Beside registers of the list, only what a Quarter's ports and lines hold differs. -/
def SegmentOnly (d e : Device) (l : List Nat) : Prop := OnlyRegs { d with bmo := e.bmo, port := e.port } e l

namespace SegmentOnly

variable {d e f : Device} {l : List Nat}

theorem of_onlyRegs (h : OnlyRegs d e l) : SegmentOnly d e l := by
  obtain ⟨⟨r, hr⟩, hreg⟩ := h
  refine ⟨⟨r, ?_⟩, hreg⟩
  rw [hr]

theorem setReg (h : SegmentOnly d e l) {a : Nat} {v : Word} (ha : a ∈ l := by simp) : SegmentOnly d (e.setReg a v) l := OnlyRegs.setReg h ha

theorem setLine (h : SegmentOnly d e l) {q : Side} {s : Nat} {v : LineS} : SegmentOnly d (e.setLine q s v) l := by
  obtain ⟨⟨r, hr⟩, hreg⟩ := h
  refine ⟨⟨r, ?_⟩, hreg⟩
  unfold Device.setLine Device.modBmo
  rw [hr]

theorem setPort (h : SegmentOnly d e l) {q : Side} {s : Nat} {v : PortS} : SegmentOnly d (e.setPort q s v) l := by
  obtain ⟨⟨r, hr⟩, hreg⟩ := h
  refine ⟨⟨r, ?_⟩, hreg⟩
  unfold Device.setPort Device.withPort
  rw [hr]

theorem trans (h : SegmentOnly d e l) (h' : SegmentOnly e f l) : SegmentOnly d f l := by
  obtain ⟨⟨r, hr⟩, hreg⟩ := h
  obtain ⟨⟨r', hr'⟩, hreg'⟩ := h'
  refine ⟨⟨r', ?_⟩, fun a ha => (hreg' a ha).trans (hreg a ha)⟩
  rw [hr', hr]

theorem mono (h : SegmentOnly d e l) {l' : List Nat} (hl : ∀ a ∈ l, a ∈ l' := by simp) : SegmentOnly d e l' := OnlyRegs.mono h hl

theorem reg (h : SegmentOnly d e l) {a : Nat} (ha : a ∉ l) : e.reg a = d.reg a := h.2 a ha

theorem keeps {β : Type} (h : SegmentOnly d e l) {p : Device → β}
    (hp : ∀ b x r, p { d with bmo := b, port := x, regs := r } = p d) : p e = p d := by
  obtain ⟨⟨r, hr⟩, -⟩ := h
  rw [hr]
  exact hp _ _ r

end SegmentOnly

theorem lineS_setLine (d : Device) (q : Side) (s : Nat) (v : LineS) : (d.setLine q s v).lineS q s = v :=
  sget_put (fun _ => ({} : LineS)) d.bmo.lines (pk q s) v

theorem portS_setLine (d : Device) (q : Side) (s : Nat) (v : LineS) : (d.setLine q s v).portS q s = d.portS q s := rfl

theorem fld_addSat_self (d : Device) (a : Nat) {f : Fld} (h : f.hi < 32) (n : Nat) :
    (d.addSat a f n).fld a f = min (d.fld a f + n) (2 ^ (f.hi + 1 - f.lo) - 1) := by
  have hpos : 0 < 2 ^ (f.hi + 1 - f.lo) := Nat.two_pow_pos _
  unfold Device.addSat
  rw [fld_setFld_self d a h, Nat.mod_eq_of_lt (by omega)]

section

variable (d : Device) (q : Side) (st : Station) (k mask : Nat) (gs : List Nat)

/-- The groups of a list with a blank row (R332). -/
def Device.blankGroups (d : Device) (q : Side) (s mask : Nat) (gs : List Nat) : Nat := (gs.filter fun g => d.blankRows q s g mask != 0).length

/-- The port has sent segments, none where the list of groups is empty. -/
def Device.segmentsOut (d : Device) (q : Side) (s k mask : Nat) (gs : List Nat) : Device :=
  if gs = [] then d else d.sendBlocks q s (gs.flatMap fun g => packet (d.segment q s (d.lineS q s) g k mask))

/-- The port has sent segments and counted them. -/
def Device.segmentsCounted (d : Device) (q : Side) (s k mask : Nat) (gs : List Nat) : Device :=
  (d.segmentsOut q s k mask gs).setNat (ENW_CNT0 q s) (d.nat (ENW_CNT0 q s) + gs.length)

theorem segmentsOut_keeps {β : Type} {p : Device → β} (hp : ∀ x, p { d with port := x } = p d) : p (d.segmentsOut q st k mask gs) = p d := by
  unfold Device.segmentsOut
  split
  · rfl
  · exact hp _

theorem segmentsOut_only : SegmentOnly d (d.segmentsOut q st k mask gs) [ENW_CNT0 q st] := by
  unfold Device.segmentsOut
  split
  · exact .of_onlyRegs (OnlyRegs.refl d _)
  · exact (SegmentOnly.of_onlyRegs (OnlyRegs.refl d _)).setPort

theorem segmentsCounted_only : SegmentOnly d (d.segmentsCounted q st k mask gs) [ENW_CNT0 q st] :=
  (segmentsOut_only d q st k mask gs).setReg

theorem segmentsCounted_port (hgs : gs ≠ []) : (d.segmentsCounted q st k mask gs).portS q st =
    (d.portS q st).send (pk q st) (gs.flatMap fun g => packet (d.segment q st (d.lineS q st) g k mask)) := by
  have hset (e : Device) (a v : Nat) : (e.setNat a v).portS q st = e.portS q st := rfl
  unfold Device.segmentsCounted Device.segmentsOut
  rw [hset, if_neg hgs]
  exact portS_setPort d q st _

variable (hsends : d.sends q st = true)

include hsends

theorem sendSegments_eq : d.sendSegments q st k mask gs =
    if d.blankGroups q st mask gs = 0 then d.segmentsCounted q st k mask gs
    else (d.segmentsCounted q st k mask gs).addSat (ENW_CNT1 q st) ENW_CNT1_BLANK (d.blankGroups q st mask gs) := by
  have hnat : (d.segmentsOut q st k mask gs).nat (ENW_CNT0 q st) = d.nat (ENW_CNT0 q st) :=
    segmentsOut_keeps d q st k mask gs (p := fun d => d.nat (ENW_CNT0 q st)) fun _ => rfl
  unfold Device.segmentsCounted
  rw [← hnat]
  exact if_pos hsends

/-- No row of what is sent is blank. -/
theorem sendSegments_clean (hclean : d.blankGroups q st mask gs = 0) : d.sendSegments q st k mask gs = d.segmentsCounted q st k mask gs :=
  (sendSegments_eq d q st k mask gs hsends).trans (if_pos hclean)

theorem sendSegments_only : SegmentOnly d (d.sendSegments q st k mask gs) [ENW_CNT0 q st, ENW_CNT1 q st] := by
  have h : SegmentOnly d (d.segmentsCounted q st k mask gs) [ENW_CNT0 q st, ENW_CNT1 q st] := (segmentsCounted_only d q st k mask gs).mono
  rw [sendSegments_eq d q st k mask gs hsends]
  split
  · exact h
  · exact h.setReg

theorem sendSegments_lines : (d.sendSegments q st k mask gs).bmo = d.bmo := by
  have h : (d.segmentsCounted q st k mask gs).bmo = d.bmo :=
    (setNat_bmo _ _ _).trans (segmentsOut_keeps d q st k mask gs (p := Device.bmo) fun _ => rfl)
  rw [sendSegments_eq d q st k mask gs hsends]
  split
  · exact h
  · exact (setFld_bmo _ _ _ _).trans h

theorem sendSegments_blank : (d.sendSegments q st k mask gs).fld (ENW_CNT1 q st) ENW_CNT1_BLANK =
    min (d.fld (ENW_CNT1 q st) ENW_CNT1_BLANK + d.blankGroups q st mask gs) 65535 := by
  have hother : ENW_CNT1 q st ∉ [ENW_CNT0 q st] := by
    rw [List.mem_singleton]
    unfold ENW_CNT0 ENW_CNT1
    omega
  have h : (d.segmentsCounted q st k mask gs).fld (ENW_CNT1 q st) ENW_CNT1_BLANK = d.fld (ENW_CNT1 q st) ENW_CNT1_BLANK :=
    fld_congr ((segmentsCounted_only d q st k mask gs).reg hother) _
  have hlt : d.fld (ENW_CNT1 q st) ENW_CNT1_BLANK < 65536 := fld_lt d _ _
  rw [sendSegments_eq d q st k mask gs hsends]
  split
  · next hnone =>
    rw [h, hnone]
    omega
  · rw [← h]
    exact fld_addSat_self _ _ (by decide) _

end

/-! A line that is late (R56, R322). -/

theorem reg_setLine (d : Device) (q : Side) (s : Nat) (v : LineS) (a : Nat) : (d.setLine q s v).reg a = d.reg a := rfl

theorem lineS_count (d : Device) (q : Side) (s a : Nat) (f : Fld) : (d.count a f).lineS q s = d.lineS q s := rfl

theorem lineS_setFlag (d : Device) (q : Side) (s a : Nat) (f : Fld) (b : Bool) : (d.setFlag a f b).lineS q s = d.lineS q s := rfl

theorem checkFresh_congr {d e : Device} {q : Side} {n : Nat} (hq : e.q q = d.q q) (hreg : e.reg (QTR_CHK q n) = d.reg (QTR_CHK q n))
    (h : d.checkFresh q n) : e.checkFresh q n := by
  unfold Device.checkFresh
  rw [hq, fld_congr hreg]
  exact h

section

variable (d : Device) (q : Side) (st : Station)

theorem countBlank_line : (d.countBlank q st).lineS q st = { d.lineS q st with blanked := true } := by
  unfold Device.countBlank
  split
  · next hblanked => rw [← hblanked]
  · exact (lineS_count _ q st _ _).trans (lineS_setLine d q st _)

theorem countBlank_only : SegmentOnly d (d.countBlank q st) [BMO_CNT0 q st] := by
  unfold Device.countBlank
  split
  · exact .of_onlyRegs (OnlyRegs.refl d _)
  · exact (SegmentOnly.of_onlyRegs (OnlyRegs.refl d _)).setLine.setReg

/-- A line counts once (R322). -/
theorem countBlank_counts : (d.countBlank q st).fld (BMO_CNT0 q st) BMO_CNT0_LATE =
    if (d.lineS q st).blanked then d.fld (BMO_CNT0 q st) BMO_CNT0_LATE else min (d.fld (BMO_CNT0 q st) BMO_CNT0_LATE + 1) 65535 := by
  unfold Device.countBlank
  split
  · rfl
  · rw [fld_count_self _ _ (by decide), fld_congr (reg_setLine d q st _ _)]
    rfl

/-- A line that is late already counts no more than once (R322). -/
theorem lateLine_again {mask k : Nat} (hlate : (d.lineS q st).late = true) :
    d.lateLine q st mask k = (d.setLine q st { (d.lineS q st).cutFrom mask k with late := true }).countBlank q st := by
  unfold Device.lateLine
  dsimp only
  rw [if_pos hlate]

/-- A first event of a check that asks for at least two changes only what the Quarter holds (R362). -/
theorem checkEvent_recorded {n : Nat} (hmirror : n ≠ ckMirror) (hfresh : d.checkFresh q n) :
    ∃ w, d.checkEvent q n false = d.setQ q w := by
  obtain ⟨htimes, hneed⟩ := hfresh
  unfold Device.checkEvent
  rw [if_neg (fun h => hmirror h.1)]
  extract_lets ts _ d1 need
  have hneed' : 2 ≤ need := by
    have hsame : d1.fld (QTR_CHK q n) QTR_CHK_N = d.fld (QTR_CHK q n) QTR_CHK_N := by cases q <;> rfl
    unfold need
    rw [hsame]
    omega
  have hout : ts[need - 1]? = none := by
    unfold ts
    rw [htimes]
    exact List.getElem?_eq_none (by simp; omega)
  have hlast : windowLasting need (d1.fld (QTR_CHK q n) QTR_CHK_WINDOW * tuPerUs) ts = false := by
    unfold windowLasting
    rw [hout]
    split
    · next hsome => cases hsome
    · rfl
  rw [hlast]
  exact ⟨_, rfl⟩

/-- A line that has just become late: it is cut, counted and shown (R322). -/
def Device.lateShown (d : Device) (q : Side) (s mask k : Nat) : Device :=
  ((d.setLine q s { (d.lineS q s).cutFrom mask k with late := true }).countBlank q s).setFlag (BMO_STATUS q s) BMO_STATUS_LATE_LINE true

variable (mask k : Nat)

theorem lateShown_only : SegmentOnly d (d.lateShown q st mask k) [BMO_CNT0 q st, BMO_STATUS q st] :=
  (((SegmentOnly.of_onlyRegs (OnlyRegs.refl d [BMO_CNT0 q st, BMO_STATUS q st])).setLine).trans (countBlank_only _ q st).mono).setReg

theorem lateShown_line : (d.lateShown q st mask k).lineS q st = { (d.lineS q st).cutFrom mask k with late := true, blanked := true } := by
  refine (lineS_setFlag _ q st _ _ _).trans ((countBlank_line _ q st).trans ?_)
  rw [lineS_setLine d q st]

theorem lateShown_counts : (d.lateShown q st mask k).fld (BMO_CNT0 q st) BMO_CNT0_LATE =
    if (d.lineS q st).blanked then d.fld (BMO_CNT0 q st) BMO_CNT0_LATE else min (d.fld (BMO_CNT0 q st) BMO_CNT0_LATE + 1) 65535 := by
  have hne : BMO_CNT0 q st ≠ BMO_STATUS q st := by
    unfold BMO_CNT0 BMO_STATUS
    omega
  have hblanked : ({ (d.lineS q st).cutFrom mask k with late := true } : LineS).blanked = (d.lineS q st).blanked := rfl
  unfold Device.lateShown
  rw [fld_congr (reg_setFlag_ne _ _ _ hne), countBlank_counts, lineS_setLine d q st, hblanked, fld_congr (reg_setLine d q st _ _)]

/-- A line that becomes late, of a Quarter that does not count this as a defect of its sheet, whose check has had no event (R322, R361). -/
theorem lateLine_first (hlate : (d.lineS q st).late = false)
    (hdefect : d.owner ≠ q ∨ d.flag (BMO_CTRL q st) BMO_CTRL_LATE_DEFECT = false) (hfresh : d.checkFresh q ckLateSeg) :
    (∀ a, (d.lateLine q st mask k).reg a = (d.lateShown q st mask k).reg a) ∧
      (d.lateLine q st mask k).lineS q st = (d.lateShown q st mask k).lineS q st := by
  have honly := lateShown_only d q st mask k
  have hnot : ¬((d.lateShown q st mask k).owner = q ∧ (d.lateShown q st mask k).flag (BMO_CTRL q st) BMO_CTRL_LATE_DEFECT = true) := by
    have howner : (d.lateShown q st mask k).owner = d.owner := honly.keeps (p := Device.owner) fun _ _ _ => rfl
    rw [howner, flag_congr (honly.reg (by simp [BMO_CTRL, BMO_CNT0, BMO_STATUS]))]
    rintro ⟨hq, hflag⟩
    rcases hdefect with hother | hoff
    · exact hother hq
    · exact Bool.false_ne_true (hoff.symm.trans hflag)
  have hkept : (d.lateShown q st mask k).checkFresh q ckLateSeg := by
    refine checkFresh_congr (honly.keeps (p := fun d => d.q q) fun _ _ _ => rfl) (honly.reg ?_) hfresh
    unfold QTR_CHK BMO_CNT0 BMO_STATUS ckLateSeg
    simp only [List.mem_cons, List.not_mem_nil, or_false]
    omega
  have heq : d.lateLine q st mask k = if (d.lateShown q st mask k).catchingUp q then d.lateShown q st mask k
      else (d.lateShown q st mask k).checkEvent q ckLateSeg false := by
    unfold Device.lateLine
    dsimp only
    rw [if_neg (Bool.eq_false_iff.mp hlate)]
    unfold Device.lateShown at hnot ⊢
    rw [if_neg hnot]
  rw [heq]
  split
  · exact ⟨fun _ => rfl, rfl⟩
  · obtain ⟨w, hw⟩ := checkEvent_recorded _ q (by decide) hkept
    rw [hw]
    exact ⟨fun a => setQ_keeps _ (p := fun d => d.reg a) (fun _ _ => rfl) (fun _ _ => rfl) q w,
      setQ_keeps _ (p := fun d => d.lineS q st) (fun _ _ => rfl) (fun _ _ => rfl) q w⟩

end

/-! The start of a chunk's window, and its deadline. -/

section

variable (d : Device) (q : Side) (st : Station) (k mask group : Nat) (gs : List Nat) (hsends : d.sends q st = true)

include hsends

theorem sentTo_line (j : Nat) : ((d.sendSegments q st k mask gs).sentTo q st j group).lineS q st = { d.lineS q st with chunk := j, group } := by
  have hline : (d.sendSegments q st k mask gs).lineS q st = d.lineS q st :=
    congrArg (fun b : BeamS => sget (fun _ => ({} : LineS)) b.lines (pk q st)) (sendSegments_lines d q st k mask gs hsends)
  unfold Device.sentTo
  rw [lineS_setLine, hline]

theorem sentTo_only (j : Nat) : SegmentOnly d ((d.sendSegments q st k mask gs).sentTo q st j group) [ENW_CNT0 q st, ENW_CNT1 q st] :=
  (sendSegments_only d q st k mask gs hsends).setLine

theorem sentTo_port (hclean : d.blankGroups q st mask gs = 0) (hgs : gs ≠ []) (j : Nat) :
    ((d.sendSegments q st k mask gs).sentTo q st j group).portS q st =
      (d.portS q st).send (pk q st) (gs.flatMap fun g => packet (d.segment q st (d.lineS q st) g k mask)) := by
  rw [sendSegments_clean d q st k mask gs hsends hclean, ← segmentsCounted_port d q st k mask gs hgs]
  exact portS_setLine _ q st _

/-- Where no row is blank, what is sent is counted, and no other register changes (R347). -/
theorem sentTo_clean (hclean : d.blankGroups q st mask gs = 0) (j : Nat) :
    ((d.sendSegments q st k mask gs).sentTo q st j group).nat (ENW_CNT0 q st) = (d.nat (ENW_CNT0 q st) + gs.length) % 2 ^ 32 ∧
      SegmentOnly d ((d.sendSegments q st k mask gs).sentTo q st j group) [ENW_CNT0 q st] := by
  rw [sendSegments_clean d q st k mask gs hsends hclean]
  refine ⟨?_, (segmentsCounted_only d q st k mask gs).setLine⟩
  exact (congrArg BitVec.toNat (reg_setLine _ q st _ _)).trans (nat_setNat_self _ _ _)

end

/-- Where no substream is blank, no group is. -/
theorem blankGroups_zero (d : Device) (q : Side) (s : Nat) (gs : List Nat) : d.blankGroups q s 0 gs = 0 := by
  unfold Device.blankGroups
  simp only [blankRows_zero, bne_self_eq_false, List.filter_false, List.length_nil]

theorem enwCnt0_lt (q : Side) (st : Station) : ENW_CNT0 q st < 0x10000000 := by
  have hb := base_eq q
  unfold ENW_CNT0
  omega

theorem enwCnt1_lt (q : Side) (st : Station) : ENW_CNT1 q st < 0x10000000 := by
  have hb := base_eq q
  unfold ENW_CNT1
  omega

theorem bmoCnt0_lt (q : Side) (st : Station) : BMO_CNT0 q st < 0x10000000 := by
  have hb := base_eq q
  unfold BMO_CNT0
  omega

theorem bmoCtrl_lt (q : Side) (st : Station) : BMO_CTRL q st < 0x10000000 := by
  have hb := base_eq q
  unfold BMO_CTRL
  omega

section

variable (t : Nat) (s : State) (q : Side) (st : Station) (chunk : Nat) (written : List Nat)

/-- The decoders have written so much, and the FIFO levels are seen (R192, R230). -/
def Device.lineSeen (d : Device) (q : Side) (s : Nat) (written : List Nat) : Device := (d.decodedTo q s written).fifoLevels q s

theorem lineSeen_only : OnlyRegs ((s.dev.tick t).decodedTo q st written) ((s.dev.tick t).lineSeen q st written) panicRegs := fifoLevels_only _ q st

theorem lineSeen_same : SendSame s.dev ((s.dev.tick t).lineSeen q st written) :=
  (sendSame_decodedTo s.dev t q st written).trans (sendSame_panics (lineSeen_only t s q st written))

theorem lineSeen_now : ((s.dev.tick t).lineSeen q st written).now = max s.dev.now t :=
  (lineSeen_only t s q st written).keeps (p := Device.now) fun _ => rfl

theorem lineSeen_port : ((s.dev.tick t).lineSeen q st written).portS q st = s.dev.portS q st :=
  (lineSeen_only t s q st written).keeps (p := fun d => d.portS q st) fun _ => rfl

theorem lineSeen_q : ((s.dev.tick t).lineSeen q st written).q q = s.dev.q q :=
  (lineSeen_only t s q st written).keeps (p := fun d => d.q q) fun _ => rfl

theorem decodedTo_line : ((s.dev.tick t).decodedTo q st written).lineS q st = (s.dev.lineS q st).decodeTo written :=
  lineS_setLine (s.dev.tick t) q st _

theorem lineSeen_line : ((s.dev.tick t).lineSeen q st written).lineS q st = (s.dev.lineS q st).decodeTo written := by
  rw [← decodedTo_line t s q st written]
  exact (lineSeen_only t s q st written).keeps (p := fun d => d.lineS q st) fun _ => rfl

theorem segmentSendWindow_idle (hidle : (s.dev.lineS q st).image = false) :
    Completes (.segmentSendWindow t q st chunk written) s fun e => OnlyRegs (s.dev.tick t) e panicRegs := by
  refine ⟨_, rfl, rfl, rfl, ?_⟩
  dsimp only
  rw [show ((s.dev.tick t).lineS q st).image = false from hidle]
  exact fifoLevels_only _ q st

theorem segmentDeadline_idle (hidle : (s.dev.lineS q st).image = false) :
    Completes (.segmentDeadline t q st chunk written) s fun e => e = s.dev.tick t := by
  refine ⟨_, rfl, rfl, rfl, ?_⟩
  dsimp only
  rw [show ((s.dev.tick t).lineS q st).image = false from hidle]
  rfl

/-- The substreams with late data of a chunk: those that lack data or are blank already, but for an uncorrectable error (R177, R322). -/
def LineS.lateMask (l : LineS) (k : Nat) : Nat := (l.missing k ||| l.blank ||| l.dead) &&& (255 - l.ue % 256)

/-- What goes at a chunk's deadline: the rest of the chunk, and during an overlap only what has no blank row (R373). -/
def Device.restOf (d : Device) (q : Side) (s k mask : Nat) : List Nat :=
  let gs := (d.groups q s).drop (if k = (d.lineS q s).chunk then (d.lineS q s).group else 0)
  if d.inOverlap then gs.filter fun g => d.blankRows q s g mask == 0 else gs

theorem restOf_eq {d : Device} {q : Side} {s k mask : Nat} (hk : k = (d.lineS q s).chunk) (h : d.inOverlap = false ∨ mask = 0) :
    d.restOf q s k mask = (d.groups q s).drop (d.lineS q s).group := by
  unfold Device.restOf
  dsimp only
  rw [if_pos hk]
  split
  · next hoverlap =>
    rcases h with hno | rfl
    · exact absurd hoverlap (Bool.eq_false_iff.mp hno)
    · simp only [blankRows_zero, beq_self_eq_true, List.filter_true]
  · rfl

/-- The rest of a chunk has gone. -/
def Device.restSent (d : Device) (q : Side) (s k mask : Nat) : Device :=
  (d.sendSegments q s k mask (d.restOf q s k mask)).sentTo q s (k + 1) 0

/-- The substreams of a mask are blank for the rest of the line (R322). -/
def Device.lineCut (d : Device) (q : Side) (s mask k : Nat) : Device := d.setLine q s ((d.lineS q s).cutFrom mask k)

section

variable (d : Device) (mask : Nat) (hsends : d.sends q st = true)

include hsends

/-- The rest of a chunk has gone, and the line is cut. -/
theorem restCut_line : ((d.restSent q st chunk mask).lineCut q st mask chunk).lineS q st =
    ({ d.lineS q st with chunk := chunk + 1, group := 0 } : LineS).cutFrom mask chunk := by
  unfold Device.lineCut Device.restSent
  rw [lineS_setLine, sentTo_line d q st chunk mask 0 _ hsends]

theorem restCut_only : SegmentOnly d ((d.restSent q st chunk mask).lineCut q st mask chunk) [ENW_CNT0 q st, ENW_CNT1 q st] :=
  (sentTo_only d q st chunk mask 0 _ hsends (chunk + 1)).setLine

theorem restCut_blank {rest : List Nat} (hrest : d.restOf q st chunk mask = rest) :
    ((d.restSent q st chunk mask).lineCut q st mask chunk).fld (ENW_CNT1 q st) ENW_CNT1_BLANK =
      min (d.fld (ENW_CNT1 q st) ENW_CNT1_BLANK + d.blankGroups q st mask rest) 65535 := by
  unfold Device.lineCut Device.restSent Device.sentTo
  rw [fld_congr (reg_setLine _ q st _ _), fld_congr (reg_setLine _ q st _ _), hrest]
  exact sendSegments_blank d q st chunk mask rest hsends

end

variable {l : LineS} {u : Device} (himage : (s.dev.lineS q st).image = true) (hl : (s.dev.lineS q st).decodeTo written = l)
  (hu : (s.dev.tick t).lineSeen q st written = u)

include himage hl hu

theorem exec_segmentSendWindow : exec (.segmentSendWindow t q st chunk written) s = .next { s with dev :=
    (if chunk ≠ l.chunk ∨ l.group ≠ 0 ∨ chunksOf l.dots ≤ chunk ∨ u.now < u.chunkStart q st chunk then u
    else (u.sendSegments q st chunk 0 (u.readyGroups q st chunk)).sentTo q st chunk (u.readyGroups q st chunk).length) } := by
  have hline : u.lineS q st = l := hu ▸ (lineSeen_line t s q st written).trans hl
  refine congrArg (fun d => Host.Outcome.next { s with dev := d }) ?_
  dsimp only
  rw [show ((s.dev.tick t).lineS q st).image = true from himage, if_neg (by decide), ← hline, ← hu]
  rfl

theorem exec_segmentDeadline : exec (.segmentDeadline t q st chunk written) s = .next { s with dev :=
    (if chunksOf l.dots ≤ chunk ∨ chunk < l.chunk ∨ u.now < u.chunkDeadline q st chunk then u
    else
      if l.lateMask chunk ||| l.ue = 0 ∨ u.inOverlap then u.restSent q st chunk (l.lateMask chunk ||| l.ue)
      else if l.lateMask chunk = 0 then
        ((u.restSent q st chunk (l.lateMask chunk ||| l.ue)).lineCut q st (l.lateMask chunk ||| l.ue) chunk).countBlank q st
      else ((u.restSent q st chunk (l.lateMask chunk ||| l.ue)).lineCut q st (l.lateMask chunk ||| l.ue) chunk).lateLine q st
        (l.lateMask chunk) chunk) } := by
  have hline : u.lineS q st = l := hu ▸ (lineSeen_line t s q st written).trans hl
  refine congrArg (fun d => Host.Outcome.next { s with dev := d }) ?_
  dsimp only
  rw [show ((s.dev.tick t).lineS q st).image = true from himage, if_neg (by decide), ← hline, ← hu]
  rfl

theorem segmentSendWindow_beyond (hend : chunksOf l.dots ≤ chunk) :
    Completes (.segmentSendWindow t q st chunk written) s fun e => OnlyRegs ((s.dev.tick t).decodedTo q st written) e panicRegs := by
  refine ⟨_, exec_segmentSendWindow t s q st chunk written himage hl hu, rfl, rfl, ?_⟩
  dsimp only
  rw [if_pos (.inr (.inr (.inl hend))), ← hu]
  exact lineSeen_only t s q st written

theorem segmentDeadline_beyond (hend : chunksOf l.dots ≤ chunk) :
    Completes (.segmentDeadline t q st chunk written) s fun e => OnlyRegs ((s.dev.tick t).decodedTo q st written) e panicRegs := by
  refine ⟨_, exec_segmentDeadline t s q st chunk written himage hl hu, rfl, rfl, ?_⟩
  dsimp only
  rw [if_pos (.inl hend), ← hu]
  exact lineSeen_only t s q st written

variable (hin : chunk < chunksOf l.dots) (hchunk : chunk = l.chunk) (hsends : s.dev.sends q st = true)

include hin hchunk hsends

/-- The groups whose data is there go at the start of the window (R334, R338). -/
theorem segmentSendWindow_sends (hgroup : l.group = 0) (hdue : s.dev.chunkStart q st chunk ≤ max s.dev.now t) {gs : List Nat}
    (hgs : ((s.dev.tick t).decodedTo q st written).readyGroups q st chunk = gs) :
    Completes (.segmentSendWindow t q st chunk written) s fun e =>
      e.nat (ENW_CNT0 q st) = (s.dev.nat (ENW_CNT0 q st) + gs.length) % 2 ^ 32 ∧
      (e.lineS q st).chunk = chunk ∧ (e.lineS q st).group = gs.length ∧
      (gs ≠ [] → e.portS q st = (s.dev.portS q st).send (pk q st) (gs.flatMap fun g => packet (s.dev.segment q st l g chunk 0))) ∧
      ∀ a, a ∉ ENW_CNT0 q st :: panicRegs → e.reg a = s.dev.reg a := by
  have honly := lineSeen_only t s q st written
  have hsame := lineSeen_same t s q st written
  have hline := (lineSeen_line t s q st written).trans hl
  have hnow := lineSeen_now t s q st written
  have hport := lineSeen_port t s q st written
  refine ⟨_, exec_segmentSendWindow t s q st chunk written himage hl hu, rfl, rfl, ?_⟩
  dsimp only
  rw [hu] at honly hsame hline hnow hport
  have hready : u.readyGroups q st chunk = gs :=
    (readyGroups_same (sendSame_panics honly) q st (hline.trans (hl.symm.trans (decodedTo_line t s q st written).symm)) chunk).trans hgs
  have hsends' : u.sends q st = true := (sends_same hsame q st).trans hsends
  rw [if_neg (by
    rw [hnow, chunkStart_same hsame q st]
    omega), hready]
  have hclean := blankGroups_zero u q st gs
  obtain ⟨hcount, hsent⟩ := sentTo_clean u q st chunk 0 gs.length gs hsends' hclean chunk
  have hgone := sentTo_line u q st chunk 0 gs.length gs hsends' chunk
  refine ⟨?_, congrArg LineS.chunk hgone, congrArg LineS.group hgone, fun hne => ?_, fun a ha => ?_⟩
  · rw [hcount]
    exact congrArg (fun w : Word => (w.toNat + gs.length) % 2 ^ 32) (hsame.quarter _ (enwCnt0_lt q st))
  · rw [sentTo_port u q st chunk 0 gs.length gs hsends' hclean hne chunk, hport, hline]
    simp only [segment_same hsame q st]
  · exact (hsent.reg (by simpa using List.ne_of_not_mem_cons ha)).trans (honly.reg (List.not_mem_of_not_mem_cons ha))

variable (hdue : s.dev.chunkDeadline q st chunk ≤ max s.dev.now t) (hdead : l.dead = 0)

include hdue hdead

omit hsends hdead in
theorem exec_segmentDeadline_due : exec (.segmentDeadline t q st chunk written) s = .next { s with dev :=
    (if l.lateMask chunk ||| l.ue = 0 ∨ u.inOverlap then u.restSent q st chunk (l.lateMask chunk ||| l.ue)
    else if l.lateMask chunk = 0 then
      ((u.restSent q st chunk (l.lateMask chunk ||| l.ue)).lineCut q st (l.lateMask chunk ||| l.ue) chunk).countBlank q st
    else ((u.restSent q st chunk (l.lateMask chunk ||| l.ue)).lineCut q st (l.lateMask chunk ||| l.ue) chunk).lateLine q st
      (l.lateMask chunk) chunk) } := by
  have hsame : SendSame s.dev u := hu ▸ lineSeen_same t s q st written
  have hnow : u.now = max s.dev.now t := hu ▸ lineSeen_now t s q st written
  refine (exec_segmentDeadline t s q st chunk written himage hl hu).trans ?_
  rw [if_neg (by
    rw [hnow, chunkDeadline_same hsame q st]
    omega)]

/-- Nothing is missing at the deadline (R338). -/
theorem segmentDeadline_clean (hmissing : l.missing chunk = 0) (hblank : l.blank = 0) (hue : l.ue = 0) {rest : List Nat}
    (hrest : (s.dev.groups q st).drop l.group = rest) :
    Completes (.segmentDeadline t q st chunk written) s fun e =>
      e.nat (ENW_CNT0 q st) = (s.dev.nat (ENW_CNT0 q st) + rest.length) % 2 ^ 32 ∧
      (e.lineS q st).chunk = chunk + 1 ∧ (e.lineS q st).group = 0 ∧ (e.lineS q st).late = l.late ∧
      ∀ a, a ∉ ENW_CNT0 q st :: panicRegs → e.reg a = s.dev.reg a := by
  have honly : OnlyRegs _ u panicRegs := hu ▸ lineSeen_only t s q st written
  have hsame : SendSame s.dev u := hu ▸ lineSeen_same t s q st written
  have hline : u.lineS q st = l := hu ▸ (lineSeen_line t s q st written).trans hl
  have hsends' : u.sends q st = true := (sends_same hsame q st).trans hsends
  have hmask : l.lateMask chunk ||| l.ue = 0 := by
    unfold LineS.lateMask
    rw [hmissing, hblank, hdead, hue]
    rfl
  have hgone : u.restOf q st chunk 0 = rest := by
    rw [restOf_eq (hchunk.trans (congrArg LineS.chunk hline).symm) (.inr rfl), groups_same hsame q st, hline, hrest]
  refine ⟨_, exec_segmentDeadline_due t s q st chunk written himage hl hu hin hchunk hdue, rfl, rfl, ?_⟩
  dsimp only
  rw [hmask, if_pos (.inl rfl)]
  unfold Device.restSent
  rw [hgone]
  obtain ⟨hcount, hsent⟩ := sentTo_clean u q st chunk 0 0 rest hsends' (blankGroups_zero u q st rest) (chunk + 1)
  have hnext := sentTo_line u q st chunk 0 0 rest hsends' (chunk + 1)
  rw [hline] at hnext
  refine ⟨?_, congrArg LineS.chunk hnext, congrArg LineS.group hnext, by rw [hnext], fun a ha => ?_⟩
  · rw [hcount]
    exact congrArg (fun w : Word => (w.toNat + rest.length) % 2 ^ 32) (hsame.quarter _ (enwCnt0_lt q st))
  · exact (hsent.reg (by simpa using List.ne_of_not_mem_cons ha)).trans (honly.reg (List.not_mem_of_not_mem_cons ha))

/-- Only substreams with an uncorrectable error are blank at the deadline (R177). -/
theorem segmentDeadline_ue (hlate : l.missing chunk &&& (255 - l.ue % 256) = 0) (hcut : l.cut = []) (hue : l.ue ≠ 0)
    (hoverlap : s.dev.inOverlap = false) :
    Completes (.segmentDeadline t q st chunk written) s fun e => (e.lineS q st).blanked = true ∧ (e.lineS q st).late = l.late ∧
      e.fld (BMO_CNT0 q st) BMO_CNT0_LATE = (if l.blanked then s.dev.fld (BMO_CNT0 q st) BMO_CNT0_LATE
        else min (s.dev.fld (BMO_CNT0 q st) BMO_CNT0_LATE + 1) 65535) ∧
      ∀ a, a ∉ [RDB_PANIC, RDB_PANIC_CNT, ENW_CNT0 q st, ENW_CNT1 q st, BMO_CNT0 q st] → e.reg a = s.dev.reg a := by
  have honly : OnlyRegs _ u panicRegs := hu ▸ lineSeen_only t s q st written
  have hsame : SendSame s.dev u := hu ▸ lineSeen_same t s q st written
  have hline : u.lineS q st = l := hu ▸ (lineSeen_line t s q st written).trans hl
  have hsends' : u.sends q st = true := (sends_same hsame q st).trans hsends
  have hmask : l.lateMask chunk = 0 := by
    unfold LineS.lateMask LineS.blank
    rw [hcut, hdead, List.foldl_nil, Nat.or_zero, Nat.or_zero, hlate]
  have hblank : ¬(l.ue = 0 ∨ u.inOverlap = true) := by
    rw [inOverlap_same hsame, hoverlap]
    simp [hue]
  refine ⟨_, exec_segmentDeadline_due t s q st chunk written himage hl hu hin hchunk hdue, rfl, rfl, ?_⟩
  dsimp only
  rw [hmask, Nat.zero_or, if_neg hblank, if_pos rfl]
  have hcutLine := restCut_line q st chunk u l.ue hsends'
  have hcutOnly := restCut_only q st chunk u l.ue hsends'
  rw [hline] at hcutLine
  generalize (u.restSent q st chunk l.ue).lineCut q st l.ue chunk = y at hcutLine hcutOnly ⊢
  have hcounts := countBlank_counts y q st
  have hcount : y.fld (BMO_CNT0 q st) BMO_CNT0_LATE = s.dev.fld (BMO_CNT0 q st) BMO_CNT0_LATE :=
    (fld_congr (hcutOnly.reg (by simp [BMO_CNT0, ENW_CNT0, ENW_CNT1])) _).trans
      (quarterFld_same hsame (bmoCnt0_lt q st) _)
  rw [hcount, hcutLine] at hcounts
  rw [countBlank_line y q st, hcutLine]
  refine ⟨rfl, rfl, hcounts, fun a ha => ?_⟩
  simp only [List.mem_cons, List.not_mem_nil, or_false, not_or] at ha
  obtain ⟨hpanic, hpanicCnt, hcnt0, hcnt1, hbmo⟩ := ha
  calc (y.countBlank q st).reg a
    _ = y.reg a := (countBlank_only y q st).reg (by simpa using hbmo)
    _ = u.reg a := hcutOnly.reg (by simp [hcnt0, hcnt1])
    _ = s.dev.reg a := honly.reg (by simp [hpanic, hpanicCnt])

/-- Substreams that are missing at the deadline go BLANK and make the line late (R322, R338). -/
theorem segmentDeadline_late (hmissing : l.missing chunk ≠ 0) (hcut : l.cut = []) (hue : l.ue = 0) (hoverlap : s.dev.inOverlap = false)
    (hlate : l.late = false) (hdefect : s.dev.owner ≠ q ∨ s.dev.flag (BMO_CTRL q st) BMO_CTRL_LATE_DEFECT = false)
    (hfresh : s.dev.checkFresh q ckLateSeg) {rest : List Nat} (hrest : (s.dev.groups q st).drop l.group = rest) :
    Completes (.segmentDeadline t q st chunk written) s fun e =>
      e.fld (ENW_CNT1 q st) ENW_CNT1_BLANK = min (s.dev.fld (ENW_CNT1 q st) ENW_CNT1_BLANK +
        (rest.filter fun g => s.dev.blankRows q st g (l.missing chunk) != 0).length) 65535 ∧
      e.flag (BMO_STATUS q st) BMO_STATUS_LATE_LINE = true ∧ (e.lineS q st).late = true ∧
      (e.lineS q st).blank = l.missing chunk ∧ e.fld (BMO_CNT0 q st) BMO_CNT0_LATE =
        (if l.blanked then s.dev.fld (BMO_CNT0 q st) BMO_CNT0_LATE
          else min (s.dev.fld (BMO_CNT0 q st) BMO_CNT0_LATE + 1) 65535) := by
  have hsame : SendSame s.dev u := hu ▸ lineSeen_same t s q st written
  have hq : u.q q = s.dev.q q := hu ▸ lineSeen_q t s q st written
  have hline : u.lineS q st = l := hu ▸ (lineSeen_line t s q st written).trans hl
  have hsends' : u.sends q st = true := (sends_same hsame q st).trans hsends
  have hmask : l.lateMask chunk = l.missing chunk := by
    unfold LineS.lateMask LineS.blank
    rw [hcut, hdead, hue, List.foldl_nil, Nat.or_zero, Nat.or_zero]
    exact Nat.and_two_pow_sub_one_of_lt_two_pow (missing_lt l chunk)
  have hover : u.inOverlap = false := (inOverlap_same hsame).trans hoverlap
  have hblank : ¬(l.missing chunk = 0 ∨ u.inOverlap = true) := by
    rw [hover]
    simp [hmissing]
  have hgone : u.restOf q st chunk (l.missing chunk) = rest := by
    rw [restOf_eq (hchunk.trans (congrArg LineS.chunk hline).symm) (.inl hover), groups_same hsame q st, hline, hrest]
  refine ⟨_, exec_segmentDeadline_due t s q st chunk written himage hl hu hin hchunk hdue, rfl, rfl, ?_⟩
  dsimp only
  rw [hmask, hue, Nat.or_zero, if_neg hblank, if_neg hmissing]
  have hcutLine := restCut_line q st chunk u (l.missing chunk) hsends'
  have hcutOnly := restCut_only q st chunk u (l.missing chunk) hsends'
  have hcutBlank := restCut_blank q st chunk u (l.missing chunk) hsends' hgone
  rw [hline] at hcutLine
  generalize (u.restSent q st chunk (l.missing chunk)).lineCut q st (l.missing chunk) chunk = y at hcutLine hcutOnly hcutBlank ⊢
  have hlate' : (y.lineS q st).late = false := by
    rw [hcutLine]
    exact hlate
  have howner : y.owner = s.dev.owner :=
    (hcutOnly.keeps (p := Device.owner) fun _ _ _ => rfl).trans (congrArg (·.getD .north) hsame.token)
  have hctrl : y.flag (BMO_CTRL q st) BMO_CTRL_LATE_DEFECT = s.dev.flag (BMO_CTRL q st) BMO_CTRL_LATE_DEFECT :=
    (flag_congr (hcutOnly.reg (by simp [BMO_CTRL, ENW_CNT0, ENW_CNT1])) _).trans (quarterFlag_same hsame (bmoCtrl_lt q st) _)
  have hfresh' : y.checkFresh q ckLateSeg := by
    refine checkFresh_congr ((hcutOnly.keeps (p := fun d => d.q q) fun _ _ _ => rfl).trans hq) ?_ hfresh
    refine (hcutOnly.reg ?_).trans (hsame.quarter _ (by cases q <;> decide))
    unfold QTR_CHK ENW_CNT0 ENW_CNT1 ckLateSeg
    simp only [List.mem_cons, List.not_mem_nil, or_false]
    omega
  obtain ⟨hregs, hlines⟩ := lateLine_first y q st (l.missing chunk) chunk hlate' (by rwa [howner, hctrl]) hfresh'
  have hshown := lateShown_only y q st (l.missing chunk) chunk
  have hcounts := lateShown_counts y q st (l.missing chunk) chunk
  have hcount : y.fld (BMO_CNT0 q st) BMO_CNT0_LATE = s.dev.fld (BMO_CNT0 q st) BMO_CNT0_LATE :=
    (fld_congr (hcutOnly.reg (by simp [BMO_CNT0, ENW_CNT0, ENW_CNT1])) _).trans (quarterFld_same hsame (bmoCnt0_lt q st) _)
  rw [hcount, hcutLine] at hcounts
  rw [hlines, lateShown_line y q st, hcutLine]
  refine ⟨?_, ?_, rfl, ?_, (fld_congr (hregs _) _).trans hcounts⟩
  · rw [fld_congr (hregs _), fld_congr (hshown.reg (by simp [ENW_CNT1, BMO_CNT0, BMO_STATUS])), hcutBlank,
      quarterFld_same hsame (enwCnt1_lt q st)]
    unfold Device.blankGroups
    simp only [blankRows_same hsame q st]
  · rw [flag_congr (hregs _)]
    exact flag_setFlag_self _ _ (by decide) (by decide) true
  · exact (blank_cutFrom_again _ (l.missing chunk) chunk chunk).trans
      (blank_cutFrom_missing { l with chunk := chunk + 1, group := 0 } chunk chunk hcut)

end

/-! A stream error at print time (R233). -/

section

variable (d : Device) {st : Station}

/-- A Kerb trigger ends what the stations print, or leaves it (R601). -/
theorem kerbTrigger_print (h : d.print st = none) (b o x : Nat) : (d.kerbTrigger b o x).print st = none := by
  have hbase (e : Device) (he : e.print st = none) (o x y : Nat) : (e.ledgerBase b o x y).print st = none :=
    (congrArg (fun v : BeamS => sget (fun _ => none) v.prints st) (ledgerBase_bmo e b o x y)).trans he
  unfold Device.kerbTrigger
  extract_lets d1
  have h1 : d1.print st = none := h
  split
  · exact h1
  · exact h1
  · exact hbase d1 h1 o x 0
  · exact hbase d1 h1 o x 0
  · rfl

theorem ledgerEvent_print (h : d.print st = none) (b o x y : Nat) : (d.ledgerEvent b o x y).print st = none := by
  have hbase : (d.ledgerBase b o x y).print st = none :=
    (congrArg (fun v : BeamS => sget (fun _ => none) v.prints st) (ledgerBase_bmo d b o x y)).trans h
  unfold Device.ledgerEvent
  dsimp only
  split
  · exact kerbTrigger_print _ hbase ktLedger o b
  · exact hbase

/-- An event whose ACTION raises no Kerb trigger (R595). -/
theorem ledgerEvent_quiet {b : Nat} (h : d.ledgerAction b ≠ 2) (o x y : Nat) : d.ledgerEvent b o x y = d.ledgerBase b o x y := by
  have haction : (d.ledgerBase b o x y).ledgerAction b = d.ledgerAction b := by
    unfold Device.ledgerAction Device.entry
    rw [ledgerBase_tables]
  have hquiet : (d.ledgerBase b o x y).ledgerKerb b = false := by
    unfold Device.ledgerKerb
    rw [haction, beq_eq_false_iff_ne.mpr h, Bool.and_false]
  unfold Device.ledgerEvent
  dsimp only
  rw [hquiet]
  rfl

end

section

variable (t : Nat) (s : State) (q : Side) (st : Station) (sub : Fin 8)

theorem decodeStreamError_counts (hprint : s.dev.print st = none) :
    Completes (.decodeStreamError t q st sub) s fun e => e.fld (LDG_CNT lbDecodeErr) LDG_CNT_EVENTS =
      min (s.dev.fld (LDG_CNT lbDecodeErr) LDG_CNT_EVENTS + 1) 65535 := by
  refine ⟨_, rfl, rfl, rfl, ?_⟩
  dsimp only
  rw [ledgerEvent_print (s.dev.tick t) hprint]
  exact ledgerEvent_events (s.dev.tick t) (by decide) (by decide) (by decide) q.code (8 * st.val + sub.val) 0

theorem decodeStreamError_blanks (hprint : (s.dev.print st).isSome = true) (haction : s.dev.ledgerAction lbDecodeErr ≠ 2)
    (hlate : (s.dev.lineS q st).late = true) :
    Completes (.decodeStreamError t q st sub) s fun e => natBit (e.lineS q st).dead sub = true ∧ natBit (e.lineS q st).blank sub = true := by
  refine ⟨_, rfl, rfl, rfl, ?_⟩
  dsimp only
  rw [ledgerEvent_quiet (s.dev.tick t) haction]
  have hbmo : ((s.dev.tick t).ledgerBase lbDecodeErr q.code (8 * st.val + sub.val) 0).bmo = s.dev.bmo := ledgerBase_bmo _ _ _ _ _
  generalize (s.dev.tick t).ledgerBase lbDecodeErr q.code (8 * st.val + sub.val) 0 = u at hbmo ⊢
  have hprint' : (u.print st).isSome = true := by
    unfold Device.print
    rw [hbmo]
    exact hprint
  rw [if_pos hprint', lateLine_again _ q st (by rw [lineS_setLine]; exact hlate), countBlank_line, lineS_setLine, lineS_setLine]
  refine ⟨natBit_setNatBit_self _ true sub, ?_⟩
  refine (natBit_blank_cutFrom _ (2 ^ sub.val) _ sub).trans ?_
  rw [decide_eq_true sub.isLt, natBit_eq (2 ^ sub.val), Nat.testBit_two_pow_self, Bool.and_self, Bool.or_true]

end

/-- Settles O34: the start of a window and a deadline by what the line lacks, and a stream error by what the station prints. -/
theorem segmentsAreSentOrBlank : Obligations.SegmentsAreSentOrBlank := by
  intro t s q st
  refine ⟨fun chunk written => ?_, fun sub => ?_⟩
  · intro l d rest panics
    refine ⟨fun hidle => ?_, fun himage hend => ?_, fun himage hin hchunk hsends => ⟨fun hgroup hdue => ?_, fun hdue hdead => ⟨?_, ?_, ?_⟩⟩⟩
    · exact ⟨segmentSendWindow_idle t s q st chunk written hidle, segmentDeadline_idle t s q st chunk written hidle⟩
    · exact ⟨segmentSendWindow_beyond t s q st chunk written himage rfl rfl hend,
        segmentDeadline_beyond t s q st chunk written himage rfl rfl hend⟩
    · exact segmentSendWindow_sends t s q st chunk written himage rfl rfl hin hchunk hsends hgroup hdue rfl
    · exact fun hmissing hblank hue =>
        segmentDeadline_clean t s q st chunk written himage rfl rfl hin hchunk hsends hdue hdead hmissing hblank hue rfl
    · exact fun hmissing hcut hue hoverlap hlate hdefect hfresh =>
        segmentDeadline_late t s q st chunk written himage rfl rfl hin hchunk hsends hdue hdead hmissing hcut hue hoverlap hlate hdefect hfresh rfl
    · exact fun hlate hcut hue hoverlap =>
        segmentDeadline_ue t s q st chunk written himage rfl rfl hin hchunk hsends hdue hdead hlate hcut hue hoverlap
  · exact ⟨decodeStreamError_counts t s q st sub, decodeStreamError_blanks t s q st sub⟩

end Sys2Proof.Machine

end
